-- ==== Sys2Proof/Word.lean ====
section
/-! DEFINITION. Sys2Proof/Word.lean: the words the block's ports and structures carry, and the index types of its
repeated units. Nothing here computes: bit fields and byte order are in Machine/Bits.lean. -/

namespace Sys2Proof

/-- One byte of a structure or of memory (R5). -/
abbrev Byte := BitVec 8
/-- A register or a register-wide field (R7). -/
abbrev W64 := BitVec 64
/-- A 32-bit field: a sequence number, an FP32 value, a counter. -/
abbrev W32 := BitVec 32
/-- A packet, a structure or a row: bytes in ascending address order (R5). -/
abbrev Bytes := List (BitVec 8)

/-- A region number (R15). -/
abbrev RegionId := Fin 8
/-- A context number (R296). -/
abbrev CtxId := Fin 16
/-- A command ring of a context (R321). -/
abbrev RingId := Fin 4
/-- A link port and its inlet (R16). -/
abbrev PortId := Fin 4
/-- A memory port (R454). -/
abbrev MemPortId := Fin 8
/-- A die-to-die edge (R16). -/
abbrev EdgeId := Fin 4
/-- A cell group of a region (R42). -/
abbrev CellGroupId := Fin 4
/-- A cluster of a region (R16). -/
abbrev ClusterId := Fin 16
/-- A physical cell of a cluster: 0 to 31 as built, 32 and 33 spares (R425). -/
abbrev CellId := Fin 34
/-- A confluence group slot (R202). -/
abbrev GroupId := Fin 64
/-- A unit that a slot can name, in the order of WAIT_UNITS (R51): 0 scoring, 1 to 4 cell groups, 5 network,
6 to 9 link ports, 10 basin manager, 11 confluence, 12 control. -/
abbrev UnitId := Fin 13
/-- A member ID (R390). -/
abbrev MemberId := BitVec 10

end Sys2Proof
end

