-- ==== Sys2Proof/Syntax.lean ====
section
/-! DEFINITION. Sys2Proof/Syntax.lean: the commands of the block and their operands. A ring command names the ring whose
head it acts on; a plate operation names the running plate set and the region, and takes its fields from the bundle that
is next to issue there; an event names the unit it happens at and carries what the outside puts on the pins (log 8). -/

namespace Sys2Proof

/-- A crossing into the timeline, whose stop bath releases data (R57). -/
inductive Crossing where
  /-- Items of an edge transfer from a region (R132). -/
  | edge (src : RegionId)
  /-- Memory read returns. -/
  | memory
  /-- Rows of expert-output tiles (R151). -/
  | tile
  /-- External-score blocks (R88). -/
  | ext
  /-- The start of a plate at its epoch cycle (R58). -/
  | start
  deriving DecidableEq, Repr

/-- Why a save or a load of a context fails (R317). -/
inductive TransferFault where
  /-- An address of the save area fails the window table. -/
  | translation
  /-- Uncorrectable ECC, or the save image's CRC. -/
  | data
  deriving DecidableEq, Repr

/-- Why a lane is retrained (R385). -/
inductive RetrainCause where
  /-- MARGIN fell below MARGIN_MIN. -/
  | margin
  /-- Eight uncorrectable codewords in a row. -/
  | lockLoss
  /-- More than 64 uncorrectable codewords in 1 ms. -/
  | errorBurst
  deriving DecidableEq, Repr

/-- A fault of a dispatch cell: those of the CELL page's error bits 0 to 3, in their order (R433), and a single-bit error of a cell's
buffers, which its cluster corrects (R21). -/
inductive CellFaultKind where
  | regParity | queueParity | bufUncorr | ucodeStore | bufCorrected
  deriving DecidableEq, Repr

/-- What a cluster detects itself (R21): errors of its slice, an uncorrectable one with the byte it lies at, and parity of its network. -/
inductive SliceFault where
  | uncorrectable (offset : BitVec 22)
  | corrected
  | network
  deriving DecidableEq, Repr

/-- What a region's own units detect (R414, R433). -/
inductive RegionFault where
  /-- The region network. -/
  | network
  /-- The management core. -/
  | mgmt
  /-- A holding tank of COMBINE. -/
  | tank
  /-- A print buffer of REPRINT. -/
  | prints
  /-- An allocation bitmap of BASIN. -/
  | bitmap
  /-- A landing table of DISPATCH. -/
  | landingTable
  /-- A memory port. -/
  | memPort (m : Fin 8)
  /-- A bank of an inlet. -/
  | inletBank (p : PortId)
  /-- A single-bit error corrected by the unit of a page of the region's window. -/
  | corrected (page : BitVec 12)
  deriving DecidableEq, Repr

/-- An uncorrectable or parity error of the scoring array (R92): the physical column, and whether it lies in the context's staging share
(R317). -/
structure ArrayBad where
  column : BitVec 9
  staging : Bool
  deriving DecidableEq, Repr

/-- A frame as the receiver's lanes deliver it (R365), with what the decoder counted while it arrived. -/
structure FrameIn where
  /-- The control word made of the K bits. -/
  control : BitVec 480
  /-- The data bytes; bytes past the end of the list are 0. -/
  data : Bytes
  /-- Codewords with corrected symbols. -/
  corrected : BitVec 16
  /-- Uncorrectable codewords. -/
  uncorrectable : BitVec 16
  /-- The frame was not decoded by its release cycle (R375). -/
  late : Bool
  deriving DecidableEq, Repr

/-- Parity seen on a tile's beats (R456): of the tag, and the units whose parity bit was bad. -/
structure TilePar where
  tagBad : Bool
  badUnits : List Nat
  deriving DecidableEq, Repr

/-- What a link training step found (R380, R382). -/
structure LinkTrainResult where
  /-- Lanes with signal, in ALIGN the lanes that lock, in VERIFY the lanes that pass. -/
  lanes : BitVec 4
  /-- A valid TRAINING frame was seen. -/
  boreno : Bool
  /-- The saved settings failed the step. -/
  savedBad : Bool
  /-- LANE_EQ as the step leaves it, lanes 0 to 3 (R395). -/
  eq : List W64
  /-- The largest round trip measured by PROBE in step 5, in link-island cycles (R372). -/
  pad : BitVec 9
  deriving DecidableEq, Repr

/-- What an edge training step found (R381). -/
structure EdgeTrainResult where
  /-- Per module 0 x64, 1 x32, 2 down (R396). -/
  mod0 : BitVec 2
  mod1 : BitVec 2
  /-- Lanes repaired, both modules. -/
  repaired : Byte
  /-- The region number received from the far end. -/
  peer : RegionId
  /-- The largest latency measured for the crossing, in tc (R402). -/
  latency : BitVec 16
  deriving DecidableEq, Repr

/-- One request of the control port (R451); par is CP_REQ_PAR. -/
structure CpRequest where
  addr : BitVec 40
  be : Byte
  wdata : W64
  id : BitVec 6
  par : Bool
  deriving DecidableEq, Repr

/-- What one cell's microcode load came to: chunks re-sent to it and chunks still missing after the third round (R406). -/
structure UcodeResult where
  cluster : ClusterId
  cell : CellId
  resent : BitVec 16
  missing : BitVec 9
  deriving DecidableEq, Repr

/-- What the self-test of one region found (R90, R91, R403, R406). -/
structure RegionTest where
  /-- Clusters whose slice is beyond repair. -/
  badSlices : BitVec 16
  /-- Staging is beyond repair. -/
  badStaging : Bool
  /-- Slice and staging rows repaired. -/
  repairs : Byte
  /-- Failed columns of the scoring array, 0 to 257. -/
  badColumns : List (BitVec 9)
  /-- Failed cells. -/
  badCells : List (ClusterId × CellId)
  /-- Microcode results of the cells that missed a chunk. -/
  ucode : List UcodeResult
  /-- The largest memory latency measured, in tc (R402). -/
  latMem : BitVec 16
  deriving DecidableEq, Repr

/-- What a bring-up step came to over the engine (R403). -/
structure BringupResult where
  /-- Bit r: region r passes the step. -/
  pass : Byte
  /-- Self-test results, region 0 first. -/
  tests : List RegionTest
  /-- Milliseconds since the step began. -/
  elapsedMs : BitVec 16
  /-- The write of the saved-settings record got an error response (R402). -/
  writeFail : Bool
  deriving DecidableEq, Repr

/-- The commands of the block: one constructor per row of the opcode table, with the operands the row needs. -/
inductive Instr where
  /-- NOP (R348). Command with no operands that only signals or resets its event and completes at validation. -/
  | nop (c : CtxId) (q : RingId)
  /-- CONTEXT_OPEN (R334). Supervisor command that opens a context from a context record and places or swaps its share. -/
  | contextOpen (c : CtxId) (q : RingId)
  /-- CONTEXT_CLOSE (R335). Supervisor command that releases an idle context's slots, plates and shares and marks it CLOSED. -/
  | contextClose (c : CtxId) (q : RingId)
  /-- CONTEXT_KILL (R335). Supervisor command that runs the fault teardown of a context. -/
  | contextKill (c : CtxId) (q : RingId)
  /-- SHARE_SET (R298). Supervisor command that changes a context's attributes, taking effect when the context is next idle. -/
  | shareSet (c : CtxId) (q : RingId)
  /-- PRIVILEGE_SET (R336). Supervisor command that replaces a context's FUSED privilege bit. -/
  | privilegeSet (c : CtxId) (q : RingId)
  /-- WINDOW_WRITE (R262). Supervisor command that writes window-table entries of a context. -/
  | windowWrite (c : CtxId) (q : RingId)
  /-- GROUP_DEFINE (R203). Supervisor command that reads a group record and defines or replaces a confluence group slot. -/
  | groupDefine (c : CtxId) (q : RingId)
  /-- GROUP_DELETE (R202). Supervisor command that removes a confluence group. -/
  | groupDelete (c : CtxId) (q : RingId)
  /-- PLATE_LOAD (R41). Command that validates plate images, installs them in a set slot and records the set's WCET. -/
  | plateLoad (c : CtxId) (q : RingId)
  /-- PLATE_DROP (R341). Command that frees a plate set slot. -/
  | plateDrop (c : CtxId) (q : RingId)
  /-- ROUTER_WRITE (R337). All-or-nothing command that writes router entries and bumps the router-table generation. -/
  | routerWrite (c : CtxId) (q : RingId)
  /-- CONTEXT_PARAM (R338). Command that replaces a threshold schedule or the noise seed of the context. -/
  | contextParam (c : CtxId) (q : RingId)
  /-- SEQ_JOIN (R339). Command that takes a sequence slot and allocates its print planes at its step boundary. -/
  | seqJoin (c : CtxId) (q : RingId)
  /-- SEQ_LEAVE (R339). Command that returns a sequence slot and its print planes at its step boundary. -/
  | seqLeave (c : CtxId) (q : RingId)
  /-- SEQ_UPDATE (R339). Command that replaces MAX_AGE, SCHEDULE and LAYER_SKIP of a slot at its step boundary. -/
  | seqUpdate (c : CtxId) (q : RingId)
  /-- BURN_READ (R198). Command that writes a balance image of one router's loop state to memory. -/
  | burnRead (c : CtxId) (q : RingId)
  /-- BURN_WRITE (R198). Command that replaces a router's burn table, LOAD and WINDOW from a balance image. -/
  | burnWrite (c : CtxId) (q : RingId)
  /-- LAYER_RUN (R344). Command that validates and latches a routed-layer run of a plate set with a tensor list and counts. -/
  | layerRun (c : CtxId) (q : RingId)
  /-- COMBINE_RUN (R345). Command that runs a separate combine plate set on expert outputs in memory. -/
  | combineRun (c : CtxId) (q : RingId)
  /-- CONFLUENCE (R346). Command that runs one sum-over-all-members call on a group. -/
  | confluence (c : CtxId) (q : RingId)
  /-- TENSOR_COPY (R347). Command that copies or permutes one tensor into another through a region's memory ports. -/
  | tensorCopy (c : CtxId) (q : RingId)
  /-- DOORBELL (R322). Write of CMD_PTR.TAIL that makes the leader read new ring entries, or raises RING_ERROR. -/
  | doorbell (c : CtxId) (q : RingId) (tail : W32)
  /-- CMD_RING_WRITE (R349). Write of a command-ring register that sets BASE, SIZE_LOG2 and ENABLE, ignored while enabled. -/
  | cmdRingWrite (c : CtxId) (q : RingId) (w : W64)
  /-- CPL_RING_ENABLE (R350). Write of CPL_RING.ENABLE that holds or releases completions of the context. -/
  | cplRingEnable (c : CtxId) (w : W64)
  /-- CPL_PTR_TAIL (R349). Write of CPL_PTR.TAIL that frees completion-ring slots, applied before same-cycle completion writes. -/
  | cplPtrTail (c : CtxId) (tail : W32)
  /-- CONTACT_TAIL (R251). Write of CONTACT_TAIL that frees contact-sheet slots, applied before a same-cycle entry write. -/
  | contactTail (c : CtxId) (tail : W32)
  /-- ISSUE_POINT (R306). The leader applies the issue rule to ready ring heads whose claims are free and issues the best. -/
  | issuePoint
  /-- EPOCH_START (R58). At the epoch cycle every region starts its plate, loading count registers and charging regulators and credit. -/
  | epochStart (run : W32)
  /-- OPERATION_END (R46). A plate operation ends, freeing its unit and setting its count registers ready. -/
  | operationEnd (run : W32) (r : RegionId) (u : UnitId)
  /-- SET_CNT (R51). Control operation that writes an immediate to lane 0 of a count register. -/
  | setCnt (run : W32) (r : RegionId)
  /-- LOOP (R51). Control operation that repeats the next BODY bundles n times. -/
  | loop (run : W32) (r : RegionId)
  /-- WAIT_UNITS (R51). Control operation that waits until every named unit is free. -/
  | waitUnits (run : W32) (r : RegionId)
  /-- SIGNAL (R352). Control operation that asserts an owned signal interrupt source or counts SIGNAL_DROP. -/
  | signal (run : W32) (r : RegionId)
  /-- READ_TIME (R51). Open control operation that writes the time counter to a count register. -/
  | readTime (run : W32) (r : RegionId)
  /-- READ_SENSOR (R51). Open control operation that writes a supply or thermal sensor to a count register. -/
  | readSensor (run : W32) (r : RegionId)
  /-- PROOF_EMIT (R246). Control operation that freezes the region's digest parts for a router. -/
  | proofEmit (run : W32) (r : RegionId)
  /-- END (R51). Control operation that ends the plate once every unit is free. -/
  | endPlate (run : W32) (r : RegionId)
  /-- STAGE_LOAD (R74). Scoring operation that loads a router's gate weights into a staging bank with a tag. -/
  | stageLoad (run : W32) (r : RegionId) (bad : Option ArrayBad)
  /-- SCORE (R79). Scoring operation that computes FP32 logits of token tiles against staged weights. -/
  | score (run : W32) (r : RegionId) (bad : Option ArrayBad)
  /-- SCORE_STORE (R80). Scoring operation that applies the score function and burn values and writes score tiles. -/
  | scoreStore (run : W32) (r : RegionId)
  /-- EXT_TILE_IN (R87). Scoring operation that receives external logit blocks through the tile port. -/
  | extTileIn (run : W32) (r : RegionId)
  /-- BANK_SWAP (R75). Scoring operation that inverts the context's ACTIVE staging bit. -/
  | bankSwap (run : W32) (r : RegionId)
  /-- ROW_LOAD (R53). Cell-group operation that moves rows from memory into region store. -/
  | rowLoad (run : W32) (r : RegionId) (g : CellGroupId)
  /-- ROW_STORE (R53). Cell-group operation that moves rows from region store to a tensor. -/
  | rowStore (run : W32) (r : RegionId) (g : CellGroupId)
  /-- DELTA_TEST (R179). Cell-group operation that tests token deltas against prints, writes the skip map and compacts rows. -/
  | deltaTest (run : W32) (r : RegionId) (g : CellGroupId)
  /-- DELTA_PRINT (R181). Cell-group operation that writes negatives for computed tokens and outputs for skipped tokens. -/
  | deltaPrint (run : W32) (r : RegionId) (g : CellGroupId)
  /-- SELECT (R99). Cell-group operation that ranks experts per token and writes selection records. -/
  | select (run : W32) (r : RegionId) (g : CellGroupId)
  /-- NORM (R104). Cell-group operation that forms weights and copy numbers in selection records. -/
  | norm (run : W32) (r : RegionId) (g : CellGroupId)
  /-- SORT (R116). Cell-group operation that applies capacity and builds the destination manifest and counts. -/
  | sort (run : W32) (r : RegionId) (g : CellGroupId)
  /-- ROW_SEND (R139). Cell-group operation that sends a stream to the own region or a split destination. -/
  | rowSend (run : W32) (r : RegionId) (g : CellGroupId)
  /-- COMBINE_TERM (R157). COMBINE in TERM mode that forms weighted region terms from landed expert outputs. -/
  | combineTerm (run : W32) (r : RegionId) (g : CellGroupId)
  /-- COMBINE_PACKAGE (R154). COMBINE in PACKAGE mode that sums region terms into a BF16 package term at a gateway. -/
  | combinePackage (run : W32) (r : RegionId) (g : CellGroupId)
  /-- COMBINE_FINAL (R160). COMBINE in FINAL mode that sums a token's terms and writes the row in token order with its epilogue. -/
  | combineFinal (run : W32) (r : RegionId) (g : CellGroupId)
  /-- QUANT (R53). Cell-group operation that quantises 128-row batches. -/
  | quant (run : W32) (r : RegionId) (g : CellGroupId)
  /-- BURN (R191). Cell-group operation that adds per-expert counts into the router's pending load counters. -/
  | burn (run : W32) (r : RegionId) (g : CellGroupId)
  /-- NET_MOVE (R141). Network operation that packs received rows into basins per local expert. -/
  | netMove (run : W32) (r : RegionId)
  /-- EDGE_SEND (R132). Network operation that sends a stream over die-to-die edges without waiting. -/
  | edgeSend (run : W32) (r : RegionId)
  /-- EDGE_RECV (R132). Network operation that accounts for a stream landing from another region after rendezvous. -/
  | edgeRecv (run : W32) (r : RegionId)
  /-- LINK_SEND (R131). Link operation that sends a merged member stream from a gateway to a peer package. -/
  | linkSend (run : W32) (r : RegionId) (p : PortId)
  /-- LINK_RECV (R138). Open link operation that maps a landing-ring stream and ends when its last item commits. -/
  | linkRecv (run : W32) (r : RegionId) (p : PortId)
  /-- B_ALLOC (R282). Basin operation that allocates n basins and writes their handles. -/
  | bAlloc (run : W32) (r : RegionId)
  /-- B_HAND (R142). Basin operation that sends one expert work descriptor per local expert. -/
  | bHand (run : W32) (r : RegionId)
  /-- B_RELEASE (R283). Basin operation that frees the handles of a tensor. -/
  | bRelease (run : W32) (r : RegionId)
  /-- B_REFDEC (R283). Basin operation that decrements reference counts and frees basins at zero. -/
  | bRefdec (run : W32) (r : RegionId)
  /-- CF_ARM (R220). Confluence-slot operation that arms a call across regions and members. -/
  | cfArm (run : W32) (r : RegionId)
  /-- CF_LOCAL (R212). Confluence-slot operation that reduces across the engine's regions over edges. -/
  | cfLocal (run : W32) (r : RegionId)
  /-- CF_GLOBAL (R215). Open confluence-slot operation that carries reduced data across packages on the trees. -/
  | cfGlobal (run : W32) (r : RegionId)
  /-- CF_WAIT (R65). Confluence-slot operation that waits until the confluence unit is free. -/
  | cfWait (run : W32) (r : RegionId)
  /-- STOP_BATH_RELEASE (R26). A crossing's release cycle arrives and its held data is released into the timeline. -/
  | stopBathRelease (r : RegionId) (x : Crossing) (deficit : W32)
  /-- LINK_TIMEOUT (R61). A LINK_RECV deadline passes without the last row and the plate halts. -/
  | linkTimeout (run : W32) (r : RegionId) (p : PortId)
  /-- TILE_TIMEOUT (R151). A tile row not committed within the timeout after release halts the plate. -/
  | tileTimeout (run : W32) (r : RegionId)
  /-- EXT_TILE_TIMEOUT (R88). No external block commits for EXT_TIMEOUT and the plate halts. -/
  | extTileTimeout (run : W32) (r : RegionId)
  /-- CONFLUENCE_TIMEOUT (R65). An open confluence operation reaches its TIMEOUT and the plate halts. -/
  | confluenceTimeout (run : W32) (r : RegionId)
  /-- CREDIT_WAIT_TIMEOUT (R137). Link credit is not available within the membership watchdog and the command completes with LINK_TIMEOUT. -/
  | creditWaitTimeout (c : CtxId) (q : RingId)
  /-- COMMAND_COMPLETE (R324). The leader writes a command's contact entries, completion, head and interrupt after it ends. -/
  | commandComplete
  /-- STEP_BOUNDARY (R303). Joins, leaves and updates of a step take effect once earlier commands of the context have completed. -/
  | stepBoundary (c : CtxId) (step : BitVec 16)
  /-- SHARE_APPLY (R298). A pending SHARE_SET change takes effect when the target context becomes idle. -/
  | shareApply (c : CtxId)
  /-- RELOCATION_DONE (R301). Relocation of resident shares toward granule 1 ends. -/
  | relocationDone
  /-- CONTEXT_SAVE_DONE (R313). The save of an evicted context's dirty state to its save area ends and the context is SWAPPED. -/
  | contextSaveDone (c : CtxId) (bad : Option TransferFault)
  /-- CONTEXT_LOAD_DONE (R313). The restore of a context from its save area ends and the context is RESIDENT. -/
  | contextLoadDone (c : CtxId) (bad : Option TransferFault)
  /-- TEARDOWN_END (R318). Zeroing ends, outstanding commands complete with CONTEXT_FAULT and the context is CLOSED. -/
  | teardownEnd (c : CtxId)
  /-- REGULATOR_REFILL (R309). Every 1,024 tc each regulator bucket gains RATE × 64 B up to its depth. -/
  | regulatorRefill (r : RegionId)
  /-- RT_BUDGET_REFILL (R315). Every RT_PERIOD a high-priority context's budget counter is reset to RT_BUDGET. -/
  | rtBudgetRefill (c : CtxId)
  /-- REG_BUCKET_WRITE (R320). Write of REG_MEM or REG_LINK that takes effect at the next refill tick and clamps bucket levels. -/
  | regBucketWrite (link : Bool) (part : Fin 8) (w : W64)
  /-- CALL_ARM (R222). A waiting confluence call starts its in-package arm once the previous call on the group completes. -/
  | callArm (g : GroupId)
  /-- ARM_PACKET (R220). A confluence arm packet with a signature arrives from a child. -/
  | armPacket (r : RegionId) (p : PortId) (pkt : Bytes)
  /-- VERDICT_PACKET (R221). A GO or MISMATCH verdict arrives down a tree. -/
  | verdictPacket (r : RegionId) (p : PortId) (pkt : Bytes)
  /-- DATA_PACKET (R223). A confluence data slab arrives up or down a tree. -/
  | dataPacket (r : RegionId) (p : PortId) (pkt : Bytes)
  /-- CONFLUENCE_CREDIT (R224). A confluence CREDIT packet returns slab credit to a sender. -/
  | confluenceCredit (r : RegionId) (p : PortId) (pkt : Bytes)
  /-- FAIL_PACKET (R227). A FAIL packet names failed members, is forwarded and aborts the call. -/
  | failPacket (r : RegionId) (p : PortId) (pkt : Bytes)
  /-- KEEPALIVE_PACKET (R226). A KEEPALIVE restarts the watchdog on its sender. -/
  | keepalivePacket (r : RegionId) (p : PortId) (pkt : Bytes)
  /-- KEEPALIVE_SEND (R226). Every WATCHDOG / 4 a waiting member sends KEEPALIVE to neighbours waiting on it. -/
  | keepaliveSend (g : GroupId)
  /-- CONFLUENCE_WATCHDOG (R226). A neighbour's watchdog expires and the member declares it failed and sends FAIL. -/
  | confluenceWatchdog (g : GroupId) (neighbour : MemberId)
  /-- FRAME_SEND (R369). The link transmitter fills a frame slot with packets by class, or sends IDLE or calibration. -/
  | frameSend (r : RegionId) (p : PortId)
  /-- FRAME_RECEIVE (R367). A received frame is CRC-checked and accepted in order, or discarded with a NAK. -/
  | frameReceive (r : RegionId) (p : PortId) (f : FrameIn)
  /-- INLET_DRAIN (R289). The drain path chooses the highest-class committed packet its consumer can take and drains it. -/
  | inletDrain (r : RegionId) (p : PortId)
  /-- INLET_FLUSH (R292). Write of INLET_FLUSH that discards committed packets of chosen classes at the next packet boundary. -/
  | inletFlush (r : RegionId) (p : PortId) (w : W64)
  /-- MGMT_OWNER_WRITE (R290). Write of INLET_CTL.MGMT_OWNER that hands the management queue to software on an isolated port. -/
  | mgmtOwnerWrite (r : RegionId) (p : PortId) (w : W64)
  /-- MGMT_READ (R290). Read of MGMT_READ that returns and consumes the next word of the oldest management packet. -/
  | mgmtRead (r : RegionId) (p : PortId) (software : Bool)
  /-- SPACE (R372). A SPACE link control packet updates the transmitter's view of receiver space. -/
  | space (r : RegionId) (p : PortId) (pkt : Bytes)
  /-- SPACE_SEND (R368). Every 1 µs, or on a 1 KiB change, the receiver sends SPACE. -/
  | spaceSend (r : RegionId) (p : PortId)
  /-- IDENT (R372). An IDENT packet reports the peer's member, UID, region, port and lanes. -/
  | ident (r : RegionId) (p : PortId) (pkt : Bytes)
  /-- WIDTH (R386). A WIDTH proposal names the lanes to stay in service and a switch frame. -/
  | width (r : RegionId) (p : PortId) (pkt : Bytes)
  /-- WIDTH_ACK (R386). A WIDTH_ACK confirms the accepted lane set. -/
  | widthAck (r : RegionId) (p : PortId) (pkt : Bytes)
  /-- WIDTH_SWITCH (R386). At the named frame both ends stripe over the new set of lanes. -/
  | widthSwitch (r : RegionId) (p : PortId)
  /-- PROBE (R372). A PROBE request or reply measures round trip for LINK_PAD. -/
  | probe (r : RegionId) (p : PortId) (pkt : Bytes) (now : W64)
  /-- RELAY (R370). A RELAY envelope is forwarded on the route table or delivered. -/
  | relay (r : RegionId) (p : PortId) (pkt : Bytes)
  /-- ANNOUNCE (R391). An ANNOUNCE from a member arrives and is forwarded if new. -/
  | announce (r : RegionId) (p : PortId) (pkt : Bytes)
  /-- ANNOUNCE_SEND (R391). Every 100 µs the leader sends ANNOUNCE on every trained port. -/
  | announceSend
  /-- MEMBER_UNREACHABLE (R391). No ANNOUNCE has come from a member for 1 ms and it counts as unreachable. -/
  | memberUnreachable (m : MemberId)
  /-- BOUNDARY_START (R392). The coordinator starts an epoch boundary and sends PROPOSE. -/
  | boundaryStart
  /-- PROPOSE (R392). A complete proposal arrives and the member stops validating cross-member commands. -/
  | propose (r : RegionId) (p : PortId) (pkt : Bytes)
  /-- ACCEPT (R392). An ACCEPT reaches the coordinator from a member. -/
  | accept (r : RegionId) (p : PortId) (pkt : Bytes)
  /-- HOLDING (R392). A HOLDING from a member waiting on commands in flight reaches the coordinator. -/
  | holding (r : RegionId) (p : PortId) (pkt : Bytes)
  /-- HOLDING_SEND (R392). Every 1 ms a member waiting on cross-member commands sends HOLDING. -/
  | holdingSend
  /-- COMMIT (R393). A COMMIT installs the new epoch, gateways, routes, credit and group re-forms. -/
  | commit (r : RegionId) (p : PortId) (pkt : Bytes)
  /-- MEMBERSHIP_WATCHDOG (R394). A missing ACCEPT, HOLDING or COMMIT for WATCHDOG drops a member or reverts to the old epoch. -/
  | membershipWatchdog (m : MemberId)
  /-- LANDING (R374). A LANDING packet sets the credit toward a peer context to its landing ring size. -/
  | landing (r : RegionId) (p : PortId) (pkt : Bytes)
  /-- CREDIT_RETURN (R374). A CREDIT_RETURN adds returned bytes to the credit toward a peer context. -/
  | creditReturn (r : RegionId) (p : PortId) (pkt : Bytes)
  /-- CALIBRATION_FRAME (R384). Every CAL_INTERVAL the port sends a calibration frame in a gap and advances a lane's eye scan. -/
  | calibrationFrame (r : RegionId) (p : PortId) (margin : Byte)
  /-- CALIBRATION_STARVED (R384). No gap within CAL_DEADLINE: the port raises CALIBRATION_STARVED and steals frames from confluence. -/
  | calibrationStarved (r : RegionId) (p : PortId)
  /-- LANE_RETRAIN (R385). A lane's low margin, lock loss or error burst takes it out of service for retraining. -/
  | laneRetrain (r : RegionId) (p : PortId) (lane : Fin 4) (cause : RetrainCause)
  /-- LANE_RETRAIN_DONE (R386). A retrained lane passes or fails and is restored by a second WIDTH or left out. -/
  | laneRetrainDone (r : RegionId) (p : PortId) (lane : Fin 4) (pass : Bool)
  /-- LINK_TRAIN_STEP (R380). A link training step ends at both ends and the next begins. -/
  | linkTrainStep (r : RegionId) (p : PortId) (res : LinkTrainResult)
  /-- EDGE_TRAIN_STEP (R381). An edge training step ends and the next begins. -/
  | edgeTrainStep (r : RegionId) (e : EdgeId) (res : EdgeTrainResult)
  /-- EDGE_FLIT_RECEIVE (R377). An edge flit is CRC-checked, forwarded or landed, or a resend is requested. -/
  | edgeFlitReceive (r : RegionId) (e : EdgeId) (ctl : W64) (data : Bytes)
  /-- EDGE_ISOLATE (R379). Resends above RETRY_LIMIT in 1 ms or clock loss isolate an edge and end its transfers. -/
  | edgeIsolate (r : RegionId) (e : EdgeId) (clockLoss : Bool)
  /-- EDGE_RETRAIN_DONE (R379). An isolated edge's retrain passes and it returns at the next command boundary. -/
  | edgeRetrainDone (r : RegionId) (e : EdgeId) (pass : Bool)
  /-- MEMORY_READ_ANSWER (R455). A read answer arrives on a memory port into its slot, or an error response is recorded. -/
  | memoryReadAnswer (r : RegionId) (m : MemPortId) (tag : BitVec 10) (data : BitVec 512) (fail : Bool) (chk : Byte)
  /-- MEMORY_WRITE_ANSWER (R455). A write answer arrives and frees its slot, or records an error response. -/
  | memoryWriteAnswer (r : RegionId) (m : MemPortId) (tag : BitVec 10) (fail : Bool)
  /-- MEMORY_CREDIT (R455). The fabric returns a credit on a request path. -/
  | memoryCredit (r : RegionId) (m : MemPortId) (write : Bool)
  /-- EXPERT_OUTPUT_TILE (R457). An expert-output tile arrives on the tile port and its rows land or it is discarded. -/
  | expertOutputTile (r : RegionId) (tag : W64) (units : Bytes) (par : TilePar)
  /-- EXT_SCORE_BLOCK (R87). An external-score block arrives on the tile port in order or halts with EXT_TILE_ORDER. -/
  | extScoreBlock (r : RegionId) (tag : W64) (units : Bytes) (par : TilePar)
  /-- EW_DESCRIPTOR_TAKEN (R459). The licensee takes a descriptor from the expert-work queue, ending any queue-full stall. -/
  | ewDescriptorTaken (r : RegionId)
  /-- ER_READ (R460). The licensee reads list or row data by basin handle on the read channel. -/
  | erRead (r : RegionId) (handle : W32) (offset : BitVec 12) (units : BitVec 6) (id : BitVec 6)
  /-- INTERRUPT_DELIVER (R355). A deliverable source is given to the next enabled target in its mask. -/
  | interruptDeliver (src : Byte)
  /-- HOLDOFF_EXPIRY (R356). A group's hold-off timer expires and its deliverable sources are delivered. -/
  | holdoffExpiry (grp : Fin 8)
  /-- TGT_CLAIM (R357). Read of TGT_CLAIM that claims the lowest delivered source of a target. -/
  | tgtClaim (t : Fin 16)
  /-- TGT_CTL_WRITE (R360). Write of TGT_CTL; clearing ENABLE returns the target's delivered sources to PENDING. -/
  | tgtCtlWrite (t : Fin 16) (w : W64)
  /-- ERR_FORCE (R431). Write of ERR_FORCE that raises page faults for reporting only. -/
  | errForce (page : BitVec 16) (w : W64)
  /-- PAGE_CTL_CLEAR (R436). Write of PAGE_CTL.CLEAR that clears the page's counting event counters. -/
  | pageCtlClear (page : BitVec 16) (w : W64)
  /-- EVT_SEL_WRITE (R436). Write of EVT_SEL that changes the codes counted and zeroes the affected counters. -/
  | evtSelWrite (page : BitVec 16) (w : W64)
  /-- REGISTER_WRITE (R11). Write of a register with no behaviour of its own, per its access code. -/
  | registerWrite (r : RegionId) (req : CpRequest)
  /-- GO (R398). Write of BRINGUP_CTL.GO that starts bring-up from WAIT_RECORDS. -/
  | go
  /-- REGION_RESET (R410). Write of BRINGUP_CTL.REGION_RESET that starts a region reset. -/
  | regionReset (mask : Byte)
  /-- ENGINE_RESET (R410). Write of BRINGUP_CTL.ENGINE_RESET that starts an engine reset. -/
  | engineReset
  /-- BRINGUP_STEP (R403). A bring-up step ends in every region still taking part and the next step begins. -/
  | bringupStep (res : BringupResult)
  /-- RESET_N (R450). RESET_N asserts an engine reset and its deassertion starts cycle counters and the ROM step. -/
  | resetN
  /-- CELL_FAULT (R414). An uncorrectable or parity fault in a cell is reported and starts a cell reset or spare mapping. -/
  | cellFault (r : RegionId) (c : ClusterId) (k : CellId) (kind : CellFaultKind)
  /-- SLICE_FAULT (R414). Uncorrectable slice ECC tears down the owning context or fences the cluster. -/
  | sliceFault (r : RegionId) (c : ClusterId) (f : SliceFault)
  /-- REGION_UNIT_FAULT (R414). A region network or management core fault starts a region reset. -/
  | regionUnitFault (r : RegionId) (f : RegionFault)
  /-- CELL_RESET_END (R410). A 2 µs cell reset ends. -/
  | cellResetEnd (r : RegionId) (c : ClusterId) (k : CellId)
  /-- CLUSTER_RESET_END (R410). A 40 µs cluster reset ends, possibly with a spare mapped in. -/
  | clusterResetEnd (r : RegionId) (c : ClusterId) (ucode : List UcodeResult)
  /-- REGION_RESET_END (R412). A region reset ends, restoring state areas and rechecking topology, or the region is fenced. -/
  | regionResetEnd (r : RegionId) (pass : Bool) (res : RegionTest) (elapsedMs : BitVec 16) (writeFail : Bool)
  /-- LEADER_CHANGE (R18). The lowest remaining live region's core becomes leader after the leader is fenced or reset. -/
  | leaderChange
  /-- SUPPLY_STATE_CHANGE (R418). The synchronised supply state changes and safelight entry or hold may begin. -/
  | supplyStateChange (v : BitVec 2)
  /-- THERM_STROBE (R464). A new thermal value is taken and thresholds, safelight and trip are evaluated. -/
  | thermStrobe (t : Byte)
  /-- THERM_STROBE_LOST (R464). No strobe for 10 ms and THERM is taken as SAFE. -/
  | thermStrobeLost
  /-- SAFELIGHT_SWITCH (R418). At switch cycle S every region changes timeline clock and edge modules. -/
  | safelightSwitch
  /-- SAFELIGHT_HOLD_EXPIRY (R419). Both causes stay absent for SAFELIGHT_HOLD and the switch back is named. -/
  | safelightHoldExpiry
  /-- POWER_FAIL (R421). Power-fail or thermal trip stops issue, flushes finished completions and holds an engine reset. -/
  | powerFail
  /-- POWER_FAIL_HOLD_EXIT (R421). PWR_FAIL_N high and 100 ms below 115 °C end the held reset and restart bring-up. -/
  | powerFailHoldExit
  /-- POWER_EST_UPDATE (R417). Every 10 µs each region's power estimate is updated. -/
  | powerEstUpdate (r : RegionId) (tenthWatts : BitVec 16)
  /-- WRSTN_RESET (R467). WRSTN low loads WS_BYPASS into the wrapper. -/
  | wrstnReset (r : RegionId)
  /-- WS_BYPASS (R468). Wrapper instruction that makes the wrapper transparent. -/
  | wsBypass (r : RegionId)
  /-- WS_EXTEST (R468). Wrapper instruction that drives boundary outputs from WBR and captures inputs. -/
  | wsExtest (r : RegionId) (bits : Bytes)
  /-- WS_INTEST (R468). Wrapper instruction that drives the region's boundary inputs from WBR. -/
  | wsIntest (r : RegionId) (bits : Bytes)
  /-- WS_CLAMP (R468). Wrapper instruction that holds outputs at the values last in WBR. -/
  | wsClamp (r : RegionId)
  /-- WS_SAFE (R468). Wrapper instruction that drives handshakes, IRQ and WAKE to safe values. -/
  | wsSafe (r : RegionId)
  /-- SCAN (R468). Wrapper instruction for scan shift and capture on WRCK. -/
  | scan (r : RegionId) (bits : Bytes)
  /-- MBIST (R468). Wrapper instruction that runs the memory self-test and reports status. -/
  | mbist (r : RegionId) (slices : BitVec 16) (staging : Bool)
  /-- VF_ACCESS (R468). Wrapper instruction that reads or writes a VIEWFINDER page register. -/
  | vfAccess (r : RegionId) (dr : BitVec 80)
  /-- STATE_READ (R468). Wrapper instruction that captures BRINGUP_STATE. -/
  | stateRead (r : RegionId)
  /-- VF_TRIG_WRITE (R472). Write of VF_TRIG that arms or changes the viewfinder trigger mode. -/
  | vfTrigWrite (r : RegionId) (w : W64)
  /-- VF_FORCED_PUSH (R470). 4,095 tc after a channel's last push it pushes a sample. -/
  | vfForcedPush (r : RegionId) (ch : Fin 4)
  /-- RC_READ (R11). A control-port read of an RC field returns its value and clears it, with same-tc events kept under R12. -/
  | rcRead (r : RegionId) (req : CpRequest)
  deriving DecidableEq, Repr

end Sys2Proof
end

