-- ==== Sys2Proof/Decode.lean ====
section
/-! DEFINITION. Sys2Proof/Decode.lean: the command that a word spells by the opcode table's bits. Every row of this block's
table has an empty list of fields: no command is spelled by a word, so no word decodes. -/

namespace Sys2Proof

/-- The command that a word of nbits bits spells: none, because no row of the table gives bits. -/
def decodeTableWord (_nbits _w : Nat) : Option Instr := none

end Sys2Proof
end

