-- ==== Sys2Proof/Config.lean ====
section
/-! DEFINITION. Sys2Proof/Config.lean: the free values. A free value is a value the manual leaves open of an
instruction that nevertheless runs; it has no body, so that no proof can see a value of it (log 7). -/

namespace Sys2Proof

/-- The n-th free value of a run: whatever 64 bits the hardware happens to produce where the manual states none (log 7). -/
opaque Config.freeBits : Nat → BitVec 64

/-- How many cycles of the control clock fall in some cycles of the timeline, by the time at which these begin: the integrator gives
CTL_CLK, which need not be related to REFCLK (R449) (log 7). -/
opaque Config.controlCycles : Nat → Nat → Nat

/-- The ROM's release number (R447, ENGINE_INFO.ROM_VERSION) is fixed by the part's ROM and given by no rule (log 7). -/
opaque Config.romVersion : BitVec 16

/-- The CRC-32C of the part's ROM image (R447, ROM_CRC), which the manual does not print (log 7). -/
opaque Config.romCrc : BitVec 32

/-- The live regions of another member in an epoch, by epoch and member: R37 and R275 ask for them, and no packet of the manual carries
them (log 99). -/
opaque Config.peerLive : Nat → Nat → BitVec 8

/-- The COPY of a live entry whose expert the router does not have, by expert and token (R106 gives none) (log 7). -/
opaque Config.copyOf : Nat → Nat → BitVec 3

/-- Byte k of what QUANT writes, by what it reads, the element type and the width (R53 names neither format nor scales) (log 7). -/
opaque Config.quantByte : List (BitVec 8) → Nat → Nat → Nat → BitVec 8

/-- Sign and payload of a NaN that FP32 arithmetic forms (R71 says NaN and no encoding) (log 7). -/
opaque Config.nanBits : BitVec 23

end Sys2Proof
end

