-- ==== Sys2Proof/Machine/Bits.lean ====
section
/-! DEFINITION. Sys2Proof/Machine/Bits.lean: bit fields, little-endian structures (R5), two's complement, parity and the
manual's two CRCs (R243, R365). -/

namespace Sys2Proof.Machine

/-- Bits [hi:lo] of a word, as a number. -/
def bits (w hi lo : Nat) : Nat := (w / 2 ^ lo) % 2 ^ (hi + 1 - lo)

/-- Bit n of a word. -/
def bitAt (w n : Nat) : Bool := (w / 2 ^ n) % 2 == 1

/-- The word with bits [hi:lo] replaced by the low bits of v. -/
def putBits (w hi lo v : Nat) : Nat :=
  w - bits w hi lo * 2 ^ lo + (v % 2 ^ (hi + 1 - lo)) * 2 ^ lo

/-- A flag as the bit it is stored in. -/
def flag (b : Bool) : Nat := if b then 1 else 0

/-- The indices of the set bits of a mask of n bits, ascending. -/
def setIndices (mask n : Nat) : List Nat := (List.range n).filter (bitAt mask)

/-- The mask whose set bits are the listed indices. -/
def maskOf (l : List Nat) : Nat := l.foldl (fun m i => if bitAt m i then m else m + 2 ^ i) 0

/-- The number of ones in the low n bits. -/
def popcount (w n : Nat) : Nat := (setIndices w n).length

/-- Even parity: the bit that makes the number of ones even. -/
def evenParity (w n : Nat) : Bool := popcount w n % 2 == 1

/-- Ceiling division; a divisor of 0 gives 0. -/
def ceilDiv (a b : Nat) : Nat := if b = 0 then 0 else (a + (b - 1)) / b

/-- The value of little-endian bytes (R5). -/
def leNat : Bytes → Nat
  | [] => 0
  | b :: bs => b.toNat + 256 * leNat bs

/-- The n little-endian bytes of a value (R5). -/
def leBytes : Nat → Nat → Bytes
  | 0, _ => []
  | n + 1, v => BitVec.ofNat 8 v :: leBytes n (v / 256)

/-- The field of n bytes at offset off of a structure (R5); bytes past its end read 0. -/
def field (bs : Bytes) (off n : Nat) : Nat := leNat ((bs.drop off).take n)

/-- The structure with the field of n bytes at offset off written. -/
def putField (bs : Bytes) (off n v : Nat) : Bytes :=
  bs.take off ++ leBytes n v ++ bs.drop (off + n)

/-- A structure of len zero bytes. -/
def zeros (len : Nat) : Bytes := List.replicate len 0

/-- A structure of len bytes built from (offset, size, value) fields, every other byte 0. -/
def build (len : Nat) (fs : List (Nat × Nat × Nat)) : Bytes :=
  fs.foldl (fun bs f => putField bs f.1 f.2.1 f.2.2) (zeros len)

/-- Bytes cut or zero-padded to a length. -/
def fit (n : Nat) (bs : Bytes) : Bytes := bs.take n ++ zeros (n - bs.length)

/-- Whether every byte is 0. -/
def allZero (bs : Bytes) : Bool := bs.all (· == 0)

/-- Whether the bytes from off on, n of them, are 0. -/
def zeroAt (bs : Bytes) (off n : Nat) : Bool := allZero ((bs.drop off).take n)

/-- The signed value of an n-bit two's complement field. -/
def signed (n w : Nat) : Int := if w < 2 ^ (n - 1) then (w : Int) else (w : Int) - 2 ^ n

/-- The values of a bytes' list taken in groups of n bytes, count of them. -/
def words (bs : Bytes) (n count : Nat) : List Nat := (List.range count).map fun i => field bs (n * i) n

/-- The bits of a byte, most significant first. -/
def msbFirst (b : Byte) : List Bool := (List.range 8).map fun i => bitAt b.toNat (7 - i)

/-- The bits of a byte, least significant first. -/
def lsbFirst (b : Byte) : List Bool := (List.range 8).map fun i => bitAt b.toNat i

/-- One byte of CRC-64/ECMA (R243): the byte enters at the top, then eight shifts. -/
def crc64Shift : Nat → Nat → Nat
  | 0, crc => crc
  | n + 1, crc =>
    crc64Shift n (if 2 ^ 63 ≤ crc then Nat.xor ((crc * 2) % 2 ^ 64) 0x42F0E1EBA9EA3693 else (crc * 2) % 2 ^ 64)

/-- CRC-64/ECMA of a byte stream that continues from a CRC (R243). -/
def crc64From (crc : Nat) (bs : Bytes) : Nat :=
  bs.foldl (fun c b => crc64Shift 8 (Nat.xor c (b.toNat * 2 ^ 56))) crc

/-- CRC-64/ECMA of a byte stream (R243): polynomial 0x42F0_E1EB_A9EA_3693, initial value 0, no reflection, no final XOR. -/
def crc64 (bs : Bytes) : Nat := crc64From 0 bs

/-- One bit of CRC-32C in the reflected form of its polynomial 0x1EDC_6F41 (R365). -/
def crc32cShift : Nat → Nat → Nat
  | 0, crc => crc
  | n + 1, crc => crc32cShift n (if crc % 2 = 1 then Nat.xor (crc / 2) 0x82F63B78 else crc / 2)

/-- CRC-32C of a byte stream, with the usual initial value and final XOR of all ones and reflected bits (log 9). -/
def crc32c (bs : Bytes) : Nat :=
  Nat.xor (bs.foldl (fun c b => crc32cShift 8 (Nat.xor c b.toNat)) 0xFFFFFFFF) 0xFFFFFFFF

end Sys2Proof.Machine
end

