-- ==== Sys2Proof/Machine/Tab.lean ====
section
/-! DEFINITION. Sys2Proof/Machine/Tab.lean: sparse tables (a list of key and value pairs, keys strictly rising) and memory
(such a table of bytes that lists no zero byte). -/

namespace Sys2Proof.Machine

/-- A sparse table: keys strictly rising. -/
abbrev Tab (α : Type) := List (Nat × α)

/-- The entry of a key, if it is listed. -/
def Tab.get? {α : Type} : Tab α → Nat → Option α
  | [], _ => none
  | (j, v) :: t, k => if j = k then some v else if k < j then none else Tab.get? t k

/-- The entry of a key, or a default. -/
def Tab.getD {α : Type} (t : Tab α) (k : Nat) (d : α) : α := (t.get? k).getD d

/-- The table with the entry of a key set. -/
def Tab.set {α : Type} : Tab α → Nat → α → Tab α
  | [], k, v => [(k, v)]
  | (j, w) :: t, k, v =>
    if j = k then (k, v) :: t else if k < j then (k, v) :: (j, w) :: t else (j, w) :: Tab.set t k v

/-- The table without the keys that a test selects. -/
def Tab.erase {α : Type} (t : Tab α) (p : Nat → Bool) : Tab α := t.filter fun e => !p e.1

/-- The table with the entry of a key, or the default, changed. -/
def Tab.update {α : Type} (t : Tab α) (k : Nat) (d : α) (f : α → α) : Tab α := t.set k (f (t.getD k d))

/-- Keys strictly rising. -/
abbrev Tab.sorted {α : Type} (t : Tab α) : Prop := t.Pairwise fun a b => a.1 < b.1

/-- A memory: cells of nonzero bytes in rising address order; an address that is not listed reads as 0 (logs 2, 3). -/
abbrev Memory := List Host.Cell

/-- The canonical form of a memory: addresses strictly rising and no listed byte is 0. -/
abbrev Memory.wf (m : Memory) : Prop := (m.Pairwise fun a b => a.1 < b.1) ∧ ∀ c ∈ m, c.2 ≠ 0#8

/-- One byte of a memory. -/
def Memory.byte : Memory → Nat → Byte
  | [], _ => 0
  | (a, b) :: m, k => if a = k then b else if k < a then 0 else Memory.byte m k

/-- n bytes from address a on, off the cells at or above a. -/
def Memory.readFrom : Memory → Nat → Nat → Bytes
  | _, _, 0 => []
  | [], a, n + 1 => 0 :: Memory.readFrom [] (a + 1) n
  | (k, b) :: m, a, n + 1 =>
    if k = a then b :: Memory.readFrom m (a + 1) n else 0 :: Memory.readFrom ((k, b) :: m) (a + 1) n

/-- n bytes from address a on. -/
def Memory.read (m : Memory) (a n : Nat) : Bytes := Memory.readFrom (m.dropWhile fun c => decide (c.1 < a)) a n

/-- The cells that list bytes from address a on. -/
def Memory.cells : Nat → Bytes → Memory
  | _, [] => []
  | a, b :: bs => if b = 0 then Memory.cells (a + 1) bs else (a, b) :: Memory.cells (a + 1) bs

/-- The memory with bytes written from address a on; it keeps the canonical form. -/
def Memory.write (m : Memory) (a : Nat) (bs : Bytes) : Memory :=
  m.filter (fun c => decide (c.1 < a)) ++ Memory.cells a bs ++ m.filter (fun c => decide (a + bs.length ≤ c.1))

/-- The memory with a range cleared to 0. -/
def Memory.clear (m : Memory) (a n : Nat) : Memory :=
  m.filter fun c => decide (c.1 < a) || decide (a + n ≤ c.1)

end Sys2Proof.Machine
end

