-- ==== Sys2Proof/Machine/State.lean ====
section
/-! DEFINITION. Sys2Proof/Machine/State.lean: everything the manual gives one engine: its registers, memories, queues and
units, and the queue of commands that are waiting; the machine right after reset; the reasons a step can stop. -/

namespace Sys2Proof.Machine

/-- A command of a ring as the leader holds it once it is validated (R325, R331): the 64 bytes read, its number, and what it
latched: its window table (R263), its tensor list with the owner tables, and its count table. -/
structure Command where
  ctx : CtxId
  ring : RingId
  raw : BitVec 512
  /-- COMMAND_SEQ (R332). -/
  seq : W32
  /-- FUSED as the command was validated with it (R336). -/
  fused : Bool
  windows : Tab (BitVec 128)
  /-- The tensor list, 192 bytes an entry (R342). -/
  list : Bytes
  /-- Owner tables of distributed entries, by entry (R275). -/
  owners : Tab Bytes
  /-- The count table, 256 bytes (R343). -/
  counts : Bytes
  deriving DecidableEq, Repr

/-- The head of a ring: read once, when the entry reaches the head (R322), then validated (R329). -/
structure Head where
  raw : BitVec 512
  /-- The command once validated and latched. -/
  cmd : Option Command
  /-- Waits found satisfied, by bit; they stay satisfied for the command (R326). -/
  sat : Nat
  deriving DecidableEq, Repr

/-- A plate image installed in a set (R40): header fields and bundles. -/
structure Image where
  region : RegionId
  geometrySig : W64
  reproSig : W64
  flags : Nat
  portMap : W32
  wcet : Nat
  /-- COUNT_LANES, 64 entries. -/
  lanes : List Nat
  /-- CAP_TABLE, 64 entries (R49). -/
  caps : List W64
  bundles : List (BitVec 512)
  deriving DecidableEq, Repr

/-- The three digests of a routed layer in one region, with the byte lengths they cover (R244, R245). -/
structure Digest where
  burn : Nat
  /-- First-pass manifest stream: its bytes so far. -/
  manifest : Bytes
  spill : Bytes
  hasSpill : Bool
  /-- Output rows by token. -/
  rows : Tab Bytes
  frozen : Bool
  deriving DecidableEq, Repr

/-- A halt of a region's plate (R62, R63, R475). -/
structure Halt where
  code : Nat
  bundle : Nat
  /-- Position of the cause's slot in the order of R63. -/
  order : Nat
  tc : Nat
  deriving DecidableEq, Repr

/-- An operation that a unit is running (R46): when it ends (none while an open operation still waits), and the lanes
it writes at its end. -/
structure Busy where
  unit : Nat
  bundle : Nat
  opcode : Nat
  issue : Nat
  ends : Option Nat
  /-- Register and its new lanes. -/
  writes : List (Nat × List Nat)
  /-- The halt that takes effect at its end: an item check that fails (R475). -/
  halts : Option Nat
  /-- What R50 took of each lane, with the excess. -/
  takes : List (Nat × Nat)
  /-- The cycle at which it times out while it waits (R61, R65, R88, R242). -/
  due : Option Nat
  /-- It is open, and so is what it writes (R60). -/
  open_ : Bool
  deriving DecidableEq, Repr

/-- The excess of a LOOP under SPILL, which its register receives when the LOOP ends (R47, R50). -/
structure LoopSpill where
  /-- Loops entered while it runs, itself among them. -/
  depth : Nat
  reg : Nat
  lanes : List Nat
  open_ : Bool
  deriving DecidableEq, Repr

/-- The running EXT_TILE_IN (R87, R88): blocks committed, the release cycle of the next one, and the end of its own cost. -/
structure ExtIn where
  blocks : Nat
  release : Nat
  ends : Nat
  deriving DecidableEq, Repr

/-- A NET_MOVE's hand-over (R141, R142): what its descriptors, its landing rows and its releases need. -/
structure HandOver where
  router : Nat
  /-- List basin of each local expert, 0 for none. -/
  listHandles : List Nat
  counts : List Nat
  /-- Slot ordinal of each list position of each local expert (R150). -/
  sigma : List (List Nat)
  rowBytes : Nat
  pass : Nat
  step : Nat
  elemType : Nat
  deriving DecidableEq, Repr

/-- A work descriptor that has left for the licensee (R143, R151). -/
structure Work where
  /-- Register of the hand-over. -/
  reg : Nat
  local_ : Nat
  count : Nat
  /-- The tc in which it left the port. -/
  left : Nat
  /-- Cycles by which stalls have put off the release of its rows since (R26), and those among them that waited for a row. -/
  held : Nat
  late : Nat
  /-- List positions whose rows have committed. -/
  done : List Nat
  deriving DecidableEq, Repr

/-- A stream that a region sent or received in a command (R122, R129, R158). -/
structure Stream where
  sent : Bool
  /-- DESC of the operation. -/
  entry : Nat
  router : Nat
  kind : Nat
  /-- Sent: destination region, or lane of a member; received: source lane (R114). -/
  lane : Nat
  phase : Nat
  returning : Bool
  header : Bytes
  /-- Entries or rows in order, each with what its kind needs to know of it: the lane of an entry sent DIRECT or FORWARD or
  received FORWARD, the source region of a merged one, the position in the member's stream of a SPLIT one. -/
  items : List (Nat × Bytes)
  /-- Position of the first entry in its manifest, sent or received (R135, R159). -/
  first : Nat
  /-- A ROW phase has followed. -/
  rowed : Bool
  /-- A return stream has answered it. -/
  answered : Bool
  /-- The lanes that the ENTRY phase wrote (R139). -/
  wrote : List Nat
  deriving DecidableEq, Repr

/-- A transfer that has reached a region over an edge: its prologue and the bytes so far (R132, R378). -/
structure Transfer where
  seq : W32
  src : Nat
  desc : Nat
  phase : Nat
  returning : Bool
  count : Nat
  itemBytes : Nat
  /-- Issue cycle of its EDGE_SEND, and cycles by which stalls here have put off its releases since (R26). -/
  sent : Nat
  held : Nat
  /-- Header and items that have arrived. -/
  bytes : Bytes
  /-- Items that have been released and placed (R135). -/
  landed : Nat
  /-- An isolation cut it off (R147). -/
  cut : Bool
  /-- Its EDGE_RECV has taken it. -/
  taken : Bool
  /-- Its EDGE_SEND was open (R136). -/
  open_ : Bool
  deriving DecidableEq, Repr

/-- One region's part of a plate set in flight (R46, R48). -/
structure RegionRun where
  image : Image
  /-- Index of the bundle that is issuing. -/
  bundle : Nat
  /-- Slots of that bundle still to issue, in the order of R63. -/
  todo : List Nat
  /-- Issue cycle of the last bundle that issued; the start cycle while none has. -/
  last : Nat
  /-- A bundle has issued. -/
  begun : Bool
  /-- Index of the bundle that issued last. -/
  lastBundle : Nat
  /-- Loops entered, innermost first: first bundle, last bundle, passes left. -/
  loops : List (Nat × Nat × Nat)
  /-- Passes of the LOOP that has issued in the current bundle. -/
  passes : Nat
  /-- Excess of LOOPs that have not ended. -/
  spills : List LoopSpill
  /-- Units that WAIT_UNITS holds the next bundle for. -/
  hold : Nat
  /-- Free cycle of each of the 13 units. -/
  free : List Nat
  busy : List Busy
  /-- Lanes of the count registers that are not all zero. -/
  cnt : Tab (List Nat)
  /-- Ready cycle of the count registers. -/
  ready : Tab Nat
  /-- Registers whose value came from an open operation (R60). -/
  opened : List Nat
  halt : Option Halt
  /-- Cycle at which END ended. -/
  ended : Option Nat
  /-- Sum of stall deficits of the command here (R241). -/
  late : Nat
  digests : Tab Digest
  handOvers : Tab HandOver
  /-- Pending load counters by router (R190). -/
  load : Tab (List Nat)
  /-- Routers that ran a BURN here. -/
  burned : List Nat
  spill : Nat
  drop : Nat
  skipped : Nat
  /-- Completion flags raised here (R327). -/
  flags : Nat
  /-- Valid rows of row tensors, by tensor (R478). -/
  valid : Tab Nat
  /-- Tokens of the rows that the latest TEST found, before it compacted them, by tensor (R179). -/
  loadedTokens : Tab (List Nat)
  /-- Manifests that SORTs wrote, by tensor: router, PASS, and where they start in their digest's stream (R244). -/
  sorted : Tab (Nat × Nat × Nat)
  streams : List Stream
  /-- Landing-ring streams mapped by LINK_RECV, to be credited at END (R138): port member, bytes. -/
  mapped : List (Nat × Nat)
  /-- Work descriptors that left, by WORK_ID (R143). -/
  works : Tab Work
  ext : ExtIn
  /-- Edge sends issued, in order: destination, DESC, issue cycle, open (R132, R133). -/
  sends : List (Nat × Nat × Nat × Bool)
  deriving DecidableEq, Repr

/-- A sequence slot (R170, R302). -/
structure SeqSlot where
  ctx : CtxId
  tokenFirst : Nat
  tokenCount : Nat
  /-- 0 free, 1 joining, 2 occupied, 3 leaving. -/
  state : Nat
  negBudget : Nat
  maxTokens : Nat
  maxAge : Nat
  schedule : Nat
  joinStep : Nat
  layerSkip : BitVec 128
  /-- Print planes: router and the basin handles of the plane, in order (R174). -/
  planes : List (Nat × List Nat)
  /-- Handles of the plane tables. -/
  tables : List Nat
  deriving DecidableEq, Repr

/-- A plate set in flight (R39). -/
structure Run where
  cmd : Command
  set : Nat
  /-- The tc at which the leader issued it. -/
  issue : Nat
  epoch : Nat
  started : Bool
  regions : Tab RegionRun
  /-- Routers latched at the epoch (R95). -/
  routers : Tab (BitVec 512)
  /-- Routers whose E a ROUTER_WRITE changed meanwhile (R192). -/
  rewritten : List Nat
  /-- Placement tables latched at the epoch, by router (R113). -/
  placements : Tab Bytes
  seed : W64
  schedules : Tab (List W32)
  /-- Burn tables as they stood at the epoch, by router: every SCORE_STORE of the command latches these (R86, R195, R337). -/
  burn : Tab (List W32)
  slots : Tab SeqSlot
  /-- The set has an open operation (R60, R247). -/
  open_ : Bool
  /-- Part of the run lay in safelight (R418). -/
  safelight : Bool
  deriving DecidableEq, Repr

/-- What one router's proof entry needs (R247). -/
structure ProofEntry where
  router : Nat
  burn : Nat
  manifest : Nat
  output : Nat
  spill : Bool
  open_ : Bool
  deriving DecidableEq, Repr

/-- A TENSOR_COPY in flight (R271, R347): it holds the memory ports of its REGION until it ends. -/
structure Copying where
  cmd : Command
  /-- Leader's tc at which it issued, and at which it ends. -/
  issued : Nat
  due : Nat
  /-- Part of it lay in safelight (R418). -/
  lit : Bool
  deriving DecidableEq, Repr

/-- A command that has ended and whose completion is not yet written (R324). -/
structure Ended where
  ctx : CtxId
  ring : RingId
  raw : BitVec 512
  seq : W32
  status : Nat
  halted : Bool
  region : Nat
  index : Nat
  flags : Nat
  /-- Issue cycle of a command that is not a plate set; none when validation failed or no tc count is kept. -/
  issued : Option Nat
  tcRun : Nat
  lateTc : Nat
  /-- RESULT, 24 bytes. -/
  result : Bytes
  /-- A plate set: its proofs, pending loads and window counts (R192, R248). -/
  isSet : Bool
  proofs : List ProofEntry
  loads : Tab (List Nat)
  burned : List Nat
  rewritten : List Nat
  /-- The routers latched for it. -/
  routers : Tab (BitVec 512)
  /-- C of R307, 0 where no VTIME is charged. -/
  clusters : Nat
  /-- Window entries that take effect when its completion is written: target, FIRST and the entries (R263). -/
  entries : Option (CtxId × Nat × List Nat)
  /-- The completion is already counted: contact entries written, held by CPL_RING.ENABLE = 0 (R350). -/
  held : Bool
  /-- Leader's tc at which it ended. -/
  endTc : Nat
  deriving DecidableEq, Repr

/-- What an ended command still waits for before it completes. -/
inductive Awaits where
  /-- Every command of a context validated before it (R263). -/
  | commands (c : CtxId) (before : W32)
  /-- The next membership epoch boundary, at which a context closes (R335). -/
  | boundary (c : CtxId)
  /-- The end of a teardown (R335). -/
  | teardown (c : CtxId)
  deriving DecidableEq, Repr

/-- A staging bank of a context in a region (R73, R74). -/
structure Bank where
  bytes : Memory
  /-- Tag: router or pair, generation, scale; none when cleared. -/
  tag : Option (Nat × Nat × Nat)
  /-- Shape 3 pair: the tag names a pair of routers. -/
  pair : Bool
  /-- Bytes loaded. -/
  size : Nat
  /-- A read of its load was answered with an error: its check bits mark it uncorrectable (R317, R445). -/
  poison : Bool
  deriving DecidableEq, Repr

/-- One basin that is allocated (R280). -/
structure Basin where
  count : Nat
  persistent : Bool
  deriving DecidableEq, Repr

/-- A context (R296 to R302). -/
structure Ctx where
  /-- R297. -/
  state : Nat
  /-- The attributes of R298, as the context record of R334 gives them. -/
  record : Bytes
  /-- The record of a SHARE_SET that waits for IDLE (R298). -/
  pendingRecord : Option Bytes
  fused : Bool
  windows : Tab (BitVec 128)
  routers : Tab (BitVec 512)
  generation : Nat
  /-- Burn tables by router (R196). -/
  burn : Tab (List W32)
  load : Tab (List Nat)
  window : Tab Nat
  schedules : Tab (List W32)
  seed : W64
  /-- Installed plate sets by slot, with their WCET (R341). -/
  sets : Tab (Nat × List Image)
  /-- Allocated basins by handle; an unlisted basin is free (R279, R280). -/
  basins : Tab Basin
  /-- Staging banks: 2·region + bank. -/
  banks : Tab Bank
  /-- ACTIVE bit by region (R75). -/
  active : Tab Nat
  /-- Bank of the latest STAGE_LOAD by region (R313). -/
  latest : Tab Nat
  /-- First granule and granules of the share; none when not resident. -/
  share : Option (Nat × Nat)
  vtime : Nat
  lastRing : Nat
  idleSince : Nat
  blockedSince : Nat
  wasIdle : Bool
  budget : Nat
  faultCode : Nat
  heads : Tab Head
  /-- Completions held while CPL_RING.ENABLE is 0 (R350). -/
  held : List Ended
  /-- Sequence changes waiting for their step boundary (R303). -/
  seqWait : List Command
  /-- A CONTEXT_CLOSE waits for the next membership epoch boundary (R335). -/
  closing : Bool
  dirtyBanks : List Nat
  dirtyBurn : List Nat
  dirtySlots : List Nat
  /-- A save has put its state into its HBM save area, from which the next load restores it (R313). -/
  saved : Bool
  /-- The completion ring caused the teardown (R318). -/
  cplFault : Bool
  /-- Commands that were running when a teardown began, in order of validation (R318). -/
  tornRunning : List Ended
  deriving DecidableEq, Repr

/-- A transaction in a slot of a memory port (R146, R454). -/
structure MemTx where
  tag : Nat
  write : Bool
  unit : Nat
  /-- Region-store byte that byte 0 of the unit would land at (reads), as an integer. -/
  dest : Int
  /-- Bytes of the unit that the transaction moves. -/
  keep : List Nat
  sent : Bool
  /-- A write whose operation has ended without its answer (R146). -/
  late : Bool
  /-- A read of a STAGE_LOAD: its context and bank. -/
  bank : Option (Nat × Nat)
  deriving DecidableEq, Repr

/-- A memory port (R454, R455). -/
structure MemPort where
  rdCredit : Nat
  wrCredit : Nat
  txs : List MemTx
  /-- Transactions of the running operation that have still to take a slot (R146). -/
  todo : List MemTx
  nextTag : Nat
  /-- Times (ns) of the error responses of the last millisecond (R445). -/
  errors : List Nat
  deriving DecidableEq, Repr

/-- A packet in an inlet, a transmit queue or a retry buffer. -/
structure Packet where
  cls : Nat
  ctx : Nat
  bytes : Bytes
  deriving DecidableEq, Repr

/-- A frame kept for resend (R367). -/
structure TxFrame where
  seq : Nat
  packets : List Packet
  deriving DecidableEq, Repr

/-- A change of the lanes in service that a WIDTH has named (R386). -/
structure WidthChange where
  lanes : Nat
  /-- FRAME_SEQ of the switch frame. -/
  switch : Nat
  /-- This end proposed it. -/
  own : Bool
  /-- The other end has it too: a WIDTH_ACK was sent or received. -/
  agreed : Bool
  deriving DecidableEq, Repr

/-- A link port (R363 to R389). -/
structure Link where
  /-- Step of R380 in progress, 1 to 6; 0 when none. -/
  step : Nat
  /-- Training in full, not from saved settings. -/
  full : Bool
  /-- Packets ready at the transmitter, in order of arrival. -/
  queue : List Packet
  /-- Frames sent and not acknowledged, at most 32. -/
  frames : List TxFrame
  nextSeq : Nat
  /-- Next frame to send again, when a NAK asked for it. -/
  resend : Option Nat
  expect : Nat
  nakOwed : Bool
  /-- A packet whose first units have arrived, and its length. -/
  partly : Option (Packet × Nat)
  /-- The streams as they were before that packet's first unit. -/
  mark : Tab (Nat × Bytes × Bool)
  /-- Streams by 16·class + context: bytes still to come, the header, and whether it carries manifest entries (R366). -/
  streams : Tab (Nat × Bytes × Bool)
  sent : Nat
  mgmtSent : Nat
  taken : Nat
  mgmtTaken : Nat
  /-- The latest SPACE: FILL_BYTES, NEXT_BYTES, MGMT_ROOM, TAKEN, MGMT_TAKEN. -/
  space : Option (Nat × Nat × Nat × Nat × Nat)
  spaceSeq : Nat
  width : Option WidthChange
  widthSeq : Nat
  /-- Lanes in retraining, and failures per lane. -/
  retraining : List Nat
  failures : Tab Nat
  /-- The lane of the next eye scan. -/
  nextScan : Nat
  /-- Frame slots since the last stolen calibration frame. -/
  steal : Nat
  /-- Round trips measured in training step 5. -/
  probes : Nat
  /-- The time since when a LINK_SEND waits for room in the transmit buffer (R387). -/
  heldFrom : Option Nat
  deriving DecidableEq, Repr

/-- One of the two banks of an inlet (R286, R288): committed, unconsumed packets in commit order and bytes written. -/
structure InletBank where
  packets : List (Nat × Packet)
  used : Nat
  deriving DecidableEq, Repr

/-- An inlet (R286 to R293). -/
structure Inlet where
  bank0 : InletBank
  bank1 : InletBank
  fill : Nat
  order : Nat
  /-- Bytes of a packet that is partly written, at the write offset of the filling bank; 0 when none is. -/
  part : Nat
  /-- Management queue: packets, and words of the oldest already read. -/
  mgmt : List Bytes
  mgmtWord : Nat
  /-- The level event is armed (R293). -/
  armed : Bool
  /-- A flush that waits for a packet boundary: CLASS_MASK, and the context it matches (R292). -/
  flush : Option (Nat × Option Nat)
  deriving DecidableEq, Repr

/-- A die-to-die edge (R376 to R381). -/
structure Edge where
  step : Nat
  full : Bool
  nextSeq : Nat
  expect : Nat
  nakOwed : Bool
  /-- Flits sent and kept, number and 64 + 2,048 bits. -/
  kept : List (Nat × W64 × Bytes)
  /-- Times (ns) of resends in the last millisecond. -/
  resends : List Nat
  /-- Transfers that are arriving, newest first: class, prologue, and bytes behind it so far (R377, R378). -/
  opening : List (Nat × Bytes × Nat)
  retraining : Bool
  retrained : Bool
  deriving DecidableEq, Repr

/-- A stream in a landing ring (R138): the packets of it committed so far. -/
structure Landing where
  ctx : Nat
  member : Nat
  cls : Nat
  bytes : Bytes
  /-- It carries manifest entries, not rows. -/
  entry : Bool
  complete : Bool
  mapped : Bool
  deriving DecidableEq, Repr

/-- A reset in progress or a fence of a cluster or a cell. -/
structure ClusterUnit where
  /-- 0 live, 1 resetting, 2 fenced. -/
  state : Nat
  /-- Cells that are resetting. -/
  resetting : List Nat
  /-- Physical cells out of service: failed in self-test, without the whole microcode, or replaced (R406, R414). -/
  fencedCells : List Nat
  /-- Spare map: logical cell each spare serves (R439). -/
  spare0 : Option Nat
  spare1 : Option Nat
  /-- A spare to be mapped by the cluster reset in progress. -/
  mapping : Option Nat
  /-- Last fault time (ns) of each cell. -/
  lastFault : Tab Nat
  /-- 64 KiB blocks of the slice that have had an uncorrectable fault. -/
  blocks : List Nat
  deriving DecidableEq, Repr

/-- The IEEE 1500 wrapper (R467 to R469). -/
structure Wrapper where
  wir : Byte
  /-- What a capture of WIR shows. -/
  wby : Bool
  wbr : Bytes
  /-- The data register as last captured. -/
  dr : BitVec 80
  scan : Bytes
  deriving DecidableEq, Repr

/-- A viewfinder channel (R470): its queue, its previous sample, the tc since its last push, samples lost since, a trigger in this tc, and
VF_D. -/
structure VfChannel where
  queue : List W32
  value : Nat
  age : Nat
  gap : Bool
  mark : Bool
  out : W32
  deriving DecidableEq, Repr

/-- A region's viewfinder (R470): its channels; a pulse of VF_TRIG_OUT that waits for the next VF_CLK cycle, and the pin. -/
structure Viewfinder where
  channels : Tab VfChannel
  pulse : Bool
  trigOut : Bool
  deriving DecidableEq, Repr

/-- A region (R16). -/
structure Region where
  /-- 0 absent, 1 live, 2 resetting, 3 fenced (R423). -/
  health : Nat
  /-- The ROM step passed. -/
  rom : Bool
  /-- The Clocks step has ended: the window answers (R405, R428). -/
  clocks : Bool
  tc : Nat
  store : Memory
  /-- 64-byte units of the region store whose check bits mark them uncorrectable (R445, R457). -/
  poison : List Nat
  /-- Regulator buckets: memory partitions 0 to 7, then link (R309). -/
  buckets : Tab Nat
  /-- Bucket parameters in force: REG_MEM by partition, then REG_LINK, as of the latest refill tick (R320). -/
  rates : Tab W64
  lastCtx : Option Nat
  memPorts : Tab MemPort
  links : Tab Link
  inlets : Tab Inlet
  edges : Tab Edge
  transfers : List Transfer
  landing : List Landing
  /-- Expert work descriptors, oldest first; what stands beyond 2,048 is held by a B_HAND (R144). -/
  workQueue : List (BitVec 512)
  /-- TIME at which a descriptor met a full queue. -/
  heldFrom : Option Nat
  clusters : Tab ClusterUnit
  wrapper : Wrapper
  view : Viewfinder
  /-- Suspect columns with their faults (R92, R414). -/
  suspects : List Nat
  resetAtBoundary : Bool
  /-- Stall in progress: its deficit (R471), and the cycle at which it ends. -/
  stall : Nat
  stallEnd : Nat
  /-- Read-channel answers given: id, error, data (R460). -/
  erAnswers : List (Nat × Bool × Bytes)
  /-- Tile-port beats and rows of the current tc (R471). -/
  beats : Nat
  deriving DecidableEq, Repr

/-- A confluence call at this member (R220 to R228). -/
structure Call where
  cmd : Option Command
  /-- Fused calls: the run and region operations that made it. -/
  run : Option W32
  sizeBlocks : Nat
  format : Nat
  destMask : Nat
  /-- Trees in use: bit 0 east, bit 1 west. -/
  trees : Nat
  /-- 0 WAITING, 1 ARMING, 2 DATA, 3 ABORTED, 4 DONE. -/
  phase : Nat
  issue : Nat
  /-- Signatures received, by tree and member: (tree, member, match, first differing, signature). -/
  arms : List (Nat × Nat × Bool × Nat × Bytes)
  /-- Verdict received or sent by tree: none, or GO = true. -/
  verdicts : Tab Bool
  /-- Local sums L by element, FP32 (R212). -/
  local_ : List W32
  /-- Slabs received up: (tree, member, slab, decoded values). -/
  up : List (Nat × Nat × Nat × List W32)
  /-- Next slab to form, by tree. -/
  nextUp : Tab Nat
  /-- Result slabs written, by tree. -/
  done : Tab Nat
  /-- Credit toward (tree, direction, member): slabs. -/
  credit : List (Nat × Nat × Nat × Nat)
  /-- Slabs held for credit: (tree, direction, member, packet). -/
  waiting : List (Nat × Nat × Nat × Bytes)
  nonfinite : Bool
  /-- Part of it lay in safelight (R418). -/
  lit : Bool
  /-- The leader's tc at which a neighbour was last heard (R226). -/
  heard : Tab Nat
  /-- The leader's tc in which a FAIL or the own watchdog aborted it (R222). -/
  aborted : Option Nat
  deriving DecidableEq, Repr

/-- A confluence group slot (R202 to R205, R231). -/
structure Group where
  defined : Bool
  members : List Nat
  live : List Nat
  excluded : List Nat
  tag : W64
  srSeed : W64
  epoch : Nat
  callSeq : Nat
  /-- 0 UNDEFINED, 1 FORMED, 2 RE-FORMING, 3 EXCLUDED. -/
  state : Nat
  calls : List Call
  /-- Arm packets for the next call that came before it was issued here, as in a call's arms. -/
  early : List (Nat × Nat × Bool × Nat × Bytes)
  /-- Members named in FAIL packets: (failed, detector) (R227). -/
  fails : List (Nat × Nat)
  /-- A FAIL packet that another member sent has been forwarded (R227). -/
  forwarded : Bool
  /-- An epoch change waits for the call to end (R205). -/
  reform : Bool
  deriving DecidableEq, Repr

/-- A proposal of an epoch boundary as it is being received or made (R373, R392). -/
structure Proposal where
  coordinator : Nat
  seq : Nat
  base : Nat
  frags : Nat
  crc : Nat
  /-- Payloads by fragment. -/
  parts : Tab Bytes
  deriving DecidableEq, Repr

/-- Membership (R390 to R394). -/
structure Membership where
  epoch : Nat
  members : List Nat
  /-- 0 STABLE, 1 PROPOSED, 2 ACCEPTED. -/
  phase : Nat
  proposal : Option Proposal
  /-- Boundaries asked for and not yet started. -/
  requested : Bool
  /-- Members that accepted, with their epoch. -/
  accepts : Tab Nat
  holdings : Tab Nat
  /-- Latest announcement of each origin: UID, epoch, sequence, neighbours. -/
  seen : Tab (Nat × Nat × Nat × List Nat)
  reachable : List Nat
  annSeq : Nat
  proposalSeq : Nat
  /-- Link adjacency of the epoch, pairs. -/
  adjacency : List (Nat × Nat)
  /-- Gateway region and port toward each peer. -/
  gateways : Tab (Nat × Nat)
  /-- Next hop toward each member. -/
  routes : Tab Nat
  /-- Link credit toward (1024·peer context + member): credit, announced size. -/
  credit : Tab (Nat × Nat)
  deriving DecidableEq, Repr

/-- Supply, thermal and power-fail inputs and what the engine made of them (R418 to R422, R463, R464). -/
structure Power where
  supply : Nat
  therm : Nat
  strobeLost : Bool
  safelight : Bool
  /-- A switch is named: its cycle, and whether it enters safelight. -/
  switch : Option (Nat × Bool)
  holdRunning : Bool
  powerFail : Bool
  /-- The engine holds an engine reset (R421). -/
  held : Bool
  deriving DecidableEq, Repr

/-- What bring-up read and found (R398 to R408). -/
structure BringUp where
  grade : Nat
  /-- Topology record, 1,088 bytes. -/
  topology : Bytes
  /-- Saved-settings slot in use: 0 none, 1 A, 2 B, and its bytes. -/
  slot : Nat
  saved : Bytes
  generation : Nat
  elapsed : Nat
  /-- Clusters fenced at run time, by region (R415). -/
  fencedRt : Tab Nat
  /-- Crossing budgets in force (R402): LAT_mem by region, LAT_edge by 4·region + edge. -/
  latMem : Tab Nat
  latEdge : Tab Nat
  deriving DecidableEq, Repr

/-- The whole engine, and the commands that are waiting. -/
structure State where
  /-- Silicon stepping byte: 0xA0 or 0xB0 (R235). -/
  stepping : Byte
  /-- Strap CP_BASE[39:28]: the 256 MiB block that the control space begins at (R8, R448). -/
  strap : BitVec 12
  /-- Every register word that differs from its reset value, by offset from E (R8). -/
  regs : Tab W64
  /-- Registers that software clears and that events have changed in the current tc: the bits set, and the word before the tc (R12). -/
  sameTc : Tab (W64 × W64)
  /-- The host chip's fabric memory as the engine sees it (R260). -/
  fabric : Memory
  regions : Tab Region
  ctxs : Tab Ctx
  /-- Events: COUNT and FAULTED (R326). -/
  events : Tab (W32 × Bool)
  /-- Next COMMAND_SEQ (R332). -/
  nextSeq : W32
  runs : List Run
  /-- Copies in flight; calls are with their groups. -/
  copies : List Copying
  /-- Ended commands in completion order (R324). -/
  ended : List Ended
  /-- Ended commands whose completion waits for something else (R263, R335). -/
  deferred : List (Awaits × Ended)
  /-- Validated commands of each context not yet completed, in the order of validation: sequence numbers by context. -/
  flight : List (CtxId × W32)
  slots : Tab SeqSlot
  groups : Tab Group
  membership : Membership
  bringUp : BringUp
  power : Power
  /-- TIME in ns (R447). -/
  time : Nat
  /-- Position within a REFCLK cycle, in tc (R449). -/
  phase : Nat
  /-- The save or load that holds the memory ports: context being loaded and contexts being saved (R312). -/
  loading : Option CtxId
  saving : List CtxId
  /-- Shares that are being relocated (R301). -/
  relocating : Bool
  /-- Control-port answers given: region, tag, error, data (R452). -/
  answers : List (RegionId × BitVec 6 × Bool × W64)
  /-- The model's own: how many free values the run has used (log 7). -/
  freeCtr : Nat
  /-- The model's own: commands waiting, first in first out. -/
  pending : List Instr
  deriving DecidableEq, Repr

/-- Why a command stops the machine. -/
inductive Fault where
  /-- Raised by every command whose operand does not fit the signal or structure it stands for (WellFormed is false):
  no such command can reach the block. Safe: the block never sees it. -/
  | malformed
  deriving DecidableEq, Repr

/-- Why a command has no meaning in this model. -/
inductive Refusal where
  /-- Raised by an arm of exec whose command has no meaning yet. Safe: nothing is claimed of it. -/
  | notModelled (mnemonic : String)
  deriving DecidableEq, Repr

/-- A memory port after reset: no credit, nothing outstanding (R455). -/
def MemPort.reset : MemPort := ⟨0, 0, [], [], 0, []⟩
/-- A link port after reset: DOWN and empty (R395). -/
def Link.reset : Link :=
  { step := 0, full := true, queue := [], frames := [], nextSeq := 0, resend := none, expect := 0, nakOwed := false,
    partly := none, mark := [], streams := [], sent := 0, mgmtSent := 0, taken := 0, mgmtTaken := 0, space := none,
    spaceSeq := 0, width := none, widthSeq := 0, retraining := [], failures := [], nextScan := 0, steal := 0, probes := 0,
    heldFrom := none }
/-- An inlet after reset: bank 0 fills, bank 1 is free (R288). -/
def Inlet.reset : Inlet := ⟨⟨[], 0⟩, ⟨[], 0⟩, 0, 0, 0, [], 0, true, none⟩
/-- An edge after reset: DOWN and empty (R396). -/
def Edge.reset : Edge := ⟨0, true, 0, 0, false, [], [], [], false, false⟩
/-- A cluster before any self-test: everything as built (log 1). -/
def ClusterUnit.reset : ClusterUnit := ⟨0, [], [], none, none, none, [], []⟩
/-- The wrapper with WS_BYPASS in force (R467); its data registers at 0 (log 1). -/
def Wrapper.reset : Wrapper := ⟨0, false, [], 0, []⟩
/-- A viewfinder channel with an empty queue (R470). -/
def VfChannel.reset : VfChannel := ⟨[], 0, 0, false, false, 0⟩
def Viewfinder.reset : Viewfinder := ⟨[], false, false⟩

/-- A region after reset, before its ROM step. -/
def Region.reset : Region :=
  { health := 0, rom := false, clocks := false, tc := 0, store := [], poison := [], buckets := [], rates := [],
    lastCtx := none, memPorts := [], links := [], inlets := [], edges := [], transfers := [], landing := [], workQueue := [], heldFrom := none,
    clusters := [], wrapper := Wrapper.reset, view := Viewfinder.reset, suspects := [], resetAtBoundary := false, stall := 0, stallEnd := 0,
    erAnswers := [], beats := 0 }

/-- A closed context (R297). -/
def Ctx.closed : Ctx :=
  { state := 0, record := [], pendingRecord := none, fused := false, windows := [], routers := [], generation := 0,
    burn := [], load := [], window := [], schedules := [], seed := 0, sets := [], basins := [], banks := [], active := [],
    latest := [], share := none, vtime := 0, lastRing := 0, idleSince := 0, blockedSince := 0, wasIdle := true,
    budget := 0, faultCode := 0, heads := [], held := [], seqWait := [], closing := false, dirtyBanks := [],
    dirtyBurn := [], dirtySlots := [], saved := false, cplFault := false, tornRunning := [] }

/-- A group slot that is not defined (R231). -/
def Group.undefined : Group :=
  { defined := false, members := [], live := [], excluded := [], tag := 0, srSeed := 0, epoch := 0, callSeq := 0,
    state := 0, calls := [], early := [], fails := [], forwarded := false, reform := false }

/-- A free sequence slot. -/
def SeqSlot.free : SeqSlot :=
  { ctx := 0, tokenFirst := 0, tokenCount := 0, state := 0, negBudget := 0, maxTokens := 0, maxAge := 0, schedule := 0,
    joinStep := 0, layerSkip := 0, planes := [], tables := [] }

/-- Membership before the first COMMIT: epoch 0, the engine alone (R394). -/
def Membership.reset : Membership :=
  { epoch := 0, members := [0], phase := 0, proposal := none, requested := false, accepts := [], holdings := [],
    seen := [], reachable := [], annSeq := 0, proposalSeq := 0, adjacency := [], gateways := [], routes := [],
    credit := [] }

/-- The power inputs at reset (log 1): supply MAIN, 0 °C, no power-fail. -/
def Power.reset : Power :=
  { supply := 0, therm := 0, strobeLost := false, safelight := false, switch := none, holdRunning := false,
    powerFail := false, held := false }

/-- No record read yet. -/
def BringUp.reset : BringUp :=
  { grade := 0, topology := [], slot := 0, saved := [], generation := 0, elapsed := 0, fencedRt := [],
    latMem := [], latEdge := [] }

/-- The engine in reset (R403 STATE 0, R450): every register at its reset value, no region live, every memory and queue empty, no
context open. RESET_N, the first command that does anything here, lets it out of reset. -/
def State.reset : State :=
  { stepping := 0xB0, strap := 0x100, regs := [], sameTc := [], fabric := [], regions := [], ctxs := [], events := [], nextSeq := 1, runs := [], copies := [],
    ended := [], deferred := [], flight := [], slots := [], groups := [], membership := Membership.reset, bringUp := BringUp.reset,
    power := Power.reset, time := 0, phase := 0, loading := none, saving := [], relocating := false, answers := [],
    freeCtr := 0, pending := [] }

end Sys2Proof.Machine
end

