-- ==== Sys2Proof/Machine/RegMap.lean ====
section
/-! DEFINITION. Sys2Proof/Machine/RegMap.lean: the field maps of every page kind, as the manual's register tables give them:
the common header (R429), then each kind's own registers, with access code and reset value (R11, R14). -/

namespace Sys2Proof.Machine

/-- Access codes of R11; own is RW for the signal sources of SRC_CFG and read-only 0 for the others (R362). -/
inductive Access where
  | ro | rw | w1c | wo | rc | own
  deriving DecidableEq, Repr

/-- A field of a register: where it stands in a page, for the first of repeated registers. -/
structure Fld where
  off : Nat
  hi : Nat
  lo : Nat
  deriving DecidableEq, Repr

/-- A field of a field map: bits, access code, reset value. -/
structure FieldSpec where
  hi : Nat
  lo : Nat
  acc : Access
  reset : Nat
  deriving DecidableEq, Repr

/-- A register of a page kind, or count registers stride bytes apart. -/
structure RegSpec where
  base : Nat
  count : Nat
  stride : Nat
  fields : List FieldSpec
  deriving DecidableEq, Repr

/-- Field ARRAY_STATE_MATH_TABLE_ID of the register tables. -/
def Fld.ARRAY_STATE_MATH_TABLE_ID : Fld := ⟨0x80, 23, 16⟩
/-- Field ARRAY_STATE_WIDTH of the register tables. -/
def Fld.ARRAY_STATE_WIDTH : Fld := ⟨0x80, 15, 14⟩
/-- Field ARRAY_STATE_HALF of the register tables. -/
def Fld.ARRAY_STATE_HALF : Fld := ⟨0x80, 13, 13⟩
/-- Field ARRAY_STATE_SPARES_USED of the register tables. -/
def Fld.ARRAY_STATE_SPARES_USED : Fld := ⟨0x80, 1, 0⟩
/-- Field COLUMN_MAP_SUSPECT of the register tables. -/
def Fld.COLUMN_MAP_SUSPECT : Fld := ⟨0x88, 27, 19⟩
/-- Field COLUMN_MAP_BYPASS_1 of the register tables. -/
def Fld.COLUMN_MAP_BYPASS_1 : Fld := ⟨0x88, 17, 9⟩
/-- Field COLUMN_MAP_BYPASS_0 of the register tables. -/
def Fld.COLUMN_MAP_BYPASS_0 : Fld := ⟨0x88, 8, 0⟩
/-- Field EXT_CFG_EXT_TIMEOUT of the register tables. -/
def Fld.EXT_CFG_EXT_TIMEOUT : Fld := ⟨0x90, 31, 16⟩
/-- Field EXT_CFG_EXT_NONDET of the register tables. -/
def Fld.EXT_CFG_EXT_NONDET : Fld := ⟨0x90, 1, 1⟩
/-- Field EXT_CFG_EXT_PRESENT of the register tables. -/
def Fld.EXT_CFG_EXT_PRESENT : Fld := ⟨0x90, 0, 0⟩
/-- Field NAN_COUNT_COUNT of the register tables. -/
def Fld.NAN_COUNT_COUNT : Fld := ⟨0x98, 31, 0⟩
/-- Field TILE_CFG_TILE_TIMEOUT of the register tables. -/
def Fld.TILE_CFG_TILE_TIMEOUT : Fld := ⟨0x80, 31, 16⟩
/-- Field TILE_CFG_LAG_INIT_SCALE of the register tables. -/
def Fld.TILE_CFG_LAG_INIT_SCALE : Fld := ⟨0x80, 7, 0⟩
/-- Field STRAY_COUNT_COUNT of the register tables. -/
def Fld.STRAY_COUNT_COUNT : Fld := ⟨0x88, 31, 0⟩
/-- Field OVERRUN_COUNT_COUNT of the register tables. -/
def Fld.OVERRUN_COUNT_COUNT : Fld := ⟨0x90, 31, 0⟩
/-- Field SKIP_COUNT_COUNT of the register tables. -/
def Fld.SKIP_COUNT_COUNT : Fld := ⟨0x80, 31, 0⟩
/-- Field REJECT_COUNT_AGED of the register tables. -/
def Fld.REJECT_COUNT_AGED : Fld := ⟨0x88, 47, 24⟩
/-- Field REJECT_COUNT_MISMATCH of the register tables. -/
def Fld.REJECT_COUNT_MISMATCH : Fld := ⟨0x88, 23, 0⟩
/-- Field UPDATE_COUNT_COUNT of the register tables. -/
def Fld.UPDATE_COUNT_COUNT : Fld := ⟨0x80, 31, 0⟩
/-- Field LAST_UPDATE_CONTEXT of the register tables. -/
def Fld.LAST_UPDATE_CONTEXT : Fld := ⟨0x88, 43, 40⟩
/-- Field LAST_UPDATE_ROUTER of the register tables. -/
def Fld.LAST_UPDATE_ROUTER : Fld := ⟨0x88, 39, 33⟩
/-- Field LAST_UPDATE_RAISED of the register tables. -/
def Fld.LAST_UPDATE_RAISED : Fld := ⟨0x88, 32, 22⟩
/-- Field LAST_UPDATE_LOWERED of the register tables. -/
def Fld.LAST_UPDATE_LOWERED : Fld := ⟨0x88, 21, 11⟩
/-- Field LAST_UPDATE_CLAMPED of the register tables. -/
def Fld.LAST_UPDATE_CLAMPED : Fld := ⟨0x88, 10, 0⟩
/-- Field LAST_SPREAD_MAX_LOAD of the register tables. -/
def Fld.LAST_SPREAD_MAX_LOAD : Fld := ⟨0x90, 63, 32⟩
/-- Field LAST_SPREAD_MIN_LOAD of the register tables. -/
def Fld.LAST_SPREAD_MIN_LOAD : Fld := ⟨0x90, 31, 0⟩
/-- Field CF_CFG_WATCHDOG of the register tables. -/
def Fld.CF_CFG_WATCHDOG : Fld := ⟨0x80, 31, 0⟩
/-- Field LAST_FAIL_GROUP of the register tables. -/
def Fld.LAST_FAIL_GROUP : Fld := ⟨0x88, 47, 42⟩
/-- Field LAST_FAIL_FAILED_MEMBER of the register tables. -/
def Fld.LAST_FAIL_FAILED_MEMBER : Fld := ⟨0x88, 41, 32⟩
/-- Field LAST_FAIL_NEW_EPOCH of the register tables. -/
def Fld.LAST_FAIL_NEW_EPOCH : Fld := ⟨0x88, 31, 0⟩
/-- Field CALL_COUNT_COUNT of the register tables. -/
def Fld.CALL_COUNT_COUNT : Fld := ⟨0x90, 31, 0⟩
/-- Field REFORM_COUNT_COUNT of the register tables. -/
def Fld.REFORM_COUNT_COUNT : Fld := ⟨0x98, 31, 0⟩
/-- Field MISMATCH_COUNT_COUNT of the register tables. -/
def Fld.MISMATCH_COUNT_COUNT : Fld := ⟨0xA0, 31, 0⟩
/-- Field STALE_COUNT_COUNT of the register tables. -/
def Fld.STALE_COUNT_COUNT : Fld := ⟨0xA8, 31, 0⟩
/-- Field GROUP_STATE_GROUP_EPOCH of the register tables. -/
def Fld.GROUP_STATE_GROUP_EPOCH : Fld := ⟨0x100, 63, 32⟩
/-- Field GROUP_STATE_STATE of the register tables. -/
def Fld.GROUP_STATE_STATE : Fld := ⟨0x100, 31, 30⟩
/-- Field GROUP_STATE_LIVE of the register tables. -/
def Fld.GROUP_STATE_LIVE : Fld := ⟨0x100, 20, 10⟩
/-- Field GROUP_STATE_SELF_POS of the register tables. -/
def Fld.GROUP_STATE_SELF_POS : Fld := ⟨0x100, 9, 0⟩
/-- Field REPRO_SIG_STEPPING of the register tables. -/
def Fld.REPRO_SIG_STEPPING : Fld := ⟨0x80, 63, 56⟩
/-- Field REPRO_SIG_MATH_TABLE_ID of the register tables. -/
def Fld.REPRO_SIG_MATH_TABLE_ID : Fld := ⟨0x80, 55, 48⟩
/-- Field REPRO_SIG_ARITH_SET of the register tables. -/
def Fld.REPRO_SIG_ARITH_SET : Fld := ⟨0x80, 47, 40⟩
/-- Field ARITH_OPT_SET of the register tables. -/
def Fld.ARITH_OPT_SET : Fld := ⟨0x88, 7, 0⟩
/-- Field PROOF_LOST_COUNT of the register tables. -/
def Fld.PROOF_LOST_COUNT : Fld := ⟨0x90, 31, 0⟩
/-- Field CONTACT_BASE_BASE of the register tables. -/
def Fld.CONTACT_BASE_BASE : Fld := ⟨0x100, 63, 6⟩
/-- Field CONTACT_CTL_ENABLE of the register tables. -/
def Fld.CONTACT_CTL_ENABLE : Fld := ⟨0x108, 8, 8⟩
/-- Field CONTACT_CTL_SIZE_LOG2 of the register tables. -/
def Fld.CONTACT_CTL_SIZE_LOG2 : Fld := ⟨0x108, 4, 0⟩
/-- Field CONTACT_HEAD_NEXT_SEQ of the register tables. -/
def Fld.CONTACT_HEAD_NEXT_SEQ : Fld := ⟨0x110, 63, 32⟩
/-- Field CONTACT_HEAD_HEAD of the register tables. -/
def Fld.CONTACT_HEAD_HEAD : Fld := ⟨0x110, 31, 0⟩
/-- Field CONTACT_TAIL_TAIL of the register tables. -/
def Fld.CONTACT_TAIL_TAIL : Fld := ⟨0x118, 31, 0⟩
/-- Field BASIN_SEL_CONTEXT of the register tables. -/
def Fld.BASIN_SEL_CONTEXT : Fld := ⟨0x80, 3, 0⟩
/-- Field BASIN_SWEPT_COUNT of the register tables. -/
def Fld.BASIN_SWEPT_COUNT : Fld := ⟨0x88, 31, 0⟩
/-- Field EXHAUST_COUNT_COUNT of the register tables. -/
def Fld.EXHAUST_COUNT_COUNT : Fld := ⟨0x90, 31, 0⟩
/-- Field BAD_HANDLE_COUNT of the register tables. -/
def Fld.BAD_HANDLE_COUNT : Fld := ⟨0x98, 31, 0⟩
/-- Field POOL_STATE_FREE of the register tables. -/
def Fld.POOL_STATE_FREE : Fld := ⟨0x100, 47, 24⟩
/-- Field POOL_STATE_TOTAL of the register tables. -/
def Fld.POOL_STATE_TOTAL : Fld := ⟨0x100, 23, 0⟩
/-- Field INLET_CTL_MGMT_OWNER of the register tables. -/
def Fld.INLET_CTL_MGMT_OWNER : Fld := ⟨0x80, 0, 0⟩
/-- Field INLET_LEVEL_LEVEL of the register tables. -/
def Fld.INLET_LEVEL_LEVEL : Fld := ⟨0x88, 11, 0⟩
/-- Field INLET_FLUSH_CTX of the register tables. -/
def Fld.INLET_FLUSH_CTX : Fld := ⟨0x90, 11, 8⟩
/-- Field INLET_FLUSH_CTX_MATCH of the register tables. -/
def Fld.INLET_FLUSH_CTX_MATCH : Fld := ⟨0x90, 4, 4⟩
/-- Field INLET_FLUSH_CLASS_MASK of the register tables. -/
def Fld.INLET_FLUSH_CLASS_MASK : Fld := ⟨0x90, 3, 0⟩
/-- Field INLET_OCC_FILL_BANK of the register tables. -/
def Fld.INLET_OCC_FILL_BANK : Fld := ⟨0x98, 48, 48⟩
/-- Field INLET_OCC_OCCUPANCY of the register tables. -/
def Fld.INLET_OCC_OCCUPANCY : Fld := ⟨0x98, 45, 34⟩
/-- Field INLET_OCC_BANK1_USED of the register tables. -/
def Fld.INLET_OCC_BANK1_USED : Fld := ⟨0x98, 33, 17⟩
/-- Field INLET_OCC_BANK0_USED of the register tables. -/
def Fld.INLET_OCC_BANK0_USED : Fld := ⟨0x98, 16, 0⟩
/-- Field CRC_DROP_COUNT of the register tables. -/
def Fld.CRC_DROP_COUNT : Fld := ⟨0xA0, 31, 0⟩
/-- Field FLUSH_DROP_COUNT of the register tables. -/
def Fld.FLUSH_DROP_COUNT : Fld := ⟨0xA8, 31, 0⟩
/-- Field MGMT_READ_VALID of the register tables. -/
def Fld.MGMT_READ_VALID : Fld := ⟨0xB0, 63, 63⟩
/-- Field MGMT_READ_FIRST of the register tables. -/
def Fld.MGMT_READ_FIRST : Fld := ⟨0xB0, 62, 62⟩
/-- Field MGMT_READ_LAST of the register tables. -/
def Fld.MGMT_READ_LAST : Fld := ⟨0xB0, 61, 61⟩
/-- Field MGMT_READ_WORD of the register tables. -/
def Fld.MGMT_READ_WORD : Fld := ⟨0xB0, 37, 32⟩
/-- Field MGMT_READ_DATA of the register tables. -/
def Fld.MGMT_READ_DATA : Fld := ⟨0xB0, 31, 0⟩
/-- Field SCHED_CFG_IDLE_GRACE of the register tables. -/
def Fld.SCHED_CFG_IDLE_GRACE : Fld := ⟨0x80, 31, 0⟩
/-- Field EVICT_COUNT_COUNT of the register tables. -/
def Fld.EVICT_COUNT_COUNT : Fld := ⟨0x88, 31, 0⟩
/-- Field LAST_EVICT_FOR_CONTEXT of the register tables. -/
def Fld.LAST_EVICT_FOR_CONTEXT : Fld := ⟨0x90, 15, 12⟩
/-- Field LAST_EVICT_CONTEXT of the register tables. -/
def Fld.LAST_EVICT_CONTEXT : Fld := ⟨0x90, 11, 8⟩
/-- Field LAST_EVICT_CAUSE of the register tables. -/
def Fld.LAST_EVICT_CAUSE : Fld := ⟨0x90, 1, 0⟩
/-- Field TEARDOWN_COUNT_COUNT of the register tables. -/
def Fld.TEARDOWN_COUNT_COUNT : Fld := ⟨0x98, 31, 0⟩
/-- Field CTX_STATE_FAULT_CODE of the register tables. -/
def Fld.CTX_STATE_FAULT_CODE : Fld := ⟨0x100, 63, 48⟩
/-- Field CTX_STATE_SHARE_BASE of the register tables. -/
def Fld.CTX_STATE_SHARE_BASE : Fld := ⟨0x100, 42, 38⟩
/-- Field CTX_STATE_SHARE_G of the register tables. -/
def Fld.CTX_STATE_SHARE_G : Fld := ⟨0x100, 37, 32⟩
/-- Field CTX_STATE_PARTITION of the register tables. -/
def Fld.CTX_STATE_PARTITION : Fld := ⟨0x100, 31, 29⟩
/-- Field CTX_STATE_PRIORITY of the register tables. -/
def Fld.CTX_STATE_PRIORITY : Fld := ⟨0x100, 28, 28⟩
/-- Field CTX_STATE_ISSUE_SHARE of the register tables. -/
def Fld.CTX_STATE_ISSUE_SHARE : Fld := ⟨0x100, 27, 20⟩
/-- Field CTX_STATE_ACTIVITY of the register tables. -/
def Fld.CTX_STATE_ACTIVITY : Fld := ⟨0x100, 17, 16⟩
/-- Field CTX_STATE_STATE of the register tables. -/
def Fld.CTX_STATE_STATE : Fld := ⟨0x100, 2, 0⟩
/-- Field CTX_VTIME_VTIME of the register tables. -/
def Fld.CTX_VTIME_VTIME : Fld := ⟨0x180, 47, 0⟩
/-- Field REG_MEM_DEPTH of the register tables. -/
def Fld.REG_MEM_DEPTH : Fld := ⟨0x200, 39, 20⟩
/-- Field REG_MEM_RATE of the register tables. -/
def Fld.REG_MEM_RATE : Fld := ⟨0x200, 19, 0⟩
/-- Field REG_LINK_DEPTH of the register tables. -/
def Fld.REG_LINK_DEPTH : Fld := ⟨0x240, 39, 20⟩
/-- Field REG_LINK_RATE of the register tables. -/
def Fld.REG_LINK_RATE : Fld := ⟨0x240, 19, 0⟩
/-- Field CMD_RING_BASE of the register tables. -/
def Fld.CMD_RING_BASE : Fld := ⟨0x80, 63, 12⟩
/-- Field CMD_RING_ENABLE of the register tables. -/
def Fld.CMD_RING_ENABLE : Fld := ⟨0x80, 5, 5⟩
/-- Field CMD_RING_SIZE_LOG2 of the register tables. -/
def Fld.CMD_RING_SIZE_LOG2 : Fld := ⟨0x80, 4, 0⟩
/-- Field CPL_RING_BASE of the register tables. -/
def Fld.CPL_RING_BASE : Fld := ⟨0xC0, 63, 12⟩
/-- Field CPL_RING_ENABLE of the register tables. -/
def Fld.CPL_RING_ENABLE : Fld := ⟨0xC0, 5, 5⟩
/-- Field CPL_RING_SIZE_LOG2 of the register tables. -/
def Fld.CPL_RING_SIZE_LOG2 : Fld := ⟨0xC0, 4, 0⟩
/-- Field CMD_PTR_TAIL of the register tables. -/
def Fld.CMD_PTR_TAIL : Fld := ⟨0x88, 63, 32⟩
/-- Field CMD_PTR_HEAD of the register tables. -/
def Fld.CMD_PTR_HEAD : Fld := ⟨0x88, 31, 0⟩
/-- Field CPL_PTR_TAIL of the register tables. -/
def Fld.CPL_PTR_TAIL : Fld := ⟨0xC8, 63, 32⟩
/-- Field CPL_PTR_HEAD of the register tables. -/
def Fld.CPL_PTR_HEAD : Fld := ⟨0xC8, 31, 0⟩
/-- Field HOLDOFF_ACTIVE of the register tables. -/
def Fld.HOLDOFF_ACTIVE : Fld := ⟨0x80, 16, 16⟩
/-- Field HOLDOFF of the register tables. -/
def Fld.HOLDOFF : Fld := ⟨0x80, 13, 0⟩
/-- Field TGT_CTL_MASK of the register tables. -/
def Fld.TGT_CTL_MASK : Fld := ⟨0xC0, 1, 1⟩
/-- Field TGT_CTL_ENABLE of the register tables. -/
def Fld.TGT_CTL_ENABLE : Fld := ⟨0xC0, 0, 0⟩
/-- Field TGT_CLAIM_VALID of the register tables. -/
def Fld.TGT_CLAIM_VALID : Fld := ⟨0x140, 63, 63⟩
/-- Field TGT_CLAIM_SOURCE of the register tables. -/
def Fld.TGT_CLAIM_SOURCE : Fld := ⟨0x140, 7, 0⟩
/-- Field WAKE_STATE_WAKE of the register tables. -/
def Fld.WAKE_STATE_WAKE : Fld := ⟨0x1C0, 0, 0⟩
/-- Field SIGNAL_DROP_COUNT of the register tables. -/
def Fld.SIGNAL_DROP_COUNT : Fld := ⟨0x1C8, 31, 0⟩
/-- Field PENDING of the register tables. -/
def Fld.PENDING : Fld := ⟨0x200, 63, 0⟩
/-- Field DELIVERED of the register tables. -/
def Fld.DELIVERED : Fld := ⟨0x220, 63, 0⟩
/-- Field SRC_CFG_LAST_TARGET of the register tables. -/
def Fld.SRC_CFG_LAST_TARGET : Fld := ⟨0x400, 35, 32⟩
/-- Field SRC_CFG_OWNER of the register tables. -/
def Fld.SRC_CFG_OWNER : Fld := ⟨0x400, 27, 24⟩
/-- Field SRC_CFG_ENABLE of the register tables. -/
def Fld.SRC_CFG_ENABLE : Fld := ⟨0x400, 16, 16⟩
/-- Field SRC_CFG_TARGETS of the register tables. -/
def Fld.SRC_CFG_TARGETS : Fld := ⟨0x400, 15, 0⟩
/-- Field LINK_STATE_LANES of the register tables. -/
def Fld.LINK_STATE_LANES : Fld := ⟨0x80, 15, 12⟩
/-- Field LINK_STATE_WIDTH of the register tables. -/
def Fld.LINK_STATE_WIDTH : Fld := ⟨0x80, 11, 9⟩
/-- Field LINK_STATE_MIN_WIDTH of the register tables. -/
def Fld.LINK_STATE_MIN_WIDTH : Fld := ⟨0x80, 8, 6⟩
/-- Field LINK_STATE_STATE of the register tables. -/
def Fld.LINK_STATE_STATE : Fld := ⟨0x80, 5, 3⟩
/-- Field LINK_STATE_REASON of the register tables. -/
def Fld.LINK_STATE_REASON : Fld := ⟨0x80, 2, 0⟩
/-- Field LINK_PEER_MEMBER of the register tables. -/
def Fld.LINK_PEER_MEMBER : Fld := ⟨0x88, 41, 32⟩
/-- Field LINK_PEER_REGION of the register tables. -/
def Fld.LINK_PEER_REGION : Fld := ⟨0x88, 26, 24⟩
/-- Field LINK_PEER_PORT of the register tables. -/
def Fld.LINK_PEER_PORT : Fld := ⟨0x88, 23, 22⟩
/-- Field LINK_PEER_VALID of the register tables. -/
def Fld.LINK_PEER_VALID : Fld := ⟨0x88, 0, 0⟩
/-- Field LINK_CFG_MARGIN_MIN of the register tables. -/
def Fld.LINK_CFG_MARGIN_MIN : Fld := ⟨0x90, 63, 56⟩
/-- Field LINK_CFG_CAL_DEADLINE of the register tables. -/
def Fld.LINK_CFG_CAL_DEADLINE : Fld := ⟨0x90, 47, 32⟩
/-- Field LINK_CFG_CAL_INTERVAL of the register tables. -/
def Fld.LINK_CFG_CAL_INTERVAL : Fld := ⟨0x90, 31, 16⟩
/-- Field LINK_CFG_LINK_PAD of the register tables. -/
def Fld.LINK_CFG_LINK_PAD : Fld := ⟨0x90, 8, 0⟩
/-- Field CAL_STATE_CAL_FRAMES of the register tables. -/
def Fld.CAL_STATE_CAL_FRAMES : Fld := ⟨0x98, 63, 32⟩
/-- Field CAL_STATE_STEALING of the register tables. -/
def Fld.CAL_STATE_STEALING : Fld := ⟨0x98, 1, 1⟩
/-- Field FEC_COUNT_UNCORRECTABLE of the register tables. -/
def Fld.FEC_COUNT_UNCORRECTABLE : Fld := ⟨0xA0, 63, 32⟩
/-- Field FEC_COUNT_CORRECTED of the register tables. -/
def Fld.FEC_COUNT_CORRECTED : Fld := ⟨0xA0, 31, 0⟩
/-- Field RETRY_COUNT_RELAY_DROP of the register tables. -/
def Fld.RETRY_COUNT_RELAY_DROP : Fld := ⟨0xA8, 63, 48⟩
/-- Field RETRY_COUNT_PAD_MISS of the register tables. -/
def Fld.RETRY_COUNT_PAD_MISS : Fld := ⟨0xA8, 47, 32⟩
/-- Field RETRY_COUNT_RESENT of the register tables. -/
def Fld.RETRY_COUNT_RESENT : Fld := ⟨0xA8, 31, 0⟩
/-- Field LANE_EQ_TX_PRE2 of the register tables. -/
def Fld.LANE_EQ_TX_PRE2 : Fld := ⟨0x100, 63, 58⟩
/-- Field LANE_EQ_TX_PRE1 of the register tables. -/
def Fld.LANE_EQ_TX_PRE1 : Fld := ⟨0x100, 57, 52⟩
/-- Field LANE_EQ_TX_MAIN of the register tables. -/
def Fld.LANE_EQ_TX_MAIN : Fld := ⟨0x100, 51, 46⟩
/-- Field LANE_EQ_TX_POST1 of the register tables. -/
def Fld.LANE_EQ_TX_POST1 : Fld := ⟨0x100, 45, 40⟩
/-- Field LANE_EQ_RX_CTLE of the register tables. -/
def Fld.LANE_EQ_RX_CTLE : Fld := ⟨0x100, 39, 35⟩
/-- Field LANE_EQ_SKEW of the register tables. -/
def Fld.LANE_EQ_SKEW : Fld := ⟨0x100, 34, 28⟩
/-- Field LANE_EQ_MARGIN of the register tables. -/
def Fld.LANE_EQ_MARGIN : Fld := ⟨0x100, 27, 20⟩
/-- Field LANE_EQ_POLARITY of the register tables. -/
def Fld.LANE_EQ_POLARITY : Fld := ⟨0x100, 2, 2⟩
/-- Field LANE_EQ_LANE_STATE of the register tables. -/
def Fld.LANE_EQ_LANE_STATE : Fld := ⟨0x100, 1, 0⟩
/-- Field EDGE_STATE_REPAIRED of the register tables. -/
def Fld.EDGE_STATE_REPAIRED : Fld := ⟨0x80, 31, 24⟩
/-- Field EDGE_STATE_MOD1_WIDTH of the register tables. -/
def Fld.EDGE_STATE_MOD1_WIDTH : Fld := ⟨0x80, 23, 22⟩
/-- Field EDGE_STATE_MOD0_WIDTH of the register tables. -/
def Fld.EDGE_STATE_MOD0_WIDTH : Fld := ⟨0x80, 21, 20⟩
/-- Field EDGE_STATE_PEER_REGION of the register tables. -/
def Fld.EDGE_STATE_PEER_REGION : Fld := ⟨0x80, 19, 17⟩
/-- Field EDGE_STATE_PEER_VALID of the register tables. -/
def Fld.EDGE_STATE_PEER_VALID : Fld := ⟨0x80, 16, 16⟩
/-- Field EDGE_STATE_STATE of the register tables. -/
def Fld.EDGE_STATE_STATE : Fld := ⟨0x80, 2, 0⟩
/-- Field EDGE_CFG_RETRY_LIMIT of the register tables. -/
def Fld.EDGE_CFG_RETRY_LIMIT : Fld := ⟨0x88, 31, 16⟩
/-- Field EDGE_CFG_LAT_EDGE of the register tables. -/
def Fld.EDGE_CFG_LAT_EDGE : Fld := ⟨0x88, 8, 0⟩
/-- Field EDGE_COUNT_CRC_FAIL of the register tables. -/
def Fld.EDGE_COUNT_CRC_FAIL : Fld := ⟨0x90, 63, 32⟩
/-- Field EDGE_COUNT_RESENT of the register tables. -/
def Fld.EDGE_COUNT_RESENT : Fld := ⟨0x90, 31, 0⟩
/-- Field MEMB_STATE_EPOCH of the register tables. -/
def Fld.MEMB_STATE_EPOCH : Fld := ⟨0x80, 63, 32⟩
/-- Field MEMB_STATE_PHASE of the register tables. -/
def Fld.MEMB_STATE_PHASE : Fld := ⟨0x80, 31, 30⟩
/-- Field MEMB_STATE_DUP_ID of the register tables. -/
def Fld.MEMB_STATE_DUP_ID : Fld := ⟨0x80, 29, 29⟩
/-- Field MEMB_STATE_COORDINATOR of the register tables. -/
def Fld.MEMB_STATE_COORDINATOR : Fld := ⟨0x80, 28, 28⟩
/-- Field MEMB_STATE_MEMBERS of the register tables. -/
def Fld.MEMB_STATE_MEMBERS : Fld := ⟨0x80, 20, 10⟩
/-- Field MEMB_STATE_SELF of the register tables. -/
def Fld.MEMB_STATE_SELF : Fld := ⟨0x80, 9, 0⟩
/-- Field MEMB_CFG_WATCHDOG of the register tables. -/
def Fld.MEMB_CFG_WATCHDOG : Fld := ⟨0x88, 31, 0⟩
/-- Field MEMB_UID_UID of the register tables. -/
def Fld.MEMB_UID_UID : Fld := ⟨0x90, 63, 0⟩
/-- Field BOUNDARY_COUNT_COUNT of the register tables. -/
def Fld.BOUNDARY_COUNT_COUNT : Fld := ⟨0x98, 31, 0⟩
/-- Field MEMB_LIST_MEMBERS of the register tables. -/
def Fld.MEMB_LIST_MEMBERS : Fld := ⟨0x100, 63, 0⟩
/-- Field BRINGUP_STATE_ELAPSED_MS of the register tables. -/
def Fld.BRINGUP_STATE_ELAPSED_MS : Fld := ⟨0x80, 63, 48⟩
/-- Field BRINGUP_STATE_LIVE of the register tables. -/
def Fld.BRINGUP_STATE_LIVE : Fld := ⟨0x80, 31, 24⟩
/-- Field BRINGUP_STATE_LEADER of the register tables. -/
def Fld.BRINGUP_STATE_LEADER : Fld := ⟨0x80, 18, 16⟩
/-- Field BRINGUP_STATE_SAVED_FAIL of the register tables. -/
def Fld.BRINGUP_STATE_SAVED_FAIL : Fld := ⟨0x80, 9, 9⟩
/-- Field BRINGUP_STATE_SAVED_WRITTEN of the register tables. -/
def Fld.BRINGUP_STATE_SAVED_WRITTEN : Fld := ⟨0x80, 8, 8⟩
/-- Field BRINGUP_STATE_SAVED_SLOT of the register tables. -/
def Fld.BRINGUP_STATE_SAVED_SLOT : Fld := ⟨0x80, 7, 6⟩
/-- Field BRINGUP_STATE_STATE of the register tables. -/
def Fld.BRINGUP_STATE_STATE : Fld := ⟨0x80, 3, 0⟩
/-- Field BRINGUP_CTL_RECORD_BASE of the register tables. -/
def Fld.BRINGUP_CTL_RECORD_BASE : Fld := ⟨0x88, 55, 16⟩
/-- Field BRINGUP_CTL_REGION_RESET of the register tables. -/
def Fld.BRINGUP_CTL_REGION_RESET : Fld := ⟨0x88, 15, 8⟩
/-- Field BRINGUP_CTL_ENGINE_RESET of the register tables. -/
def Fld.BRINGUP_CTL_ENGINE_RESET : Fld := ⟨0x88, 1, 1⟩
/-- Field BRINGUP_CTL_GO of the register tables. -/
def Fld.BRINGUP_CTL_GO : Fld := ⟨0x88, 0, 0⟩
/-- Field TOPO_DIFF_FIRST_REGION of the register tables. -/
def Fld.TOPO_DIFF_FIRST_REGION : Fld := ⟨0x90, 34, 32⟩
/-- Field TOPO_DIFF_TOLERATED of the register tables. -/
def Fld.TOPO_DIFF_TOLERATED : Fld := ⟨0x90, 24, 16⟩
/-- Field TOPO_DIFF_DIFF of the register tables. -/
def Fld.TOPO_DIFF_DIFF : Fld := ⟨0x90, 8, 0⟩
/-- Field RESET_COUNT_REGION of the register tables. -/
def Fld.RESET_COUNT_REGION : Fld := ⟨0x98, 63, 48⟩
/-- Field RESET_COUNT_CLUSTER of the register tables. -/
def Fld.RESET_COUNT_CLUSTER : Fld := ⟨0x98, 47, 32⟩
/-- Field RESET_COUNT_CELL of the register tables. -/
def Fld.RESET_COUNT_CELL : Fld := ⟨0x98, 31, 0⟩
/-- Field MICROCODE_FENCED of the register tables. -/
def Fld.MICROCODE_FENCED : Fld := ⟨0xA0, 47, 32⟩
/-- Field MICROCODE_RESENT of the register tables. -/
def Fld.MICROCODE_RESENT : Fld := ⟨0xA0, 31, 0⟩
/-- Field REGION_HEALTH_CLUSTERS of the register tables. -/
def Fld.REGION_HEALTH_CLUSTERS : Fld := ⟨0x100, 63, 48⟩
/-- Field REGION_HEALTH_FENCED_RT of the register tables. -/
def Fld.REGION_HEALTH_FENCED_RT : Fld := ⟨0x100, 47, 32⟩
/-- Field REGION_HEALTH_SPARES_USED of the register tables. -/
def Fld.REGION_HEALTH_SPARES_USED : Fld := ⟨0x100, 31, 26⟩
/-- Field REGION_HEALTH_STORE_REPAIRS of the register tables. -/
def Fld.REGION_HEALTH_STORE_REPAIRS : Fld := ⟨0x100, 25, 18⟩
/-- Field REGION_HEALTH_STATE of the register tables. -/
def Fld.REGION_HEALTH_STATE : Fld := ⟨0x100, 1, 0⟩
/-- Field SUPPLY_THERM of the register tables. -/
def Fld.SUPPLY_THERM : Fld := ⟨0x80, 15, 8⟩
/-- Field SUPPLY_CAUSE_THERMAL of the register tables. -/
def Fld.SUPPLY_CAUSE_THERMAL : Fld := ⟨0x80, 4, 4⟩
/-- Field SUPPLY_CAUSE_SUPPLY of the register tables. -/
def Fld.SUPPLY_CAUSE_SUPPLY : Fld := ⟨0x80, 3, 3⟩
/-- Field SUPPLY_SAFELIGHT of the register tables. -/
def Fld.SUPPLY_SAFELIGHT : Fld := ⟨0x80, 2, 2⟩
/-- Field SUPPLY_SUPPLY_STATE of the register tables. -/
def Fld.SUPPLY_SUPPLY_STATE : Fld := ⟨0x80, 1, 0⟩
/-- Field THERM_CFG_TRIP of the register tables. -/
def Fld.THERM_CFG_TRIP : Fld := ⟨0x88, 23, 16⟩
/-- Field THERM_CFG_SAFE of the register tables. -/
def Fld.THERM_CFG_SAFE : Fld := ⟨0x88, 15, 8⟩
/-- Field THERM_CFG_WARN of the register tables. -/
def Fld.THERM_CFG_WARN : Fld := ⟨0x88, 7, 0⟩
/-- Field SAFE_CFG_SAFELIGHT_HOLD of the register tables. -/
def Fld.SAFE_CFG_SAFELIGHT_HOLD : Fld := ⟨0x90, 31, 0⟩
/-- Field SAFE_COUNT_ENTRIES of the register tables. -/
def Fld.SAFE_COUNT_ENTRIES : Fld := ⟨0x98, 31, 0⟩
/-- Field POWER_EST_PEAK of the register tables. -/
def Fld.POWER_EST_PEAK : Fld := ⟨0x100, 31, 16⟩
/-- Field POWER_EST_NOW of the register tables. -/
def Fld.POWER_EST_NOW : Fld := ⟨0x100, 15, 0⟩
/-- Field PAGE_ID_STEPPING of the register tables. -/
def Fld.PAGE_ID_STEPPING : Fld := ⟨0x0, 55, 48⟩
/-- Field PAGE_ID_LEVEL of the register tables. -/
def Fld.PAGE_ID_LEVEL : Fld := ⟨0x0, 47, 40⟩
/-- Field PAGE_ID_VERSION of the register tables. -/
def Fld.PAGE_ID_VERSION : Fld := ⟨0x0, 39, 32⟩
/-- Field PAGE_ID_REGION of the register tables. -/
def Fld.PAGE_ID_REGION : Fld := ⟨0x0, 31, 24⟩
/-- Field PAGE_ID_INSTANCE of the register tables. -/
def Fld.PAGE_ID_INSTANCE : Fld := ⟨0x0, 23, 16⟩
/-- Field PAGE_ID_KIND of the register tables. -/
def Fld.PAGE_ID_KIND : Fld := ⟨0x0, 15, 0⟩
/-- Field PAGE_CTL_CLEAR of the register tables. -/
def Fld.PAGE_CTL_CLEAR : Fld := ⟨0x8, 1, 1⟩
/-- Field PAGE_CTL_ENABLE of the register tables. -/
def Fld.PAGE_CTL_ENABLE : Fld := ⟨0x8, 0, 0⟩
/-- Field PAGE_STATUS_FIRST_VALID of the register tables. -/
def Fld.PAGE_STATUS_FIRST_VALID : Fld := ⟨0x10, 9, 9⟩
/-- Field PAGE_STATUS_ERR_PENDING of the register tables. -/
def Fld.PAGE_STATUS_ERR_PENDING : Fld := ⟨0x10, 8, 8⟩
/-- Field PAGE_STATUS_STATE of the register tables. -/
def Fld.PAGE_STATUS_STATE : Fld := ⟨0x10, 1, 0⟩
/-- Field ERR_STATUS_STATUS of the register tables. -/
def Fld.ERR_STATUS_STATUS : Fld := ⟨0x18, 31, 0⟩
/-- Field ERR_MASK_MASK of the register tables. -/
def Fld.ERR_MASK_MASK : Fld := ⟨0x20, 31, 0⟩
/-- Field ERR_FORCE_FORCE of the register tables. -/
def Fld.ERR_FORCE_FORCE : Fld := ⟨0x28, 31, 0⟩
/-- Field ERR_FIRST_VALID of the register tables. -/
def Fld.ERR_FIRST_VALID : Fld := ⟨0x30, 63, 63⟩
/-- Field ERR_FIRST_FORCED of the register tables. -/
def Fld.ERR_FIRST_FORCED : Fld := ⟨0x30, 62, 62⟩
/-- Field ERR_FIRST_BIT of the register tables. -/
def Fld.ERR_FIRST_BIT : Fld := ⟨0x30, 61, 56⟩
/-- Field ERR_FIRST_TC of the register tables. -/
def Fld.ERR_FIRST_TC : Fld := ⟨0x30, 47, 0⟩
/-- Field EVT_SEL_SEL of the register tables. -/
def Fld.EVT_SEL_SEL : Fld := ⟨0x38, 63, 0⟩
/-- Field EVT_CNT_COUNT of the register tables. -/
def Fld.EVT_CNT_COUNT : Fld := ⟨0x40, 47, 0⟩
/-- Field LAST_ESCALATION_VALID of the register tables. -/
def Fld.LAST_ESCALATION_VALID : Fld := ⟨0x80, 63, 63⟩
/-- Field LAST_ESCALATION_REGION of the register tables. -/
def Fld.LAST_ESCALATION_REGION : Fld := ⟨0x80, 62, 60⟩
/-- Field LAST_ESCALATION_BIT of the register tables. -/
def Fld.LAST_ESCALATION_BIT : Fld := ⟨0x80, 59, 54⟩
/-- Field LAST_ESCALATION_PAGE of the register tables. -/
def Fld.LAST_ESCALATION_PAGE : Fld := ⟨0x80, 53, 42⟩
/-- Field LAST_ESCALATION_TC of the register tables. -/
def Fld.LAST_ESCALATION_TC : Fld := ⟨0x80, 41, 0⟩
/-- Field REGION_INFO_LIVE_CLUSTERS of the register tables. -/
def Fld.REGION_INFO_LIVE_CLUSTERS : Fld := ⟨0x80, 20, 16⟩
/-- Field REGION_INFO_LEADER of the register tables. -/
def Fld.REGION_INFO_LEADER : Fld := ⟨0x80, 7, 7⟩
/-- Field REGION_INFO_GRADE of the register tables. -/
def Fld.REGION_INFO_GRADE : Fld := ⟨0x80, 6, 5⟩
/-- Field REGION_INFO_REGION of the register tables. -/
def Fld.REGION_INFO_REGION : Fld := ⟨0x80, 2, 0⟩
/-- Field GEOMETRY_GEOMETRY_SIG of the register tables. -/
def Fld.GEOMETRY_GEOMETRY_SIG : Fld := ⟨0x88, 63, 0⟩
/-- Field TC_NOW_TC of the register tables. -/
def Fld.TC_NOW_TC : Fld := ⟨0x90, 47, 0⟩
/-- Field LAT_MEM of the register tables. -/
def Fld.LAT_MEM : Fld := ⟨0x98, 10, 0⟩
/-- Field LATE_SUM_DEFICIT of the register tables. -/
def Fld.LATE_SUM_DEFICIT : Fld := ⟨0xA0, 31, 0⟩
/-- Field CLUSTER_STATE_STATE of the register tables. -/
def Fld.CLUSTER_STATE_STATE : Fld := ⟨0x88, 41, 40⟩
/-- Field CLUSTER_STATE_IN_SERVICE of the register tables. -/
def Fld.CLUSTER_STATE_IN_SERVICE : Fld := ⟨0x88, 33, 0⟩
/-- Field SPARE_MAP_SPARE1_VALID of the register tables. -/
def Fld.SPARE_MAP_SPARE1_VALID : Fld := ⟨0x90, 13, 13⟩
/-- Field SPARE_MAP_SPARE1_FOR of the register tables. -/
def Fld.SPARE_MAP_SPARE1_FOR : Fld := ⟨0x90, 12, 8⟩
/-- Field SPARE_MAP_SPARE0_VALID of the register tables. -/
def Fld.SPARE_MAP_SPARE0_VALID : Fld := ⟨0x90, 5, 5⟩
/-- Field SPARE_MAP_SPARE0_FOR of the register tables. -/
def Fld.SPARE_MAP_SPARE0_FOR : Fld := ⟨0x90, 4, 0⟩
/-- Field SLICE_FAULT_VALID of the register tables. -/
def Fld.SLICE_FAULT_VALID : Fld := ⟨0x98, 63, 63⟩
/-- Field SLICE_FAULT_OFFSET of the register tables. -/
def Fld.SLICE_FAULT_OFFSET : Fld := ⟨0x98, 21, 0⟩
/-- Field CELL_STATE_MISSING of the register tables. -/
def Fld.CELL_STATE_MISSING : Fld := ⟨0x80, 24, 16⟩
/-- Field CELL_STATE_LOGICAL of the register tables. -/
def Fld.CELL_STATE_LOGICAL : Fld := ⟨0x80, 12, 8⟩
/-- Field CELL_STATE_UCODE_OK of the register tables. -/
def Fld.CELL_STATE_UCODE_OK : Fld := ⟨0x80, 7, 7⟩
/-- Field CELL_STATE_ROLE of the register tables. -/
def Fld.CELL_STATE_ROLE : Fld := ⟨0x80, 1, 0⟩
/-- Field CELL_TX_OUTSTANDING of the register tables. -/
def Fld.CELL_TX_OUTSTANDING : Fld := ⟨0x88, 4, 0⟩
/-- Field DISCARD_COUNT of the register tables. -/
def Fld.DISCARD_COUNT : Fld := ⟨0x80, 31, 0⟩
/-- Field LAST_DISCARD_VALID of the register tables. -/
def Fld.LAST_DISCARD_VALID : Fld := ⟨0x88, 35, 35⟩
/-- Field LAST_DISCARD_SOURCE_REGION of the register tables. -/
def Fld.LAST_DISCARD_SOURCE_REGION : Fld := ⟨0x88, 34, 32⟩
/-- Field LAST_DISCARD_COMMAND_SEQ of the register tables. -/
def Fld.LAST_DISCARD_COMMAND_SEQ : Fld := ⟨0x88, 31, 0⟩
/-- Field TP_BUDGET_LAT_EXT of the register tables. -/
def Fld.TP_BUDGET_LAT_EXT : Fld := ⟨0x80, 55, 40⟩
/-- Field TP_BUDGET_EXP_ROW of the register tables. -/
def Fld.TP_BUDGET_EXP_ROW : Fld := ⟨0x80, 31, 24⟩
/-- Field TP_BUDGET_EXP_BASE of the register tables. -/
def Fld.TP_BUDGET_EXP_BASE : Fld := ⟨0x80, 15, 0⟩
/-- Field TP_COUNT_EXT_BLOCKS of the register tables. -/
def Fld.TP_COUNT_EXT_BLOCKS : Fld := ⟨0x88, 63, 32⟩
/-- Field TP_COUNT_OUT_ROWS of the register tables. -/
def Fld.TP_COUNT_OUT_ROWS : Fld := ⟨0x88, 31, 0⟩
/-- Field WP_QUEUE_HIGH_WATER of the register tables. -/
def Fld.WP_QUEUE_HIGH_WATER : Fld := ⟨0x80, 43, 32⟩
/-- Field WP_QUEUE_OCCUPANCY of the register tables. -/
def Fld.WP_QUEUE_OCCUPANCY : Fld := ⟨0x80, 11, 0⟩
/-- Field WP_COUNT_READS of the register tables. -/
def Fld.WP_COUNT_READS : Fld := ⟨0x88, 63, 32⟩
/-- Field WP_COUNT_DESCRIPTORS of the register tables. -/
def Fld.WP_COUNT_DESCRIPTORS : Fld := ⟨0x88, 31, 0⟩
/-- Field MP_STATE_SLOTS of the register tables. -/
def Fld.MP_STATE_SLOTS : Fld := ⟨0x80, 42, 32⟩
/-- Field MP_STATE_STATE of the register tables. -/
def Fld.MP_STATE_STATE : Fld := ⟨0x80, 1, 0⟩
/-- Field MP_RESP_WRITE_ERRORS of the register tables. -/
def Fld.MP_RESP_WRITE_ERRORS : Fld := ⟨0x88, 63, 32⟩
/-- Field MP_RESP_READ_ERRORS of the register tables. -/
def Fld.MP_RESP_READ_ERRORS : Fld := ⟨0x88, 31, 0⟩
/-- Field WRAPPER_STATE_FUNCTIONAL of the register tables. -/
def Fld.WRAPPER_STATE_FUNCTIONAL : Fld := ⟨0x80, 8, 8⟩
/-- Field WRAPPER_STATE_INSTRUCTION of the register tables. -/
def Fld.WRAPPER_STATE_INSTRUCTION : Fld := ⟨0x80, 7, 0⟩
/-- Field VF_CHAN_ENABLE of the register tables. -/
def Fld.VF_CHAN_ENABLE : Fld := ⟨0x80, 16, 16⟩
/-- Field VF_CHAN_SOURCE of the register tables. -/
def Fld.VF_CHAN_SOURCE : Fld := ⟨0x80, 15, 0⟩
/-- Field VF_TRIG_FIRED of the register tables. -/
def Fld.VF_TRIG_FIRED : Fld := ⟨0xA0, 19, 19⟩
/-- Field VF_TRIG_ARMED of the register tables. -/
def Fld.VF_TRIG_ARMED : Fld := ⟨0xA0, 18, 18⟩
/-- Field VF_TRIG_MODE of the register tables. -/
def Fld.VF_TRIG_MODE : Fld := ⟨0xA0, 17, 16⟩
/-- Field VF_TRIG_EVENT of the register tables. -/
def Fld.VF_TRIG_EVENT : Fld := ⟨0xA0, 15, 0⟩
/-- Field ENGINE_INFO_STEPPING of the register tables. -/
def Fld.ENGINE_INFO_STEPPING : Fld := ⟨0x88, 63, 56⟩
/-- Field ENGINE_INFO_PLACED of the register tables. -/
def Fld.ENGINE_INFO_PLACED : Fld := ⟨0x88, 47, 40⟩
/-- Field ENGINE_INFO_LIVE of the register tables. -/
def Fld.ENGINE_INFO_LIVE : Fld := ⟨0x88, 39, 32⟩
/-- Field ENGINE_INFO_LEADER of the register tables. -/
def Fld.ENGINE_INFO_LEADER : Fld := ⟨0x88, 26, 24⟩
/-- Field ENGINE_INFO_GRADE of the register tables. -/
def Fld.ENGINE_INFO_GRADE : Fld := ⟨0x88, 17, 16⟩
/-- Field ENGINE_INFO_ROM_VERSION of the register tables. -/
def Fld.ENGINE_INFO_ROM_VERSION : Fld := ⟨0x88, 15, 0⟩
/-- Field TIME_NOW_TIME of the register tables. -/
def Fld.TIME_NOW_TIME : Fld := ⟨0x90, 63, 0⟩
/-- Field ROM_CRC_CRC of the register tables. -/
def Fld.ROM_CRC_CRC : Fld := ⟨0x98, 31, 0⟩

/-- Registers of the page kind 0x0002 (R93). -/
def scoreArrayMap : List RegSpec :=
  [⟨0x80, 1, 8, [⟨23, 16, .ro, 1⟩, ⟨15, 14, .ro, 0⟩, ⟨13, 13, .ro, 0⟩, ⟨1, 0, .ro, 0⟩]⟩,
   ⟨0x88, 1, 8, [⟨27, 19, .ro, 0x1ff⟩, ⟨17, 9, .ro, 0x1ff⟩, ⟨8, 0, .ro, 0x1ff⟩]⟩,
   ⟨0x90, 1, 8, [⟨31, 16, .rw, 0x1000⟩, ⟨1, 1, .ro, 0⟩, ⟨0, 0, .ro, 0⟩]⟩,
   ⟨0x98, 1, 8, [⟨31, 0, .rc, 0⟩]⟩]

/-- Registers of the page kind 0x0003 (R168). -/
def combineMap : List RegSpec :=
  [⟨0x80, 1, 8, [⟨31, 16, .rw, 0x100⟩, ⟨7, 0, .rw, 0x7f⟩]⟩,
   ⟨0x88, 1, 8, [⟨31, 0, .rc, 0⟩]⟩,
   ⟨0x90, 1, 8, [⟨31, 0, .rc, 0⟩]⟩]

/-- Registers of the page kind 0x0004 (R189). -/
def reprintMap : List RegSpec :=
  [⟨0x80, 1, 8, [⟨31, 0, .rc, 0⟩]⟩,
   ⟨0x88, 1, 8, [⟨47, 24, .rc, 0⟩, ⟨23, 0, .rc, 0⟩]⟩]

/-- Registers of the page kind 0x0026 (R201). -/
def balanceMap : List RegSpec :=
  [⟨0x80, 1, 8, [⟨31, 0, .rc, 0⟩]⟩,
   ⟨0x88, 1, 8, [⟨43, 40, .ro, 0⟩, ⟨39, 33, .ro, 0⟩, ⟨32, 22, .ro, 0⟩, ⟨21, 11, .ro, 0⟩, ⟨10, 0, .ro, 0⟩]⟩,
   ⟨0x90, 1, 8, [⟨63, 32, .ro, 0⟩, ⟨31, 0, .ro, 0⟩]⟩]

/-- Registers of the page kind 0x0025 (R231). -/
def confluenceMap : List RegSpec :=
  [⟨0x80, 1, 8, [⟨31, 0, .rw, 0xc350⟩]⟩,
   ⟨0x88, 1, 8, [⟨47, 42, .ro, 0⟩, ⟨41, 32, .ro, 0⟩, ⟨31, 0, .ro, 0⟩]⟩,
   ⟨0x90, 1, 8, [⟨31, 0, .rc, 0⟩]⟩,
   ⟨0x98, 1, 8, [⟨31, 0, .rc, 0⟩]⟩,
   ⟨0xA0, 1, 8, [⟨31, 0, .rc, 0⟩]⟩,
   ⟨0xA8, 1, 8, [⟨31, 0, .rc, 0⟩]⟩,
   ⟨0x100, 64, 8, [⟨63, 32, .ro, 0⟩, ⟨31, 30, .ro, 0⟩, ⟨20, 10, .ro, 0⟩, ⟨9, 0, .ro, 0⟩]⟩]

/-- Registers of the page kind 0x0024 (R251). -/
def proofMap : List RegSpec :=
  [⟨0x80, 1, 8, [⟨63, 56, .ro, 0⟩, ⟨55, 48, .ro, 1⟩, ⟨47, 40, .ro, 0⟩]⟩,
   ⟨0x88, 1, 8, [⟨7, 0, .ro, 0⟩]⟩,
   ⟨0x90, 1, 8, [⟨31, 0, .rc, 0⟩]⟩,
   ⟨0x100, 16, 32, [⟨63, 6, .rw, 0⟩]⟩,
   ⟨0x108, 16, 32, [⟨8, 8, .rw, 0⟩, ⟨4, 0, .rw, 4⟩]⟩,
   ⟨0x110, 16, 32, [⟨63, 32, .ro, 0⟩, ⟨31, 0, .ro, 0⟩]⟩,
   ⟨0x118, 16, 32, [⟨31, 0, .rw, 0⟩]⟩]

/-- Registers of the page kind 0x0005 (R294). -/
def basinMap : List RegSpec :=
  [⟨0x80, 1, 8, [⟨3, 0, .rw, 0⟩]⟩,
   ⟨0x88, 1, 8, [⟨31, 0, .rc, 0⟩]⟩,
   ⟨0x90, 1, 8, [⟨31, 0, .rc, 0⟩]⟩,
   ⟨0x98, 1, 8, [⟨31, 0, .rc, 0⟩]⟩,
   ⟨0x100, 12, 8, [⟨47, 24, .ro, 0⟩, ⟨23, 0, .ro, 0⟩]⟩]

/-- Registers of the page kind 0x000B (R295). -/
def inletMap : List RegSpec :=
  [⟨0x80, 1, 8, [⟨0, 0, .rw, 0⟩]⟩,
   ⟨0x88, 1, 8, [⟨11, 0, .rw, 0⟩]⟩,
   ⟨0x90, 1, 8, [⟨11, 8, .wo, 0⟩, ⟨4, 4, .wo, 0⟩, ⟨3, 0, .wo, 0⟩]⟩,
   ⟨0x98, 1, 8, [⟨48, 48, .ro, 0⟩, ⟨45, 34, .ro, 0⟩, ⟨33, 17, .ro, 0⟩, ⟨16, 0, .ro, 0⟩]⟩,
   ⟨0xA0, 1, 8, [⟨31, 0, .rc, 0⟩]⟩,
   ⟨0xA8, 1, 8, [⟨31, 0, .rc, 0⟩]⟩,
   ⟨0xB0, 1, 8, [⟨63, 63, .rc, 0⟩, ⟨62, 62, .rc, 0⟩, ⟨61, 61, .rc, 0⟩, ⟨37, 32, .rc, 0⟩, ⟨31, 0, .rc, 0⟩]⟩]

/-- Registers of the page kind 0x0023 (R320). -/
def schedMap : List RegSpec :=
  [⟨0x80, 1, 8, [⟨31, 0, .rw, 0x3e8⟩]⟩,
   ⟨0x88, 1, 8, [⟨31, 0, .rc, 0⟩]⟩,
   ⟨0x90, 1, 8, [⟨15, 12, .ro, 0⟩, ⟨11, 8, .ro, 0⟩, ⟨1, 0, .ro, 0⟩]⟩,
   ⟨0x98, 1, 8, [⟨31, 0, .rc, 0⟩]⟩,
   ⟨0x100, 16, 8, [⟨63, 48, .ro, 0⟩, ⟨42, 38, .ro, 0⟩, ⟨37, 32, .ro, 0⟩, ⟨31, 29, .ro, 0⟩, ⟨28, 28, .ro, 0⟩, ⟨27, 20, .ro, 0⟩, ⟨17, 16, .ro, 0⟩, ⟨2, 0, .ro, 0⟩]⟩,
   ⟨0x180, 16, 8, [⟨47, 0, .ro, 0⟩]⟩,
   ⟨0x200, 8, 8, [⟨39, 20, .rw, 0⟩, ⟨19, 0, .rw, 0⟩]⟩,
   ⟨0x240, 8, 8, [⟨39, 20, .rw, 0⟩, ⟨19, 0, .rw, 0⟩]⟩]

/-- Registers of the page kind 0x0029 (R349). -/
def ringMap : List RegSpec :=
  [⟨0x80, 4, 16, [⟨63, 12, .rw, 0⟩, ⟨5, 5, .rw, 0⟩, ⟨4, 0, .rw, 4⟩]⟩,
   ⟨0xC0, 1, 8, [⟨63, 12, .rw, 0⟩, ⟨5, 5, .rw, 0⟩, ⟨4, 0, .rw, 4⟩]⟩,
   ⟨0x88, 4, 16, [⟨63, 32, .rw, 0⟩, ⟨31, 0, .ro, 0⟩]⟩,
   ⟨0xC8, 1, 8, [⟨63, 32, .rw, 0⟩, ⟨31, 0, .ro, 0⟩]⟩]

/-- Registers of the page kind 0x0028 (R362). -/
def intrMap : List RegSpec :=
  [⟨0x80, 8, 8, [⟨16, 16, .ro, 0⟩, ⟨13, 0, .rw, 0⟩]⟩,
   ⟨0xC0, 16, 8, [⟨1, 1, .rw, 1⟩, ⟨0, 0, .rw, 0⟩]⟩,
   ⟨0x140, 16, 8, [⟨63, 63, .rc, 0⟩, ⟨7, 0, .rc, 0⟩]⟩,
   ⟨0x1C0, 1, 8, [⟨0, 0, .ro, 0⟩]⟩,
   ⟨0x1C8, 1, 8, [⟨31, 0, .rc, 0⟩]⟩,
   ⟨0x200, 4, 8, [⟨63, 0, .w1c, 0⟩]⟩,
   ⟨0x220, 4, 8, [⟨63, 0, .ro, 0⟩]⟩,
   ⟨0x400, 256, 8, [⟨35, 32, .ro, 15⟩, ⟨27, 24, .own, 0⟩, ⟨16, 16, .rw, 0⟩, ⟨15, 0, .rw, 0⟩]⟩]

/-- Registers of the page kind 0x000A (R395). -/
def linkMap : List RegSpec :=
  [⟨0x80, 1, 8, [⟨15, 12, .ro, 0⟩, ⟨11, 9, .ro, 0⟩, ⟨8, 6, .ro, 0⟩, ⟨5, 3, .ro, 0⟩, ⟨2, 0, .ro, 0⟩]⟩,
   ⟨0x88, 1, 8, [⟨41, 32, .ro, 0⟩, ⟨26, 24, .ro, 0⟩, ⟨23, 22, .ro, 0⟩, ⟨0, 0, .ro, 0⟩]⟩,
   ⟨0x90, 1, 8, [⟨63, 56, .rw, 0x20⟩, ⟨47, 32, .rw, 0x64⟩, ⟨31, 16, .rw, 0x64⟩, ⟨8, 0, .ro, 0⟩]⟩,
   ⟨0x98, 1, 8, [⟨63, 32, .rc, 0⟩, ⟨1, 1, .ro, 0⟩]⟩,
   ⟨0xA0, 1, 8, [⟨63, 32, .rc, 0⟩, ⟨31, 0, .rc, 0⟩]⟩,
   ⟨0xA8, 1, 8, [⟨63, 48, .rc, 0⟩, ⟨47, 32, .rc, 0⟩, ⟨31, 0, .rc, 0⟩]⟩,
   ⟨0x100, 4, 8, [⟨63, 58, .ro, 0⟩, ⟨57, 52, .ro, 0⟩, ⟨51, 46, .ro, 0⟩, ⟨45, 40, .ro, 0⟩, ⟨39, 35, .ro, 0⟩, ⟨34, 28, .ro, 0⟩, ⟨27, 20, .ro, 0⟩, ⟨2, 2, .ro, 0⟩, ⟨1, 0, .ro, 0⟩]⟩]

/-- Registers of the page kind 0x000C (R396). -/
def edgeMap : List RegSpec :=
  [⟨0x80, 1, 8, [⟨31, 24, .ro, 0⟩, ⟨23, 22, .ro, 0⟩, ⟨21, 20, .ro, 0⟩, ⟨19, 17, .ro, 0⟩, ⟨16, 16, .ro, 0⟩, ⟨2, 0, .ro, 0⟩]⟩,
   ⟨0x88, 1, 8, [⟨31, 16, .rw, 0x100⟩, ⟨8, 0, .ro, 0⟩]⟩,
   ⟨0x90, 1, 8, [⟨63, 32, .rc, 0⟩, ⟨31, 0, .rc, 0⟩]⟩]

/-- Registers of the page kind 0x0027 (R397). -/
def membershipMap : List RegSpec :=
  [⟨0x80, 1, 8, [⟨63, 32, .ro, 0⟩, ⟨31, 30, .ro, 0⟩, ⟨29, 29, .ro, 0⟩, ⟨28, 28, .ro, 0⟩, ⟨20, 10, .ro, 1⟩, ⟨9, 0, .ro, 0⟩]⟩,
   ⟨0x88, 1, 8, [⟨31, 0, .rw, 0x2710⟩]⟩,
   ⟨0x90, 1, 8, [⟨63, 0, .ro, 0⟩]⟩,
   ⟨0x98, 1, 8, [⟨31, 0, .rc, 0⟩]⟩,
   ⟨0x100, 16, 8, [⟨63, 0, .ro, 0⟩]⟩]

/-- Registers of the page kind 0x0021 (R423). -/
def bringupMap : List RegSpec :=
  [⟨0x80, 1, 8, [⟨63, 48, .ro, 0⟩, ⟨31, 24, .ro, 0⟩, ⟨18, 16, .ro, 0⟩, ⟨9, 9, .ro, 0⟩, ⟨8, 8, .ro, 0⟩, ⟨7, 6, .ro, 0⟩, ⟨3, 0, .ro, 0⟩]⟩,
   ⟨0x88, 1, 8, [⟨55, 16, .rw, 0⟩, ⟨15, 8, .wo, 0⟩, ⟨1, 1, .wo, 0⟩, ⟨0, 0, .wo, 0⟩]⟩,
   ⟨0x90, 1, 8, [⟨34, 32, .ro, 0⟩, ⟨24, 16, .ro, 0⟩, ⟨8, 0, .ro, 0⟩]⟩,
   ⟨0x98, 1, 8, [⟨63, 48, .rc, 0⟩, ⟨47, 32, .rc, 0⟩, ⟨31, 0, .rc, 0⟩]⟩,
   ⟨0xA0, 1, 8, [⟨47, 32, .rc, 0⟩, ⟨31, 0, .rc, 0⟩]⟩,
   ⟨0x100, 8, 8, [⟨63, 48, .ro, 0⟩, ⟨47, 32, .ro, 0⟩, ⟨31, 26, .ro, 0⟩, ⟨25, 18, .ro, 0⟩, ⟨1, 0, .ro, 0⟩]⟩]

/-- Registers of the page kind 0x0022 (R424). -/
def powerMap : List RegSpec :=
  [⟨0x80, 1, 8, [⟨15, 8, .ro, 0⟩, ⟨4, 4, .ro, 0⟩, ⟨3, 3, .ro, 0⟩, ⟨2, 2, .ro, 0⟩, ⟨1, 0, .ro, 0⟩]⟩,
   ⟨0x88, 1, 8, [⟨23, 16, .ro, 0x7d⟩, ⟨15, 8, .rw, 0x69⟩, ⟨7, 0, .rw, 0x5f⟩]⟩,
   ⟨0x90, 1, 8, [⟨31, 0, .rw, 0x3e8⟩]⟩,
   ⟨0x98, 1, 8, [⟨31, 0, .rc, 0⟩]⟩,
   ⟨0x100, 8, 8, [⟨31, 16, .rc, 0⟩, ⟨15, 0, .ro, 0⟩]⟩]

/-- Registers of the common header (R429). -/
def headerMap : List RegSpec :=
  [⟨0x0, 1, 8, [⟨55, 48, .ro, 0⟩, ⟨47, 40, .ro, 0⟩, ⟨39, 32, .ro, 1⟩, ⟨31, 24, .ro, 0⟩, ⟨23, 16, .ro, 0⟩, ⟨15, 0, .ro, 0⟩]⟩,
   ⟨0x8, 1, 8, [⟨1, 1, .wo, 0⟩, ⟨0, 0, .rw, 1⟩]⟩,
   ⟨0x10, 1, 8, [⟨9, 9, .ro, 0⟩, ⟨8, 8, .ro, 0⟩, ⟨1, 0, .ro, 0⟩]⟩,
   ⟨0x18, 1, 8, [⟨31, 0, .w1c, 0⟩]⟩,
   ⟨0x20, 1, 8, [⟨31, 0, .rw, 0⟩]⟩,
   ⟨0x28, 1, 8, [⟨31, 0, .wo, 0⟩]⟩,
   ⟨0x30, 1, 8, [⟨63, 63, .w1c, 0⟩, ⟨62, 62, .ro, 0⟩, ⟨61, 56, .ro, 0⟩, ⟨47, 0, .ro, 0⟩]⟩,
   ⟨0x38, 1, 8, [⟨63, 0, .rw, 0⟩]⟩,
   ⟨0x40, 8, 8, [⟨47, 0, .rc, 0⟩]⟩]

/-- Registers of the page kind 0x000F (R434, R439). -/
def clusterMap : List RegSpec :=
  [⟨0x80, 1, 8, [⟨63, 63, .w1c, 0⟩, ⟨62, 60, .ro, 0⟩, ⟨59, 54, .ro, 0⟩, ⟨53, 42, .ro, 0⟩, ⟨41, 0, .ro, 0⟩]⟩,
   ⟨0x88, 1, 8, [⟨41, 40, .ro, 0⟩, ⟨33, 0, .ro, 0⟩]⟩,
   ⟨0x90, 1, 8, [⟨13, 13, .ro, 0⟩, ⟨12, 8, .ro, 0⟩, ⟨5, 5, .ro, 0⟩, ⟨4, 0, .ro, 0⟩]⟩,
   ⟨0x98, 1, 8, [⟨63, 63, .w1c, 0⟩, ⟨21, 0, .ro, 0⟩]⟩]

/-- Registers of the page kind 0x0020 (R434, R447). -/
def engineMap : List RegSpec :=
  [⟨0x80, 1, 8, [⟨63, 63, .w1c, 0⟩, ⟨62, 60, .ro, 0⟩, ⟨59, 54, .ro, 0⟩, ⟨53, 42, .ro, 0⟩, ⟨41, 0, .ro, 0⟩]⟩,
   ⟨0x88, 1, 8, [⟨63, 56, .ro, 0⟩, ⟨47, 40, .ro, 0⟩, ⟨39, 32, .ro, 0⟩, ⟨26, 24, .ro, 0⟩, ⟨17, 16, .ro, 0⟩, ⟨15, 0, .ro, 0⟩]⟩,
   ⟨0x90, 1, 8, [⟨63, 0, .ro, 0⟩]⟩,
   ⟨0x98, 1, 8, [⟨31, 0, .ro, 0⟩]⟩]

/-- Registers of the page kind 0x0001 (R434, R438). -/
def regionMap : List RegSpec :=
  [⟨0xA8, 1, 8, [⟨63, 63, .w1c, 0⟩, ⟨62, 60, .ro, 0⟩, ⟨59, 54, .ro, 0⟩, ⟨53, 42, .ro, 0⟩, ⟨41, 0, .ro, 0⟩]⟩,
   ⟨0x80, 1, 8, [⟨20, 16, .ro, 0⟩, ⟨7, 7, .ro, 0⟩, ⟨6, 5, .ro, 0⟩, ⟨2, 0, .ro, 0⟩]⟩,
   ⟨0x88, 1, 8, [⟨63, 0, .ro, 0⟩]⟩,
   ⟨0x90, 1, 8, [⟨47, 0, .ro, 0⟩]⟩,
   ⟨0x98, 1, 8, [⟨10, 0, .ro, 0⟩]⟩,
   ⟨0xA0, 1, 8, [⟨31, 0, .rc, 0⟩]⟩]

/-- Registers of the page kind 0x0010 (R440). -/
def cellMap : List RegSpec :=
  [⟨0x80, 1, 8, [⟨24, 16, .ro, 0⟩, ⟨12, 8, .ro, 0⟩, ⟨7, 7, .ro, 0⟩, ⟨1, 0, .ro, 0⟩]⟩,
   ⟨0x88, 1, 8, [⟨4, 0, .ro, 0⟩]⟩]

/-- Registers of the page kind 0x0006 (R441). -/
def dispatchMap : List RegSpec :=
  [⟨0x80, 1, 8, [⟨31, 0, .rc, 0⟩]⟩,
   ⟨0x88, 1, 8, [⟨35, 35, .ro, 0⟩, ⟨34, 32, .ro, 0⟩, ⟨31, 0, .ro, 0⟩]⟩]

/-- Registers of the page kind 0x0007 (R442). -/
def tilePortMap : List RegSpec :=
  [⟨0x80, 1, 8, [⟨55, 40, .ro, 0⟩, ⟨31, 24, .ro, 0⟩, ⟨15, 0, .ro, 0⟩]⟩,
   ⟨0x88, 1, 8, [⟨63, 32, .rc, 0⟩, ⟨31, 0, .rc, 0⟩]⟩]

/-- Registers of the page kind 0x0008 (R443). -/
def workPortMap : List RegSpec :=
  [⟨0x80, 1, 8, [⟨43, 32, .rc, 0⟩, ⟨11, 0, .ro, 0⟩]⟩,
   ⟨0x88, 1, 8, [⟨63, 32, .rc, 0⟩, ⟨31, 0, .rc, 0⟩]⟩]

/-- Registers of the page kind 0x0009 (R444). -/
def memPortMap : List RegSpec :=
  [⟨0x80, 1, 8, [⟨42, 32, .ro, 0⟩, ⟨1, 0, .ro, 0⟩]⟩,
   ⟨0x88, 1, 8, [⟨63, 32, .rc, 0⟩, ⟨31, 0, .rc, 0⟩]⟩]

/-- Registers of the page kind 0x000D (R446). -/
def testMap : List RegSpec :=
  [⟨0x80, 1, 8, [⟨8, 8, .ro, 1⟩, ⟨7, 0, .ro, 0⟩]⟩]

/-- Registers of the page kind 0x000E (R446). -/
def viewfinderMap : List RegSpec :=
  [⟨0x80, 4, 8, [⟨16, 16, .rw, 0⟩, ⟨15, 0, .rw, 0⟩]⟩,
   ⟨0xA0, 1, 8, [⟨19, 19, .w1c, 0⟩, ⟨18, 18, .ro, 0⟩, ⟨17, 16, .rw, 0⟩, ⟨15, 0, .rw, 0⟩]⟩]

/-- The registers of a page kind besides the header (R425, R426). -/
def kindMap (kind : Nat) : List RegSpec :=
  match kind with
  | 0x02 => scoreArrayMap
  | 0x03 => combineMap
  | 0x04 => reprintMap
  | 0x26 => balanceMap
  | 0x25 => confluenceMap
  | 0x24 => proofMap
  | 0x05 => basinMap
  | 0x0B => inletMap
  | 0x23 => schedMap
  | 0x29 => ringMap
  | 0x28 => intrMap
  | 0x0A => linkMap
  | 0x0C => edgeMap
  | 0x27 => membershipMap
  | 0x21 => bringupMap
  | 0x22 => powerMap
  | 0x0F => clusterMap
  | 0x20 => engineMap
  | 0x01 => regionMap
  | 0x10 => cellMap
  | 0x06 => dispatchMap
  | 0x07 => tilePortMap
  | 0x08 => workPortMap
  | 0x09 => memPortMap
  | 0x0D => testMap
  | 0x0E => viewfinderMap
  | _ => []

end Sys2Proof.Machine
end

