-- ==== Sys2Proof/Machine/Ops.lean ====
section
/-! DEFINITION. Sys2Proof/Machine/Ops.lean: the named operations over the engine's state: registers and pages (R7 to R14,
R425 to R437), regions and contexts, windows and memory (R260 to R262), free values. Every register has one home, the
register file; every read and write of it goes through here. -/

namespace Sys2Proof.Machine

/-! ### Where pages lie -/

/-- Page p of region r, as an offset from E (R8, R425). -/
def regionPage (r p : Nat) : Nat := r * 0x1000000 + p * 0x1000
/-- Page p of the engine page group (R426). -/
def enginePage (p : Nat) : Nat := 0x8000000 + p * 0x1000
/-- REGION page of region r. -/
def pgRegion (r : Nat) : Nat := regionPage r 0
/-- SCORE_ARRAY page of region r. -/
def pgArray (r : Nat) : Nat := regionPage r 1
/-- COMBINE page of region r. -/
def pgCombine (r : Nat) : Nat := regionPage r 2
/-- REPRINT page of region r. -/
def pgReprint (r : Nat) : Nat := regionPage r 3
/-- BASIN page of region r. -/
def pgBasin (r : Nat) : Nat := regionPage r 4
/-- DISPATCH page of region r. -/
def pgDispatch (r : Nat) : Nat := regionPage r 5
/-- TILE_PORT page of region r. -/
def pgTile (r : Nat) : Nat := regionPage r 6
/-- WORK_PORT page of region r. -/
def pgWork (r : Nat) : Nat := regionPage r 7
/-- MEMPORT[m] page of region r. -/
def pgMem (r m : Nat) : Nat := regionPage r (8 + m)
/-- LINK[p] page of region r. -/
def pgLink (r p : Nat) : Nat := regionPage r (0x10 + p)
/-- INLET[p] page of region r. -/
def pgInlet (r p : Nat) : Nat := regionPage r (0x14 + p)
/-- EDGE[e] page of region r. -/
def pgEdge (r e : Nat) : Nat := regionPage r (0x18 + e)
/-- TEST page of region r. -/
def pgTest (r : Nat) : Nat := regionPage r 0x1C
/-- VIEWFINDER page of region r. -/
def pgView (r : Nat) : Nat := regionPage r 0x1D
/-- CLUSTER[c] page of region r. -/
def pgCluster (r c : Nat) : Nat := regionPage r (0x100 + c)
/-- CLUSTER[c].CELL[k] page of region r. -/
def pgCell (r c k : Nat) : Nat := regionPage r (0x200 + 0x40 * c + k)
/-- ENGINE page. -/
def pgEngine : Nat := enginePage 0
/-- BRINGUP page. -/
def pgBringup : Nat := enginePage 1
/-- POWER page. -/
def pgPower : Nat := enginePage 2
/-- SCHED page. -/
def pgSched : Nat := enginePage 3
/-- PROOF page. -/
def pgProof : Nat := enginePage 4
/-- CONFLUENCE page. -/
def pgConfluence : Nat := enginePage 5
/-- BALANCE page. -/
def pgBalance : Nat := enginePage 6
/-- MEMBERSHIP page. -/
def pgMembership : Nat := enginePage 7
/-- INTR page. -/
def pgIntr : Nat := enginePage 8
/-- RING[c] page. -/
def pgRing (c : Nat) : Nat := enginePage (0x10 + c)

/-- The kind of page p of a region window; 0 where the directory assigns none (R425). -/
def regionPageKind (p : Nat) : Nat :=
  if p < 8 then p + 1
  else if p < 0x10 then 9
  else if p < 0x14 then 0xA
  else if p < 0x18 then 0xB
  else if p < 0x1C then 0xC
  else if p < 0x1E then p - 0xF
  else if 0x100 ≤ p ∧ p < 0x110 then 0xF
  else if 0x200 ≤ p ∧ p < 0x600 ∧ p % 0x40 < 34 then 0x10
  else 0

/-- The kind of page p of the engine page group (R426). -/
def enginePageKind (p : Nat) : Nat :=
  if p < 9 then 0x20 + p else if 0x10 ≤ p ∧ p < 0x20 then 0x29 else 0

/-- The kind of the page that an offset from E lies in; 0 where none is assigned. -/
def pageKind (a : Nat) : Nat :=
  if a < 0x8000000 then regionPageKind (a % 0x1000000 / 0x1000)
  else if a < 0x9000000 then enginePageKind ((a - 0x8000000) / 0x1000) else 0

/-- Base of the page of an offset. -/
def pageBase (a : Nat) : Nat := a / 0x1000 * 0x1000

/-- The instance index that PAGE_ID reports (R429). -/
def pageInstance (a : Nat) : Nat :=
  let p := if a < 0x8000000 then a % 0x1000000 / 0x1000 else (a - 0x8000000) / 0x1000
  if a < 0x8000000 then
    if p < 8 then 0 else if p < 0x10 then p - 8 else if p < 0x14 then p - 0x10 else if p < 0x18 then p - 0x14
    else if p < 0x1C then p - 0x18 else if p < 0x100 then 0 else if p < 0x110 then p - 0x100 else p % 0x40
  else if p < 0x10 then 0 else p - 0x10

/-- The level that PAGE_ID reports: 0 cell, 1 cluster, 2 region, 3 engine (R429). -/
def kindLevel (kind : Nat) : Nat :=
  if kind = 0x10 then 0 else if kind = 0xF then 1 else if kind < 0x20 then 2 else 3

/-- EVT_SEL at reset (R437). -/
def evtSelReset (kind : Nat) : Nat :=
  match kind with
  | 0x01 => 0x4342040341400201
  | 0x0F => 0x0005040341400201
  | 0x10 => 0x060504
  | 0x02 => 0x064004
  | 0x06 => 0x0006044140828180
  | 0x09 => 0x060480424140
  | 0x0A => 0x06044140
  | 0x0C => 0x06044140
  | 0x0B => 0x060480
  | 0x08 => 0x060480
  | 0x20 => 0x06030201
  | _ => 0x0604

/-- Whether ERR_STATUS bit i is assigned to a kind (R432, R433). -/
def errBits (kind : Nat) : Nat :=
  match kind with
  | 0x01 => 10 | 0x02 => 2 | 0x03 => 3 | 0x04 => 1 | 0x05 => 3 | 0x06 => 3 | 0x07 => 3 | 0x08 => 2 | 0x09 => 3
  | 0x0A => 6 | 0x0B => 2 | 0x0C => 4 | 0x0E => 1 | 0x0F => 7 | 0x10 => 5 | 0x20 => 8 | 0x21 => 1 | 0x23 => 1
  | 0x24 => 1 | 0x25 => 2 | 0x27 => 2 | 0x28 => 1 | 0x29 => 2 | _ => 0

/-- The register of a map that an offset within a page belongs to, with its index among repeated ones. -/
def findSpec (m : List RegSpec) (off : Nat) : Option (RegSpec × Nat) :=
  match m with
  | [] => none
  | sp :: t =>
    if sp.base ≤ off ∧ (off - sp.base) % sp.stride = 0 ∧ (off - sp.base) / sp.stride < sp.count then
      some (sp, (off - sp.base) / sp.stride)
    else findSpec t off

/-- The field map of the register at an offset from E, if the page's kind defines one there (R13). -/
def regSpec (a : Nat) : Option (RegSpec × Nat) :=
  if a % 0x1000 < 0x80 then findSpec headerMap (a % 0x1000) else findSpec (kindMap (pageKind a)) (a % 0x1000)

/-- The value of a word after reset, by its field map (R14). -/
def resetWord (a : Nat) : Nat :=
  if a % 0x1000 = 0x38 then evtSelReset (pageKind a)
  else match regSpec a with
    | none => 0
    | some (sp, _) => sp.fields.foldl (fun w f => putBits w f.hi f.lo f.reset) 0

/-! ### Registers -/

/-- The stored word of a register. -/
def State.reg (s : State) (a : Nat) : Nat := (s.regs.getD a (BitVec.ofNat 64 (resetWord a))).toNat

/-- The state with the word of a register stored. -/
def State.setReg (s : State) (a w : Nat) : State := { s with regs := s.regs.set a (BitVec.ofNat 64 w) }

/-- A field of a register of a page. -/
def State.getF (s : State) (page : Nat) (f : Fld) : Nat := bits (s.reg (page + f.off)) f.hi f.lo

/-- The state with a field of a register of a page set. -/
def State.setF (s : State) (page : Nat) (f : Fld) (v : Nat) : State :=
  s.setReg (page + f.off) (putBits (s.reg (page + f.off)) f.hi f.lo v)

/-- An event of the current tc changes a register that software clears: the bits it sets are noted, and the word from before the tc
(R12). -/
def State.note (s : State) (a mask : Nat) : State :=
  let e := s.sameTc.getD a (0, BitVec.ofNat 64 (s.reg a))
  { s with sameTc := s.sameTc.set a (e.1 ||| BitVec.ofNat 64 mask, e.2) }

/-- A status bit or a status field that software clears takes its new value by an event (R12). -/
def State.noteF (s : State) (page : Nat) (f : Fld) (v : Nat) : State :=
  (s.note (page + f.off) (putBits 0 f.hi f.lo v)).setF page f v

/-- The state with a counter field raised by n; it holds at its largest value. -/
def State.bumpF (s : State) (page : Nat) (f : Fld) (n : Nat) : State :=
  if n = 0 then s
  else (s.note (page + f.off) 0).setF page f (min (s.getF page f + n) (2 ^ (f.hi + 1 - f.lo) - 1))

/-- The state with every register of the pages that a test selects back at its reset value (R14). -/
def State.resetRegs (s : State) (p : Nat → Bool) : State := { s with regs := s.regs.erase p, sameTc := s.sameTc.erase p }

/-! ### Regions and contexts -/

/-- Region r. -/
def State.region (s : State) (r : Nat) : Region := s.regions.getD r Region.reset
/-- The state with region r changed. -/
def State.modRegion (s : State) (r : Nat) (f : Region → Region) : State :=
  { s with regions := s.regions.set r (f (s.region r)) }
/-- Context c. -/
def State.ctx (s : State) (c : Nat) : Ctx := s.ctxs.getD c Ctx.closed
/-- The state with context c changed. -/
def State.modCtx (s : State) (c : Nat) (f : Ctx → Ctx) : State := { s with ctxs := s.ctxs.set c (f (s.ctx c)) }
/-- Group slot g. -/
def State.group (s : State) (g : Nat) : Group := s.groups.getD g Group.undefined
/-- The state with group slot g changed. -/
def State.modGroup (s : State) (g : Nat) (f : Group → Group) : State :=
  { s with groups := s.groups.set g (f (s.group g)) }
/-- Memory port m of region r. -/
def State.memPort (s : State) (r m : Nat) : MemPort := (s.region r).memPorts.getD m MemPort.reset
/-- The state with a memory port changed. -/
def State.modMemPort (s : State) (r m : Nat) (f : MemPort → MemPort) : State :=
  s.modRegion r fun g => { g with memPorts := g.memPorts.set m (f (g.memPorts.getD m MemPort.reset)) }
/-- Link port p of region r. -/
def State.link (s : State) (r p : Nat) : Link := (s.region r).links.getD p Link.reset
/-- The state with a link port changed. -/
def State.modLink (s : State) (r p : Nat) (f : Link → Link) : State :=
  s.modRegion r fun g => { g with links := g.links.set p (f (g.links.getD p Link.reset)) }
/-- Inlet p of region r. -/
def State.inlet (s : State) (r p : Nat) : Inlet := (s.region r).inlets.getD p Inlet.reset
/-- The state with an inlet changed. -/
def State.modInlet (s : State) (r p : Nat) (f : Inlet → Inlet) : State :=
  s.modRegion r fun g => { g with inlets := g.inlets.set p (f (g.inlets.getD p Inlet.reset)) }
/-- Edge e of region r. -/
def State.edge (s : State) (r e : Nat) : Edge := (s.region r).edges.getD e Edge.reset
/-- The state with an edge changed. -/
def State.modEdge (s : State) (r e : Nat) (f : Edge → Edge) : State :=
  s.modRegion r fun g => { g with edges := g.edges.set e (f (g.edges.getD e Edge.reset)) }
/-- Cluster c of region r. -/
def State.cluster (s : State) (r c : Nat) : ClusterUnit := (s.region r).clusters.getD c ClusterUnit.reset
/-- The state with a cluster changed. -/
def State.modCluster (s : State) (r c : Nat) (f : ClusterUnit → ClusterUnit) : State :=
  s.modRegion r fun g => { g with clusters := g.clusters.set c (f (g.clusters.getD c ClusterUnit.reset)) }
/-- Event e. -/
def State.event (s : State) (e : Nat) : W32 × Bool := s.events.getD e (0, false)
/-- Sequence slot i. -/
def State.slot (s : State) (i : Nat) : SeqSlot := s.slots.getD i SeqSlot.free
/-- The state with sequence slot i replaced. -/
def State.setSlot (s : State) (i : Nat) (x : SeqSlot) : State := { s with slots := s.slots.set i x }

/-- The live regions, ascending (R16, R423). -/
def State.live (s : State) : List Nat := (List.range 8).filter fun r => (s.region r).health == 1
/-- The live regions as a mask. -/
def State.liveMask (s : State) : Nat := maskOf s.live
/-- The region that leads the engine (R17). -/
def State.leader (s : State) : Nat := s.getF pgBringup Fld.BRINGUP_STATE_LEADER
/-- The bring-up state (R403). -/
def State.bringState (s : State) : Nat := s.getF pgBringup Fld.BRINGUP_STATE_STATE
/-- READY or READY_DEGRADED (R403). -/
def State.ready (s : State) : Bool := s.bringState == 10 || s.bringState == 11
/-- The region that leads is live: no leader change is due (R18). -/
def State.led (s : State) : Bool := (s.region s.leader).health == 1
/-- The leader's cycle counter. -/
def State.tcNow (s : State) : Nat := (s.region s.leader).tc
/-- This engine's member ID (R390). -/
def State.self (s : State) : Nat := s.getF pgMembership Fld.MEMB_STATE_SELF

/-- Timeline tc per REFCLK cycle: 16, 14 or 12 by grade, 8 in safelight (R449). -/
def State.tcPerRef (s : State) : Nat :=
  if s.power.safelight then 8 else match s.bringUp.grade with | 0 => 16 | 1 => 14 | _ => 12

/-- The timeline ceiling of the grade, in MHz (R2). -/
def gradeMHz (grade : Nat) : Nat := match grade with | 0 => 1600 | 1 => 1400 | _ => 1200

/-- A page answers on the control port (R9, R405, R428): of a region window once the region's Clocks step has ended; of the engine group
once a region can serve it, which before any Clocks step is BRINGUP and POWER alone. -/
def State.pageAnswers (s : State) (pg : Nat) : Bool :=
  pageKind pg != 0 &&
  (if pg < 0x8000000 then (s.region (pg / 0x1000000)).clocks
   else s.regions.any fun e => e.2.rom && (pageKind pg == 0x21 || pageKind pg == 0x22 || e.2.clocks))

/-- An access to a page has its effect where the page answers; elsewhere it ends with an error response and changes nothing (R9). -/
def State.whereAnswers (s : State) (pg : Nat) (f : State → State) : State := if s.pageAnswers pg then f s else s

/-! ### Free values -/

/-- The next free value (log 7). -/
def State.freeVal (s : State) : BitVec 64 := Config.freeBits s.freeCtr
/-- n bytes that the manual leaves open, from the free value number i on (log 7). -/
def freeBytes (i n : Nat) : Bytes := (List.range n).map fun k => BitVec.ofNat 8 (bits (Config.freeBits (i + k / 8)).toNat (8 * (k % 8) + 7) (8 * (k % 8)))
/-- The state after a free value was taken. -/
def State.drew (s : State) : State := { s with freeCtr := s.freeCtr + 1 }

/-! ### Events, interrupts and errors -/

/-- The word of a register before the current tc, which is in force through it where a change takes effect with the next (R436, R473). -/
def State.inForce (s : State) (a : Nat) : Nat := match s.sameTc.get? a with | none => s.reg a | some e => e.2.toNat

/-- The trigger fires (R470, R472): every channel's sample of the tc is marked, and VF_TRIG_OUT pulses in the next VF_CLK cycle. -/
def Viewfinder.fire (v : Viewfinder) : Viewfinder :=
  { v with pulse := true, channels := (List.range 4).foldl (fun t i => t.update i VfChannel.reset fun ch => { ch with mark := true }) v.channels }

/-- The viewfinder's trigger sees an event of region r (R472, R473): it fires when it is armed, which disarms it unless a write of the
same tc has set it anew, or when it takes every occurrence. -/
def State.vfEvent (s : State) (r code : Nat) : State :=
  let pg := pgView r
  let a := pg + Fld.VF_TRIG_EVENT.off
  let w := s.inForce a
  if bits w 15 0 != code then s
  else if bits w 17 16 == 2 || (bits w 17 16 == 1 && bitAt w 18) then
    let s1 := s.noteF pg Fld.VF_TRIG_FIRED 1
    let s2 := if bits w 17 16 == 1 && (s.sameTc.get? a).isNone then s1.setF pg Fld.VF_TRIG_ARMED 0 else s1
    s2.modRegion r fun g => { g with view := g.view.fire }
  else s

/-- Whether counter i of a page counts a code by a word of its EVT_SEL (R436). -/
def selects (w i code : Nat) : Bool := bits w (8 * i + 7) (8 * i) == code

/-- Add n to every counter of a page that counts a code, unless the page's counters are held; a counter whose code has changed counts the
new one from the next tc (R435, R436). -/
def State.count (s : State) (page code n : Nat) : State :=
  let s1 := if s.getF page Fld.PAGE_CTL_ENABLE == 0 then s
    else (List.range 8).foldl (fun t i =>
      if selects (s.reg (page + 0x38)) i code && selects (s.inForce (page + 0x38)) i code then
        t.bumpF (page + 8 * i) Fld.EVT_CNT_COUNT n else t) s
  if page < 0x8000000 && page % 0x1000000 == 0 && code < 0x80 && n != 0 then s1.vfEvent (page / 0x1000000) (0x2000 + code) else s1

/-- A source becomes pending; reserved sources never do (R351). -/
def State.pend (s : State) (src : Nat) : State :=
  if 0x57 ≤ src ∧ src ≤ 0x5F then s
  else
    let a := src / 64
    let w := s.getF (pgIntr + 8 * a) Fld.PENDING
    let s1 := s.note (pgIntr + 8 * a + Fld.PENDING.off) (2 ^ (src % 64))
    if bitAt w (src % 64) then s1 else s1.setF (pgIntr + 8 * a) Fld.PENDING (w + 2 ^ (src % 64))

/-- The counter value that ERR_FIRST and LAST_ESCALATION take: the region's, or the leader's for engine pages (R429). -/
def State.pageTc (s : State) (page : Nat) : Nat :=
  if page < 0x8000000 then (s.region (page / 0x1000000)).tc else s.tcNow

/-- The interrupt source of a page's errors (R351). -/
def pageSource (page : Nat) : Nat := if page < 0x8000000 then 0x40 + page / 0x1000000 else 0x50

/-- The parent page (R425, R426); none for ENGINE. -/
def parentPage (page : Nat) : Option Nat :=
  if page = pgEngine then none
  else if 0x8000000 ≤ page then some pgEngine
  else
    let r := page / 0x1000000
    let p := page % 0x1000000 / 0x1000
    if p = 0 then some pgEngine
    else if 0x200 ≤ p then some (pgCluster r ((p - 0x200) / 0x40))
    else some (pgRegion r)

/-- Whether ERR_FIRST of a page takes an unmasked fault i: it holds none, or one of the same tc with a higher bit number, or the same
bit raised by ERR_FORCE alone (R22, R430, R431). -/
def State.firstTakes (s : State) (page i : Nat) (forced : Bool) : Bool :=
  let w := s.reg (page + 0x30)
  !bitAt w 63 || (bits w 47 0 == s.pageTc page % 2 ^ 48 && (decide (i < bits w 61 56) || (i == bits w 61 56 && !forced)))

/-- The page's own registers record fault i: ERR_STATUS, the capture and the interrupt source (R22, R430, R431). -/
def State.record (s : State) (page i : Nat) (forced : Bool) : State :=
  let st := s.getF page Fld.ERR_STATUS_STATUS
  let masked := bitAt (s.getF page Fld.ERR_MASK_MASK) i
  let s0 := s.note (page + Fld.ERR_STATUS_STATUS.off) (2 ^ i)
  let s1 := if bitAt st i then s0 else s0.setF page Fld.ERR_STATUS_STATUS (st + 2 ^ i)
  let s2 := if masked || !s.firstTakes page i forced then s1
    else (s1.note (page + 0x30) (2 ^ 63)).setReg (page + 0x30)
      (2 ^ 63 + flag forced * 2 ^ 62 + (i % 64) * 2 ^ 56 + s.pageTc page % 2 ^ 48)
  if bitAt st i || masked then s2 else s2.pend (pageSource page)

/-- A fault that the page contains: it is recorded and the parent counts CHILD_CONTAINED (R23, R430). -/
def State.contain (s : State) (page i : Nat) : State :=
  let s1 := s.record page i false
  match parentPage page with | none => s1 | some p => s1.count p 1 1

/-- Where a kind's LAST_ESCALATION lies; none where it has none (R434). -/
def lastEscalationOff (kind : Nat) : Option Nat :=
  if kind = 0x0F ∨ kind = 0x20 then some 0x80 else if kind = 0x01 then some 0xA8 else none

/-- A page receives fault bit i of a child page as its own bit j: the escalation is recorded and counted; of two in one tc the lower
page and bit stay in LAST_ESCALATION (R430, R434). -/
def State.receiveEsc (s : State) (page j child i : Nat) : State :=
  let s1 := (s.record page j false).count page 2 1
  match lastEscalationOff (pageKind page) with
  | none => s1
  | some off =>
    let region := if child < 0x8000000 then child / 0x1000000 else 0
    let number := (if child < 0x8000000 then child % 0x1000000 / 0x1000 else (child - 0x8000000) / 0x1000) % 4096
    let now := s.pageTc page % 2 ^ 42
    let w := s.reg (page + off)
    if bitAt w 63 && bits w 41 0 == now && decide (bits w 53 42 * 64 + bits w 59 54 ≤ number * 64 + i % 64) then s1
    else (s1.note (page + off) (2 ^ 63)).setReg (page + off)
      (2 ^ 63 + region * 2 ^ 60 + (i % 64) * 2 ^ 54 + number * 2 ^ 42 + now)

/-- A page cannot contain fault i and reports it to its parent, which receives it as bit j and contains it (R21, R23, R430). -/
def State.escalate (s : State) (page i j : Nat) : State :=
  let s1 := s.record page i false
  match parentPage page with
  | none => s1
  | some p =>
    let s2 := s1.receiveEsc p j page i
    match parentPage p with | none => s2 | some q => s2.count q 1 1

/-! ### Time -/

/-- Cycles of an island that runs at a ratio a/b to REFCLK, in the next d tc. -/
def State.cyclesAt (s : State) (a b d : Nat) : Nat :=
  let n := s.tcPerRef
  let at_ (phase : Nat) : Nat := (s.time / 10 * n + phase) * a / (b * n)
  at_ (s.phase + d) - at_ s.phase

/-- Cycles of a page's island in the next d tc (R435, R449): a link island's at 781.25 MHz, an edge island's at 2 GHz, the timeline's; the
control clock's, which the integrator gives and which is no faster than the timeline's ceiling, are a free value up to d (log 7). -/
def State.islandCycles (s : State) (kind d : Nat) : Nat :=
  if kind = 0x0A ∨ kind = 0x0B then s.cyclesAt 125 16 d
  else if kind = 0x0C then s.cyclesAt 20 1 d
  else if 0x20 ≤ kind then Config.controlCycles (s.time / 10 * s.tcPerRef + s.phase) d % (d + 1)
  else d

/-- The counters of a page that a write of this tc has set to CYCLE count the cycles after it (R436). -/
def State.countLater (s : State) (pg n : Nat) : State :=
  if s.getF pg Fld.PAGE_CTL_ENABLE == 0 then s
  else (List.range 8).foldl (fun t i =>
    if selects (s.reg (pg + 0x38)) i 7 && !selects (s.inForce (pg + 0x38)) i 7 then t.bumpF (pg + 8 * i) Fld.EVT_CNT_COUNT n else t) s

/-- Every event counter that counts CYCLE counts its island's cycles (R435): only a page whose EVT_SEL a write has changed can select it. -/
def State.countCycles (s : State) (d : Nat) : State :=
  s.regs.foldl (fun t e =>
    let pg := pageBase e.1
    let n (d : Nat) : Nat := t.islandCycles (pageKind pg) d
    if e.1 % 0x1000 = 0x38 ∧ t.pageAnswers pg then (t.count pg 7 (n d)).countLater pg (n d - n 1) else t) s

/-- d cycles pass in a region whose clocks run: a stall that ends by then is over (R471). -/
def Region.pass (g : Region) (d : Nat) : Region :=
  if g.clocks then { g with tc := g.tc + d, beats := 0, stall := if g.stallEnd ≤ g.tc + d then 0 else g.stall } else g

/-- d cycles pass in every region. -/
def State.passRegions (s : State) (d : Nat) : State := { s with regions := s.regions.map fun (e : Nat × Region) => (e.1, e.2.pass d) }

/-- d cycles of the timeline pass: the counters of every region whose clocks run move together, since all are locked to one reference
(R58), and TIME moves by 10 ns with each REFCLK cycle (R447, R449). -/
def State.pass (s : State) (d : Nat) : State :=
  if d = 0 then s
  else
    let n := s.tcPerRef
    { (s.countCycles d).passRegions d with
      time := s.time + 10 * ((s.phase + d) / n), phase := (s.phase + d) % n, sameTc := [] }

/-- The timeline moves on to a cycle of region r that a plate operation reaches; it never goes back (log 5). -/
def State.reach (s : State) (r tc : Nat) : State := s.pass (tc - (s.region r).tc)

/-- TIME in cycle tc of region r, which is not later than its present cycle (R447). -/
def State.timeAt (s : State) (r tc : Nat) : Nat :=
  let back := (s.region r).tc - tc
  if back ≤ s.phase then s.time else s.time - 10 * ((back - s.phase + s.tcPerRef - 1) / s.tcPerRef)

/-! ### Windows and memory -/

/-- CTX_BASE, SPACE, TARGET, rights and size of a window entry (R260). -/
def winBase (e : BitVec 128) : Nat := bits e.toNat 47 21 * 2 ^ 21
/-- SPACE of a window entry: true for region store. -/
def winStore (e : BitVec 128) : Bool := bitAt e.toNat 3
/-- Size of a window in bytes. -/
def winSize (e : BitVec 128) : Nat := (bits e.toNat 84 64 + 1) * 2 ^ 21
/-- TARGET of a window. -/
def winTarget (e : BitVec 128) : Nat := bits e.toNat 119 85 * 2 ^ 21

/-- The entry that holds a context address (R261). -/
def findWindow (w : Tab (BitVec 128)) (a : Nat) : Option (BitVec 128) :=
  (w.find? fun e => bitAt e.2.toNat 0 && decide (winBase e.2 ≤ a) && decide (a < winBase e.2 + winSize e.2)).map (·.2)

/-- A run of bytes after translation: in region store or in the fabric, from an address, so many. -/
structure Piece where
  store : Bool
  addr : Nat
  len : Nat
  deriving DecidableEq, Repr

/-- Translate n bytes from context address a (R261): none is a BOUNDS_FAULT. The fuel bounds the windows crossed. -/
def translateFuel (w : Tab (BitVec 128)) (write : Bool) : Nat → Nat → Nat → Option (List Piece)
  | _, _, 0 => some []
  | 0, _, _ => none
  | fuel + 1, a, n =>
    match findWindow w a with
    | none => none
    | some e =>
      if bitAt e.toNat (if write then 2 else 1) then
        let take := min n (winBase e + winSize e - a)
        (translateFuel w write fuel (a + take) (n - take)).map
          (⟨winStore e, winTarget e + (a - winBase e), take⟩ :: ·)
      else none

/-- Translate n bytes from context address a for a read or a write (R261). -/
def translate (w : Tab (BitVec 128)) (write : Bool) (a n : Nat) : Option (List Piece) :=
  if 2 ^ 48 < a + n then none else translateFuel w write 257 a n

/-- The bytes of a piece, as region r sees them. -/
def State.readPiece (s : State) (r : Nat) (p : Piece) : Bytes :=
  if p.store then (s.region r).store.read p.addr p.len else s.fabric.read p.addr p.len

/-- n bytes at context address a, read by region r; none when they do not translate. -/
def State.readCtx (s : State) (w : Tab (BitVec 128)) (r a n : Nat) : Option Bytes :=
  (translate w false a n).map fun ps => ps.foldl (fun acc p => acc ++ s.readPiece r p) []

/-- The state with bytes stored in region r's store; a unit that is written whole has good check bits again (R445). -/
def State.storeWrite (s : State) (r a : Nat) (bs : Bytes) : State :=
  s.modRegion r fun g =>
    { g with store := g.store.write a bs, poison := g.poison.filter fun u => !(decide (a ≤ 64 * u) && decide (64 * u + 64 ≤ a + bs.length)) }

/-- The state with bytes stored in the fabric. -/
def State.fabricWrite (s : State) (a : Nat) (bs : Bytes) : State := { s with fabric := s.fabric.write a bs }

/-- Write bytes over translated pieces, in order. -/
def State.writePieces (s : State) (r : Nat) : List Piece → Bytes → State
  | [], _ => s
  | p :: ps, bs =>
    (if p.store then s.storeWrite r p.addr (bs.take p.len) else s.fabricWrite p.addr (bs.take p.len)).writePieces r ps
      (bs.drop p.len)

/-- The state with bytes written at context address a by region r; none when they do not translate. -/
def State.writeCtx (s : State) (w : Tab (BitVec 128)) (r a : Nat) (bs : Bytes) : Option State :=
  (translate w true a bs.length).map fun ps => s.writePieces r ps bs

/-- Whether any 64-byte unit of a range of region r's store is marked uncorrectable (R445). -/
def State.poisoned (s : State) (r a n : Nat) : Bool :=
  (s.region r).poison.any fun u => decide (u * 64 < a + n) && decide (a < u * 64 + 64)

/-! ### Transactions of memory ports (R146, R454, R455) -/

/-- A slot that no transaction of a port holds, the next one in turn first. -/
def MemPort.freeTag (m : MemPort) (slots : Nat) : Option Nat :=
  ((List.range slots).map fun i => (m.nextTag + i) % slots).find? fun t => !m.txs.any fun x => x.tag == t

/-- The next transaction of a port takes a free slot, if there is one; its request leaves while the port holds a credit of its path. -/
def MemPort.pump (m : MemPort) (slots : Nat) : MemPort :=
  match m.todo, m.freeTag slots with
  | tx :: rest, some tag =>
    let credit := if tx.write then m.wrCredit else m.rdCredit
    { m with
      txs := m.txs ++ [{ tx with tag := tag, sent := credit != 0 }], todo := rest, nextTag := (tag + 1) % max slots 1,
      rdCredit := if tx.write then m.rdCredit else m.rdCredit - 1, wrCredit := if tx.write then m.wrCredit - 1 else m.wrCredit }
  | _, _ => m

/-- Transactions take slots as long as there are free ones. -/
def MemPort.fill (m : MemPort) (slots : Nat) : MemPort := (List.range m.todo.length).foldl (fun m _ => m.pump slots) m

/-- The operation of the port's unit ends: its reads have been released; a write without its answer keeps its slot (R146). -/
def MemPort.opEnd (m : MemPort) (slots : Nat) : MemPort :=
  let keep (l : List MemTx) : List MemTx := (l.filter (·.write)).map fun t => { t with late := true }
  MemPort.fill { m with txs := keep m.txs, todo := keep m.todo } slots

/-- The aligned units that n bytes at a fabric address cover: unit number, place of byte 0 of the unit in region store when address
a stands for place dest, and the bytes of the unit that move. -/
def unitsOf (a n : Nat) (dest : Int) : List (Nat × Int × List Nat) :=
  (List.range (ceilDiv (a % 64 + n) 64)).map fun i =>
    let u := a / 64 + i
    (u, dest + ((64 * u : Nat) : Int) - (a : Int), (List.range 64).filter fun b => decide (a ≤ 64 * u + b) && decide (64 * u + b < a + n))

/-- A port is given a transaction: it takes a slot at once, or as soon as one is free. -/
def MemPort.take (m : MemPort) (slots : Nat) (write : Bool) (bank : Option (Nat × Nat)) (u : Nat × Int × List Nat) : MemPort :=
  MemPort.pump { m with todo := m.todo ++ [⟨0, write, u.1, u.2.1, u.2.2, false, false, bank⟩] } slots

/-- The fabric units of n bytes at a context address; a piece of region store needs none. dest is where the first byte lies or
goes in region store. -/
def fabricUnits (w : Tab (BitVec 128)) (write : Bool) (a n : Nat) (dest : Int) : List (Nat × Int × List Nat) :=
  (((translate w write a n).getD []).foldl (fun (acc : List (Nat × Int × List Nat) × Int) p =>
    (if p.store then acc.1 else acc.1 ++ unitsOf p.addr p.len acc.2, acc.2 + p.len)) ([], dest)).1

/-- Where a context address lies in region store, if it does. -/
def storePlace (w : Tab (BitVec 128)) (a : Nat) : Option Nat :=
  match (translate w true a 1).getD [] with | [p] => if p.store then some p.addr else none | _ => none

/-- The units that n bytes at a context address are read from, with where they go: a byte that goes to region store lands there with the
answer (R445). -/
def landUnits (w : Tab (BitVec 128)) (a n dest : Nat) : List (Nat × Int × List Nat) :=
  match storePlace w dest with
  | some p => fabricUnits w false a n p
  | none => (fabricUnits w false a n 0).map fun u => (u.1, 0, [])

end Sys2Proof.Machine
end

