-- ==== Sys2Proof/Machine/Flags.lean ====
section
/-! DEFINITION. Sys2Proof/Machine/Flags.lean: status codes and completion flags (R328) and the error bits of the pages (R433). -/

namespace Sys2Proof.Machine

/-- Status code SUCCESS (R328). -/
def stSuccess : Nat := 0
def stCommandInvalid : Nat := 0x0100
def stPrivilegeFault : Nat := 0x0101
def stPlateInvalid : Nat := 0x0102
def stGeometryMismatch : Nat := 0x0103
def stReproMismatch : Nat := 0x0104
def stAlignFault : Nat := 0x0105
def stAliasFault : Nat := 0x0106
def stOverlapFault : Nat := 0x0107
def stPlacementFault : Nat := 0x0108
def stRouterInvalid : Nat := 0x0109
def stBalanceInvalid : Nat := 0x010A
def stGroupInvalid : Nat := 0x010B
def stNotMember : Nat := 0x010C
def stSeqInvalid : Nat := 0x010D
def stShareFault : Nat := 0x010E
def stRegulatorFault : Nat := 0x010F
def stAdmissionFault : Nat := 0x0110
def stCreditFault : Nat := 0x0111
def stTankOverflow : Nat := 0x0112
def stDependencyFault : Nat := 0x0113
def stCapacityFault : Nat := 0x0200
def stBoundsFault : Nat := 0x0201
def stSelectPassFault : Nat := 0x0202
def stSortOrderFault : Nat := 0x0203
def stRecordFault : Nat := 0x0204
def stManifestMismatch : Nat := 0x0205
def stStageMiss : Nat := 0x0206
def stBasinExhausted : Nat := 0x0207
def stLinkTimeout : Nat := 0x0300
def stTileTimeout : Nat := 0x0301
def stExtTileTimeout : Nat := 0x0302
def stExtTileOrder : Nat := 0x0303
def stConfluenceTimeout : Nat := 0x0304
def stEdgeFault : Nat := 0x0305
def stArrayFault : Nat := 0x0306
def stBundleParity : Nat := 0x0307
def stRegionHalted : Nat := 0x0308
def stRegionFenced : Nat := 0x0309
def stSignatureMismatch : Nat := 0x0400
def stGroupReformed : Nat := 0x0401
def stContextFault : Nat := 0x0500

/-- Completion flag bits: bit i stands for flag code 0x0010 + i (R327, R328). -/
def flCapacitySpill : Nat := 0
def flCapacityDrop : Nat := 1
def flNanScore : Nat := 2
def flScaleOverrun : Nat := 3
def flStrayTile : Nat := 4
def flBurnUpdated : Nat := 5
def flProofLost : Nat := 6
def flSafelight : Nat := 7
def flNonfiniteSum : Nat := 8
def flTimingLate : Nat := 9

/-- A flag mask with bit i set. -/
def setFlag (m i : Nat) : Nat := if bitAt m i then m else m + 2 ^ i

/-- The union of two flag masks. -/
def orFlags (a b : Nat) : Nat := Nat.lor a b

end Sys2Proof.Machine
end

