-- ==== Sys2Proof/Machine/Operands.lean ====
section
/-! DEFINITION. Sys2Proof/Machine/Operands.lean: the fields of commands (R325, R333), context records (R334), routers (R337),
tensor-list views (R342), tensor descriptors (R252) and their address generation (R254 to R258, R274), and bundles (R42, R45). -/

namespace Sys2Proof.Machine

/-! ### Commands (R325, R333) -/

/-- n bytes at byte offset off of a 64-byte command. -/
def cmdField (raw : BitVec 512) (off n : Nat) : Nat := bits raw.toNat (8 * (off + n) - 1) (8 * off)
/-- OPCODE. -/
def cmdOp (raw : BitVec 512) : Nat := cmdField raw 0 1
/-- STEP. -/
def cmdStep (raw : BitVec 512) : Nat := bits raw.toNat 63 48
/-- USER_TAG. -/
def cmdTag (raw : BitVec 512) : Nat := bits raw.toNat 47 32
/-- SIGNAL. -/
def cmdSignal (raw : BitVec 512) : Nat := bits raw.toNat 31 20
/-- RESET. -/
def cmdReset (raw : BitVec 512) : Bool := bitAt raw.toNat 10
/-- SIGNAL_EN. -/
def cmdSignalEn (raw : BitVec 512) : Bool := bitAt raw.toNat 9
/-- SERIAL. -/
def cmdSerial (raw : BitVec 512) : Bool := bitAt raw.toNat 8
/-- TARGET, VALID and WAIT of wait i, 0 or 1. -/
def cmdTarget (raw : BitVec 512) (i : Nat) : Nat := bits raw.toNat (127 + 64 * i) (96 + 64 * i)
/-- VALID of wait i. -/
def cmdWaits (raw : BitVec 512) (i : Nat) : Bool := bitAt raw.toNat (76 + 64 * i)
/-- WAIT of wait i. -/
def cmdWait (raw : BitVec 512) (i : Nat) : Nat := bits raw.toNat (75 + 64 * i) (64 + 64 * i)
/-- The address operand at bytes 32 to 39. -/
def cmdAddr (raw : BitVec 512) : Nat := cmdField raw 32 8
/-- The address operand at bytes 40 to 47. -/
def cmdAddr2 (raw : BitVec 512) : Nat := cmdField raw 40 8

/-- Whether an opcode is a plate set's (LAYER_RUN, COMBINE_RUN). -/
def isSetOp (op : Nat) : Bool := op == 0x20 || op == 0x21

/-! ### Context records (R334) -/

/-- STORE_G of a record. -/
def recStoreG (r : Bytes) : Nat := field r 0 1
/-- LANDING_PEERS. -/
def recPeers (r : Bytes) : Nat := field r 1 1
/-- STAGE in MiB. -/
def recStage (r : Bytes) : Nat := field r 2 1
/-- PRIORITY. -/
def recPriority (r : Bytes) : Nat := field r 3 1
/-- ISSUE_SHARE. -/
def recIssueShare (r : Bytes) : Nat := field r 4 1
/-- PARTITION. -/
def recPartition (r : Bytes) : Nat := field r 5 1
/-- ROUTER_E_MAX, 0 taken as 1,024. -/
def recEMax (r : Bytes) : Nat := if field r 6 2 = 0 then 1024 else field r 6 2
/-- PLATE_BYTES. -/
def recPlateBytes (r : Bytes) : Nat := field r 8 4
/-- LANDING_BYTES. -/
def recLanding (r : Bytes) : Nat := field r 0xC 4
/-- RT_PERIOD. -/
def recRtPeriod (r : Bytes) : Nat := field r 0x10 4
/-- RT_BUDGET. -/
def recRtBudget (r : Bytes) : Nat := field r 0x14 4
/-- STATE_BASE. -/
def recStateBase (r : Bytes) : Nat := field r 0x18 8
/-- BASIN_BASE. -/
def recBasinBase (r : Bytes) : Nat := field r 0x20 8
/-- OVERFLOW_BASE. -/
def recOverflowBase (r : Bytes) : Nat := field r 0x28 8
/-- BASINS count i: SIZE for POOL 0, 6 + SIZE for POOL 1. -/
def recBasins (r : Bytes) (i : Nat) : Nat := field r (0x30 + 4 * i) 4
/-- ΣE of R299: 128 routers at the largest E. -/
def recSumE (r : Bytes) : Nat := 128 * recEMax r
/-- STATE_G of R299. -/
def recStateG (r : Bytes) : Nat :=
  ceilDiv (16384 + 4 * recSumE r + recPlateBytes r + recPeers r * recLanding r) 0x200000
/-- Granules of the whole share. -/
def recShareG (r : Bytes) : Nat := recStoreG r + recStateG r

/-- The record of context 0 (R296). -/
def supervisorRecord : Bytes :=
  build 128 [(0, 1, 1), (4, 1, 1), (8, 4, 1472 * 1024)]

/-! ### Routers (R337) -/

/-- n bytes at offset off of a router entry. -/
def rtField (e : BitVec 512) (off n : Nat) : Nat := bits e.toNat (8 * (off + n) - 1) (8 * off)
def rtH (e : BitVec 512) : Nat := rtField e 0 2
def rtE (e : BitVec 512) : Nat := rtField e 2 2
def rtK (e : BitVec 512) : Nat := rtField e 4 1
def rtFunction (e : BitVec 512) : Nat := rtField e 5 1
def rtElem (e : BitVec 512) : Nat := rtField e 6 1
def rtSplit (e : BitVec 512) : Nat := rtField e 7 1
def rtGroups (e : BitVec 512) : Nat := rtField e 8 1
def rtGroupKeep (e : BitVec 512) : Nat := rtField e 9 1
def rtGroupTopM (e : BitVec 512) : Nat := rtField e 0xA 1
def rtNormMode (e : BitVec 512) : Nat := rtField e 0xB 1
def rtOverflow (e : BitVec 512) : Nat := rtField e 0xC 1
def rtReprint (e : BitVec 512) : Nat := rtField e 0xD 1
def rtOrdinal (e : BitVec 512) : Nat := rtField e 0xE 1
def rtPeerContext (e : BitVec 512) : Nat := rtField e 0xF 1
def rtRouteScale (e : BitVec 512) : Nat := rtField e 0x10 4
def rtNoiseAmp (e : BitVec 512) : Nat := rtField e 0x14 4
def rtBalClamp (e : BitVec 512) : Nat := rtField e 0x18 4
def rtBalGamma (e : BitVec 512) : Nat := rtField e 0x1C 3
def rtBalPeriod (e : BitVec 512) : Nat := rtField e 0x20 2
def rtPlacement (e : BitVec 512) : Nat := rtField e 0x28 8
/-- Bytes per element of the router's token rows. -/
def rtEs (e : BitVec 512) : Nat := if rtElem e = 0 then 2 else 1
/-- Row bytes B = H × element size. -/
def rtRowBytes (e : BitVec 512) : Nat := rtH e * rtEs e
/-- Tensor ELEM_TYPE of the router's token rows (R253): BF16, FP8 E4M3 or E5M2. -/
def rtTensorType (e : BitVec 512) : Nat := rtElem e + 1
/-- Print bytes PS (R172). -/
def rtPrintBytes (e : BitVec 512) : Nat := 64 * ceilDiv (64 + 33 * rtH e / 16) 64

/-! ### Tensor-list entries: views (R342) and descriptors (R252) -/

/-- The view word of entry i of a list. -/
def viewAt (list : Bytes) (i : Nat) : Nat := field list (192 * i) 8
/-- The descriptor of entry i of a list. -/
def descAt (list : Bytes) (i : Nat) : Bytes := (list.drop (192 * i + 64)).take 128
/-- Entries of a list. -/
def listLen (list : Bytes) : Nat := list.length / 192
def vwRowEntry (v : Nat) : Nat := bits v 41 36
def vwRouter (v : Nat) : Nat := bits v 34 28
def vwOutElem (v : Nat) : Nat := bits v 27 26
/-- W of a COMBINE view. -/
def vwW (v : Nat) : Nat := 32 * (bits v 25 16 + 1)
def vwReturn (v : Nat) : Bool := bitAt v 5
def vwPhase (v : Nat) : Nat := bits v 4 4
def vwKind (v : Nat) : Nat := bits v 3 0

def dsBase (d : Bytes) : Nat := field d 0 8
def dsFormat (d : Bytes) : Nat := field d 8 8
def dsScale (d : Bytes) : Nat := field d 0x10 4
def dsScaleBase (d : Bytes) : Nat := field d 0x18 8
def dsIndexBase (d : Bytes) : Nat := field d 0x20 8
def dsPlaneStride (d : Bytes) : Int := signed 64 (field d 0x28 8)
def dsSize (d : Bytes) (i : Nat) : Nat := field d (0x30 + 4 * i) 4
def dsStride (d : Bytes) (i : Nat) : Int := signed 64 (field d (0x48 + 8 * i) 8)
def dsOwnerBase (d : Bytes) : Nat := field d 0x78 8
def dsTokenBase (d : Bytes) : Nat := bits (dsFormat d) 63 40
def dsDistributed (d : Bytes) : Bool := bitAt (dsFormat d) 16
def dsIndexed (d : Bytes) : Bool := bitAt (dsFormat d) 15
def dsBlock (d : Bytes) : Nat := bits (dsFormat d) 11 10
def dsRank (d : Bytes) : Nat := bits (dsFormat d) 9 7
def dsLayout (d : Bytes) : Nat := bits (dsFormat d) 4 4
def dsElem (d : Bytes) : Nat := bits (dsFormat d) 3 0

/-- Bits of an element type (R253). -/
def elemBits (t : Nat) : Nat :=
  match t with | 0 => 32 | 1 => 16 | 2 => 8 | 3 => 8 | 4 => 8 | 5 => 8 | 6 => 6 | 7 => 6 | 8 => 4 | 9 => 32 | 10 => 8 | _ => 0
/-- Whether a type is stored in bit planes (R257). -/
def elemPlaned (t : Nat) : Bool := t == 6 || t == 7 || t == 8
/-- Element width es in bytes of a byte-sized type. -/
def elemBytes (t : Nat) : Nat := elemBits t / 8

/-- The product of the extents of dimensions lo to hi − 1. -/
def dsExtent (d : Bytes) (lo hi : Nat) : Nat :=
  (List.range (hi - lo)).foldl (fun acc i => acc * dsSize d (lo + i)) 1
/-- The count of a tensor (R254). -/
def dsCount (d : Bytes) : Nat := dsExtent d 0 (dsRank d)
/-- Rows of a row view: the extent of dimensions 1 and above (R259). -/
def dsRows (d : Bytes) : Nat := dsExtent d 1 (dsRank d)
/-- Row bytes of a row view (R259). -/
def dsRowBytes (d : Bytes) : Nat := dsSize d 0 * elemBytes (dsElem d)
/-- Bytes of a structure tensor (R253). -/
def dsBytes (d : Bytes) : Nat := dsSize d 0

/-- The index of traversal number t in dimension k, from dimension lo on (R254). -/
def dsIndexFrom (d : Bytes) (lo k t : Nat) : Nat := t / dsExtent d lo k % max (dsSize d k) 1

/-- The byte offset of the element with traversal number t over dimensions lo and above, from BASE (R254). -/
def dsOffsetFrom (d : Bytes) (lo t : Nat) : Int :=
  (List.range (dsRank d - lo)).foldl (fun acc i =>
    acc + (dsIndexFrom d lo (lo + i) t : Int) * dsStride d (lo + i)) 0

/-- The context address of element t of a byte-type tensor (R254, R255). -/
def dsAddr (d : Bytes) (t : Nat) : Nat :=
  if dsLayout d = 1 then
    let c := dsIndexFrom d 0 0 t
    ((dsBase d : Int) + ((c % 32 * elemBytes (dsElem d) : Nat) : Int) + ((c / 32 : Nat) : Int) * dsStride d 0 +
      dsOffsetFrom d 1 (t / max (dsSize d 0) 1)).toNat
  else ((dsBase d : Int) + dsOffsetFrom d 0 t).toNat

/-- The context address of row t of a row view (R259). -/
def dsRowAddr (d : Bytes) (t : Nat) : Nat := ((dsBase d : Int) + dsOffsetFrom d 1 t).toNat

/-- BLOCKS, BLOCK_LEN and DIM of an owner table (R273). -/
def owDim (o : Bytes) : Nat := field o 8 1
def owBlockLen (o : Bytes) : Nat := field o 0xC 4
def owBlocks (o : Bytes) : Nat := field o 0x10 4
def owEntry (o : Bytes) (b : Nat) : Nat := field o (0x40 + 8 * b) 8

/-- The context address of row t of a distributed row view at region r of member m; none when another owns its block
(R274). -/
def ownedRowAddr (d o : Bytes) (m r t : Nat) : Option Nat :=
  let k := owDim o
  let i := dsIndexFrom d 1 k t
  let e := owEntry o (i / max (owBlockLen o) 1)
  if bits e 12 10 = r ∧ bits e 9 0 = m then
    some ((((e / 2 ^ 16 : Nat) : Int) + dsOffsetFrom d 1 t - ((i - i % max (owBlockLen o) 1 : Nat) : Int) * dsStride d k).toNat)
  else none

/-- The context address of row t of entry i of a list at region r, distributed or not (R259, R274). -/
def rowAddr (cmd : Command) (self r i t : Nat) : Option Nat :=
  let d := descAt cmd.list i
  if dsDistributed d then
    match cmd.owners.get? i with | none => none | some o => ownedRowAddr d o self r t
  else some (dsRowAddr d t)

/-! ### Bundles (R42, R45) -/

/-- The slots of a bundle in the order of R63: 0 control, 1 SCORE, 2 to 5 CELL_GROUP[0..3], 6 NET, 7 LINK, 8 BASIN,
9 CONFLUENCE. -/
def slotBits (b : BitVec 512) (slot : Nat) : Nat :=
  let w := b.toNat
  match slot with
  | 0 => bits w 487 424 | 1 => bits w 423 376 | 2 => bits w 207 152 | 3 => bits w 263 208 | 4 => bits w 319 264
  | 5 => bits w 375 320 | 6 => bits w 151 120 | 7 => bits w 119 80 | 8 => bits w 79 48 | _ => bits w 47 0

/-- The fields of a slot that every kind shares by name (R45). -/
structure SlotOp where
  slot : Nat
  word : Nat
  deriving DecidableEq, Repr

/-- OPCODE of a slot. -/
def SlotOp.op (o : SlotOp) : Nat :=
  match o.slot with
  | 0 => bits o.word 63 58 | 1 => bits o.word 47 42 | 2 => bits o.word 55 48 | 3 => bits o.word 55 48
  | 4 => bits o.word 55 48 | 5 => bits o.word 55 48 | 6 => bits o.word 31 26 | 7 => bits o.word 39 34
  | 8 => bits o.word 31 26 | _ => bits o.word 47 42
/-- CNT of a slot. -/
def SlotOp.cnt (o : SlotOp) : Nat :=
  match o.slot with
  | 0 => bits o.word 57 52 | 1 => bits o.word 41 36 | 2 => bits o.word 47 42 | 3 => bits o.word 47 42
  | 4 => bits o.word 47 42 | 5 => bits o.word 47 42 | 6 => bits o.word 25 20 | 7 => bits o.word 33 28
  | 8 => bits o.word 25 20 | _ => 0
/-- CAP of a slot. -/
def SlotOp.cap (o : SlotOp) : Nat :=
  match o.slot with
  | 0 => bits o.word 51 46 | 1 => bits o.word 35 30 | 2 => bits o.word 41 36 | 3 => bits o.word 41 36
  | 4 => bits o.word 41 36 | 5 => bits o.word 41 36 | 6 => bits o.word 19 14 | 7 => bits o.word 27 22
  | 8 => bits o.word 19 14 | _ => 0
/-- DST of a slot. -/
def SlotOp.dst (o : SlotOp) : Nat :=
  match o.slot with
  | 0 => bits o.word 45 40 | 1 => bits o.word 29 24 | 2 => bits o.word 35 30 | 3 => bits o.word 35 30
  | 4 => bits o.word 35 30 | 5 => bits o.word 35 30 | _ => 0
/-- DESC of a slot. -/
def SlotOp.desc (o : SlotOp) : Nat :=
  match o.slot with
  | 1 => bits o.word 11 6 | 2 => bits o.word 29 24 | 3 => bits o.word 29 24 | 4 => bits o.word 29 24
  | 5 => bits o.word 29 24 | 6 => bits o.word 13 8 | 7 => bits o.word 21 16 | 8 => bits o.word 13 8
  | 9 => bits o.word 31 26 | _ => 0
/-- ROUTER of a scoring or cell-group slot. -/
def SlotOp.router (o : SlotOp) : Nat := if o.slot = 1 then bits o.word 18 12 else bits o.word 22 16
/-- IMM of a control or cell-group slot. -/
def SlotOp.imm (o : SlotOp) : Nat := if o.slot = 0 then bits o.word 27 0 else bits o.word 15 0
/-- BODY of a control slot. -/
def SlotOp.body (o : SlotOp) : Nat := bits o.word 39 28
/-- SHAPE of a scoring slot. -/
def SlotOp.shape (o : SlotOp) : Nat := bits o.word 23 22
/-- FORMAT of a scoring slot. -/
def SlotOp.format (o : SlotOp) : Nat := bits o.word 21 20
/-- BANK of a scoring slot. -/
def SlotOp.bank (o : SlotOp) : Nat := bits o.word 19 19
/-- REGION of a network slot. -/
def SlotOp.region (o : SlotOp) : Nat := bits o.word 7 5
/-- PORT of a link slot. -/
def SlotOp.port (o : SlotOp) : Nat := bits o.word 15 14
/-- CLASS of a link slot. -/
def SlotOp.cls (o : SlotOp) : Nat := bits o.word 13 12
/-- TIMEOUT of a link or confluence slot. -/
def SlotOp.timeout (o : SlotOp) : Nat := bits o.word 9 0
/-- SIZE of a basin slot. -/
def SlotOp.size (o : SlotOp) : Nat := bits o.word 7 5
/-- POOL of a basin slot. -/
def SlotOp.pool (o : SlotOp) : Nat := bits o.word 4 4
/-- GROUP of a confluence slot. -/
def SlotOp.group (o : SlotOp) : Nat := bits o.word 41 36
/-- FORMAT of a confluence slot. -/
def SlotOp.cfFormat (o : SlotOp) : Nat := bits o.word 35 32
/-- TREE of a confluence slot. -/
def SlotOp.tree (o : SlotOp) : Nat := bits o.word 25 24

/-- The operation in a slot of a bundle. -/
def slotOp (b : BitVec 512) (slot : Nat) : SlotOp := ⟨slot, slotBits b slot⟩

/-- The slots of a bundle that are not NOPs, in the order of R63. -/
def usedSlots (b : BitVec 512) : List Nat := (List.range 10).filter fun i => slotBits b i != 0

/-- The slots of a bundle in the order in which they issue: that of R63, with END after every other (R51). -/
def issueOrder (b : BitVec 512) : List Nat :=
  if (slotOp b 0).op = 0x3F then (usedSlots b).drop 1 ++ [0] else usedSlots b

/-- The unit that an operation names, in the order of WAIT_UNITS (R46, R51). -/
def SlotOp.unit (o : SlotOp) : Nat :=
  match o.slot with
  | 0 => 12 | 1 => 0 | 2 => 1 | 3 => 2 | 4 => 3 | 5 => 4 | 6 => 5 | 7 => 6 + o.port | 8 => 10 | _ => 11

/-- Whether an operation is counted (R51 to R55). -/
def SlotOp.counted (o : SlotOp) : Bool :=
  match o.slot with
  | 0 => o.op == 2
  | 1 => o.op == 2 || o.op == 3 || o.op == 4
  | 6 => true
  | 7 => true
  | 8 => o.op != 2
  | 9 => false
  | _ => o.op != 0xA

/-- Whether an operation receives (its count comes from a stream, R54). -/
def SlotOp.receives (o : SlotOp) : Bool := (o.slot == 6 && o.op == 3) || (o.slot == 7 && o.op == 2)

/-- Total of a capacity entry's bounds (R49). -/
def capMode (c : W64) : Nat := bits c.toNat 63 62
def capExcess (c : W64) : Nat := bits c.toNat 61 56
def capTotal (c : W64) : Nat := bits c.toNat 55 32
def capLane (c : W64) : Nat := bits c.toNat 31 8

/-- Contribution and excess of each lane under the bounds of a capacity entry (R50): lanes in ascending order, each clamped
to LANE_BOUND, until the running sum meets TOTAL_BOUND. -/
def clampLanes (laneBound : Nat) : Nat → List Nat → List (Nat × Nat)
  | _, [] => []
  | room, v :: vs => (min (min v laneBound) room, v - min (min v laneBound) room) ::
      clampLanes laneBound (room - min (min v laneBound) room) vs

end Sys2Proof.Machine
end

