-- ==== Sys2Proof/Machine/Tensor.lean ====
section
/-! DEFINITION. Sys2Proof/Machine/Tensor.lean: validation of tensors (R264 to R267, R273, R275, R476) and access to their rows and
bytes while a command runs. -/

namespace Sys2Proof.Machine

/-- What one use of a tensor-list entry needs of its tensor (R253, R476). -/
inductive Need where
  /-- A row view (R259): element types accepted, and the row bytes when the use fixes them. -/
  | rows (types : List Nat) (bytes : Option Nat)
  /-- A structure: a rank-1 U8 tensor with stride 1 (R253). -/
  | structure_
  /-- A rank-1 U32 count or handle tensor. -/
  | u32
  /-- A gate tensor of STAGE_LOAD: element types, elements along dimension 0 and dimension 1 (R74). -/
  | gate (types : List Nat) (h e : Nat)
  /-- An output of FINAL or PRINT: element types and width W (R476). -/
  | output (types : List Nat) (w : Nat)
  /-- A rank-1 byte tensor of scales or a rank-1 meter tensor: its element type. -/
  | column (type : Nat)
  /-- Source or destination of a copy. -/
  | copy
  /-- A tensor of a confluence call: element type and size in bytes (R346). -/
  | sum (type bytes : Nat)
  /-- Prints of a size that are moved: rows of U8 (R172, R259, R476). -/
  | prints (bytes : Nat)
  /-- Return rows of width W: FP32 region terms, or BF16 package terms (R158, R476). -/
  | returned (w : Nat) (package : Bool)
  /-- A tensor that is taken by byte offset from its BASE: a landing, term or return tensor (R150, R156, R159): a structure, or
  elements that lie densely in rows padded to 64 bytes (log 112). -/
  | offsets
  /-- A confluence tensor of a plate (R206, R255). -/
  | whole
  deriving DecidableEq, Repr

/-- The role of an entry (R264): rights, and the needs of its uses; share marks a tensor that must lie in the context's
region-store share (R128); indexed one whose index column is read (R258). -/
structure Role where
  entry : Nat
  read : Bool
  write : Bool
  share : Bool
  indexed : Bool
  need : Need
  deriving DecidableEq, Repr

/-- Whether an FP32 encoding is finite and above 0. -/
def fp32Positive (w : Nat) : Bool := w != 0 && decide (w < 0x7F800000)

/-- The fields of a descriptor by themselves (R252 to R258, R264 step 1). -/
def descFieldsOk (d : Bytes) : Bool :=
  let t := dsElem d
  let r := dsRank d
  decide (dsBase d < 2 ^ 48) && bits (dsFormat d) 39 17 == 0 && bits (dsFormat d) 14 12 == 0 &&
  bits (dsFormat d) 6 5 == 0 && dsBlock d != 3 && decide (t ≤ 0xA) && decide (1 ≤ r ∧ r ≤ 6) && field d 0x14 4 == 0 &&
  ((List.range 6).all fun i => if i < r then dsSize d i != 0 else dsSize d i == 0 && dsStride d i == 0) &&
  (if t = 2 ∨ t = 3 then fp32Positive (dsScale d) else dsScale d == 0) &&
  decide (dsScaleBase d < 2 ^ 48) && (dsBlock d != 0 || dsScaleBase d == 0) &&
  decide (dsIndexBase d < 2 ^ 48) && (dsIndexed d || dsIndexBase d == 0) &&
  (elemPlaned t || dsPlaneStride d == 0) &&
  decide (dsOwnerBase d < 2 ^ 48) && (dsDistributed d || dsOwnerBase d == 0) &&
  ((decide (4 ≤ t ∧ t ≤ 8)) == (dsBlock d != 0)) &&
  (dsBlock d == 0 || (decide (dsBlock d ≤ r) && dsSize d (dsBlock d - 1) % 32 == 0)) &&
  (dsLayout d == 0 || (decide (t ≤ 5) && (decide (t < 4) || dsBlock d == 1))) &&
  (!elemPlaned t || (dsLayout d == 0 && dsBlock d == 1 && dsStride d 0 == 0)) &&
  (!dsDistributed d || (dsBase d == 0 && dsLayout d == 0 && (decide (t ≤ 3) || t == 0xA)))

/-- Whether a row view's shape holds (R259). -/
def rowViewOk (d : Bytes) : Bool :=
  dsLayout d == 0 && (decide (dsElem d ≤ 3) || dsElem d == 0xA) && decide (2 ≤ dsRank d) &&
  dsStride d 0 == (elemBytes (dsElem d) : Int)

/-- Whether the elements lie densely, rows padded to 64 bytes (R150, R156). -/
def denseRows (d : Bytes) : Bool :=
  dsLayout d == 0 && dsStride d 0 == (elemBytes (dsElem d) : Int) &&
  (List.range (dsRank d - 1)).all fun i =>
    dsSize d (i + 1) == 1 || dsStride d (i + 1) == ((64 * ceilDiv (dsRowBytes d) 64 * dsExtent d 1 (i + 1) : Nat) : Int)

/-- Whether a tensor is a structure: a rank-1 U8 tensor with stride 1 (R253). -/
def structOk (d : Bytes) : Bool := dsElem d == 0xA && dsRank d == 1 && dsStride d 0 == 1 && dsLayout d == 0 && dsBlock d == 0

/-- Whether a tensor fits one need (R253, R259, R476). -/
def needOk (d : Bytes) : Need → Bool
  | .rows types bytes => rowViewOk d && types.contains (dsElem d) && (match bytes with | none => true | some b => dsRowBytes d == b)
  | .structure_ => structOk d
  | .u32 => dsElem d == 9 && dsRank d == 1 && dsLayout d == 0
  | .gate types h e => types.contains (dsElem d) && dsRank d == 2 && dsSize d 0 == h && dsSize d 1 == e
  | .output types w => types.contains (dsElem d) && dsSize d 0 == w
  | .column t => dsElem d == t && dsLayout d == 0
  | .copy => true
  | .sum t bytes => dsElem d == t && dsCount d * elemBytes t == bytes && dsBlock d == 0
  | .prints ps => rowViewOk d && dsElem d == 0xA && dsRowBytes d == ps
  | .returned w package => rowViewOk d && if package then dsElem d == 1 && dsRowBytes d == 2 * w else dsElem d == 0 && dsRowBytes d == 4 * w
  | .offsets => structOk d || (decide (dsElem d ≤ 3) && denseRows d)
  | .whole => dsBlock d == 0 && !elemPlaned (dsElem d)

/-- Whether a need takes the tensor in whole rows (R259). -/
def Need.isRows : Need → Bool
  | .rows _ _ => true
  | .returned _ _ => true
  | .prints _ => true
  | _ => false

/-- Whether a distributed tensor may have a need (R275). -/
def Need.mayDistribute : Need → Bool
  | .rows _ _ => true
  | .returned _ _ => true
  | .prints _ => true
  | .output _ _ => true
  | .column _ => true
  | _ => false

/-- Unit width of the expanded list (R265). -/
def dsUnit (d : Bytes) (rows : Bool) : Nat :=
  if rows then dsRowBytes d
  else if elemPlaned (dsElem d) then dsSize d 0 / 8
  else if dsLayout d = 1 then 32 * elemBytes (dsElem d) else elemBytes (dsElem d)

/-- Pairs of the expanded list (R265). -/
def dsPairs (d : Bytes) (rows : Bool) : List (Nat × Int) :=
  let outer := (List.range (dsRank d - 1)).map fun i => (dsSize d (i + 1), dsStride d (i + 1))
  if rows then outer
  else if elemPlaned (dsElem d) then outer ++ [(elemBits (dsElem d), dsPlaneStride d)]
  else if dsLayout d = 1 then (ceilDiv (dsSize d 0) 32, dsStride d 0) :: outer
  else (dsSize d 0, dsStride d 0) :: outer

/-- Lowest byte of a footprint (R265). -/
def footLo (base : Int) (ps : List (Nat × Int)) : Int := ps.foldl (fun a p => a + min 0 (((p.1 : Int) - 1) * p.2)) base
/-- Highest byte of a footprint (R265). -/
def footHi (base : Int) (u : Nat) (ps : List (Nat × Int)) : Int :=
  ps.foldl (fun a p => a + max 0 (((p.1 : Int) - 1) * p.2)) base + (u : Int) - 1

/-- Access width of R266. -/
def accessWidth (d : Bytes) (rows : Bool) : Nat :=
  if rows then 64 else if elemPlaned (dsElem d) then 4 else elemBytes (dsElem d)

/-- Alignment of BASE and strides (R266). -/
def alignOk (d : Bytes) (rows : Bool) : Bool :=
  let w := accessWidth d rows
  dsBase d % w == 0 && ((dsPairs d rows).all fun p => decide (p.1 ≤ 1) || p.2 % (w : Int) == 0) && dsIndexBase d % 4 == 0

/-- Insert a pair by |stride| ascending. -/
def insertPair (p : Nat × Int) : List (Nat × Int) → List (Nat × Int)
  | [] => [p]
  | q :: t => if p.2.natAbs ≤ q.2.natAbs then p :: q :: t else q :: insertPair p t

/-- The sorted check of R267: each |s| is at least the span of the pairs before it. -/
def spansOk : Nat → List (Nat × Int) → Bool
  | _, [] => true
  | span, (n, s) :: t => decide (span ≤ s.natAbs) && spansOk (span + (n - 1) * s.natAbs) t

/-- Whether two byte ranges share a byte. -/
def rangesMeet (a b : Nat × Nat) : Bool := decide (a.1 < b.1 + b.2) && decide (b.1 < a.1 + a.2)

/-- The byte ranges of a footprint: main interval, scale array, index column (R265). -/
def footRanges (d : Bytes) (base : Int) (rows : Bool) : List (Nat × Nat) :=
  let ps := dsPairs d rows
  let lo := footLo base ps
  let hi := footHi base (dsUnit d rows) ps
  [(lo.toNat, (hi - lo + 1).toNat)] ++
  (if dsBlock d != 0 then [(dsScaleBase d, dsCount d / 32)] else []) ++
  (if dsIndexed d then [(dsIndexBase d, 4 * dsRows d)] else [])

/-- No aliasing within a written tensor (R267). -/
def aliasOk (d : Bytes) (base : Int) (rows : Bool) : Bool :=
  let ps := ((dsPairs d rows).filter fun p => decide (1 < p.1)).foldr insertPair []
  ps.all (fun p => p.2 != 0) && spansOk (dsUnit d rows) ps &&
  (match footRanges d base rows with
   | a :: t => t.all (fun b => !rangesMeet a b) && (match t with | [x, y] => !rangesMeet x y | _ => true)
   | [] => true)

/-- Whether the ranges of a footprint translate with the rights of a role (R264 step 4, R265). -/
def footTranslates (w : Tab (BitVec 128)) (d : Bytes) (base : Int) (rows rd wr : Bool) : Bool :=
  let ps := dsPairs d rows
  decide (0 ≤ footLo base ps) && decide (footHi base (dsUnit d rows) ps < 2 ^ 48) &&
  (footRanges d base rows).all fun f =>
    (!rd || (translate w false f.1 f.2).isSome) && (!wr || (translate w true f.1 f.2).isSome)

/-- Whether a byte range lies in region store through the windows (R128). -/
def inShare (w : Tab (BitVec 128)) (a n : Nat) : Bool :=
  match translate w false a n with | none => false | some ps => ps.all fun p => p.store

/-- The live regions of a member as a mask; those of a peer are whatever it has (log 99). -/
def memberLive (epoch self liveMask m : Nat) : Nat := if m = self then liveMask else (Config.peerLive epoch m).toNat

/-- The owner table's own checks (R273, R275): COMMAND_INVALID, PLACEMENT_FAULT or none. members are the current epoch's. -/
def ownerCheck (o : Bytes) (d : Bytes) (members : List Nat) (epoch self liveMask : Nat) : Option Nat :=
  let n := 64 + 8 * owBlocks o
  let k := owDim o
  if field o 0 8 ≠ crc64 ((o.take n).drop 8) ∨ ¬(1 ≤ k ∧ k < dsRank d) ∨ !zeroAt o 9 3 ∨ !zeroAt o 0x14 44 ∨
      owBlockLen o = 0 ∨ 2 ^ 31 < owBlockLen o ∨ owBlocks o = 0 ∨ 65536 < owBlocks o ∨
      owBlocks o * owBlockLen o < dsSize d k ∨ dsSize d k ≤ (owBlocks o - 1) * owBlockLen o ∨
      (List.range (owBlocks o)).any (fun b => bits (owEntry o b) 15 13 != 0) then some stCommandInvalid
  else if (List.range (owBlocks o)).any (fun b =>
      let m := bits (owEntry o b) 9 0
      !members.contains m || !bitAt (memberLive epoch self liveMask m) (bits (owEntry o b) 12 10)) then some stPlacementFault
  else none

/-- The blocks of an owner table that region r of this member owns, ascending (R274). -/
def ownedBlocks (o : Bytes) (self r : Nat) : List Nat :=
  (List.range (owBlocks o)).filter fun b => bits (owEntry o b) 12 10 == r && bits (owEntry o b) 9 0 == self

/-- The descriptor of block b: its own base and length along DIM (R274). -/
def blockDesc (d o : Bytes) (b : Nat) : Bytes :=
  let k := owDim o
  putField (putField d 0 8 (owEntry o b / 2 ^ 16)) (0x30 + 4 * k) 4
    (min (owBlockLen o) (dsSize d k - b * owBlockLen o))

/-- What validation of tensors reads of the engine. -/
structure TensorEnv where
  windows : Tab (BitVec 128)
  members : List Nat
  epoch : Nat
  self : Nat
  live : List Nat
  deriving DecidableEq, Repr

/-- The checks of R264 on one entry with its merged role; none when it passes. -/
def checkEntry (env : TensorEnv) (d : Bytes) (owner : Option Bytes) (roles : List Role) : Option Nat :=
  let rows := roles.any fun x => x.need.isRows
  let inStore (e : Bytes) : Bool := (footRanges e (dsBase e) rows).all fun f => inShare env.windows f.1 f.2
  let rd := roles.any (·.read)
  let wr := roles.any (·.write)
  if !descFieldsOk d || roles.any (fun x => !needOk d x.need) || roles.any (fun x => x.indexed && !dsIndexed d) ||
      (dsDistributed d && roles.any (fun x => !x.need.mayDistribute)) then some stCommandInvalid
  else if !alignOk d rows then some stAlignFault
  else if dsDistributed d then
    match owner with
    | none => some stBoundsFault
    | some o =>
      match ownerCheck o d env.members env.epoch env.self (maskOf env.live) with
      | some c => some c
      | none =>
        let blocks := env.live.flatMap fun r => (ownedBlocks o env.self r).map (blockDesc d o)
        if blocks.any fun b => !footTranslates env.windows b (dsBase b) rows rd wr then some stBoundsFault
        else if wr && (blocks.any (fun b => !aliasOk b (dsBase b) rows) ||
          env.live.any (fun r =>
            let rs := (ownedBlocks o env.self r).map fun b => ((footRanges (blockDesc d o b) (dsBase (blockDesc d o b)) rows).headD (0, 0))
            (List.range rs.length).any fun i => (List.range i).any fun j => rangesMeet (rs.getD i (0, 0)) (rs.getD j (0, 0))))
          then some stAliasFault
        else if roles.any (·.share) && !blocks.all inStore then some stCommandInvalid
        else none
  else if !footTranslates env.windows d (dsBase d) rows rd wr then some stBoundsFault
  else if wr && !aliasOk d (dsBase d) rows then some stAliasFault
  else if roles.any (·.share) && !inStore d then some stCommandInvalid
  else none

/-- The tensor checks over a list in ascending entry index (R264): the code and the entry's index at the first failure. -/
def checkTensors (env : TensorEnv) (list : Bytes) (owners : Tab Bytes) (roles : List Role) : Option (Nat × Nat) :=
  (List.range (listLen list)).findSome? fun i =>
    let rs := roles.filter fun x => x.entry == i
    if rs.isEmpty then none
    else (checkEntry env (descAt list i) (owners.get? i) rs).map fun c => (c, i)

/-! ### Rows and bytes while a command runs -/

/-- Address and traversal number of row k that a block list holds, blocks in ascending order (R274). -/
def blockRow (d o : Bytes) : List Nat → Nat → Option (Nat × Nat)
  | [], _ => none
  | b :: bs, k =>
    let e := blockDesc d o b
    if k < dsRows e then
      let low := dsExtent e 1 (owDim o)
      let mid := dsSize e (owDim o)
      let i := k / low % mid + b * owBlockLen o
      some (dsRowAddr e k, k % low + low * i + low * dsSize d (owDim o) * (k / (low * mid)))
    else blockRow d o bs (k - dsRows e)

/-- Address and traversal number of row k of entry i as region r sees it: of a distributed tensor, its own blocks in ascending
order (R259, R274). -/
def localRow (cmd : Command) (self r i k : Nat) : Option (Nat × Nat) :=
  let d := descAt cmd.list i
  if dsDistributed d then
    match cmd.owners.get? i with | none => none | some o => blockRow d o (ownedBlocks o self r) k
  else if k < dsRows d then some (dsRowAddr d k, k) else none

/-- Rows of entry i that region r sees. -/
def localRows (cmd : Command) (self r i : Nat) : Nat :=
  let d := descAt cmd.list i
  if dsDistributed d then
    match cmd.owners.get? i with | none => 0 | some o => ((ownedBlocks o self r).map fun b => dsRows (blockDesc d o b)).sum
  else dsRows d

/-- Where the elements of an output row lie from the row's address on (R254, R255): offset, bytes of the row, bytes written, which under
LAYOUT 1 take the pad channels of the last vector with them. -/
def rowParts (d : Bytes) : List (Int × Nat × Nat) :=
  let es := elemBytes (dsElem d)
  let n := dsSize d 0
  if dsLayout d = 1 then (List.range (ceilDiv n 32)).map fun (g : Nat) => ((g : Int) * dsStride d 0, es * min 32 (n - 32 * g), 32 * es)
  else if dsStride d 0 = (es : Int) then [(0, n * es, n * es)]
  else (List.range n).map fun (i : Nat) => ((i : Int) * dsStride d 0, es, es)

/-- The bytes of an output row at context address a. -/
def State.gatherRow (s : State) (w : Tab (BitVec 128)) (r : Nat) (d : Bytes) (a : Nat) : Bytes :=
  (rowParts d).flatMap fun p => fit p.2.1 ((s.readCtx w r ((a : Int) + p.1).toNat p.2.1).getD [])

/-- An output row written at context address a. -/
def State.scatterRow (s : State) (w : Tab (BitVec 128)) (r : Nat) (d : Bytes) (a : Nat) (bs : Bytes) : State :=
  ((rowParts d).foldl (fun (acc : State × Bytes) p =>
    ((acc.1.writeCtx w r ((a : Int) + p.1).toNat (fit p.2.2 (acc.2.take p.2.1))).getD acc.1, acc.2.drop p.2.1)) (s, bs)).1

/-- n bytes at offset off of structure entry i; none when they pass the structure's extent (R268). -/
def State.structRead (s : State) (cmd : Command) (r i off n : Nat) : Option Bytes :=
  let d := descAt cmd.list i
  if off + n ≤ dsBytes d then s.readCtx cmd.windows r (dsBase d + off) n else none

/-- The state with bytes written at offset off of structure entry i; none when they pass its extent. -/
def State.structWrite (s : State) (cmd : Command) (r i off : Nat) (bs : Bytes) : Option State :=
  let d := descAt cmd.list i
  if off + bs.length ≤ dsBytes d then s.writeCtx cmd.windows r (dsBase d + off) bs else none

/-- Row k of row view i as region r sees it; none outside it. -/
def State.rowRead (s : State) (cmd : Command) (r i k : Nat) : Option Bytes :=
  (localRow cmd s.self r i k).bind fun a => s.readCtx cmd.windows r a.1 (dsRowBytes (descAt cmd.list i))

/-- The state with row k of row view i as region r sees it written. -/
def State.rowWrite (s : State) (cmd : Command) (r i k : Nat) (bs : Bytes) : Option State :=
  (localRow cmd s.self r i k).bind fun a => s.writeCtx cmd.windows r a.1 (fit (dsRowBytes (descAt cmd.list i)) bs)

/-- The token index that row k of entry i, as region r sees it, stands for (R258). -/
def State.rowToken (s : State) (cmd : Command) (r i k : Nat) : Nat :=
  let d := descAt cmd.list i
  let t := ((localRow cmd s.self r i k).map (·.2)).getD k
  if dsIndexed d then
    match s.readCtx cmd.windows r (dsIndexBase d + 4 * t) 4 with
    | none => 0
    | some bs => leNat bs % 2 ^ 24
  else dsTokenBase d + t

/-- The state with the token index of row t of an indexed entry written (R258). -/
def State.setRowToken (s : State) (cmd : Command) (r i k token : Nat) : State :=
  let d := descAt cmd.list i
  let t := ((localRow cmd s.self r i k).map (·.2)).getD k
  if dsIndexed d then (s.writeCtx cmd.windows r (dsIndexBase d + 4 * t) (leBytes 4 (token % 2 ^ 24))).getD s else s

end Sys2Proof.Machine
end

