-- ==== Sys2Proof/Machine/Basins.lean ====
section
/-! DEFINITION. Sys2Proof/Machine/Basins.lean: basin pools (R276 to R285): handles, addresses, allocation and release, and the
read channel of the expert-work port (R460). -/

namespace Sys2Proof.Machine

/-- Bytes of a size class (R276). -/
def basinSize (k : Nat) : Nat := 256 * 4 ^ k
/-- Largest count per class and region (R276). -/
def basinMax (pool k : Nat) : Nat := if pool = 0 then 2 ^ 26 / basinSize k else 16777215

/-- A basin handle (R278). -/
def mkHandle (k pool r i : Nat) : Nat := (k + 1) * 2 ^ 29 + pool * 2 ^ 28 + r * 2 ^ 25 + i
/-- SIZE_P1 of a handle. -/
def hSizeP1 (h : Nat) : Nat := bits h 31 29
/-- SIZE of a handle that names a basin. -/
def hSize (h : Nat) : Nat := hSizeP1 h - 1
/-- POOL of a handle. -/
def hPool (h : Nat) : Nat := bits h 28 28
/-- REGION of a handle. -/
def hRegion (h : Nat) : Nat := bits h 27 25
/-- INDEX of a handle. -/
def hIndex (h : Nat) : Nat := bits h 24 0
/-- Whether a handle names a basin at all (R278). -/
def hNames (h : Nat) : Bool := decide (1 ≤ hSizeP1 h ∧ hSizeP1 h ≤ 6)

/-- Basins of a class of a pool (R276). -/
def poolCount (x : Ctx) (pool k : Nat) : Nat := recBasins x.record (6 * pool + k)
/-- Bytes of a pool's classes larger than k (R277). -/
def poolAbove (x : Ctx) (pool k : Nat) : Nat :=
  ((List.range 6).filter fun j => decide (k < j)).foldl (fun a j => a + poolCount x pool j * basinSize j) 0
/-- Bytes of a whole pool. -/
def poolBytes (x : Ctx) (pool : Nat) : Nat :=
  (List.range 6).foldl (fun a j => a + poolCount x pool j * basinSize j) 0

/-- An allocation failed: it is counted and reported (R294, R433). -/
def State.exhausted (s : State) (r : Nat) : State := (s.bumpF (pgBasin r) Fld.EXHAUST_COUNT_COUNT 1).contain (pgBasin r) 0

/-- Allocated basins of a class in a region. -/
def allocatedOf (x : Ctx) (pool k r : Nat) : List Nat :=
  (x.basins.filter fun e => hNames e.1 && hSize e.1 == k && hPool e.1 == pool && hRegion e.1 == r).map fun e => hIndex e.1

/-- The lowest free index of a class in a region (R279). -/
def lowestFree (x : Ctx) (pool k r : Nat) : Option Nat :=
  let used := allocatedOf x pool k r
  ((List.range (used.length + 1)).find? fun i => !used.contains i).bind fun i =>
    if i < poolCount x pool k then some i else none

/-- The handle that an allocation of q bytes takes (R279): the smallest class that holds q, else the next larger ones of the
same pool. -/
def pickBasin (x : Ctx) (pool r q : Nat) : Option Nat :=
  ((List.range 6).filter fun k => decide (q ≤ basinSize k)).findSome? fun k =>
    (lowestFree x pool k r).map fun i => mkHandle k pool r i

/-- The context with a basin allocated (R280). -/
def takeBasin (x : Ctx) (h count : Nat) (persistent : Bool) : Ctx := { x with basins := x.basins.set h ⟨count, persistent⟩ }

/-- The context with a basin freed. -/
def freeBasin (x : Ctx) (h : Nat) : Ctx := { x with basins := x.basins.erase (· == h) }

/-- Allocate a basin; the state counts a failure (R279, R294). -/
def State.allocBasin (s : State) (c pool r q count : Nat) (persistent : Bool) : Option (Nat × State) :=
  (pickBasin (s.ctx c) pool r q).map fun h => (h, s.modCtx c fun x => takeBasin x h count persistent)

/-- Whether a handle may be freed or decremented by a plate of context c in region r (R283). -/
def handleUsable (x : Ctx) (r h : Nat) : Bool :=
  hNames h && hRegion h == r && decide (hIndex h < poolCount x (hPool h) (hSize h)) &&
  (match x.basins.get? h with | none => false | some b => !b.persistent)

/-- Decrement a basin's count; at 0 it is freed (R283). -/
def decBasin (x : Ctx) (h : Nat) : Ctx :=
  match x.basins.get? h with
  | none => x
  | some b => if b.count ≤ 1 then freeBasin x h else { x with basins := x.basins.set h { b with count := b.count - 1 } }

/-- Free every transient basin of a context; with how many (R281). -/
def sweepBasins (x : Ctx) : Ctx × Nat :=
  ({ x with basins := x.basins.filter fun e => e.2.persistent }, (x.basins.filter fun e => !e.2.persistent).length)

/-- The boundary sweep of R281: transient basins are freed; each counts in its region's BASIN_SWEPT. -/
def State.sweep (s : State) (c : Nat) : State :=
  let x := s.ctx c
  let s1 := s.modCtx c fun x => (sweepBasins x).1
  s.live.foldl (fun s r =>
    let n := (x.basins.filter fun e => !e.2.persistent && hRegion e.1 == r).length
    if n = 0 then s else s.bumpF (pgBasin r) Fld.BASIN_SWEPT_COUNT n) s1

/-- Where a basin lies (R277): region-store offset for POOL 0, context address for POOL 1. -/
def basinAddr (x : Ctx) (h : Nat) : Nat :=
  let k := hSize h
  let off := poolAbove x (hPool h) k + hIndex h * basinSize k
  if hPool h = 0 then (x.share.getD (0, 0)).1 * 0x200000 + recBasinBase x.record + off
  else recOverflowBase x.record + hRegion h * poolBytes x 1 + off

/-- n bytes of a basin; none where a POOL 1 basin fails translation. -/
def State.basinRead (s : State) (w : Tab (BitVec 128)) (c h off n : Nat) : Option Bytes :=
  let a := basinAddr (s.ctx c) h + off
  if hPool h = 0 then some ((s.region (hRegion h)).store.read a n) else s.readCtx w (hRegion h) a n

/-- The state with bytes written into a basin. -/
def State.basinWrite (s : State) (w : Tab (BitVec 128)) (c h off : Nat) (bs : Bytes) : Option State :=
  let a := basinAddr (s.ctx c) h + off
  if hPool h = 0 then some (s.storeWrite (hRegion h) a bs) else s.writeCtx w (hRegion h) a bs

/-- The context whose bitmap the read channel checks: the one that has the handle allocated and transient in the region
(R285); handles are not qualified by a context on the channel (log 11). -/
def State.handleOwner (s : State) (r h : Nat) : Option Nat :=
  (List.range 16).find? fun c =>
    match (s.ctx c).basins.get? h with | none => false | some b => !b.persistent && hRegion h == r

/-- ER_READ (R285, R460): units of a basin by handle; a handle that is free, persistent or names none, units past the basin,
and a basin of another region, are answered with an error, zero data and a count in BAD_HANDLE. -/
def execErRead (r : RegionId) (handle : W32) (offset : BitVec 12) (units : BitVec 6) (id : BitVec 6) (s : State) :
    Host.Outcome State Fault Refusal :=
  let h := handle.toNat
  let n := 64 * (units.toNat + 1)
  let off := 64 * offset.toNat
  let s0 := s.bumpF (pgWork r.val) Fld.WP_COUNT_READS 1
  let good := (s.handleOwner r.val h).bind fun c =>
    if off + n ≤ basinSize (hSize h) then s.basinRead (s.ctx c).windows c h off n else none
  match good with
  | some bs => .next (s0.modRegion r.val fun g => { g with erAnswers := g.erAnswers ++ [(id.toNat, false, bs)] })
  | none =>
    .next ((((s0.bumpF (pgBasin r.val) Fld.BAD_HANDLE_COUNT 1).contain (pgBasin r.val) 1).contain (pgWork r.val) 1).modRegion
      r.val fun g => { g with erAnswers := g.erAnswers ++ [(id.toNat, true, zeros 64)] })

end Sys2Proof.Machine
end

