-- ==== Sys2Proof/Machine/Interrupts.lean ====
section
/-! DEFINITION. Sys2Proof/Machine/Interrupts.lean: the interrupt controller (R351 to R362): delivery, hold-off, claims, targets
and wake. A delivered source is held by the target that its LAST_TARGET names. -/

namespace Sys2Proof.Machine

/-- Word of source s in SRC_CFG. -/
def srcPage (src : Nat) : Nat := pgIntr + 8 * src

/-- PENDING of a source. -/
def State.isPending (s : State) (src : Nat) : Bool := bitAt (s.getF (pgIntr + 8 * (src / 64)) Fld.PENDING) (src % 64)
/-- DELIVERED of a source. -/
def State.isDelivered (s : State) (src : Nat) : Bool :=
  bitAt (s.getF (pgIntr + 8 * (src / 64)) Fld.DELIVERED) (src % 64)

/-- The state with one bit of PENDING or DELIVERED set or cleared. -/
def State.setSrcBit (s : State) (f : Fld) (src : Nat) (v : Bool) : State :=
  let w := s.getF (pgIntr + 8 * (src / 64)) f
  s.setF (pgIntr + 8 * (src / 64)) f
    (if bitAt w (src % 64) == v then w else if v then w + 2 ^ (src % 64) else w - 2 ^ (src % 64))

/-- Target t is enabled. -/
def State.tgtEnabled (s : State) (t : Nat) : Bool := s.getF (pgIntr + 8 * t) Fld.TGT_CTL_ENABLE == 1

/-- The lowest enabled target of a source above its LAST_TARGET, wrapping from 15 to 0 (R355). -/
def State.nextTarget (s : State) (src : Nat) : Option Nat :=
  let last := s.getF (srcPage src) Fld.SRC_CFG_LAST_TARGET
  let mask := s.getF (srcPage src) Fld.SRC_CFG_TARGETS
  ((List.range 16).map fun i => (last + 1 + i) % 16).find? fun t => bitAt mask t && s.tgtEnabled t

/-- Whether a source is deliverable (R354). -/
def State.deliverable (s : State) (src : Nat) : Bool :=
  s.isPending src && !s.isDelivered src && s.getF (srcPage src) Fld.SRC_CFG_ENABLE == 1 && (s.nextTarget src).isSome

/-- Deliver a source: its next target takes it, PENDING clears and DELIVERED sets (R355). -/
def State.deliver (s : State) (src : Nat) : State :=
  match s.nextTarget src with
  | none => s
  | some t =>
    ((s.setF (srcPage src) Fld.SRC_CFG_LAST_TARGET t).setSrcBit Fld.PENDING src false).setSrcBit Fld.DELIVERED src true

/-- Deliver every deliverable source of a group, in ascending source number (R356). -/
def State.deliverGroup (s : State) (grp : Nat) : State :=
  (List.range 32).foldl (fun s i => if s.deliverable (32 * grp + i) then s.deliver (32 * grp + i) else s) s

/-- Sources of a group that are deliverable. -/
def State.groupDeliverable (s : State) (grp : Nat) : Bool := (List.range 32).any fun i => s.deliverable (32 * grp + i)

/-- INTERRUPT_DELIVER (R354 to R356): a deliverable source whose group's timer is not running is given to its next target.
With a hold-off, every other deliverable source of the group goes in the same delivery, and the timer starts (log 10). -/
def execInterruptDeliver (src : Byte) (s : State) : Host.Outcome State Fault Refusal :=
  let n := src.toNat
  let pg := pgIntr + 8 * (n / 32)
  if s.deliverable n && s.getF pg Fld.HOLDOFF_ACTIVE == 0 then
    if s.getF pg Fld.HOLDOFF == 0 then .next (s.deliver n)
    else .next ((s.deliverGroup (n / 32)).setF pg Fld.HOLDOFF_ACTIVE 1)
  else .next s

/-- HOLDOFF_EXPIRY (R356): the timer expires; every deliverable source of the group is delivered, and the timer restarts if
at least one was and HOLDOFF is not 0. -/
def execHoldoffExpiry (grp : Fin 8) (s : State) : Host.Outcome State Fault Refusal :=
  let pg := pgIntr + 8 * grp.val
  if s.getF pg Fld.HOLDOFF_ACTIVE == 0 then .next s
  else
    let again := s.groupDeliverable grp.val && s.getF pg Fld.HOLDOFF != 0
    .next ((s.deliverGroup grp.val).setF pg Fld.HOLDOFF_ACTIVE (flag again))

/-- The lowest source delivered to target t and unclaimed (R357). -/
def State.claimable (s : State) (t : Nat) : Option Nat :=
  (List.range 256).find? fun src => s.isDelivered src && s.getF (srcPage src) Fld.SRC_CFG_LAST_TARGET == t

/-- The word that a read of TGT_CLAIM[t] returns, and the state after it (R357). -/
def State.claim (s : State) (t : Nat) : Nat × State :=
  match s.claimable t with
  | none => (0, s)
  | some src => (2 ^ 63 + src, s.setSrcBit Fld.DELIVERED src false)

/-- TGT_CLAIM (R357): the read claims the lowest source delivered to the target; its word is answered through the leader. -/
def execTgtClaim (t : Fin 16) (s : State) : Host.Outcome State Fault Refusal :=
  let (w, s') := if s.pageAnswers pgIntr then s.claim t.val else (0, s)
  .next { s' with answers := s'.answers ++ [(Fin.ofNat 8 s.leader, 0#6, !s.pageAnswers pgIntr, BitVec.ofNat 64 w)] }

/-- Every source delivered to target t and unclaimed returns to PENDING (R360). -/
def State.returnDelivered (s : State) (sel : Nat → Bool) : State :=
  (List.range 256).foldl (fun s src =>
    if s.isDelivered src && sel (s.getF (srcPage src) Fld.SRC_CFG_LAST_TARGET) then
      (s.setSrcBit Fld.DELIVERED src false).setSrcBit Fld.PENDING src true else s) s

/-- A write of TGT_CTL[t]: MASK and ENABLE are stored; clearing ENABLE returns the target's delivered sources (R360). -/
def State.writeTgtCtl (s : State) (t w : Nat) : State :=
  let s1 := (s.setF (pgIntr + 8 * t) Fld.TGT_CTL_MASK (bits w 1 1)).setF (pgIntr + 8 * t) Fld.TGT_CTL_ENABLE (bits w 0 0)
  if s.tgtEnabled t && !s1.tgtEnabled t then s1.returnDelivered (· == t) else s1

/-- TGT_CTL_WRITE (R360). -/
def execTgtCtlWrite (t : Fin 16) (w : W64) (s : State) : Host.Outcome State Fault Refusal :=
  .next (s.whereAnswers pgIntr fun s => s.writeTgtCtl t.val w.toNat)

/-- WAKE: some source with ENABLE = 1 is delivered and unclaimed (R358). -/
def State.wake (s : State) : Bool :=
  (List.range 256).any fun src => s.isDelivered src && s.getF (srcPage src) Fld.SRC_CFG_ENABLE == 1

/-- IRQ[t] (R357). -/
def State.irq (s : State) (t : Nat) : Bool :=
  (s.claimable t).isSome && s.getF (pgIntr + 8 * t) Fld.TGT_CTL_MASK == 0

/-- A SIGNAL of context c for a source (R352): asserted when it is a signal source that the context owns, else dropped. -/
def State.signal (s : State) (c src : Nat) : State :=
  if 0x80 ≤ src ∧ src < 256 ∧ s.getF (srcPage src) Fld.SRC_CFG_OWNER = c then s.pend src
  else (s.bumpF pgIntr Fld.SIGNAL_DROP_COUNT 1).contain pgIntr 0

/-- Opening or tearing down context c clears its sources and the signal sources it owns (R353). -/
def State.clearSources (s : State) (c : Nat) : State :=
  let own := (List.range 128).map (· + 128) |>.filter fun src => s.getF (srcPage src) Fld.SRC_CFG_OWNER == c
  ([c, 0x10 + c, 0x70 + c] ++ own).foldl (fun s src =>
    (s.setSrcBit Fld.PENDING src false).setSrcBit Fld.DELIVERED src false) s

/-- A new leader's controller takes over (R361): delivered sources return to PENDING, timers stop, source 0x51 pends. -/
def State.takeOverIntr (s : State) : State :=
  ((List.range 8).foldl (fun s g => s.setF (pgIntr + 8 * g) Fld.HOLDOFF_ACTIVE 0) (s.returnDelivered fun _ => true)).pend 0x51

end Sys2Proof.Machine
end

