-- ==== Sys2Proof/Machine/Packets.lean ====
section
/-! DEFINITION. Sys2Proof/Machine/Packets.lean: packets that the engine puts on its links: the queue of a port (R369), the path to a
member (R31, R126) and the RELAY envelope (R370). -/

namespace Sys2Proof.Machine

/-- State code of a link port (R389). -/
def State.linkState (s : State) (r p : Nat) : Nat := s.getF (pgLink r p) Fld.LINK_STATE_STATE
/-- Whether a port is trained: UP, NARROW or BELOW_MIN (R389). -/
def State.trained (s : State) (r p : Nat) : Bool := let c := s.linkState r p; c == 2 || c == 3 || c == 4
/-- The peer that IDENT reported on a port. -/
def State.peerOf (s : State) (r p : Nat) : Option Nat :=
  if s.getF (pgLink r p) Fld.LINK_PEER_VALID == 1 then some (s.getF (pgLink r p) Fld.LINK_PEER_MEMBER) else none

/-- The trained ports of the engine, ascending by region and port. -/
def State.trainedPorts (s : State) : List (Nat × Nat) :=
  (s.live.flatMap fun r => (List.range 4).map fun p => (r, p)).filter fun q => s.trained q.1 q.2

/-- A packet is ready at a port's transmitter (R369). -/
def State.queuePacket (s : State) (r p cls ctx : Nat) (bs : Bytes) : State :=
  s.modLink r p fun l => { l with queue := l.queue ++ [⟨cls, ctx, bs⟩] }

/-- A RELAY envelope around a packet (R370). -/
def relayEnvelope (cls dest source hops : Nat) (inner : Bytes) : Bytes :=
  leBytes 64 (0x2F + cls * 2 ^ 8 + dest * 2 ^ 10 + source * 2 ^ 20 + hops * 2 ^ 30) ++ inner

/-- The port on which traffic to a member leaves: its gateway of the epoch (R31, R126). -/
def State.gatewayTo (s : State) (m : Nat) : Option (Nat × Nat) := s.membership.gateways.get? m

/-- Send a class 0 or management packet to a member: directly, or in an envelope by the route table (R370). Without a route it
goes nowhere. -/
def State.sendMember (s : State) (m cls : Nat) (bs : Bytes) : State :=
  match s.gatewayTo m with
  | some (r, p) => s.queuePacket r p cls 0 bs
  | none =>
    match (s.membership.routes.get? m).bind s.gatewayTo with
    | some (r, p) => s.queuePacket r p cls 0 (relayEnvelope cls m s.self 0 bs)
    | none => s

/-- A CREDIT_RETURN packet (R138, R374). -/
def creditReturnPacket (self ctx gw epoch n : Nat) : Bytes :=
  build 32 [(0, 1, 0x36), (4, 2, self), (6, 1, ctx), (7, 1, gw), (8, 4, epoch), (12, 4, n)]

end Sys2Proof.Machine
end

