-- ==== Sys2Proof/Machine/Inlets.lean ====
section
/-! DEFINITION. Sys2Proof/Machine/Inlets.lean: the inlet's two banks (R286 to R289), its level event (R293), the management queue (R290),
flushes (R292) and the landing rings' release (R138). -/

namespace Sys2Proof.Machine

/-- Bytes of a bank. -/
def bankSize : Nat := 65536
/-- Bytes that a packet takes in a bank. -/
def packetRoom (k : Packet) : Nat := 64 * ceilDiv k.bytes.length 64
/-- The bank that fills. -/
def Inlet.filling (i : Inlet) : InletBank := if i.fill = 0 then i.bank0 else i.bank1
/-- The other bank. -/
def Inlet.other (i : Inlet) : InletBank := if i.fill = 0 then i.bank1 else i.bank0
/-- The inlet with its filling bank changed. -/
def Inlet.setFilling (i : Inlet) (b : InletBank) : Inlet := if i.fill = 0 then { i with bank0 := b } else { i with bank1 := b }
/-- A bank is free when every packet in it has been consumed (R288). -/
def InletBank.free (b : InletBank) : Bool := b.packets.isEmpty
/-- Occupancy in 64-byte units (R293). -/
def Inlet.occupancy (i : Inlet) : Nat := ((i.bank0.packets ++ i.bank1.packets).map fun k => packetRoom k.2 / 64).sum
/-- Bytes in the management queue. -/
def Inlet.mgmtBytes (i : Inlet) : Nat := (i.mgmt.map List.length).sum
/-- FILL_BYTES and NEXT_BYTES of R372. -/
def Inlet.fillRoom (i : Inlet) : Nat := bankSize - i.filling.used
def Inlet.nextRoom (i : Inlet) : Nat := if i.other.free then bankSize else 0

/-- The fill role changes, when it may and must, before a packet of n bytes (R288). -/
def Inlet.rotate (i : Inlet) (n : Nat) : Inlet :=
  if i.other.free && (decide (bankSize < i.filling.used + n) || decide (32768 ≤ i.filling.used)) then
    { i with fill := 1 - i.fill }.setFilling ⟨[], 0⟩
  else i

/-- The level event's comparison at the end of a cycle (R293): the event's source becomes pending once, and re-arms below
LEVEL. -/
def State.levelCheck (s : State) (r p : Nat) : State :=
  let level := s.getF (pgInlet r p) Fld.INLET_LEVEL_LEVEL
  let i := s.inlet r p
  if level = 0 then s
  else if i.occupancy < level then s.modInlet r p fun i => { i with armed := true }
  else if i.armed then (s.modInlet r p fun i => { i with armed := false }).pend (0x20 + 4 * r + p)
  else s

/-- The inlet as the first word of a packet of n bytes finds it (R288). -/
def Inlet.begun (i : Inlet) (n : Nat) : Inlet := if i.part = 0 then i.rotate n else i

/-- A packet commits in an inlet (R287, R288): the room was advertised; a packet without room is not taken. -/
def State.commitPacket (s : State) (r p : Nat) (k : Packet) : State :=
  let n := packetRoom k
  let i := { (s.inlet r p).begun n with part := 0 }
  if bankSize < i.filling.used + n then s
  else
    let b := i.filling
    let i1 := { i with order := i.order + 1 }.setFilling ⟨b.packets ++ [(i.order, k)], b.used + n⟩
    (s.modInlet r p fun _ => i1).levelCheck r p

/-- A committed packet leaves its bank. -/
def State.removePacket (s : State) (r p : Nat) (e : Nat × Packet) : State :=
  (s.modInlet r p fun i =>
    { i with bank0 := { i.bank0 with packets := i.bank0.packets.filter (· != e) },
             bank1 := { i.bank1 with packets := i.bank1.packets.filter (· != e) } }).levelCheck r p

/-- A class 0 packet that stands in an inlet is taken by its consumer (R289). -/
def State.takeInlet (s : State) (r p : Nat) (pkt : Bytes) : State :=
  let i := s.inlet r p
  match (i.bank0.packets ++ i.bank1.packets).find? fun k => k.2.cls == 0 && k.2.bytes == pkt with
  | none => s
  | some e => s.removePacket r p e

/-- The oldest packet of the management queue is taken, if it is this one and the firmware reads the queue (R290). -/
def State.takeMgmt (s : State) (r p : Nat) (pkt : Bytes) : State :=
  let i := s.inlet r p
  if s.getF (pgInlet r p) Fld.INLET_CTL_MGMT_OWNER == 0 && i.mgmt.head? == some pkt then
    s.modInlet r p fun i => { i with mgmt := i.mgmt.drop 1, mgmtWord := 0 }
  else s

/-- Discard the committed packets of chosen classes of an inlet, of one context or all (R292): each counts in FLUSH_DROP. -/
def State.flushInlet (s : State) (r p mask : Nat) (ctx : Option Nat) : State :=
  let goes (k : Packet) : Bool :=
    bitAt mask k.cls && (match ctx with | none => true | some c => (k.cls == 1 || k.cls == 2) && k.ctx == c)
  let i := s.inlet r p
  let n := ((i.bank0.packets ++ i.bank1.packets).filter fun k => goes k.2).length
  let s1 := s.modInlet r p fun i =>
    { i with
      bank0 := { i.bank0 with packets := i.bank0.packets.filter fun k => !goes k.2 },
      bank1 := { i.bank1 with packets := i.bank1.packets.filter fun k => !goes k.2 } }
  if n = 0 then s1 else (s1.bumpF (pgInlet r p) Fld.FLUSH_DROP_COUNT n).levelCheck r p

/-- The streams of a context's landing rings in region r are released: their credit returns to the senders (R138, R292). -/
def State.releaseRings (s : State) (r c : Nat) : State :=
  let mine := (s.region r).landing.filter fun l => l.ctx == c
  let s1 := s.modRegion r fun g => { g with landing := g.landing.filter fun l => l.ctx != c }
  mine.foldl (fun s l => s.sendMember l.member 3 (creditReturnPacket s.self c r s.membership.epoch l.bytes.length)) s1

/-- Classes 1 and 2 of a context are flushed in every inlet, and its landing rings are released (R292, R318 step 3). -/
def State.flushContext (s : State) (c : Nat) : State :=
  s.live.foldl (fun s r => ((List.range 4).foldl (fun s p => s.flushInlet r p 6 (some c)) s).releaseRings r c) s

end Sys2Proof.Machine
end

