-- ==== Sys2Proof/Machine/Slots.lean ====
section
/-! DEFINITION. Sys2Proof/Machine/Slots.lean: the kinds of slot operation and the count registers that they read and write (R47, R53 to
R55). -/

namespace Sys2Proof.Machine

/-! ### Kinds of operation -/

/-- Whether an operation is a cell group's. -/
def SlotOp.isCell (o : SlotOp) : Bool := decide (2 ≤ o.slot ∧ o.slot ≤ 5)
/-- Whether an operation is a cell group's with a given opcode. -/
def SlotOp.cell (o : SlotOp) (op : Nat) : Bool := o.isCell && o.op == op
/-- COMBINE's MODE, SRC, SPILL, EPILOGUE, FP8 and MARGIN_CODE (R155). -/
def SlotOp.cMode (o : SlotOp) : Nat := bits o.imm 15 14
def SlotOp.cSrc (o : SlotOp) : Nat := bits o.imm 13 13
def SlotOp.cSpill (o : SlotOp) : Nat := bits o.imm 12 12
def SlotOp.cEpilogue (o : SlotOp) : Nat := bits o.imm 11 10
def SlotOp.cFp8 (o : SlotOp) : Nat := bits o.imm 9 9
def SlotOp.cMargin (o : SlotOp) : Nat := bits o.imm 8 5
/-- TERM, PACKAGE and FINAL of R155. -/
def SlotOp.isTerm (o : SlotOp) : Bool := o.cell 8 && o.cMode == 0
def SlotOp.isPackage (o : SlotOp) : Bool := o.cell 8 && o.cMode == 1
def SlotOp.isFinal (o : SlotOp) : Bool := o.cell 8 && o.cMode == 2
/-- DELTA's MODE: TEST and PRINT (R176). -/
def SlotOp.isTest (o : SlotOp) : Bool := o.cell 3 && bits o.imm 1 0 == 0
def SlotOp.isPrint (o : SlotOp) : Bool := o.cell 3 && bits o.imm 1 0 == 1
/-- GHOST and OUT_FORM of DELTA (R176). -/
def SlotOp.dGhost (o : SlotOp) : Bool := bitAt o.imm 11
def SlotOp.dOutForm (o : SlotOp) : Nat := bits o.imm 9 8
/-- PASS, EXCESS_SRC and BATCH_CAP of SORT (R115). -/
def SlotOp.sPass (o : SlotOp) : Nat := bits o.imm 12 12
def SlotOp.sExcess (o : SlotOp) : Nat := bits o.imm 11 6
def SlotOp.sBatchCap (o : SlotOp) : Nat := bits o.imm 5 0
/-- GHOST and GHOST_CNT of BURN (R191). -/
def SlotOp.bGhost (o : SlotOp) : Bool := bitAt o.imm 15
def SlotOp.bGhostCnt (o : SlotOp) : Nat := bits o.imm 13 8
/-- An operation that sends: ROW_SEND, EDGE_SEND, LINK_SEND. -/
def SlotOp.sends (o : SlotOp) : Bool := o.cell 7 || (o.slot == 6 && o.op == 2) || (o.slot == 7 && o.op == 1)
/-- An operation that lands a stream: ROW_SEND to its own region, EDGE_RECV, LINK_RECV. -/
def SlotOp.lands (o : SlotOp) : Bool := o.cell 7 || o.receives
/-- An operation whose DESC names an exchange view. -/
def SlotOp.exchanges (o : SlotOp) : Bool := o.sends || o.receives
/-- NET_MOVE. -/
def SlotOp.isNetMove (o : SlotOp) : Bool := o.slot == 6 && o.op == 1
/-- B_HAND and B_REFDEC. -/
def SlotOp.isHand (o : SlotOp) : Bool := o.slot == 8 && o.op == 2
def SlotOp.isRefdec (o : SlotOp) : Bool := o.slot == 8 && o.op == 4

/-- Count registers that an operation reads at its issue (R47, R53 to R55). -/
def SlotOp.regReads (o : SlotOp) : List Nat :=
  match o.slot with
  | 0 => if o.op = 2 then [o.cnt] else []
  | 1 => if o.op = 2 ∨ o.op = 3 ∨ o.op = 4 then [o.cnt] else []
  | 6 => [o.cnt]
  | 7 => if o.op = 1 then [o.cnt] else []
  | 8 => [o.cnt]
  | 9 => []
  | _ => o.cnt :: (if o.op = 6 ∧ o.sPass = 1 then [o.sExcess] else []) ++ (if o.op = 0xA ∧ o.bGhost then [o.bGhostCnt] else []) ++
      (if o.op = 7 then [o.dst] else [])

/-- Count registers that an operation writes at its end, but for the excess of R50. -/
def SlotOp.ownWrites (o : SlotOp) : List Nat :=
  match o.slot with
  | 0 => if o.op = 1 ∨ o.op = 5 ∨ o.op = 6 then [o.dst] else []
  | 1 => if o.op = 3 ∨ o.op = 4 then [o.dst] else []
  | 6 => if o.op = 1 then [o.cnt + 1] else if o.op = 3 then [o.cnt] else []
  | 7 => if o.op = 2 then [o.cnt] else []
  | 8 | 9 => []
  | _ => if o.op = 1 ∨ o.op = 4 ∨ o.op = 7 then [o.dst]
      else if o.op = 6 then [o.dst, o.dst + 1]
      else if o.isTest then (if o.dGhost then [o.dst, o.dst + 1] else [o.dst])
      else []

/-- Lanes of a count register of an image. -/
def Image.lanesOf (im : Image) (reg : Nat) : Nat := im.lanes.getD reg 1
/-- A capacity entry of an image. -/
def Image.cap (im : Image) (i : Nat) : W64 := im.caps.getD i 0

/-- Count registers that an operation of an image writes, the excess register of a SPILL entry among them (R50). -/
def Image.regWrites (im : Image) (o : SlotOp) : List Nat :=
  o.ownWrites ++ (if o.counted && capMode (im.cap o.cap) == 1 then [capExcess (im.cap o.cap)] else [])

/-- Registers that an operation waits for. -/
def Image.waits (im : Image) (o : SlotOp) : List Nat := o.regReads ++ im.regWrites o

/-! ### Tensors that entries name -/

/-- Whether two descriptors name one tensor: they begin at one address; distributed ones are equal (log 23). -/
def sameTensor (d e : Bytes) : Bool := if dsDistributed d || dsDistributed e then d == e else dsBase d == dsBase e

/-- Whether two entries are known to name one tensor: PLATE_LOAD, which has no list, knows it of one entry number alone (log 23). -/
def surelySame (list : Option Bytes) (i j : Nat) : Bool :=
  i == j || match list with | none => false | some l => sameTensor (descAt l i) (descAt l j)

/-- Whether two entries may name one tensor: PLATE_LOAD cannot rule it out (log 23). -/
def maybeSame (list : Option Bytes) (i j : Nat) : Bool :=
  i == j || match list with | none => true | some l => sameTensor (descAt l i) (descAt l j)

/-- Whether an entry may be a PRINTS view (R175). -/
def maybePrints (list : Option Bytes) (i : Nat) : Bool := match list with | none => true | some l => vwKind (viewAt l i) == 5

/-- What stands for the tensor that entry i names: the first entry that names it. -/
def tensorKey (list : Bytes) (i : Nat) : Nat :=
  ((List.range i).find? fun j => sameTensor (descAt list j) (descAt list i)).getD i

end Sys2Proof.Machine
end

