-- ==== Sys2Proof/Machine/Topology.lean ====
section
/-! DEFINITION. Sys2Proof/Machine/Topology.lean: what the topology record declares (R57, R134, R400), the states of bring-up (R403, R405),
and the comparison of the engine with its record (R407 to R409). -/

namespace Sys2Proof.Machine

/-! ### Crossing budgets (R57, R134, R400) -/

/-- Byte off of n bytes of region r's block of the topology record (R400). -/
def State.topo (s : State) (r off n : Nat) : Nat := field s.bringUp.topology (0x40 + 128 * r + off) n
/-- LAT_mem of region r in force. -/
def State.latMem (s : State) (r : Nat) : Nat := s.bringUp.latMem.getD r 256
/-- LAT_edge of an edge of a region in force. -/
def State.latEdge (s : State) (r e : Nat) : Nat := s.bringUp.latEdge.getD (4 * r + e) 64
/-- EXP_ROW, EXP_BASE and LAT_ext of region r. -/
def State.expRow (s : State) (r : Nat) : Nat := s.topo r 2 1
def State.expBase (s : State) (r : Nat) : Nat := s.topo r 4 2
def State.latExt (s : State) (r : Nat) : Nat := s.topo r 6 2
/-- MIN_WIDTH of a port: W of R54. -/
def State.minWidth (s : State) (r p : Nat) : Nat := bits (s.topo r (0x20 + 8 * p) 8) 18 16
/-- Edges of the path from region a to region d (R134), as (region, edge), at most three. -/
def State.pathFrom (s : State) (d : Nat) : Nat → Nat → List (Nat × Nat)
  | 0, _ => []
  | fuel + 1, a =>
    let e := s.topo a (0xC + d) 1
    if a = d ∨ 3 < e then [] else (a, e) :: s.pathFrom d fuel (s.topo a (8 + e) 1 % 8)
/-- The path from region a to region d. -/
def State.path (s : State) (a d : Nat) : List (Nat × Nat) := s.pathFrom d 3 a
/-- LAT_path of R134. -/
def State.latPath (s : State) (a d : Nat) : Nat :=
  let p := s.path a d
  p.foldl (fun n e => n + s.latEdge e.1 e.2) 0 + 32 * (p.length - 1)

/-! ### Edges -/

/-- Whether an edge carries traffic: UP or DEGRADED (R389). -/
def State.edgeUp (s : State) (r e : Nat) : Bool :=
  s.getF (pgEdge r e) Fld.EDGE_STATE_STATE == 2 || s.getF (pgEdge r e) Fld.EDGE_STATE_STATE == 3
/-- The edges of region a that the topology record places toward region b, ascending (R400). -/
def State.edgesTo (s : State) (a b : Nat) : List Nat := (List.range 4).filter fun e => s.topo a (8 + e) 1 % 16 == 8 + b
/-- The edge at the other end of an edge: edges between the same two regions pair up in ascending order. -/
def State.edgeBack (s : State) (r e : Nat) : Nat × Nat :=
  let p := s.topo r (8 + e) 1 % 8
  (p, (s.edgesTo p r).getD ((s.edgesTo r p).findIdx (· == e)) 0)

/-! ### States of bring-up -/

/-- BRINGUP_STATE.STATE changes, and source 0x56 becomes pending (R405). -/
def State.setBringState (s : State) (n : Nat) : State :=
  if s.bringState = n then s else (s.setF pgBringup Fld.BRINGUP_STATE_STATE n).pend 0x56

/-! ### What is in service -/

/-- REGIONS of a topology record: the regions placed, ascending. -/
def topoPlaced (t : Bytes) : List Nat := setIndices (field t 0x12 1) 8
/-- The regions that the record in use places. -/
def State.placedRegions (s : State) : List Nat := topoPlaced s.bringUp.topology

/-- Clusters of region r in service, as a mask (R236): a cluster that resets is still live. -/
def State.clusterMask (s : State) (r : Nat) : Nat := maskOf ((List.range 16).filter fun c => (s.cluster r c).state != 2)
/-- How many there are. -/
def State.liveClusters (s : State) (r : Nat) : Nat := popcount (s.clusterMask r) 16

/-- Memory transaction slots of each port of a region (R146): 64 fewer for each fenced cluster. -/
def State.memSlots (s : State) (r : Nat) : Nat := 1024 - 64 * (16 - s.liveClusters r)

/-- What moved on the memory ports of region r has ended: its reads have been released, a write without its answer keeps its slot
(R146). -/
def State.endPorts (s : State) (r : Nat) (ports : List Nat) : State :=
  ports.foldl (fun s p => s.modMemPort r p fun m => m.opEnd (s.memSlots r)) s

/-! ### The topology comparison (R407 to R409) -/

/-- Regions placed that do not serve: neither live nor in a reset. -/
def State.missing (s : State) : List Nat := s.placedRegions.filter fun r => (s.region r).health != 1 && (s.region r).health != 2

/-- Differences of the array and the clusters of a live region: (bit, region, tolerated). -/
def State.unitDiffs (s : State) (r : Nat) : List (Nat × Nat × Bool) :=
  let tol := field s.bringUp.topology 0x14 1
  let w := s.getF (pgArray r) Fld.ARRAY_STATE_WIDTH
  (if s.liveClusters r < 16 then [(2, r, true)] else []) ++ (if w = 0 then [] else [(3, r, w == 1 && bitAt tol 1)])

/-- Differences of an edge between two live regions. -/
def State.edgeDiffs (s : State) (r e : Nat) : List (Nat × Nat × Bool) :=
  let b := s.topo r (8 + e) 1
  let pg := pgEdge r e
  if !bitAt b 3 || !s.live.contains (b % 8) then []
  else
    let st := s.getF pg Fld.EDGE_STATE_STATE
    let other := s.getF pg Fld.EDGE_STATE_PEER_VALID == 1 && s.getF pg Fld.EDGE_STATE_PEER_REGION != b % 8
    (if st = 3 then [(4, r, bitAt (field s.bringUp.topology 0x14 1) 0)] else []) ++ (if st = 0 ∨ other then [(5, r, false)] else [])

/-- Differences of an expected port of a live region. -/
def State.portDiffs (s : State) (r p : Nat) : List (Nat × Nat × Bool) :=
  let w := s.topo r (0x20 + 8 * p) 8
  let pg := pgLink r p
  if !bitAt w 15 then []
  else if !s.trained r p then [(8, r, bitAt w 19)]
  else
    let peer := s.getF pg Fld.LINK_PEER_VALID == 1 &&
      (s.getF pg Fld.LINK_PEER_MEMBER != bits w 9 0 || s.getF pg Fld.LINK_PEER_REGION != bits w 12 10 || s.getF pg Fld.LINK_PEER_PORT != bits w 14 13)
    (if peer then [(6, r, false)] else []) ++
    (if s.getF pg Fld.LINK_STATE_WIDTH < bits w 18 16 then [(7, r, bitAt w 19)] else [])

/-- Every difference between the engine and its topology record (R407). -/
def State.topologyDiffs (s : State) : List (Nat × Nat × Bool) :=
  let lost := s.missing
  let few := decide (lost.length ≤ field s.bringUp.topology 0x13 1) && !s.live.isEmpty
  lost.map (fun r => (1, r, few)) ++
  s.live.flatMap fun r => s.unitDiffs r ++ (List.range 4).flatMap (s.edgeDiffs r) ++ (List.range 4).flatMap (s.portDiffs r)

/-- TOPO_DIFF as differences set it (R423). -/
def State.showDiffs (s : State) (ds : List (Nat × Nat × Bool)) : State :=
  let found := (List.range 9).filter fun i => ds.any fun d => d.1 == i
  let ok := found.filter fun i => ds.all fun d => d.1 != i || d.2.2
  let first := match found with | [] => 0 | i :: _ => ((ds.filter fun d => d.1 == i).map (·.2.1)).foldl min 7
  ((s.setF pgBringup Fld.TOPO_DIFF_DIFF (maskOf found)).setF pgBringup Fld.TOPO_DIFF_TOLERATED (maskOf ok)).setF pgBringup
    Fld.TOPO_DIFF_FIRST_REGION first

/-- The state that differences decide: 10 READY, 11 READY_DEGRADED, 12 NOT_READY (R408). -/
def verdictOf (ds : List (Nat × Nat × Bool)) : Nat := if ds.isEmpty then 10 else if ds.all (·.2.2) then 11 else 12

/-- NOT_READY is recorded in the ENGINE page (R433). -/
def State.notReady (s : State) : State := (s.setBringState 12).contain pgEngine 2

/-- The comparison that runs again after READY (R409): NOT_READY stays until an engine reset. -/
def State.compare (s : State) : State :=
  if !s.ready then s
  else
    let ds := s.topologyDiffs
    let s1 := s.showDiffs ds
    if verdictOf ds = 12 then s1.notReady else s1.setBringState (verdictOf ds)

end Sys2Proof.Machine
end

