-- ==== Sys2Proof/Machine/Runs.lean ====
section
/-! DEFINITION. Sys2Proof/Machine/Runs.lean: plate sets in flight: finding one, the halts of a region and their spread (R62, R63,
R475), and what a set that has ended hands to its completion (R241, R244, R344). -/

namespace Sys2Proof.Machine

/-- The run of the command with a COMMAND_SEQ. -/
def State.run? (s : State) (seq : W32) : Option Run := s.runs.find? fun x => x.cmd.seq == seq

/-- The state with a run changed. -/
def State.modRun (s : State) (seq : W32) (f : Run → Run) : State :=
  { s with runs := s.runs.map fun x => if x.cmd.seq == seq then f x else x }

/-- The state with one region's part of a run changed. -/
def State.modRR (s : State) (seq : W32) (r : Nat) (f : RegionRun → RegionRun) : State :=
  s.modRun seq fun x =>
    match x.regions.get? r with
    | none => x
    | some g => { x with regions := x.regions.set r (f g) }

/-- The bundle that is issuing. -/
def RegionRun.cur (x : RegionRun) : BitVec 512 := x.image.bundles.getD x.bundle 0

/-- No slot of the current bundle has issued. -/
def RegionRun.fresh (x : RegionRun) : Bool := x.todo == issueOrder x.cur

/-- Only END is left of the current bundle. -/
def RegionRun.endLeft (x : RegionRun) : Bool := x.todo == [0] && (slotOp x.cur 0).op == 0x3F

/-- Units that the current bundle waits for: those of its slots, or all of them before END (R46, R51). -/
def RegionRun.units (g : RegionRun) : List Nat :=
  if g.endLeft then List.range 13 else (g.todo.map (slotOp g.cur)).map (·.unit)
/-- Count registers that the current bundle waits for (R47). -/
def RegionRun.regs (g : RegionRun) : List Nat := (g.todo.map (slotOp g.cur)).flatMap g.image.waits

/-- The issue cycle of the current bundle as the free and ready cycles stand (R46). -/
def RegionRun.cycle (g : RegionRun) : Nat :=
  (g.regs.map fun c => g.ready.getD c 0).foldl max ((g.units.map fun u => g.free.getD u 0).foldl max
    (((setIndices g.hold 13).map fun u => g.free.getD u 0).foldl max (if g.begun then g.last + 1 else g.last)))

/-- A bundle that would issue in cycle t does not, as the plate has halted by then: a halt of cycle t takes effect before bundles
issue in it (R62, R242). -/
def RegionRun.haltedBy (g : RegionRun) (t : Nat) : Bool := match g.halt with | none => false | some h => decide (h.tc ≤ t)

/-- A region's part of a set is over: END has ended, or no bundle is left before the halt and what had issued has run to
completion (R62). -/
def RegionRun.isOver (x : RegionRun) : Bool :=
  x.ended.isSome || (x.halt.isSome && x.busy.isEmpty && ((x.fresh && x.haltedBy x.cycle) || (!x.fresh && (x.todo.isEmpty || x.endLeft))))

/-- The cycle at which a region's part ended (R233). -/
def RegionRun.endTc (x : RegionRun) : Nat :=
  match x.ended with
  | some t => t
  | none => x.free.foldl max ((x.halt.map (·.tc)).getD 0)

/-- The operation that a busy unit runs. -/
def RegionRun.opOf (x : RegionRun) (b : Busy) : SlotOp :=
  let slot := if b.unit = 12 then 0 else if b.unit = 0 then 1 else if b.unit ≤ 4 then b.unit + 1
    else if b.unit = 5 then 6 else if b.unit ≤ 9 then 7 else if b.unit = 10 then 8 else 9
  slotOp (x.image.bundles.getD b.bundle 0) slot

/-- Whether an operation ties its region to a halted one: an EDGE_RECV from it, a CF_ARM or a CF_LOCAL (R62). -/
def tiedTo (o : SlotOp) (halted : Nat) : Bool :=
  (o.slot == 6 && o.op == 3 && o.region == halted) || (o.slot == 9 && (o.op == 1 || o.op == 2))

/-- Record a halt in a region's part: the first in time stands, of equal ones the lowest bundle and slot (R63, R475). -/
def RegionRun.addHalt (x : RegionRun) (h : Halt) : RegionRun :=
  match x.halt with
  | none => { x with halt := some h }
  | some g =>
    if h.tc < g.tc ∨ (h.tc = g.tc ∧ (h.bundle < g.bundle ∨ (h.bundle = g.bundle ∧ h.order < g.order))) then
      { x with halt := some h }
    else x

/-- An operation stops in cycle tc, where the plate halts: its unit and its registers are no sooner free or ready, so that nothing that
waits for them issues (R62, R475). -/
def RegionRun.stop (x : RegionRun) (b : Busy) (tc : Nat) : RegionRun :=
  { x with
    busy := x.busy.filter fun c => c.unit != b.unit, free := x.free.set b.unit tc,
    ready := b.writes.foldl (fun t w => t.set w.1 tc) x.ready }

/-- A halt takes effect in one region (R62): its page raises PLATE_HALT; a further cause counts in HALT_EXTRA (R63). -/
def State.haltOne (s : State) (seq : W32) (r : Nat) (h : Halt) : State :=
  match (s.run? seq).bind fun x => x.regions.get? r with
  | none => s
  | some g =>
    if g.ended.isSome then s
    else
      let s1 := if g.halt.isSome then s.count (pgRegion r) 0x40 1 else (s.contain (pgRegion r) 2).vfEvent r 2
      s1.modRR seq r (·.addHalt h)

/-- One round of the spread of REGION_HALTED (R62): every region that still runs an operation tied to a halted region halts
in the later of the halt's tc and that operation's issue. -/
def State.spreadOnce (s : State) (seq : W32) : State :=
  match s.run? seq with
  | none => s
  | some x =>
    x.regions.foldl (fun s e =>
      if e.2.halt.isSome || e.2.ended.isSome then s
      else
        let hit := x.regions.findSome? fun f =>
          match f.2.halt with
          | none => none
          | some h => (e.2.busy.find? fun b => tiedTo (e.2.opOf b) f.1).map fun b => (h, b)
        match hit with
        | none => s
        | some (h, b) =>
          let tc := max h.tc b.issue
          (s.haltOne seq e.1 ⟨stRegionHalted, b.bundle, (e.2.opOf b).slot, tc⟩).modRR seq e.1 (·.stop b tc)) s

/-- The spread of REGION_HALTED to its end: at most eight regions. -/
def State.spread (s : State) (seq : W32) : State := (List.range 8).foldl (fun s _ => s.spreadOnce seq) s

/-! ### The end of a set -/

/-- The units that an image names, as a mask (R304). -/
def imageUnits (im : Image) : Nat :=
  im.bundles.foldl (fun m b => (usedSlots b).foldl (fun m sl => setFlag m (slotOp b sl).unit) m) 0

/-- Live clusters of cell group g of region r: those not fenced. -/
def State.groupClusters (s : State) (r g : Nat) : Nat :=
  ((List.range 4).filter fun i => (s.cluster r (4 * g + i)).state != 2).length

/-- C of R307: live clusters in the cell groups that a claim names, at least 1 per region. -/
def State.claimClusters (s : State) (ims : List Image) : Nat :=
  ims.foldl (fun n im =>
    let u := imageUnits im
    n + max 1 (((List.range 4).filter fun g => bitAt u (g + 1)).foldl (fun k g => k + s.groupClusters im.region.val g) 0)) 0

/-- Lanes added lane for lane. -/
def addLanes (a b : List Nat) : List Nat := (List.range (max a.length b.length)).map fun i => a.getD i 0 + b.getD i 0

/-- The rows of an output digest, in ascending token (R244). -/
def digestRows (d : Digest) : Bytes := d.rows.foldl (fun acc e => acc ++ e.2) []

/-- The proof of one router over the live regions (R244, R245). -/
def proofOf (regions : Tab RegionRun) (router : Nat) (open_ : Bool) : ProofEntry :=
  let ds := regions.filterMap fun e => e.2.digests.get? router
  { router := router,
    burn := ((ds.map (·.burn)).find? (· != 0)).getD 0,
    manifest := crc64 (ds.foldl (fun acc d => acc ++ d.manifest ++ d.spill) []),
    output := crc64 (ds.foldl (fun acc d => acc ++ digestRows d) []),
    spill := ds.any (·.hasSpill), open_ := open_ }

/-- The routers whose digests a set froze (R246), ascending. -/
def provenRouters (regions : Tab RegionRun) : List Nat :=
  (List.range 128).filter fun ρ => regions.any fun e => match e.2.digests.get? ρ with | none => false | some d => d.frozen

/-- The halt that a set's completion carries: the earliest, then the lowest bundle, slot and region; a REGION_HALTED only
where no cause of its own halted a region (R62, R475; log 13). -/
def setHalt (regions : Tab RegionRun) : Option (Nat × Halt) :=
  let hs := regions.filterMap fun e => e.2.halt.map fun h => (e.1, h)
  let own := hs.filter fun e => e.2.code != stRegionHalted
  let best (l : List (Nat × Halt)) : Option (Nat × Halt) :=
    l.foldl (fun acc e =>
      match acc with
      | none => some e
      | some a =>
        if e.2.tc < a.2.tc ∨ (e.2.tc = a.2.tc ∧ (e.2.bundle < a.2.bundle ∨ (e.2.bundle = a.2.bundle ∧ e.2.order < a.2.order)))
        then some e else some a) none
  match best own with | some e => some e | none => best hs

/-- What a plate set that is over hands to its completion. -/
def State.endedOf (s : State) (x : Run) : Ended :=
  let rs := x.regions.map (·.2)
  let late := min ((rs.map (·.late)).sum) 0xFFFFFFFF
  let sum32 (f : RegionRun → Nat) : Nat := min ((rs.map f).sum) 0xFFFFFFFF
  let h := setHalt x.regions
  let isLayer := cmdOp x.cmd.raw == 0x20
  let routers := (x.regions.flatMap fun e => e.2.load.map (·.1)).eraseDups
  { ctx := x.cmd.ctx, ring := x.cmd.ring, raw := x.cmd.raw, seq := x.cmd.seq,
    status := (h.map fun e => e.2.code).getD stSuccess, halted := h.isSome,
    region := (h.map (·.1)).getD 0, index := (h.map fun e => e.2.bundle).getD 0,
    flags := orFlags (rs.foldl (fun m g => orFlags m g.flags) 0)
      ((if late = 0 then 0 else 2 ^ flTimingLate) + (if x.safelight then 2 ^ flSafelight else 0)),
    issued := none, tcRun := (rs.map RegionRun.endTc).foldl max x.epoch - x.epoch, lateTc := late,
    result := if isLayer then leBytes 4 (sum32 (·.spill)) ++ leBytes 4 (sum32 (·.drop)) ++ leBytes 4 (sum32 (·.skipped)) ++ zeros 12
      else zeros 24,
    isSet := true,
    proofs := if h.isSome then [] else (provenRouters x.regions).map fun ρ =>
      proofOf x.regions ρ x.open_,
    loads := routers.foldl (fun t ρ => t.set ρ (rs.foldl (fun l g => addLanes l (g.load.getD ρ [])) [])) [],
    burned := (List.range 128).filter fun ρ => rs.any fun g => g.burned.contains ρ,
    rewritten := x.rewritten, routers := x.routers, clusters := s.claimClusters (rs.map (·.image)), entries := none, held := false, endTc := 0 }

/-- Commands have ended: they complete in this order (R324). -/
def State.ends (s : State) (l : List Ended) : State := { s with ended := s.ended ++ l.map fun e => { e with endTc := s.tcNow } }

/-- A plate that is over returns the credit of the streams it mapped, one CREDIT_RETURN per stream (R138). -/
def State.returnCredit (s : State) (x : Run) : State :=
  x.regions.foldl (fun s e =>
    e.2.mapped.foldl (fun s m =>
      let s1 := s.modRegion e.1 fun g =>
        { g with landing := g.landing.filter fun l => !(l.mapped && l.ctx == x.cmd.ctx.val && l.member == m.1) }
      s1.sendMember m.1 3 (creditReturnPacket s.self x.cmd.ctx.val e.1 s.membership.epoch m.2)) s) s

/-- A group formed in the current membership epoch (R204, R229): the live list, CALL_SEQ 0; an excluded engine's slot reads
EXCLUDED. -/
def State.formGroup (s : State) (g : Group) : Group :=
  let live := g.members.filter fun m => s.membership.members.contains m && !g.excluded.contains m
  { g with
    live := live, epoch := s.membership.epoch, callSeq := 0, state := if g.excluded.contains s.self then 3 else 1, early := [],
    fails := [], forwarded := false, reform := false }

/-- A group whose call has ended, with the re-form that waited for it (R205). -/
def State.reformed (s : State) (g : Group) : Group :=
  if g.reform && g.state == 1 && g.calls.all fun k => k.phase == 0 then s.formGroup g else g

/-- A group without the calls of a set. -/
def State.without (s : State) (seq : W32) (g : Group) : Group := s.reformed { g with calls := g.calls.filter fun k => k.run != some seq }

/-- The fused calls of a set that is over fall silent: its peers see a member that has stopped answering (R65). -/
def State.dropCalls (s : State) (seq : W32) : State := { s with groups := s.groups.map fun e => (e.1, s.without seq e.2) }

/-- STATE of an edge by the widths of its modules, 0 x64, 1 x32, 2 down (R381, R389). -/
def edgeStateOf (m0 m1 : Nat) : Nat := if 2 ≤ m0 ∨ 2 ≤ m1 then 0 else if m0 = m1 then 2 else 3

/-- An isolated edge whose retraining has passed returns at the next command boundary of the engine: with no plate set in flight
(R379). -/
def State.returnEdges (s : State) : State :=
  if !s.runs.isEmpty then s
  else (List.range 32).foldl (fun s i =>
    let r := i / 4
    let e := i % 4
    if (s.edge r e).retrained then
      (((s.setF (pgEdge r e) Fld.EDGE_STATE_STATE (edgeStateOf (s.getF (pgEdge r e) Fld.EDGE_STATE_MOD0_WIDTH)
        (s.getF (pgEdge r e) Fld.EDGE_STATE_MOD1_WIDTH))).modEdge r e fun _ => Edge.reset).pend (0x48 + r)).compare
    else s) s

/-- A set whose every region is over leaves its units and goes to its completion, in the order of ends (R39, R62, R324). What
is still in flight of its transfers is dropped (R148). -/
def State.finishRun (s : State) (seq : W32) : State :=
  match s.run? seq with
  | none => s
  | some x =>
    if x.started && x.regions.all fun e => e.2.isOver then
      let s1 := x.regions.foldl (fun s e =>
        s.modRegion e.1 fun g => { g with transfers := g.transfers.filter fun t => t.seq != seq }) ((s.returnCredit x).dropCalls seq)
      let s2 := if x.regions.any fun e => e.2.halt.isSome then s1.flushContext x.cmd.ctx.val else s1
      (({ s2 with runs := s2.runs.filter fun y => y.cmd.seq != seq }).ends [s.endedOf x]).returnEdges
    else s

/-- A halt of a region's plate takes effect: it spreads along the receives of the set, and the set ends if it was the last
(R62). -/
def State.halt (s : State) (seq : W32) (r code bundle order tc : Nat) : State :=
  ((s.haltOne seq r ⟨code, bundle, order, tc⟩).spread seq).finishRun seq

/-- A halt that no operation raised: its bundle is the one that issued last (R62). -/
def State.haltRegion (s : State) (seq : W32) (r code tc : Nat) : State :=
  match (s.run? seq).bind fun x => x.regions.get? r with
  | none => s
  | some g => s.halt seq r code g.lastBundle 0 tc

/-- The runs that use region r. -/
def State.runsIn (s : State) (r : Nat) : List Run := s.runs.filter fun x => (x.regions.get? r).isSome

end Sys2Proof.Machine
end

