-- ==== Sys2Proof/Machine/Commands.lean ====
section
/-! DEFINITION. Sys2Proof/Machine/Commands.lean: the command rings: reading a head (R322), when it may be validated (R324, R329),
the checks that every command shares (R329 steps 1 to 3), readiness (R305, R323), and how a command ends (R331). The start of a
fault teardown is here because a ring read can cause it (R317, R318). -/

namespace Sys2Proof.Machine

/-! ### Ring registers (R349) -/

/-- Page offset at which CMD_RING[q] and CMD_PTR[q] of context c are found by the fields of ring 0. -/
def ringPage (c q : Nat) : Nat := pgRing c + 0x10 * q
/-- Entries of ring q of context c. -/
def State.ringSize (s : State) (c q : Nat) : Nat := 2 ^ s.getF (ringPage c q) Fld.CMD_RING_SIZE_LOG2
/-- Entries of the completion ring of context c. -/
def State.cplSize (s : State) (c : Nat) : Nat := 2 ^ s.getF (pgRing c) Fld.CPL_RING_SIZE_LOG2
/-- a − b modulo 2^32. -/
def sub32 (a b : Nat) : Nat := (a + 2 ^ 32 - b % 2 ^ 32) % 2 ^ 32
/-- HEAD of ring q. -/
def State.ringHead (s : State) (c q : Nat) : Nat := s.getF (ringPage c q) Fld.CMD_PTR_HEAD
/-- TAIL of ring q. -/
def State.ringTail (s : State) (c q : Nat) : Nat := s.getF (ringPage c q) Fld.CMD_PTR_TAIL
/-- Entries in the ring that the leader has not read. -/
def State.ringLeft (s : State) (c q : Nat) : Nat := sub32 (s.ringTail c q) (s.ringHead c q)

/-! ### Waits (R326) -/

/-- Whether wait i of a command is satisfied now, or not used. -/
def State.waitHolds (s : State) (raw : BitVec 512) (i : Nat) : Bool :=
  !cmdWaits raw i || decide (sub32 (s.event (cmdWait raw i)).1.toNat (cmdTarget raw i) < 2 ^ 31)

/-- The head with the waits that hold now remembered: once satisfied, a wait stays satisfied. -/
def State.markWaits (s : State) (h : Head) : Head :=
  { h with sat := (List.range 2).foldl (fun m i => if s.waitHolds h.raw i then setFlag m i else m) h.sat }

/-- The state with every head's satisfied waits remembered. -/
def State.noteWaits (s : State) : State :=
  { s with ctxs := s.ctxs.map fun e => (e.1, { e.2 with heads := e.2.heads.map fun h => (h.1, s.markWaits h.2) }) }

/-- Whether a waited event has FAULTED set. -/
def State.waitFaulted (s : State) (raw : BitVec 512) : Bool :=
  (List.range 2).any fun i => cmdWaits raw i && (s.event (cmdWait raw i)).2

/-! ### Ending a command -/

/-- The record of a command that ends without being a plate set. -/
def plainEnd (cmd : Command) (status index region : Nat) (issued : Option Nat) (tcRun : Nat) (result : Bytes) : Ended :=
  { ctx := cmd.ctx, ring := cmd.ring, raw := cmd.raw, seq := cmd.seq, status := status, halted := false, region := region,
    index := index, flags := 0, issued := issued, tcRun := tcRun, lateTc := 0, result := result, isSet := false,
    proofs := [], loads := [], burned := [], rewritten := [], routers := [], clusters := 0, entries := none, held := false, endTc := 0 }

/-- A command that fails validation ends with TC_RUN 0 and HALTED 0 and changes nothing (R331). -/
def State.endFail (s : State) (cmd : Command) (code index region : Nat) : State :=
  s.ends [plainEnd cmd code index region none 0 (zeros 24)]

/-- A command that ends with SUCCESS now, with its RESULT. -/
def State.endDone (s : State) (cmd : Command) (result : Bytes) : State :=
  s.ends [plainEnd cmd stSuccess 0 0 (some s.tcNow) 0 (fit 24 result)]

/-! ### Teardown (R317, R318) -/

/-- Bytes of free value written over one element of a tensor that a teardown leaves undefined (R318). -/
def State.scribble (s : State) (w : Tab (BitVec 128)) (r : Nat) (d : Bytes) (t : Nat) : State :=
  let s1 := s.drew
  (s1.writeCtx w r (dsAddr d t) (leBytes (elemBytes (dsElem d)) s.freeVal.toNat)).getD s1

/-- The destinations of a call in progress are undefined after the teardown of its context (R318): free values. -/
def State.scribbleCall (s : State) (call : Call) (cmd : Command) : State :=
  (setIndices call.destMask 8).foldl (fun s r =>
    let d := descAt cmd.list (2 * r + 1)
    (List.range (dsCount d)).foldl (fun s t => s.scribble cmd.windows r d t) s) s

/-- Calls of context c lose their command: they run to their end (R222) and complete nothing (R318). -/
def State.orphanCalls (s : State) (c : Nat) : State × List Ended :=
  s.groups.foldl (fun acc e =>
    e.2.calls.foldl (fun acc call =>
      match call.cmd with
      | none => acc
      | some cmd =>
        if cmd.ctx.val = c then
          let s1 := (acc.1.scribbleCall call cmd).modGroup e.1 fun g =>
            { g with calls := g.calls.map fun k => if k.cmd == some cmd then { k with cmd := none } else k }
          (s1, acc.2 ++ [plainEnd cmd stContextFault 0 0 (some call.issue) 0 (zeros 24)])
        else acc) acc) (s, [])

/-- A running set of a context that is torn down halts in every region with CONTEXT_FAULT (R318 step 2); what its units run still
counts in its length (R62). -/
def State.tornRun (s : State) (x : Run) : Ended :=
  let tc := s.tcNow
  let last := (x.regions.flatMap fun e => e.2.busy.filterMap (·.ends)).foldl max (max tc x.epoch)
  let y := { x with regions := x.regions.map fun e =>
    (e.1, { e.2 with halt := some ⟨stContextFault, e.2.lastBundle, 0, tc⟩, ended := none, busy := [], free := [] }) }
  { s.endedOf y with tcRun := last - x.epoch, loads := [], proofs := [] }

/-- What a copy in flight hands to its completion, with a status: its length is that of its transfers (R271, R347). -/
def Copying.end_ (k : Copying) (status tc : Nat) : Ended :=
  { plainEnd k.cmd status 0 0 none (tc - k.issued) (zeros 24) with flags := flag k.lit * 2 ^ flSafelight }

/-- REGION of a copy. -/
def copyRegion (raw : BitVec 512) : Nat := cmdField raw 24 1

/-- Copies in flight that a predicate names leave the memory ports and end with a status (R318, R411). -/
def State.dropCopies (s : State) (p : Copying → Bool) : State :=
  let s1 := (s.copies.filter p).foldl (fun s k => s.endPorts (copyRegion k.cmd.raw) (List.range 8)) s
  { s1 with copies := s1.copies.filter fun k => !p k }

/-- Position of a command among those of its context that are validated and not completed. -/
def State.flightPos (s : State) (seq : W32) : Nat := (s.flight.findIdx? fun f => f.2 == seq).getD s.flight.length

/-- Insert an ended command by the order of validation. -/
def State.insertByFlight (s : State) (e : Ended) : List Ended → List Ended
  | [] => [e]
  | f :: t => if s.flightPos e.seq ≤ s.flightPos f.seq then e :: f :: t else f :: s.insertByFlight e t

/-- The regions of a running set that is torn down halt: their pages raise PLATE_HALT (R62, R318 step 2). -/
def State.tornHalts (s : State) (x : Run) : State :=
  if x.started then
    x.regions.foldl (fun s e => s.haltOne x.cmd.seq e.1 ⟨stContextFault, e.2.lastBundle, 0, s.tcNow⟩) s
  else s

/-- Teardown begins (R318 steps 1 to 3): the state becomes TEARDOWN, running sets halt with CONTEXT_FAULT, inlets are flushed
and transient basins swept. cplFault tells that the completion ring is the cause. -/
def State.startTeardown (s : State) (c code : Nat) (cplFault : Bool) : State :=
  let x := s.ctx c
  if x.state = 0 ∨ x.state = 5 then s
  else
    let mine := s.runs.filter fun y => y.cmd.ctx.val == c
    let (s1, calls) := (mine.foldl State.tornHalts s).orphanCalls c
    let runs := mine.map s1.tornRun
    let done := (s1.ended.filter fun e => e.ctx.val == c).map fun e => { e with status := stContextFault, proofs := [], loads := [] }
    let copies := (s.copies.filter fun k => k.cmd.ctx.val == c).map fun k => k.end_ stContextFault s.tcNow
    let waiting := (s.deferred.filter fun e => e.2.ctx.val == c).map fun e => { e.2 with status := stContextFault }
    let torn := (runs ++ calls ++ copies ++ waiting ++ done).foldr s.insertByFlight []
    let s2 := mine.foldl (fun s y => (s.returnCredit y).dropCalls y.cmd.seq) (s1.dropCopies fun k => k.cmd.ctx.val == c)
    let s3 := { s2 with
      runs := s2.runs.filter fun y => y.cmd.ctx.val != c,
      ended := s2.ended.filter fun e => e.ctx.val != c,
      deferred := s2.deferred.filter fun e => e.2.ctx.val != c,
      loading := if s2.loading == some (Fin.ofNat 16 c) then none else s2.loading,
      saving := s2.saving.filter fun k => k.val != c }
    let s4 := s3.modCtx c fun x =>
      { x with state := 5, faultCode := code, cplFault := cplFault, held := [], tornRunning := torn, pendingRecord := none }
    (((s4.flushContext c).sweep c).bumpF pgSched Fld.TEARDOWN_COUNT_COUNT 1).contain pgSched 0

/-! ### Reading heads (R322) -/

/-- The state after the leader reads the entry at HEAD of a ring, if the ring is enabled, holds one and has no head yet; in NOT_READY no
ring is read (R408). The
head index advances when the entry is read (log 14). A read that fails translation tears the context down (R317, R321). -/
def State.fetch (s : State) (c q : Nat) : State :=
  let x := s.ctx c
  let pg := ringPage c q
  if (x.heads.get? q).isNone && decide (1 ≤ x.state ∧ x.state ≤ 4) && s.getF pg Fld.CMD_RING_ENABLE == 1 && s.ringLeft c q != 0 && s.bringState != 12 then
    let h := s.ringHead c q
    let a := s.getF pg Fld.CMD_RING_BASE * 0x1000 + 64 * (h % s.ringSize c q)
    match s.readCtx x.windows s.leader a 64 with
    | none => (s.contain (pgRing c) 1).startTeardown c stBoundsFault false
    | some bs =>
      let head : Head := s.markWaits ⟨BitVec.ofNat 512 (leNat bs), none, 0⟩
      (s.setF pg Fld.CMD_PTR_HEAD (h + 1)).modCtx c fun x => { x with heads := x.heads.set q head }
  else s

/-- Read every ring of a context that has no head. -/
def State.fetchAll (s : State) (c : Nat) : State := (List.range 4).foldl (fun s q => s.fetch c q) s

/-- The head of a ring leaves, and the next entry is read (R323). -/
def State.popHead (s : State) (c q : Nat) : State :=
  (s.modCtx c fun x => { x with heads := x.heads.erase (· == q) }).fetch c q

/-! ### Activity (R297, R307) -/

/-- Commands of a context validated and not completed. -/
def State.inFlight (s : State) (c : Nat) : List W32 := (s.flight.filter fun f => f.1.val == c).map (·.2)
/-- A command of the context is in flight: issued and not completed. -/
def State.running (s : State) (c : Nat) : Bool :=
  s.runs.any (fun y => y.cmd.ctx.val == c) || s.copies.any (fun k => k.cmd.ctx.val == c) || s.ended.any (fun e => e.ctx.val == c) ||
  s.deferred.any (fun e => e.2.ctx.val == c) || !(s.ctx c).held.isEmpty || !(s.ctx c).seqWait.isEmpty ||
  s.groups.any (fun e => e.2.calls.any fun k => match k.cmd with | none => false | some m => m.ctx.val == c)
/-- No command in the context's rings and none in flight: IDLE (R297). -/
def State.ctxIdle (s : State) (c : Nat) : Bool :=
  (s.ctx c).heads.isEmpty && ((List.range 4).all fun q => s.ringLeft c q == 0) && !s.running c

/-- Smallest VTIME of the other contexts that are RESIDENT and not IDLE (R307). -/
def State.leastVtime (s : State) (c : Nat) : Option Nat :=
  ((List.range 16).filter fun d => d != c && (s.ctx d).state == 1 && !s.ctxIdle d).foldl (fun m d =>
    match m with | none => some (s.ctx d).vtime | some v => some (min v (s.ctx d).vtime)) none

/-- Contexts that became idle take the time; one that leaves IDLE has its VTIME raised to the least of the others (R307). -/
def State.settleIdle (s : State) : State :=
  (List.range 16).foldl (fun s c =>
    let x := s.ctx c
    if x.state = 0 then s
    else if s.ctxIdle c then (if x.wasIdle then s else s.modCtx c fun x => { x with wasIdle := true, idleSince := s.time })
    else if x.wasIdle then
      s.modCtx c fun x => { x with wasIdle := false, vtime := max x.vtime ((s.leastVtime c).getD 0) }
    else s) s

/-! ### Validation (R329) -/

/-- Bytes of the operands that each command names (R333): offset and length within the 64 bytes. -/
def operandBytes (op : Nat) : List (Nat × Nat) :=
  match op with
  | 0x01 => [(24, 1), (32, 8)] | 0x02 => [(24, 1)] | 0x03 => [(24, 1)] | 0x04 => [(24, 1), (32, 8)] | 0x05 => [(24, 2)]
  | 0x06 => [(24, 3), (32, 8)] | 0x07 => [(32, 8)] | 0x08 => [(24, 1)] | 0x10 => [(24, 2), (32, 8)] | 0x11 => [(24, 1)]
  | 0x12 => [(24, 2), (32, 8)] | 0x13 => [(24, 2), (32, 8)] | 0x14 => [(24, 32)] | 0x15 => [(24, 2)]
  | 0x16 => [(24, 4), (40, 16)] | 0x17 => [(24, 1), (32, 8)] | 0x18 => [(24, 1), (32, 8)] | 0x20 => [(24, 2), (32, 16)]
  | 0x21 => [(24, 3), (32, 16)] | 0x22 => [(24, 3), (28, 12)] | 0x23 => [(24, 1), (28, 12)] | _ => []

/-- The opcodes of R333. -/
def opDefined (op : Nat) : Bool := decide (op ≤ 8) || decide (0x10 ≤ op ∧ op ≤ 0x18) || decide (0x20 ≤ op ∧ op ≤ 0x23)
/-- Commands that read STEP. -/
def opReadsStep (op : Nat) : Bool := op == 0x14 || op == 0x15 || op == 0x16 || op == 0x20 || op == 0x21
/-- Commands that only the supervisor may issue (R333). -/
def opSupervisor (op : Nat) : Bool := decide (1 ≤ op ∧ op ≤ 8)

/-- Step 1 of R329: opcode, reserved header and operand bits, STEP where unread, and the context that SIGNAL names. -/
def headerOk (c : Nat) (raw : BitVec 512) : Bool :=
  let op := cmdOp raw
  let w := raw.toNat
  opDefined op && bits w 19 11 == 0 && (!cmdReset raw || op == 0) && bits w 95 77 == 0 && bits w 159 141 == 0 &&
  (opReadsStep op || cmdStep raw == 0) && (!cmdSignalEn raw || cmdSignal raw / 256 == c) &&
  ((List.range 40).all fun i =>
    cmdField raw (24 + i) 1 == 0 || (operandBytes op).any fun b => decide (b.1 ≤ 24 + i ∧ 24 + i < b.1 + b.2)) &&
  (op != 5 || decide (cmdField raw 25 1 < 2)) && (op != 0x22 || decide (cmdField raw 25 1 < 16)) &&
  (op != 0x23 || decide (cmdField raw 28 4 < 2 ^ 18))

/-- Steps 1 to 3 of R329: the code of the first failure. -/
def State.preCheck (s : State) (c : Nat) (raw : BitVec 512) : Option Nat :=
  if !headerOk c raw then some stCommandInvalid
  else if opSupervisor (cmdOp raw) && c != 0 then some stPrivilegeFault
  else if s.waitFaulted raw then some stDependencyFault
  else none

/-- CPL_RING.ENABLE of a context: without it no command of the context is ready (R324, R350). -/
def State.cplEnabled (s : State) (c : Nat) : Bool := s.getF (pgRing c) Fld.CPL_RING_ENABLE == 1

/-- Whether the leader validates the head of a ring now (R324, R329): its waits hold, completions are enabled, and the
completion ring has room for it and for every command of the context validated and not completed. -/
def State.canValidate (s : State) (c q : Nat) : Bool :=
  match (s.ctx c).heads.get? q with
  | none => false
  | some h =>
    h.cmd.isNone && s.ready && s.led && !s.power.held && decide (1 ≤ (s.ctx c).state ∧ (s.ctx c).state ≤ 4) &&
    (s.waitHolds h.raw 0 || bitAt h.sat 0) && (s.waitHolds h.raw 1 || bitAt h.sat 1) &&
    s.cplEnabled c && decide (sub32 (s.getF (pgRing c) Fld.CPL_PTR_HEAD) (s.getF (pgRing c) Fld.CPL_PTR_TAIL) + (s.inFlight c).length + 1 ≤ s.cplSize c)

/-- The next COMMAND_SEQ: 0 is skipped (R332). -/
def seqAfter (n : W32) : W32 := if n + 1 = 0 then 1 else n + 1

/-- The state after the leader gives the head of a ring its number, and the command as it is latched then. -/
def State.number (s : State) (c q : Nat) (raw : BitVec 512) : Command × State :=
  let x := s.ctx c
  ({ ctx := Fin.ofNat 16 c, ring := Fin.ofNat 4 q, raw := raw, seq := s.nextSeq, fused := x.fused || c == 0,
     windows := x.windows, list := [], owners := [], counts := [] },
   { s with nextSeq := seqAfter s.nextSeq, flight := s.flight ++ [(Fin.ofNat 16 c, s.nextSeq)] })

/-- A SERIAL command waits for every command of its context validated before it (R323). -/
def State.serialHolds (s : State) (cmd : Command) : Bool :=
  !cmdSerial cmd.raw || (s.flight.takeWhile fun f => f.2 != cmd.seq).all fun f => f.1 != cmd.ctx

/-- What the checks and the effect of a command come to. -/
inductive Verdict where
  /-- A check of R329 fails: code, INDEX, REGION. -/
  | fail (code index region : Nat)
  /-- The command has taken effect and completes with a RESULT. -/
  | done (s : State) (result : Bytes)
  /-- The command has taken effect and completes when something else has happened; window entries take effect then (R263). -/
  | await (s : State) (a : Awaits) (entries : Option (CtxId × Nat × List Nat) := none)
  /-- The command has left its ring and waits elsewhere in the state for its moment. -/
  | park (s : State)
  /-- The command passes and waits at its head, latched, for the issue rule. -/
  | latch (cmd : Command)

/-- Latch a validated command at its head (R331). -/
def State.latchHead (s : State) (cmd : Command) : State :=
  s.modCtx cmd.ctx.val fun x =>
    { x with heads := x.heads.set cmd.ring.val ⟨cmd.raw, some cmd, 3⟩ }

/-- The state after a verdict on the head of a ring. -/
def State.settle (s : State) (cmd : Command) : Verdict → State
  | .fail code index region => (s.endFail cmd code index region).popHead cmd.ctx.val cmd.ring.val
  | .done s1 result => (s1.endDone cmd result).popHead cmd.ctx.val cmd.ring.val
  | .await s1 a entries =>
    ({ s1 with deferred := s1.deferred ++ [(a, { plainEnd cmd stSuccess 0 0 (some s1.tcNow) 0 (zeros 24) with entries := entries })] }).popHead
      cmd.ctx.val cmd.ring.val
  | .park s1 => s1.popHead cmd.ctx.val cmd.ring.val
  | .latch cmd' => s.latchHead cmd'

/-- A control command has issued: the issue rule goes on after its ring (R306). -/
def State.issuedOn (s : State) (cmd : Command) : State := s.modCtx cmd.ctx.val fun x => { x with lastRing := cmd.ring.val }

/-- The state after the verdict on a command that is ready: one that takes effect has issued (R306), one that fails has not. -/
def State.conclude (s : State) (cmd : Command) : Verdict → State
  | .fail code index region => s.settle cmd (.fail code index region)
  | v => (s.settle cmd v).issuedOn cmd

/-- A command of the control island at the head of a ring: it is validated when it can be, and takes effect when its context is
RESIDENT, its completion ring enabled, a SERIAL order met and its own condition holds; until then it waits latched (R305, R331, R350;
log 118). A head with another opcode is left alone. -/
def State.controlRow (s : State) (c q op : Nat) (own : State → Command → Bool) (h : State → Command → Verdict) : State :=
  let readyNow (s : State) (cmd : Command) : Bool := (s.ctx c).state == 1 && s.cplEnabled c && s.serialHolds cmd && own s cmd
  match (s.ctx c).heads.get? q with
  | none => s
  | some hd =>
    if cmdOp hd.raw != op then s
    else match hd.cmd with
      | some cmd => if readyNow s cmd then (s.conclude cmd (h s cmd)).settleIdle else s
      | none =>
        if s.canValidate c q then
          let (cmd, s1) := s.number c q hd.raw
          match s.preCheck c hd.raw with
          | some code => (s1.settle cmd (.fail code 0 0)).settleIdle
          | none =>
            match h s1 cmd with
            | .fail code i r => (s1.settle cmd (.fail code i r)).settleIdle
            | v => (if readyNow s1 cmd then s1.conclude cmd v else s1.latchHead cmd).settleIdle
        else s

/-- A command with a claim at the head of a ring: it is validated when it can be, and then waits latched for the issue rule; one that is
stopped is not validated yet (R392). -/
def State.claimRow (s : State) (c q op : Nat) (h : State → Command → Verdict) (stopped : State → Command → Bool) : State :=
  match (s.ctx c).heads.get? q with
  | none => s
  | some hd =>
    if cmdOp hd.raw == op && s.canValidate c q then
      let (cmd, s1) := s.number c q hd.raw
      match s.preCheck c hd.raw with
      | some code => (s1.settle cmd (.fail code 0 0)).settleIdle
      | none =>
        match h s1 cmd with
        | .latch m => if stopped s1 m then s else (s1.latchHead m).settleIdle
        | v => (s1.settle cmd v).settleIdle
    else s

/-- No condition beyond those of every command. -/
def always (_ : State) (_ : Command) : Bool := true
/-- A command that nothing stops. -/
def never (_ : State) (_ : Command) : Bool := false

/-- A structure of n bytes at context address a, translated whole before it is read (R477). -/
def State.readStruct (s : State) (cmd : Command) (a n : Nat) : Option Bytes := s.readCtx cmd.windows s.leader a n

/-- NOP (R348): completes at validation; its signal or reset is applied with its completion (R326). -/
def execNop (c : CtxId) (q : RingId) (s : State) : Host.Outcome State Fault Refusal :=
  .next (s.controlRow c.val q.val 0x00 always fun s _ => .done s [])

/-- A write of TAIL (R322): a TAIL that would pass the ring's size or lie behind HEAD is ignored and raises RING_ERROR; in
teardown doorbells are ignored (R318). -/
def State.doorbell (s : State) (c q tail : Nat) : State :=
  if (s.ctx c).state = 5 then s
  else if s.ringSize c q < sub32 tail (s.ringHead c q) then s.contain (pgRing c) 0
  else ((s.setF (ringPage c q) Fld.CMD_PTR_TAIL tail).fetch c q).settleIdle

/-- DOORBELL (R322). -/
def execDoorbell (c : CtxId) (q : RingId) (tail : W32) (s : State) : Host.Outcome State Fault Refusal :=
  .next (s.whereAnswers (pgRing c.val) fun s => s.doorbell c.val q.val tail.toNat)

/-- BASE, ENABLE and a SIZE_LOG2 between 4 and 16 of a ring register. -/
def ringWord (w : Nat) : Nat := bits w 63 12 * 0x1000 + bits w 5 5 * 32 + min (max (bits w 4 0) 4) 16

/-- A write of CMD_RING[q] or CPL_RING (R349): while ENABLE is 1 a write changes only ENABLE. -/
def State.writeRing (s : State) (a w : Nat) : State :=
  if bitAt (s.reg a) 5 then s.setReg a (putBits (s.reg a) 5 5 (bits w 5 5)) else s.setReg a (ringWord w)

/-- CMD_RING_WRITE (R349): a ring that is enabled is read (R322). -/
def State.writeCmdRing (s : State) (c q w : Nat) : State := ((s.writeRing (ringPage c q + 0x80) w).fetch c q).settleIdle

/-- CMD_RING_WRITE (R349). -/
def execCmdRingWrite (c : CtxId) (q : RingId) (w : W64) (s : State) : Host.Outcome State Fault Refusal :=
  .next (s.whereAnswers (pgRing c.val) fun s => s.writeCmdRing c.val q.val w.toNat)

/-- A write of CPL_PTR.TAIL (R349): one that would make HEAD − TAIL exceed the ring or fall below 0 is ignored. -/
def State.writeCplTail (s : State) (c tail : Nat) : State :=
  if s.cplSize c < sub32 (s.getF (pgRing c) Fld.CPL_PTR_HEAD) tail then s else s.setF (pgRing c) Fld.CPL_PTR_TAIL tail

/-- CPL_PTR_TAIL (R349). -/
def execCplPtrTail (c : CtxId) (tail : W32) (s : State) : Host.Outcome State Fault Refusal :=
  .next (s.whereAnswers (pgRing c.val) fun s => s.writeCplTail c.val tail.toNat)

/-- A write of CONTACT_TAIL (R251): one that makes HEAD − TAIL larger than both the ring and its value before, or negative,
is ignored. -/
def State.writeContactTail (s : State) (c tail : Nat) : State :=
  let pg := pgProof + 0x20 * c
  let head := s.getF pg Fld.CONTACT_HEAD_HEAD
  let n := sub32 head tail
  let old := sub32 head (s.getF pg Fld.CONTACT_TAIL_TAIL)
  if (2 ^ s.getF pg Fld.CONTACT_CTL_SIZE_LOG2 < n ∧ old < n) then s else s.setF pg Fld.CONTACT_TAIL_TAIL tail

/-- CONTACT_TAIL (R251). -/
def execContactTail (c : CtxId) (tail : W32) (s : State) : Host.Outcome State Fault Refusal :=
  .next (s.whereAnswers pgProof fun s => s.writeContactTail c.val tail.toNat)

end Sys2Proof.Machine
end

