-- ==== Sys2Proof/Machine/ContextCmds.lean ====
section
/-! DEFINITION. Sys2Proof/Machine/ContextCmds.lean: contexts: records and shares (R276, R298 to R301, R334), admission (R316), and the
supervisor's commands that open, change and close a context or write its windows (R262, R263, R335, R336). -/

namespace Sys2Proof.Machine

/-! ### Records -/

/-- Bytes of the POOL 0 basins of a record. -/
def recPool0 (r : Bytes) : Nat := (List.range 6).foldl (fun a k => a + recBasins r k * basinSize k) 0

/-- Whether a context record keeps R276, R277, R298, R301 and R334. -/
def recordOk (r : Bytes) : Bool :=
  decide (1 ≤ recStoreG r ∧ recStoreG r ≤ 30) && decide (recPeers r ≤ 8) &&
  decide (recStage r ≤ 8) && recStage r % 2 == 0 && decide (recPriority r ≤ 1) && decide (1 ≤ recIssueShare r) &&
  decide (recPartition r ≤ 7) && decide (field r 6 2 ≤ 1024) &&
  decide (recPlateBytes r ≤ 0x1000000) && recPlateBytes r % 0x10000 == 0 &&
  decide (recLanding r ≤ 0x400000) && recLanding r % 0x1000 == 0 &&
  (if recPriority r = 0 then recRtPeriod r == 0 && recRtBudget r == 0
   else decide (100 ≤ recRtPeriod r ∧ recRtPeriod r ≤ 1000000) && decide (1 ≤ recRtBudget r)) &&
  decide (recStateBase r < 2 ^ 48) && recStateBase r % 0x10000 == 0 &&
  recBasinBase r % 0x40000 == 0 && decide (recBasinBase r + recPool0 r ≤ recStoreG r * 0x200000) &&
  decide (recOverflowBase r < 2 ^ 48) && recOverflowBase r % 0x40000 == 0 &&
  ((List.range 12).all fun i => decide (recBasins r i ≤ basinMax (i / 6) (i % 6))) &&
  decide (recShareG r ≤ 31) && zeroAt r 0x60 32

/-! ### Placement (R299, R301) -/

/-- Granules taken: first granule and length of every share that is placed, except that of context c. -/
def State.takenShares (s : State) (c : Nat) : List (Nat × Nat) :=
  s.ctxs.filterMap fun e => if e.1 = c then none else e.2.share

/-- The first granule at which n contiguous granules are free (R301); granule 0 is the firmware's (R299). -/
def State.firstFit (s : State) (c n : Nat) : Option Nat :=
  ((List.range 31).map (· + 1)).find? fun b => decide (b + n ≤ 32) && (s.takenShares c).all fun t => !rangesMeet (b, n) t

/-- Free granules outside the share of context c. -/
def State.freeGranules (s : State) (c : Nat) : Nat := 31 - ((s.takenShares c).map (·.2)).sum

/-- The share window of a share: CTX_BASE 0xFFF0_0000_0000, the software granules only (R262, R299). -/
def shareWindow (base storeG : Nat) : BitVec 128 :=
  BitVec.ofNat 128 (0xFFF000000000 + 0xF + 2 ^ 64 * (base * 0x200000 + (storeG - 1)))

/-- A command's latched table with the share window moved. -/
def Command.rewindow (m : Command) (w : BitVec 128) : Command := { m with windows := m.windows.set 255 w }

/-- The share of a context placed at a granule; window 255 follows, also in the tables that waiting commands latched (R301). -/
def State.placeAt (s : State) (c base : Nat) : State :=
  s.modCtx c fun x =>
    let w := shareWindow base (recStoreG x.record)
    { x with
      share := some (base, recShareG x.record), windows := x.windows.set 255 w,
      heads := x.heads.map fun h => (h.1, { h.2 with cmd := h.2.cmd.map fun m => m.rewindow w }),
      seqWait := x.seqWait.map fun m => m.rewindow w }

/-- The bytes of a share moved to another granule in every region. -/
def State.moveShare (s : State) (src dst n : Nat) : State :=
  s.live.foldl (fun s r =>
    s.modRegion r fun g =>
      let bs := g.store.read (src * 0x200000) (n * 0x200000)
      { g with store := (g.store.clear (src * 0x200000) (n * 0x200000)).write (dst * 0x200000) bs }) s

/-! ### Relocation (R301) -/

/-- Insert a share by its first granule. -/
def insertShare (e : Nat × Nat) : List (Nat × Nat) → List (Nat × Nat)
  | [] => [e]
  | f :: t => if e.2 ≤ f.2 then e :: f :: t else f :: insertShare e t

/-- Contexts with a share, lowest offset first. -/
def State.placed (s : State) : List (Nat × Nat) :=
  (s.ctxs.filterMap fun e => e.2.share.map fun b => (e.1, b.1)).foldr insertShare []

/-- The share of context c, n granules from granule a, moves to a granule found below it. -/
def State.moveDown (s : State) (c a n : Nat) : Option Nat → State
  | none => s
  | some b => if b < a then (s.moveShare a b n).placeAt c b else s

/-- The shares of resident contexts that are not RUNNING move toward granule 1, lowest offset first. -/
def State.compact (s : State) : State :=
  s.placed.foldl (fun s e =>
    let x := s.ctx e.1
    if x.state != 1 || s.running e.1 then s
    else s.moveDown e.1 e.2 (recShareG x.record) (s.firstFit e.1 (recShareG x.record))) s

/-- Whether a context's share fits, once shares have been relocated. -/
def State.fitsCompacted (s : State) (c : Nat) : Bool := (s.compact.firstFit c (recShareG (s.ctx c).record)).isSome

/-! ### Admission (R316) -/

/-- What admission reads of a context: its number, record and the largest WCET of its installed sets. -/
abbrev AdmitCtx := Nat × Bytes × Nat

/-- The open contexts as admission sees them, one record or one WCET replaced. -/
def State.admitList (s : State) (c : Nat) (rec : Option Bytes) (extraWcet : Nat) : List AdmitCtx :=
  (List.range 16).filterMap fun i =>
    let x := s.ctx i
    let wc := x.sets.foldl (fun m e => max m e.2.1) 0
    if i = c then some (i, rec.getD (x.pendingRecord.getD x.record), max wc extraWcet)
    else if x.state = 0 then none else some (i, x.pendingRecord.getD x.record, wc)

/-- The test of R316 for one high-priority context. -/
def admitOne (f : Nat) (l : List AdmitCtx) (h : AdmitCtx) : Bool :=
  let stage (r : Bytes) : Nat := recStage r * 0x100000
  let period := recRtPeriod h.2.1 * f
  let blk := (l.filter fun x => x.1 != h.1).foldl (fun m x => max m x.2.2) 0 + 96
  let dirty := (l.filter fun x => x.1 != 0 && recPriority x.2.1 == 0 && recLanding x.2.1 == 0).foldl
    (fun a x => a + stage x.2.1 + 4 * recSumE x.2.1 + 16384) 0
  let load := 2 * f + ceilDiv (stage h.2.1 / 2 + 4 * recSumE h.2.1 + 16384 + dirty) 512
  let budget := (l.filter fun x => recPriority x.2.1 == 1).foldl
    (fun a x => a + ceilDiv period (recRtPeriod x.2.1 * f) * recRtBudget x.2.1) 0
  decide (blk + load + budget ≤ period)

/-- The admission test for every high-priority context (R316; log 15). -/
def State.admitted (s : State) (c : Nat) (rec : Option Bytes) (extraWcet : Nat) : Bool :=
  let l := s.admitList c rec extraWcet
  (l.filter fun x => recPriority x.2.1 == 1).all (admitOne (gradeMHz s.bringUp.grade) l)

/-! ### Opening and closing -/

/-- Events of a context back at 0 (R326). -/
def State.resetEvents (s : State) (c : Nat) : State := { s with events := s.events.erase fun e => e / 256 == c }
/-- RING registers of a context at their reset values (R349). -/
def State.resetRing (s : State) (c : Nat) : State :=
  s.resetRegs fun a => decide (pgRing c + 0x80 ≤ a ∧ a < pgRing c + 0x1000)
/-- CONTACT registers of a context at their reset values (R251). -/
def State.resetContact (s : State) (c : Nat) : State :=
  s.resetRegs fun a => decide (pgProof + 0x100 + 0x20 * c ≤ a ∧ a < pgProof + 0x120 + 0x20 * c)

/-- A context's attributes become a record's, and everything else it holds starts anew (R334): it is SWAPPED, and its registers and events
read their reset values. -/
def State.renewCtx (s : State) (c : Nat) (rec : Bytes) : State :=
  ((((s.resetEvents c).resetRing c).resetContact c).clearSources c).modCtx c fun _ =>
    { Ctx.closed with
      state := 2, record := rec, fused := c == 0, windows := [(255, shareWindow 0 (recStoreG rec))], faultCode := (s.ctx c).faultCode,
      budget := recRtBudget rec, idleSince := s.time }

/-- A context that holds no share gets the place found for it, if there is one, and is RESIDENT then (R301). -/
def State.placeFound (s : State) (c : Nat) : Option Nat → State
  | none => s
  | some b => (s.placeAt c b).modCtx c fun x => { x with state := 1 }

/-- The shares that a context's share of n granules finds: as they stand, or relocated where free granules suffice in number only
(R301). -/
def State.madeRoom (s : State) (c : Nat) : State :=
  let n := recShareG (s.ctx c).record
  if (s.firstFit c n).isNone && decide (n ≤ s.freeGranules c) && !s.relocating && s.fitsCompacted c then s.compact else s

/-- A context's share is placed first fit, after a relocation where one makes room; else it stays SWAPPED (R301). -/
def State.placeShare (s : State) (c : Nat) : State :=
  (s.madeRoom c).placeFound c ((s.madeRoom c).firstFit c (recShareG (s.ctx c).record))

/-- A context opened from a record (R334): its rings disabled, no sets, routers or slots, FUSED withdrawn but for the
supervisor, schedules and seed 0, only window 255 valid; it starts SWAPPED until its share is placed. -/
def State.openCtx (s : State) (c : Nat) (rec : Bytes) : State :=
  (s.renewCtx c rec).placeShare c

/-- Read the record at an address for a command of R333 that carries one. -/
def State.recordOf (s : State) (cmd : Command) : Option Bytes := s.readStruct cmd (cmdAddr cmd.raw) 128

/-- Whether the admission test lets a record in: it is run for a high-priority one (R316). -/
def State.admits (s : State) (c : Nat) (rec : Bytes) : Bool := recPriority rec != 1 || s.admitted c (some rec) 0

/-- CONTEXT_OPEN (R334): a record that does not translate is BOUNDS_FAULT, a context that is not CLOSED COMMAND_INVALID, a record that
breaks its rules SHARE_FAULT, one that breaks R316 ADMISSION_FAULT (R329). -/
def State.contextOpen (s : State) (cmd : Command) : Verdict :=
  let c := cmdField cmd.raw 24 1
  if c = 0 ∨ 15 < c then .fail stCommandInvalid 0 0
  else match s.recordOf cmd with
    | none => .fail stBoundsFault 0 0
    | some rec =>
      if (s.ctx c).state ≠ 0 then .fail stCommandInvalid 0 0
      else if !recordOk rec then .fail stShareFault 0 0
      else if !s.admits c rec then .fail stAdmissionFault 0 0
      else .done (s.openCtx c rec) []

/-- CONTEXT_OPEN (R334). -/
def execContextOpen (c : CtxId) (q : RingId) (s : State) : Host.Outcome State Fault Refusal :=
  .next (s.controlRow c.val q.val 0x01 always State.contextOpen)

/-- A context closed (R335): slots, planes, sets and shares released, events and CONTACT registers reset, CLOSED. -/
def State.closeCtx (s : State) (c : Nat) : State :=
  let s1 := (s.resetEvents c).resetContact c
  { s1 with
    slots := s1.slots.map fun e => if e.2.ctx.val == c then (e.1, SeqSlot.free) else e,
    ctxs := s1.ctxs.set c { Ctx.closed with faultCode := (s.ctx c).faultCode } }

/-- CONTEXT_CLOSE (R335): COMMAND_INVALID unless its target is open and IDLE; with landing rings it closes at the next
membership boundary. -/
def State.contextClose (s : State) (cmd : Command) : Verdict :=
  let c := cmdField cmd.raw 24 1
  if c = 0 ∨ 15 < c ∨ (s.ctx c).state = 0 ∨ (s.ctx c).state = 5 ∨ (s.ctx c).closing ∨ !s.ctxIdle c then .fail stCommandInvalid 0 0
  else if recLanding (s.ctx c).record = 0 then .done (s.closeCtx c) []
  else .await (s.modCtx c fun x => { x with closing := true }) (.boundary (Fin.ofNat 16 c))

/-- CONTEXT_CLOSE (R335). -/
def execContextClose (c : CtxId) (q : RingId) (s : State) : Host.Outcome State Fault Refusal :=
  .next (s.controlRow c.val q.val 0x02 always State.contextClose)

/-- CONTEXT_KILL (R335): the teardown of R318; it completes when the teardown has ended. -/
def State.contextKill (s : State) (cmd : Command) : Verdict :=
  let c := cmdField cmd.raw 24 1
  if 15 < c ∨ (s.ctx c).state = 0 then .fail stCommandInvalid 0 0
  else .await (s.startTeardown c stContextFault false) (.teardown (Fin.ofNat 16 c))

/-- CONTEXT_KILL (R335). -/
def execContextKill (c : CtxId) (q : RingId) (s : State) : Host.Outcome State Fault Refusal :=
  .next (s.controlRow c.val q.val 0x03 always State.contextKill)

/-- SHARE_SET (R298): the record is checked like an open's; it takes effect when the target is next IDLE. -/
def State.shareSet (s : State) (cmd : Command) : Verdict :=
  let c := cmdField cmd.raw 24 1
  if c = 0 ∨ 15 < c ∨ (s.ctx c).state = 0 ∨ (s.ctx c).state = 5 then .fail stCommandInvalid 0 0
  else match s.recordOf cmd with
    | none => .fail stBoundsFault 0 0
    | some rec =>
      if !recordOk rec then .fail stShareFault 0 0
      else if !s.admits c rec then .fail stAdmissionFault 0 0
      else .done (s.modCtx c fun x => { x with pendingRecord := some rec }) []

/-- SHARE_SET (R298). -/
def execShareSet (c : CtxId) (q : RingId) (s : State) : Host.Outcome State Fault Refusal :=
  .next (s.controlRow c.val q.val 0x04 always State.shareSet)

/-- A pending SHARE_SET takes effect (R298): the attributes change, and the share is placed anew; one that fits nowhere at the
moment leaves the context SWAPPED (R301). -/
def State.applyShare (s : State) (c : Nat) (rec : Bytes) : State :=
  let s1 := s.modCtx c fun x =>
    { x with record := rec, pendingRecord := none, share := none, budget := recRtBudget rec, state := if x.state = 1 then 2 else x.state,
             windows := x.windows.set 255 (shareWindow 0 (recStoreG rec)) }
  if (s.ctx c).state = 1 then s1.placeShare c else s1

/-- SHARE_APPLY (R298): a pending change takes effect while the target is IDLE and no transfer of it is in progress. -/
def execShareApply (c : CtxId) (s : State) : Host.Outcome State Fault Refusal :=
  let x := s.ctx c.val
  match x.pendingRecord with
  | none => .next s
  | some rec =>
    if s.ctxIdle c.val && (x.state == 1 || x.state == 2) then .next (s.applyShare c.val rec) else .next s

/-- PRIVILEGE_SET (R336): replaces FUSED of an open context; the supervisor always holds it. -/
def State.privilegeSet (s : State) (cmd : Command) : Verdict :=
  let c := cmdField cmd.raw 24 1
  if 15 < c ∨ (s.ctx c).state = 0 ∨ (s.ctx c).state = 5 then .fail stCommandInvalid 0 0
  else .done (s.modCtx c fun x => { x with fused := c == 0 || cmdField cmd.raw 25 1 == 1 }) []

/-- PRIVILEGE_SET (R336). -/
def execPrivilegeSet (c : CtxId) (q : RingId) (s : State) : Host.Outcome State Fault Refusal :=
  .next (s.controlRow c.val q.val 0x05 always State.privilegeSet)

/-! ### Windows (R260 to R263) -/

/-- The entries of a window table after count of them from first on are replaced. -/
def windowsAfter (w : Tab (BitVec 128)) (first : Nat) (entries : List Nat) : Tab (BitVec 128) :=
  (List.range entries.length).foldl (fun t i => t.set (first + i) (BitVec.ofNat 128 (entries.getD i 0))) w

/-- Whether a new entry may stand in a table (R262): no reserved bit, SPACE 0, and when valid within 2^48 and apart from
every other valid entry. -/
def windowOk (t : Tab (BitVec 128)) (i e : Nat) : Bool :=
  let v := BitVec.ofNat 128 e
  bits e 63 48 == 0 && bits e 20 4 == 0 && bits e 127 120 == 0 && !winStore v &&
  (!bitAt e 0 || (decide (winBase v + winSize v ≤ 2 ^ 48) &&
    t.all fun o => o.1 == i || !bitAt o.2.toNat 0 || !rangesMeet (winBase v, winSize v) (winBase o.2, winSize o.2)))

/-- The window table of context c as the writes that have not completed will leave it (R263). -/
def State.windowsToBe (s : State) (c : Nat) : Tab (BitVec 128) :=
  (s.ended ++ s.deferred.map (·.2)).foldl (fun t e =>
    match e.entries with
    | none => t
    | some (k, first, es) => if k.val = c ∧ e.status = stSuccess then windowsAfter t first es else t) (s.ctx c).windows

/-- WINDOW_WRITE (R262, R263): all entries or none; it completes when every command of the target validated before it has, and the table
changes then. -/
def State.windowWrite (s : State) (cmd : Command) : Verdict :=
  let c := cmdField cmd.raw 24 1
  let first := cmdField cmd.raw 25 1
  let n := cmdField cmd.raw 26 1
  if 15 < c ∨ (s.ctx c).state = 0 ∨ (s.ctx c).state = 5 ∨ n = 0 ∨ 255 < first + n then .fail stCommandInvalid 0 0
  else match s.readStruct cmd (cmdAddr cmd.raw) (16 * n) with
    | none => .fail stBoundsFault 0 0
    | some bs =>
      let entries := words bs 16 n
      let t := windowsAfter (s.windowsToBe c) first entries
      if (List.range n).all fun i => windowOk t (first + i) (entries.getD i 0) then
        .await s (.commands (Fin.ofNat 16 c) cmd.seq) (some (Fin.ofNat 16 c, first, entries))
      else .fail stCommandInvalid 0 0

/-- WINDOW_WRITE (R262). -/
def execWindowWrite (c : CtxId) (q : RingId) (s : State) : Host.Outcome State Fault Refusal :=
  .next (s.controlRow c.val q.val 0x06 always State.windowWrite)

/-- Whether what an ended command waits for has happened (R263, R335). -/
def State.awaited (s : State) : Awaits → Bool
  | .commands c before => (s.flight.takeWhile fun f => f.2 != before).all fun f => f.1 != c
  | .boundary c => (s.ctx c.val).state == 0
  | .teardown c => (s.ctx c.val).state != 5

/-- What a command's completion brings into force: the window entries of a WINDOW_WRITE that succeeds (R263). -/
def State.putEntries (s : State) (e : Ended) : State :=
  match e.entries with
  | none => s
  | some (k, first, es) =>
    if e.status = stSuccess then s.modCtx k.val fun x => { x with windows := windowsAfter x.windows first es } else s

/-- Ended commands whose wait is over join those that complete next. -/
def State.releaseAwaits (s : State) : State :=
  State.ends { s with deferred := s.deferred.filter fun e => !s.awaited e.1 } ((s.deferred.filter fun e => s.awaited e.1).map (·.2))

end Sys2Proof.Machine
end

