-- ==== Sys2Proof/Machine/Plates.lean ====
section
/-! DEFINITION. Sys2Proof/Machine/Plates.lean: plate images in memory (R40) and the routers that a set, a command and a context's
commands in flight name (R195, R330). -/

namespace Sys2Proof.Machine

/-! ### Images (R40) -/

/-- Bytes of an image before its bundles. -/
def imageHead : Nat := 0x2C0

/-- BUNDLE_COUNT of the bytes of an image. -/
def imBundles (bs : Bytes) : Nat := field bs 0x20 4

/-- The image that bytes spell (R40). -/
def parseImage (bs : Bytes) : Image :=
  { region := Fin.ofNat 8 (field bs 0xC 4), geometrySig := BitVec.ofNat 64 (field bs 0x10 8),
    reproSig := BitVec.ofNat 64 (field bs 0x18 8), flags := field bs 0x24 4, portMap := BitVec.ofNat 32 (field bs 0x28 4),
    wcet := field bs 0x30 8, lanes := words (bs.drop 0x40) 2 64, caps := (words (bs.drop 0xC0) 8 64).map (BitVec.ofNat 64 ·),
    bundles := (words (bs.drop imageHead) 64 (imBundles bs)).map (BitVec.ofNat 512 ·) }

/-- Every operation of an image with the bundle it stands in, in the order of bundles and slots. -/
def Image.ops (im : Image) : List (Nat × SlotOp) :=
  (im.bundles.zipIdx).flatMap fun e => (usedSlots e.1).map fun sl => (e.2, slotOp e.1 sl)
/-- Memory ports that PORT_MAP gives to a unit: nibble 0 for the scoring slot, 1 + g for cell group g. -/
def Image.ports (im : Image) (unit : Nat) : Nat :=
  ((List.range 8).filter fun p => bits im.portMap.toNat (4 * p + 3) (4 * p) == unit).length
/-- Iteration bound of a counted operation (R66). -/
def Image.bound (im : Image) (o : SlotOp) : Nat :=
  let c := im.cap o.cap
  min (capTotal c) ((if o.receives then 1 else im.lanesOf o.cnt) * capLane c)

/-! ### Routers that a set names -/

/-- Routers that an operation's own fields name. ROW_LOAD and ROW_STORE read no router. -/
def SlotOp.routers (o : SlotOp) : List Nat :=
  match o.slot with
  | 0 => if o.op = 7 then [o.imm % 128] else []
  | 1 => if 1 ≤ o.op ∧ o.op ≤ 4 then (if o.shape = 3 then [o.router, o.router + 1] else [o.router]) else []
  | 6 | 7 | 8 | 9 => []
  | _ => if 3 ≤ o.op ∧ o.op ≤ 0xA ∧ o.op ≠ 7 then [o.router] else []

/-- Routers that the operations of images name, ascending. -/
def imagesRouters (ims : List Image) : List Nat :=
  let l := ims.flatMap fun im => im.ops.flatMap fun e => e.2.routers
  (List.range 128).filter l.contains

/-- The router that an exchange operation or a NET_MOVE names: that of its DESC's view (R342). -/
def SlotOp.viewRouters (list : Bytes) (o : SlotOp) : List Nat :=
  match o.slot with
  | 0 | 1 | 8 | 9 => []
  | 6 | 7 => [vwRouter (viewAt list o.desc)]
  | _ => if o.op = 7 then [vwRouter (viewAt list o.desc)] else []

/-- The images of set slot n of a context; none when the slot is empty. -/
def State.setImages (s : State) (c n : Nat) : Option (List Image) := ((s.ctx c).sets.get? n).map (·.2)

/-- SET of a run command. -/
def cmdSet (raw : BitVec 512) : Nat := cmdField raw 24 1

/-- The router of a BURN_READ or BURN_WRITE (R198). -/
def balanceRouter (raw : BitVec 512) : List Nat := if cmdOp raw = 0x17 ∨ cmdOp raw = 0x18 then [cmdField raw 24 1] else []

/-- Routers that a command names: its set's operations' for a run, ROUTER of a balance command, the entries of a
ROUTER_WRITE. -/
def State.commandRouters (s : State) (m : Command) : List Nat :=
  let op := cmdOp m.raw
  if isSetOp op then
    let ims := (s.setImages m.ctx.val (cmdSet m.raw)).getD []
    let l := imagesRouters ims ++ ims.flatMap fun im => im.ops.flatMap fun e => e.2.viewRouters m.list
    (List.range 128).filter l.contains
  else if op = 0x17 ∨ op = 0x18 then balanceRouter m.raw
  else if op = 0x12 then (List.range (cmdField m.raw 25 1)).map (cmdField m.raw 24 1 + ·)
  else []

/-- The validated commands of context c that are at a ring head or run, with the routers they name, and the ended ones that
have not completed. -/
def State.routerUsers (s : State) (c : Nat) : List (W32 × List Nat) :=
  ((s.ctx c).heads.filterMap fun h => h.2.cmd.map fun m => (m.seq, s.commandRouters m)) ++
  ((s.runs.filter fun x => x.cmd.ctx.val == c).map fun x => (x.cmd.seq, s.commandRouters x.cmd)) ++
  ((s.ended.filter fun e => e.ctx.val == c).map fun e => (e.seq, e.routers.map (·.1) ++ balanceRouter e.raw))

/-- Whether an incomplete command of the context validated before a command names a router (R195, R198). -/
def State.earlierNames (s : State) (m : Command) (ρ : Nat) : Bool :=
  let before := (s.flight.takeWhile fun f => f.2 != m.seq).map (·.2)
  (s.routerUsers m.ctx.val).any fun e => before.contains e.1 && e.2.contains ρ

/-- Whether a set has to wait for another command of its context that names one of its routers (R195): a set in flight, a balance command
validated before it, or what has ended of these and not completed. -/
def State.routersBusy (s : State) (m : Command) (ρs : List Nat) : Bool :=
  let before := (s.flight.takeWhile fun f => f.2 != m.seq).map (·.2)
  (s.runs.any fun x => x.cmd.ctx == m.ctx && (s.commandRouters x.cmd).any ρs.contains) ||
  (s.ended.any fun e => e.ctx == m.ctx && (e.routers.map (·.1) ++ balanceRouter e.raw).any ρs.contains) ||
  ((s.ctx m.ctx.val).heads.any fun h => match h.2.cmd with
    | none => false
    | some k => before.contains k.seq && (balanceRouter k.raw).any ρs.contains)

end Sys2Proof.Machine
end

