-- ==== Sys2Proof/Machine/Statics.lean ====
section
/-! DEFINITION. Sys2Proof/Machine/Statics.lean: what an operation needs before it runs: the tensors it names and their roles (R253, R264,
R476), its duration (R51 to R55, R65) and the worst case of a set (R66). -/

namespace Sys2Proof.Machine

/-! ### Router and view data -/

/-- Ceiling to a multiple of 64. -/
def up64 (n : Nat) : Nat := 64 * ceilDiv n 64
/-- Passes of one router: ⌈E/256⌉ (R76). -/
def rtPasses (e : BitVec 512) : Nat := ceilDiv (rtE e) 256
/-- P_q of an item (R76). -/
def passesOf (e : BitVec 512) (shape : Nat) : Nat := if shape = 3 then 2 * rtPasses e else rtPasses e
/-- Rows of a SHAPE (R76). -/
def shapeRows (shape : Nat) : Nat := match shape with | 1 => 64 | 2 => 32 | _ => 128
/-- The hidden extent that one of n live regions scores (R78). -/
def rtSlice (e : BitVec 512) (n : Nat) : Nat := if rtSplit e = 1 then rtH e / max n 1 else rtH e
/-- S of R117. -/
def entrySize (k : Nat) : Nat := up64 (16 + 8 * k)
/-- D of R117. -/
def dirSize (m : Nat) : Nat := up64 (16 * (8 + m))
/-- The entry of a list with the COMBINE view of a router. -/
def combineEntry (list : Bytes) (ρ : Nat) : Option Nat :=
  (List.range (listLen list)).find? fun i => vwKind (viewAt list i) == 6 && vwRouter (viewAt list i) == ρ
/-- W of a router's COMBINE view, 0 without one. -/
def combineW (list : Bytes) (ρ : Nat) : Nat := ((combineEntry list ρ).map fun i => vwW (viewAt list i)).getD 0
/-- OUT_ELEM of a router's COMBINE view. -/
def combineElem (list : Bytes) (ρ : Nat) : Nat := ((combineEntry list ρ).map fun i => vwOutElem (viewAt list i)).getD 0
/-- Item bytes of an exchange view: S in the ENTRY phase, the row bytes in the ROW phase (R128). -/
def itemBytes (routers : Tab (BitVec 512)) (list : Bytes) (i : Nat) : Nat :=
  let v := viewAt list i
  if vwPhase v = 0 then entrySize (rtK (routers.getD (vwRouter v) 0)) else dsRowBytes (descAt list i)
/-- Bytes of a tensor that is taken by byte offset: its whole size, rows padded to 64 bytes (R150). -/
def dsRoom (d : Bytes) : Nat := if dsRank d = 1 then dsSize d 0 * elemBytes (dsElem d) else dsRows d * up64 (dsRowBytes d)

/-! ### Roles (R253, R264, R476) -/

/-- Roles of an exchange operation by its view (R128, R135, R157, R476). -/
def exchangeRoles (routers : Tab (BitVec 512)) (list : Bytes) (o : SlotOp) : List Role :=
  let v := viewAt list o.desc
  let rt := routers.getD (vwRouter v) 0
  let w := combineW list (vwRouter v)
  if vwPhase v = 0 then
    (if o.sends then [⟨o.desc, true, true, false, false, .structure_⟩, ⟨o.desc + 1, true, false, false, false, .structure_⟩] else []) ++
    (if o.lands then [⟨o.desc + 2, false, true, false, false, .structure_⟩] else [])
  else if vwReturn v then
    [⟨o.desc, false, true, true, false, .returned w (vwKind v == 2 || vwKind v == 3)⟩] ++ (if o.sends then [⟨o.desc + 1, true, false, false, false, .offsets⟩] else [])
  else
    [⟨o.desc, false, true, true, false, .rows [rtTensorType rt] (some (rtRowBytes rt))⟩] ++
    (if o.sends then [⟨o.desc + 1, true, false, true, false, .rows [rtTensorType rt] (some (rtRowBytes rt))⟩] else [])

/-- Output element type of an EPILOGUE or an OUT_FORM (R155, R176). -/
def epilogueType (o : SlotOp) : Nat := match o.cEpilogue with | 0 => 0 | 1 => 1 | _ => 2 + o.cFp8

/-- Router of the print buffer that entry e names: that of the DELTA that tests or prints it (R175, R183). -/
def Image.printRouter (im : Image) (list : Bytes) (e : Nat) : Option Nat :=
  (im.ops.find? fun p => (p.2.isTest && surelySame (some list) (p.2.desc + 1) e) ||
    (p.2.isPrint && surelySame (some list) p.2.desc e)).map fun p => p.2.router

/-- The entries of a row move's PRINTS view and print buffer, if it moves prints (R175). -/
def printMove (list : Bytes) (o : SlotOp) : Option (Nat × Nat) :=
  let view := if o.op = 1 then o.desc else o.desc + 1
  if vwKind (viewAt list view) = 5 then some (view, if o.op = 1 then o.desc + 1 else o.desc) else none

/-- Row bytes of a move of prints: PS of the buffer's router (R172, R175); of a buffer that no DELTA names, those of the view's own
rows (log 113). -/
def printBytes (routers : Tab (BitVec 512)) (list : Bytes) (im : Image) (view buffer : Nat) : Nat :=
  match im.printRouter list buffer with
  | some ρ => rtPrintBytes (routers.getD ρ 0)
  | none => dsRowBytes (descAt list view)

/-- B of a ROW_LOAD or a ROW_STORE: the row bytes of DESC, or PS for prints (R175). -/
def moveBytes (routers : Tab (BitVec 512)) (list : Bytes) (im : Image) (o : SlotOp) : Nat :=
  match printMove list o with
  | some (view, buffer) => printBytes routers list im view buffer
  | none => dsRowBytes (descAt list o.desc)

/-- Roles of a cell-group operation. -/
def cellRoles (routers : Tab (BitVec 512)) (list : Bytes) (im : Image) (o : SlotOp) : List Role :=
  let rt := routers.getD o.router 0
  let d := o.desc
  let st (i : Nat) (rd wr : Bool) : Role := ⟨d + i, rd, wr, false, false, .structure_⟩
  let off (i : Nat) (rd wr share : Bool) : Role := ⟨d + i, rd, wr, share, false, .offsets⟩
  let prints (load : Bool) (view buffer : Nat) : List Role :=
    let ps := printBytes routers list im view buffer
    [⟨view, load, !load, false, false, .prints ps⟩, ⟨buffer, !load, load, true, false, .prints ps⟩,
      ⟨vwRowEntry (viewAt list view), true, false, false, true, .rows [0, 1, 2, 3] none⟩]
  match o.op with
  | 1 =>
    match printMove list o with
    | some (view, buffer) => prints true view buffer
    | none => [⟨d, true, false, false, false, .rows [0, 1, 2, 3] none⟩,
      ⟨d + 1, false, true, true, false, .rows [dsElem (descAt list d)] (some (dsRowBytes (descAt list d)))⟩]
  | 2 =>
    match printMove list o with
    | some (view, buffer) => prints false view buffer
    | none => [⟨d, true, false, true, false, .rows [0, 1, 2, 3] none⟩,
      ⟨d + 1, false, true, false, false, .rows [dsElem (descAt list d)] (some (dsRowBytes (descAt list d)))⟩]
  | 3 =>
    if o.isTest then [⟨d, true, true, false, true, .rows [rtTensorType rt] (some (rtRowBytes rt))⟩,
      ⟨d + 1, true, true, true, false, .structure_⟩, st 2 false true]
    else [⟨d, true, true, true, false, .structure_⟩, st 1 true false, st 2 true false,
      ⟨d + 3, true, true, false, false, .output [o.dOutForm] (combineW list o.router)⟩] ++
      (if 2 ≤ o.dOutForm then [⟨d + 4, true, true, false, false, .column 0xA⟩] else [])
  | 4 => [st 0 true false, st 1 (bits o.imm 1 0 == 2) true]
  | 5 => [st 0 true true]
  | 6 => [st 0 true true, st 1 false true]
  | 7 => exchangeRoles routers list o
  | 8 =>
    match o.cMode with
    | 0 => [st 0 true false, off 1 true false (o.cSrc == 0), off 2 false true false]
    | 1 => [st 0 true false, off 1 true false false, off 2 false true false]
    | _ => [st 0 true false, st 1 true false, off 2 true false false] ++
        (if o.cSpill = 1 then [st 3 true false, off 4 true false false] else []) ++
        [⟨d + 5, false, true, false, false, .output [epilogueType o] (combineW list o.router)⟩] ++
        (if 2 ≤ o.cEpilogue then [⟨d + 6, false, true, false, false, .column 0xA⟩] else []) ++
        (if o.cEpilogue = 3 then [⟨d + 7, true, true, false, false, .column 0⟩] else [])
  | 9 => [⟨d, true, true, false, false, .whole⟩]
  | _ => []

/-- Whether a B_REFDEC's CNT is the CNT + 1 register of a NET_MOVE of the image (R283). -/
def Image.handRelease (im : Image) (o : SlotOp) : Bool :=
  o.isRefdec && im.ops.any fun e => e.2.isNetMove && e.2.cnt + 1 == o.cnt

/-- Roles of any operation of an image: a B_REFDEC that walks a NET_MOVE's lists names no tensor (R283). -/
def opRoles (routers : Tab (BitVec 512)) (list : Bytes) (n : Nat) (im : Image) (o : SlotOp) : List Role :=
  let d := o.desc
  let st (i : Nat) (rd wr : Bool) : Role := ⟨d + i, rd, wr, false, false, .structure_⟩
  match o.slot with
  | 0 => []
  | 1 =>
    let rt := routers.getD o.router 0
    match o.op with
    | 1 => [⟨d, true, false, false, false,
        .gate ([rtTensorType rt] ++ (if rtElem rt = 0 then [] else [rtElem rt + 3])) (rtH rt)
          (if o.shape = 3 then 2 * rtE rt else rtE rt)⟩]
    | 2 => [⟨d, true, false, true, true, .rows [rtTensorType rt] (some (rtSlice rt n * rtEs rt))⟩, st 1 false true]
    | 3 => [st 0 true false, st 1 false true, ⟨d + 2, true, false, false, true, .rows [0, 1, 2, 3] none⟩]
    | 4 => [st 1 false true]
    | _ => []
  | 6 =>
    if o.op = 1 then
      let rt := routers.getD (vwRouter (viewAt list d)) 0
      [st 0 true false, ⟨d + 1, true, false, true, false, .rows [rtTensorType rt] (some (rtRowBytes rt))⟩]
    else exchangeRoles routers list o
  | 7 => exchangeRoles routers list o
  | 8 =>
    match o.op with
    | 1 => [⟨d, false, true, false, false, .u32⟩]
    | 3 => [⟨d, true, false, false, false, .u32⟩]
    | 4 => if im.handRelease o then [] else [⟨d, true, false, false, false, .u32⟩]
    | _ => []
  | 9 => if o.op = 2 ∨ o.op = 3 then [⟨d, true, false, false, false, .whole⟩, ⟨d + 1, false, true, false, false, .whole⟩] else []
  | _ => cellRoles routers list im o

/-- Highest k such that an operation names DESC + k, plus 1; 0 when it names no tensor. Needs the view only for its phase. -/
def opSpan (list : Bytes) (im : Image) (o : SlotOp) : Nat :=
  (opRoles [] list 1 im o).foldl (fun m x => if (printMove list o).isSome && x.indexed then m else max m (x.entry + 1 - o.desc)) 0

/-- Roles of a whole set (R264). -/
def setRoles (routers : Tab (BitVec 512)) (list : Bytes) (n : Nat) (ims : List Image) : List Role :=
  ims.flatMap fun im => im.ops.flatMap fun e => opRoles routers list n im e.2

/-! ### Durations (R51 to R55, R65) -/

/-- Items that a COMBINE makes of N counted rows or batches (R156); g is the number of live regions. -/
def combineItems (o : SlotOp) (k g n : Nat) : Nat :=
  match o.cMode with
  | 0 => ceilDiv n 128 * k
  | 1 => ceilDiv n 128 * g
  | _ => if o.cEpilogue = 2 then n * (k + 2) else n * k

/-- Gate-weight bytes of a STAGE_LOAD in a region (R73). -/
def gateBytes (rt : BitVec 512) (shape n : Nat) : Nat := rtSlice rt n * rtE rt * rtEs rt * (if shape = 3 then 2 else 1)

/-- Bytes of a confluence tensor: all its elements. -/
def cfRoom (d : Bytes) : Nat := dsCount d * elemBytes (dsElem d)
/-- Bytes of the call of a confluence operation: those of its source tensor (R65). -/
def cfBytes (list : Bytes) (o : SlotOp) : Nat := cfRoom (descAt list o.desc)

/-- Duration of an operation with n iterations (R51 to R55, R65), with the list of the running command, or none at PLATE_LOAD,
where every term that depends on B, W or an unwritten router counts 0 (R41). Waits (LOOP, WAIT_UNITS, LINK_RECV, the open
confluence operations, TERM's hand-over) are not in it. -/
def State.opCost (s : State) (routers : Tab (BitVec 512)) (list : Option Bytes) (r : Nat) (im : Image) (o : SlotOp) (n : Nat) : Nat :=
  let ls := list.getD []
  let rt := routers.getD o.router 0
  let g := s.live.length
  let B := if list.isSome then
    (if o.exchanges then itemBytes routers ls o.desc else if o.isNetMove then dsRowBytes (descAt ls (o.desc + 1))
     else if o.cell 1 || o.cell 2 then moveBytes routers ls im o
     else dsRowBytes (descAt ls o.desc)) else 0
  let W := if list.isSome then combineW ls o.router else 0
  let mem := 64 * im.ports (o.slot - 1)
  match o.slot with
  | 0 => match o.op with | 6 => 2 | 7 => 16 | _ => 1
  | 1 =>
    let p := passesOf rt o.shape
    match o.op with
    | 1 => 16 + ceilDiv (gateBytes rt o.shape g) mem
    | 2 => 24 + n * ceilDiv (rtSlice rt g) (if rtElem rt = 0 then 1 else 2) * p *
        (if s.getF (pgArray r) Fld.ARRAY_STATE_WIDTH == 1 then 2 else 1)
    | 3 => 8 + n * (shapeRows o.shape / 2) * p
    | 4 => 8 + n * 2 * shapeRows o.shape * p
    | _ => 1
  | 6 =>
    match o.op with
    | 1 => 4 + n * ceilDiv B 256
    | 2 => 8 + n * ceilDiv B 320
    | _ => s.latPath o.region r + n * ceilDiv B 320
  | 7 => 8 + n * ceilDiv (4 * B) (125 * s.minWidth r o.port)
  | 8 => if o.op = 2 then 2 + im.lanesOf o.cnt else 2 + n
  | 9 => match o.op with | 1 => 2400 | 2 => 8 + 13 * (cfBytes ls o / 4096) | _ => 0
  | _ =>
    match o.op with
    | 1 => s.latMem r + n * ceilDiv B mem
    | 2 => 8 + n * ceilDiv B mem
    | 3 => 8 + n * ceilDiv (rtH rt) 16
    | 4 => 4 + n * 16
    | 5 => 4 + (if rtK rt = 0 then 0 else n * (4 + rtK rt))
    | 6 => 16 + im.lanesOf o.dst + im.lanesOf (o.dst + 1) + n * 2 * rtK rt
    | 7 => 4 + n * ceilDiv B 256
    | 8 => 8 + combineItems o (rtK rt) g n * ceilDiv W 16
    | 9 => 8 + n * ceilDiv W 8
    | _ => 8 + im.lanesOf o.cnt * (if o.bGhost then 2 else 1)

/-- Iterations of an operation at its bound (R66): SORT's batches come from BATCH_CAP (R115). -/
def Image.worst (im : Image) (o : SlotOp) : Nat :=
  if o.cell 6 then
    let c := im.cap o.sBatchCap
    min (capTotal c) (im.lanesOf o.cnt * capLane c)
  else im.bound o

/-- Cycles from one external block's release to the next: its bytes at 512 B per tc (R87, R88). -/
def blockTime (shape : Nat) : Nat := 2 * shapeRows shape

/-- Duration of an operation at its bound (R66); EXT_TILE_IN waits for the release of its last block (R57, R88; log 107). -/
def State.opWorst (s : State) (routers : Tab (BitVec 512)) (list : Option Bytes) (r : Nat) (im : Image) (o : SlotOp) : Nat :=
  if o.slot = 7 ∧ o.op = 2 then o.timeout * 1024
  else if o.slot = 9 ∧ (o.op = 3 ∨ (o.op = 1 ∧ decide (1 < (s.group o.group).live.length))) then o.timeout * 1024
  else
    let cost := s.opCost routers list r im o (im.worst o)
    let blocks := im.worst o * passesOf (routers.getD o.router 0) o.shape
    if o.slot = 1 ∧ o.op = 4 ∧ blocks ≠ 0 then max cost (s.latExt r + blockTime o.shape * (blocks - 1)) else cost

/-! ### Where a plate goes next -/

/-- Where the bundle after bundle b stands, with the loops that contain it (first bundle, last bundle, passes left), innermost
first: the end of a loop's body goes back to its first bundle while passes are left. -/
def advance : List (Nat × Nat × Nat) → Nat → Nat × List (Nat × Nat × Nat)
  | [], b => (b + 1, [])
  | (first, last, left) :: t, b =>
    if b ≠ last then (b + 1, (first, last, left) :: t)
    else if 1 < left then (first, (first, last, left - 1) :: t)
    else advance t b

/-- Where a plate goes after a LOOP of n passes at bundle b (R51). -/
def enterLoop (ls : List (Nat × Nat × Nat)) (b body n : Nat) : Nat × List (Nat × Nat × Nat) :=
  if body = 0 then advance ls b
  else if n = 0 then advance ls (b + body)
  else (b + 1, (b + 1, b + body, n) :: ls)

/-! ### The worst case (R66) -/

/-- One region's part of an evaluation of R46 with every duration at its bound. -/
structure Walk where
  region : Nat
  image : Image
  bundle : Nat
  last : Nat
  loops : List (Nat × Nat × Nat)
  /-- Registers that LOOPs under SPILL still have to write, with the loops entered (R47). -/
  spills : List (Nat × Nat)
  hold : Nat
  free : List Nat
  ready : Tab Nat
  /-- EDGE_SENDs issued: destination, DESC, issue. -/
  sends : List (Nat × Nat × Nat)
  /-- EDGE_RECVs issued: source, DESC. -/
  recvs : List (Nat × Nat)
  /-- B_HANDs issued: CNT register, issue. -/
  hands : Tab Nat
  ended : Option Nat
  deriving DecidableEq, Repr

/-- The start of a walk at cycle 0. -/
def Walk.start (im : Image) : Walk :=
  { region := im.region.val, image := im, bundle := 0, last := 0, loops := [], spills := [], hold := 0, free := List.replicate 13 0, ready := [],
    sends := [], recvs := [], hands := [], ended := none }

/-- The first issue cycle that a walk's bundle may have: one tc after the last, or 0 for bundle 0, which no loop repeats. -/
def Walk.floor (x : Walk) : Nat := if x.bundle = 0 then 0 else x.last + 1

/-- The issue of the k-th EDGE_SEND from region a toward region d with a DESC, if it has been made (R133). -/
def sendTime (ws : List Walk) (a d desc k : Nat) : Option Nat :=
  (ws.find? fun x => x.region == a).bind fun x =>
    ((x.sends.filter fun e => e.1 == d && e.2.1 == desc).map fun e => e.2.2)[k]?

/-- The sends that a bundle's receives wait for have been made, and no LOOP that still runs has to write one of its registers. -/
def Walk.unblocked (ws : List Walk) (x : Walk) : Bool :=
  let b := x.image.bundles.getD x.bundle 0
  (usedSlots b).all fun sl =>
    let o := slotOp b sl
    (x.image.waits o).all (fun c => !x.spills.any fun p => p.2 == c) && (!(o.slot == 6 && o.op == 3) ||
      (sendTime ws o.region x.region o.desc (x.recvs.count (o.region, o.desc))).isSome)

/-- The cycle before which a TERM with SRC = 0 does not start, at the bounds (R157). -/
def State.termFloor (s : State) (x : Walk) (o : SlotOp) : Nat :=
  if o.isTerm && o.cSrc == 0 then
    match x.hands.get? (o.cnt + 1) with
    | none => 0
    | some t =>
      let mv := (x.image.ops.find? fun e => e.2.isNetMove && e.2.cnt == o.cnt).map (·.2)
      let lb := (mv.map fun m => capLane (x.image.cap m.cap)).getD 1
      t + 2 + (x.image.lanesOf (o.cnt + 1) - 1) + s.expBase x.region + s.expRow x.region * (lb - 1) + 1
  else 0

/-- A walk after its bundle has issued. -/
def State.walkBundle (s : State) (routers : Tab (BitVec 512)) (list : Option Bytes) (ws : List Walk)
    (x : Walk) : Walk :=
  let b := x.image.bundles.getD x.bundle 0
  let ops := (issueOrder b).map (slotOp b)
  let needs := ops.flatMap fun o => o.regReads ++ x.image.regWrites o
  let units := ops.map (·.unit)
  let t := (needs.map fun c => x.ready.getD c 0).foldl max ((units.map fun u => x.free.getD u 0).foldl max
    (((setIndices x.hold 13).map fun u => x.free.getD u 0).foldl max x.floor))
  let y0 := { x with last := t, hold := 0 }
  let y := ops.foldl (fun y o =>
    if o.slot = 0 ∧ o.op = 0x3F then { y with ended := some (max t (y.free.foldl max 0) + 1) }
    else if o.slot = 0 ∧ o.op = 3 then { y with hold := o.imm % 2 ^ 13 }
    else if o.slot = 0 ∧ o.op = 2 then y
    else
      let start := if o.slot = 6 ∧ o.op = 3 then
        max t ((sendTime ws o.region x.region o.desc (y.recvs.count (o.region, o.desc))).getD 0)
        else max t (s.termFloor y o)
      let fin := start + s.opWorst routers list x.region x.image o
      { y with
        free := y.free.set o.unit fin,
        ready := (x.image.regWrites o).foldl (fun tb c => tb.set c fin) y.ready,
        sends := if o.slot = 6 ∧ o.op = 2 then y.sends ++ [(o.region, o.desc, t)] else y.sends,
        recvs := if o.slot = 6 ∧ o.op = 3 then (o.region, o.desc) :: y.recvs else y.recvs,
        hands := if o.isHand then y.hands.set o.cnt t else y.hands }) y0
  let ctl := slotOp b 0
  let (nb, nl) := if ctl.op = 2 then enterLoop x.loops x.bundle ctl.body (x.image.bound ctl) else advance x.loops x.bundle
  let own := if ctl.op = 2 ∧ capMode (x.image.cap ctl.cap) = 1 then [(x.loops.length + 1, capExcess (x.image.cap ctl.cap))] else []
  { y with bundle := nb, loops := nl, spills := (x.spills ++ own).filter fun p => decide (p.1 ≤ nl.length) }

/-- Walk every region of a set forward, one bundle of each that can go, for a number of rounds. -/
def State.walk (s : State) (routers : Tab (BitVec 512)) (list : Option Bytes) : Nat → List Walk → List Walk
  | 0, ws => ws
  | fuel + 1, ws =>
    if ws.all fun x => x.ended.isSome then ws
    else
      s.walk routers list fuel (ws.map fun x =>
        if x.ended.isSome || decide (x.image.bundles.length ≤ x.bundle) || !x.unblocked ws then x
        else s.walkBundle routers list ws x)

/-- Rounds that a walk of images may take: every bundle as often as the loops could repeat it. -/
def walkFuel (ims : List Image) : Nat :=
  ims.foldl (fun n im =>
    n + im.bundles.length * (im.ops.foldl (fun p e => if e.2.slot = 0 ∧ e.2.op = 2 then p * (im.bound e.2 + 1) else p) 1)) 1

/-- The worst case of each image of a set (R66): none where the evaluation does not reach END. -/
def State.worstCases (s : State) (routers : Tab (BitVec 512)) (list : Option Bytes) (ims : List Image) :
    List (RegionId × Option Nat) :=
  (s.walk routers list (walkFuel ims) (ims.map Walk.start)).map fun x => (x.image.region, x.ended)

/-- How often bundle b of an image runs when every LOOP that contains it runs at its bound. -/
def Image.times (im : Image) (b : Nat) : Nat :=
  im.ops.foldl (fun p e => if e.2.slot = 0 ∧ e.2.op = 2 ∧ e.1 < b ∧ b ≤ e.1 + e.2.body then p * im.bound e.2 else p) 1

/-- Link byte bound of an image toward each (peer member, port) (R137): 64 bytes for each header and the item bound times B. -/
def State.linkBounds (s : State) (routers : Tab (BitVec 512)) (list : Bytes) (im : Image) : List (Nat × Nat × Nat) :=
  im.ops.filterMap fun e =>
    let o := e.2
    if o.slot = 7 ∧ o.op = 1 then
      (s.peerOf im.region.val o.port).map fun m =>
        (m, rtPeerContext (routers.getD (vwRouter (viewAt list o.desc)) 0), im.times e.1 * (64 + im.bound o * itemBytes routers list o.desc))
    else none

/-- Link byte bound of an image in all. -/
def State.linkBound (s : State) (routers : Tab (BitVec 512)) (list : Bytes) (im : Image) : Nat :=
  ((s.linkBounds routers list im).map fun e => e.2.2).sum

end Sys2Proof.Machine
end

