-- ==== Sys2Proof/Machine/Placement.lean ====
section
/-! DEFINITION. Sys2Proof/Machine/Placement.lean: placement tables (R111, R112), the checks that a command makes of them (R37, R113,
R126) and what they say of lanes and local experts (R114, R139). -/

namespace Sys2Proof.Machine

/-- Experts of a table. -/
def plE (t : Bytes) : Nat := field t 8 2
/-- Members of a table. -/
def plM (t : Bytes) : Nat := field t 0xA 2
/-- Index of this engine in the member list. -/
def plSelf (t : Bytes) : Nat := field t 0xC 2
/-- TAG. -/
def plTag (t : Bytes) : Nat := field t 0 8
/-- MEMBER word i. -/
def plMemberWord (t : Bytes) (i : Nat) : Nat := field t (0x40 + 2 * i) 2
/-- Member ID at index i. -/
def plMember (t : Bytes) (i : Nat) : Nat := plMemberWord t i % 1024
/-- The entry of expert e. -/
def plEntry (t : Bytes) (e : Nat) : Nat := field t (0x40 + up64 (2 * plM t) + 16 * e) 16
/-- COPIES of expert e. -/
def plCopies (t : Bytes) (e : Nat) : Nat := bits (plEntry t e) 117 115
/-- Address of copy i of expert e. -/
def plCopy (t : Bytes) (e i : Nat) : Nat := bits (plEntry t e) (23 * i + 22) (23 * i)
/-- Member index of an address. -/
def cpMember (a : Nat) : Nat := bits a 22 13
/-- Region of an address. -/
def cpRegion (a : Nat) : Nat := bits a 12 10
/-- Local index of an address. -/
def cpLocal (a : Nat) : Nat := bits a 9 0
/-- The member list as long as M. -/
def plMembers (t : Bytes) : List Nat := (List.range (plM t)).map (plMember t)
/-- Every copy of every expert. -/
def plAll (t : Bytes) : List Nat := (List.range (plE t)).flatMap fun e => (List.range (plCopies t e)).map (plCopy t e)
/-- Copies at member index m and region r: N of R113. -/
def plLocals (t : Bytes) (m r : Nat) : List Nat := (plAll t).filter fun a => cpMember a == m && cpRegion a == r
/-- Number of local experts of region r of this engine. -/
def plN (t : Bytes) (r : Nat) : Nat := (plLocals t (plSelf t) r).length
/-- Bytes of a table with M members and E experts. -/
def plBytes (m e : Nat) : Nat := 64 + up64 (2 * m) + 16 * e
/-- Lane of an address (R114). -/
def laneOf (t : Bytes) (a : Nat) : Nat := if cpMember a = plSelf t then cpRegion a else 8 + cpMember a
/-- Index of a member in a table. -/
def plIndex (t : Bytes) (member : Nat) : Option Nat := (List.range (plM t)).find? fun i => plMember t i == member

/-- The table of a router as the leader reads it: 64 bytes, then as much as its M and E make (R477). -/
def State.readPlacement (s : State) (w : Tab (BitVec 128)) (a : Nat) : Option Bytes :=
  (s.readCtx w s.leader a 64).bind fun h => s.readCtx w s.leader a (plBytes (plM h) (plE h))

/-- The conditions of R113 on a table by itself, for a router of E experts, and that its reserved fields are 0 (R111; log 115). -/
def placementOk (t : Bytes) (E self : Nat) : Bool :=
  let M := plM t
  let all := plAll t
  decide (1 ≤ M ∧ M ≤ 1016) && plE t == E && plTag t == crc64 (t.drop 0x40) && decide (plSelf t < M) &&
  plMember t (plSelf t) == self && zeroAt t 0xE 2 && zeroAt t 0x14 44 &&
  (plMembers t).eraseDups.length == M && ((List.range M).all fun i => decide (plMemberWord t i < 1024)) &&
  ((List.range E).all fun e =>
    let n := plCopies t e
    let as := (List.range n).map (plCopy t e)
    decide (1 ≤ n ∧ n ≤ 5) && bits (plEntry t e) 127 118 == 0 && as.all (fun a => decide (cpMember a < M)) &&
    ((List.range 5).all fun i => decide (i < n) || plCopy t e i == 0) &&
    (as.map fun a => a / 1024).eraseDups.length == n) &&
  all.eraseDups.length == all.length &&
  all.all fun a => decide (cpLocal a < (plLocals t (cpMember a) (cpRegion a)).length)

/-- The conditions of R37 and R126: members in the epoch, regions live in them, a gateway with a trained port to every peer. -/
def State.placementReachable (s : State) (t : Bytes) : Bool :=
  ((plAll t).all fun a => s.membership.members.contains (plMember t (cpMember a)) &&
    bitAt (memberLive s.membership.epoch s.self (maskOf s.live) (plMember t (cpMember a))) (cpRegion a)) &&
  (List.range (plM t)).all fun i => i == plSelf t ||
    match s.gatewayTo (plMember t i) with | none => false | some (r, p) => s.trained r p

/-- The count registers of an operation that R139 gives 8 + M lanes. -/
def SlotOp.laneRegs (o : SlotOp) : List Nat := if o.cell 7 then [o.cnt, o.dst] else if o.receives then [o.cnt] else []

/-- Whether the lane counts of one operation fit the tables of the routers it names (R113, R139). -/
def lanesOk (tables : Tab Bytes) (list : Bytes) (im : Image) (o : SlotOp) : Bool :=
  let t := tables.getD (vwRouter (viewAt list o.desc)) []
  (!o.cell 6 || (let ts := tables.getD o.router []
    im.lanesOf o.dst == 8 + plM ts && im.lanesOf (o.dst + 1) == plE ts)) &&
  (o.laneRegs.all fun c => im.lanesOf c == 8 + plM t) &&
  (!o.isNetMove || im.lanesOf (o.cnt + 1) == plN t im.region.val)

end Sys2Proof.Machine
end

