-- ==== Sys2Proof/Machine/PlateRules.lean ====
section
/-! DEFINITION. Sys2Proof/Machine/PlateRules.lean: the rules that an image must keep (R41 steps 7 and 8 and the rules of every
chapter that PLATE_LOAD enforces), those that depend on the router table (R330) apart from the rest. Every rule names the
bundles that break it. -/

namespace Sys2Proof.Machine

/-! ### Order of operations (R47) -/

/-- An operation with its bundle. -/
abbrev Placed := Nat × SlotOp

/-- Units that a WAIT_UNITS of a bundle names. -/
def waitMask (b : BitVec 512) : Nat := let c := slotOp b 0; if c.op = 3 then c.imm % 2 ^ 13 else 0

/-- What an operation holds back: units, registers written, and whether a WAIT_UNITS has named one of the units. -/
structure Held where
  units : Nat
  regs : List Nat
  all : Bool
  found : List Placed
  deriving DecidableEq, Repr

/-- Whether two masks share a bit. -/
def masksMeet (a b : Nat) : Bool := Nat.land a b != 0

/-- One more bundle: its operations that wait for what is held back are held back too (R46, R47); byUnit says whether a shared unit
counts. -/
def Held.step (im : Image) (byUnit : Bool) (h : Held) (b : Nat × BitVec 512) : Held :=
  let ops := (usedSlots b.2).map (slotOp b.2)
  let hit := ops.filter fun o => h.all || (byUnit && bitAt h.units o.unit) || (im.waits o).any h.regs.contains
  let units := hit.foldl (fun m o => setFlag m o.unit) h.units
  { units := units, regs := h.regs ++ hit.flatMap im.regWrites, all := h.all || masksMeet (waitMask b.2) units,
    found := h.found ++ hit.map fun o => (b.1, o) }

/-- The operations of an image that wait for one of its operations, through a unit (unless told otherwise), a count register or a
WAIT_UNITS. -/
def Image.after (im : Image) (a : Placed) (byUnit : Bool := true) : List Placed :=
  let rest := ((im.bundles.zipIdx).drop (a.1 + 1)).map fun e => (e.2, e.1)
  (rest.foldl (Held.step im byUnit)
    ⟨2 ^ a.2.unit, im.regWrites a.2, masksMeet (waitMask (im.bundles.getD a.1 0)) (2 ^ a.2.unit), []⟩).found

/-- Whether operation b is ordered after operation a. -/
def Image.before (im : Image) (a b : Placed) : Bool := (im.after a).contains b

/-- Whether two operations are ordered either way. -/
def Image.ordered (im : Image) (a b : Placed) : Bool := im.before a b || im.before b a

/-! ### One bundle -/

/-- Parity of a bundle (R43). -/
def parityOk (b : BitVec 512) : Bool :=
  let w := b.toNat
  ((List.range 7).all fun i => popcount (bits w (64 * i + 63) (64 * i)) 64 % 2 == flag (bitAt w (504 + i))) &&
  popcount (bits w 503 448) 56 % 2 == flag (bitAt w 511)

/-- Whether the opcode of a slot is one that the chapters list (R45). -/
def SlotOp.known (o : SlotOp) : Bool :=
  match o.slot with
  | 0 => decide (1 ≤ o.op ∧ o.op ≤ 7) || o.op == 0x3F
  | 1 => decide (1 ≤ o.op ∧ o.op ≤ 5)
  | 6 => decide (1 ≤ o.op ∧ o.op ≤ 3)
  | 7 => decide (1 ≤ o.op ∧ o.op ≤ 2)
  | 8 => decide (1 ≤ o.op ∧ o.op ≤ 4)
  | 9 => decide (1 ≤ o.op ∧ o.op ≤ 4)
  | _ => decide (1 ≤ o.op ∧ o.op ≤ 0xA)

/-- Whether the reserved bits of a slot are 0 (R45). -/
def SlotOp.reservedOk (o : SlotOp) : Bool :=
  match o.slot with
  | 1 => bits o.word 5 0 == 0
  | 6 => bits o.word 4 0 == 0
  | 7 => bits o.word 11 10 == 0
  | 8 => bits o.word 3 0 == 0
  | 9 => bits o.word 23 10 == 0
  | _ => true

/-- Whether a capacity entry keeps R49. -/
def capOk (c : W64) : Bool :=
  decide (capMode c ≤ 2) && bits c.toNat 7 0 == 0 && decide (1 ≤ capTotal c) && decide (1 ≤ capLane c)

/-- A STRICT entry. -/
def Image.strict (im : Image) (i : Nat) : Bool := capMode (im.cap i) == 0

/-! ### Open operations (R60, R136) -/

/-- Operations open by themselves. -/
def State.opensSelf (s : State) (r : Nat) (o : SlotOp) : Bool :=
  match o.slot with
  | 0 => o.op == 5 || o.op == 6
  | 1 => o.op == 4 && bitAt (s.topo r 0 1) 1
  | 7 => o.op == 2
  | 9 => o.op == 3 || (o.op == 1 && decide (1 < (s.group o.group).live.length))
  | _ => false

/-- The EDGE_SENDs (opcode 2) or EDGE_RECVs (opcode 3) of an image with their ordinals by region and DESC (R133). -/
def Image.edgeOps (im : Image) (op : Nat) : List (Placed × Nat × Nat × Nat) :=
  (im.ops.foldl (fun (acc : List (Placed × Nat × Nat × Nat) × List (Nat × Nat)) e =>
    if e.2.slot == 6 && e.2.op == op then
      (acc.1 ++ [(e, e.2.region, e.2.desc, acc.2.count (e.2.region, e.2.desc))], (e.2.region, e.2.desc) :: acc.2)
    else acc) ([], [])).1

/-- The operations of an image that are open by themselves or by the open EDGE_SEND that they match, given the EDGE_SENDs known to be
open, by (source, destination, DESC, ordinal). -/
def State.openFirst (s : State) (im : Image) (openSends : List (Nat × Nat × Nat × Nat)) : List Placed :=
  (im.ops.filter fun e => s.opensSelf im.region.val e.2) ++
  ((im.edgeOps 3).filter fun e => openSends.contains (e.2.1, im.region.val, e.2.2.1, e.2.2.2)).map (·.1)

/-- The operations of bundle b that are open when it issues with the registers of a list open: registers are read as they stand before
the bundle's own writes (R47, R60). -/
def Image.openAt (im : Image) (first : List Placed) (regs : List Nat) (b : Nat) : List Placed :=
  ((usedSlots (im.bundles.getD b 0)).map fun sl => (b, slotOp (im.bundles.getD b 0) sl)).filter fun e =>
    first.contains e || (e.2.counted && e.2.regReads.any regs.contains)

/-- The open registers behind bundle b: what a bundle writes is open or not as the operation that writes it is (R60). -/
def Image.openAfter (im : Image) (first : List Placed) (regs : List Nat) (b : Nat) : List Nat :=
  let ops := (usedSlots (im.bundles.getD b 0)).map (slotOp (im.bundles.getD b 0))
  (regs.filter fun c => !(ops.flatMap im.regWrites).contains c) ++ (im.openAt first regs b).flatMap fun e => im.regWrites e.2

/-- Where a plate may go behind bundle b: on, back to the first bundle of a LOOP whose body ends there, and past the body of the LOOP
that b holds, as that LOOP's count may be 0 (R51; log 106). -/
def Image.succs (im : Image) (b : Nat) : List Nat :=
  let loops := im.ops.filter fun e => e.2.slot == 0 && e.2.op == 2 && e.2.body != 0
  let behind (b : Nat) : List Nat := (b + 1) :: (loops.filter fun l => l.1 + l.2.body == b).map fun l => l.1 + 1
  behind b ++ (loops.filter fun l => l.1 == b).flatMap fun l => behind (b + l.2.body)

/-- One round of the flow of open registers to the bundles behind. -/
def Image.openRound (im : Image) (first : List Placed) (t : List (List Nat)) : List (List Nat) :=
  (List.range im.bundles.length).foldl (fun t b =>
    let out := im.openAfter first (t.getD b []) b
    (im.succs b).foldl (fun t d => t.set d ((t.getD d []) ++ out.filter fun c => !(t.getD d []).contains c)) t) t

/-- The open registers before each bundle, once rounds change nothing more. -/
def Image.openFlow (im : Image) (first : List Placed) : Nat → List (List Nat) → List (List Nat)
  | 0, t => t
  | fuel + 1, t => let u := im.openRound first t; if u == t then t else im.openFlow first fuel u

/-- The open operations of one image in the order of bundles (R60, R136). -/
def State.openIn (s : State) (im : Image) (openSends : List (Nat × Nat × Nat × Nat)) : List Placed :=
  let first := s.openFirst im openSends
  let t := im.openFlow first (64 * im.bundles.length) (List.replicate im.bundles.length [])
  (List.range im.bundles.length).flatMap fun b => im.openAt first (t.getD b []) b

/-- Open EDGE_SENDs of a set after one more round: openness spreads along matched pairs (R136). -/
def State.openSends (s : State) (ims : List Image) : Nat → List (Nat × Nat × Nat × Nat)
  | 0 => []
  | n + 1 =>
    let known := s.openSends ims n
    ims.flatMap fun im =>
      let os := s.openIn im known
      ((im.edgeOps 2).filter fun e => os.contains e.1).map fun e => (im.region.val, e.2)

/-- The open operations of an image of a set. -/
def State.opens (s : State) (ims : List Image) (im : Image) : List Placed :=
  s.openIn im (s.openSends ims (ims.foldl (fun n im => n + (im.edgeOps 2).length) 1))

/-! ### Rules that need no router (R41 step 7) -/

/-- Parity, header, one writer per register and END where it belongs (R43, R44, R47, R51). One slot that would write a register twice is
refused like two slots (log 104). -/
def State.bundleOk (s : State) (ims : List Image) (im : Image) (b : Nat) : Bool :=
  let w := im.bundles.getD b 0
  let ops := (usedSlots w).map (slotOp w)
  let writes := ops.flatMap im.regWrites
  parityOk w && bits w.toNat 503 500 == 1 && bits w.toNat 498 488 == 0 &&
  bitAt w.toNat 499 == (s.opens ims im).any (fun e => e.1 == b) &&
  writes.eraseDups.length == writes.length && (ops.any (fun o => o.slot == 0 && o.op == 0x3F) == decide (b + 1 = im.bundles.length))

/-- The nesting of a LOOP: its body ends before the last bundle and inside every body that holds it, at most four deep (R51). -/
def Image.loopOk (im : Image) (e : Placed) : Bool :=
  let loops := im.ops.filter fun f => f.2.slot == 0 && f.2.op == 2
  let outer := loops.filter fun f => decide (f.1 < e.1 ∧ e.1 ≤ f.1 + f.2.body)
  decide (e.1 + e.2.body + 1 < im.bundles.length) && outer.all (fun f => decide (e.1 + e.2.body ≤ f.1 + f.2.body)) &&
  decide (outer.length < 4)

/-- SORTs of an image. -/
def Image.sorts (im : Image) : List Placed := im.ops.filter fun e => e.2.cell 6

/-- The rules on one control or scoring operation. -/
def State.frontOk (s : State) (im : Image) (e : Placed) : Bool :=
  let o := e.2
  let r := im.region.val
  match o.slot with
  | 0 =>
    match o.op with
    | 2 => im.loopOk e
    | 3 => o.imm / 2 ^ 12 == 0
    | 7 =>
      o.imm / 2 ^ 7 == 0 && (im.ops.filter fun f => f.2.slot == 0 && f.2.op == 7 && f.2.imm % 128 == o.imm % 128).length == 1 &&
      im.ops.all fun f => !((f.2.cell 6 || f.2.isFinal || f.2.isPrint) && f.2.router == o.imm % 128) || im.before f e
    | _ => true
  | 1 =>
    o.format != 3 && (o.op == 1 || o.bank == 0) && (o.op == 5 || o.shape != 3 || o.router % 2 == 0) &&
    !(decide (o.op ≤ 2) && s.getF (pgArray r) Fld.ARRAY_STATE_WIDTH == 2) &&
    !(o.op == 4 && !bitAt (s.topo r 0 1) 0)
  | _ => true

/-- The rules on a DELTA that name no tensor (R176, R183): a TEST stands before every SCORE and EXT_TILE_IN of its router, the FINALs of
its router after every repair NORM, a PRINT after those FINALs; each router has as many TESTs as PRINTs. -/
def Image.deltaOk (im : Image) (e : Placed) : Bool :=
  let o := e.2
  let own (f : Placed) : Bool := f.2.router == o.router
  let finals := im.ops.filter fun f => f.2.isFinal && own f
  im.strict o.cap && (im.ops.countP fun f => f.2.isTest && own f) == (im.ops.countP fun f => f.2.isPrint && own f) &&
  if o.isTest then
    bits o.imm 15 12 == 0 && bits o.imm 10 8 == 0 && bits o.imm 7 4 == 0 && bits o.imm 3 2 != 3 &&
    im.ops.all fun f => !(f.2.slot == 1 && (f.2.op == 2 || f.2.op == 4) && f.2.routers.contains o.router) || im.before e f
  else
    bits o.imm 15 10 == 0 && bits o.imm 7 2 == 0 && o.isPrint && !finals.isEmpty &&
    finals.all fun f => im.before f e && im.ops.all fun g => !(g.2.cell 5 && own g && bitAt g.2.imm 0) || im.before g f

/-- The rules on the tensors of a DELTA (R176, R183): the token load, the print load and the TEST in this order; one PRINT for each
TEST of a buffer; the PRINT's OUT_FORM the type of the FINAL whose output it writes; the print store behind it. -/
def Image.deltaTensors (im : Image) (list : Option Bytes) (e : Placed) : Bool :=
  let o := e.2
  let loads (entry : Nat) : List Placed := im.ops.filter fun f => f.2.cell 1 && maybeSame list (f.2.desc + 1) entry
  let count (p : SlotOp → Bool) (buffer : SlotOp → Nat) (entry : Nat) : Nat :=
    im.ops.countP fun f => p f.2 && f.2.router == o.router && surelySame list (buffer f.2) entry
  if o.isTest then
    ((loads o.desc).any fun a => (loads (o.desc + 1)).any fun b => maybePrints list b.2.desc && im.before a b && im.before b e) &&
    (list.isNone || count SlotOp.isTest (·.desc + 1) (o.desc + 1) == count SlotOp.isPrint (·.desc) (o.desc + 1))
  else
    let finals := im.ops.filter fun f => f.2.isFinal && f.2.router == o.router
    (finals.all fun f => !surelySame list (f.2.desc + 5) (o.desc + 3) || epilogueType f.2 == o.dOutForm) &&
    (finals.any fun f => maybeSame list (f.2.desc + 5) (o.desc + 3) && epilogueType f.2 == o.dOutForm) &&
    (list.isNone || count SlotOp.isTest (·.desc + 1) o.desc == count SlotOp.isPrint (·.desc) o.desc) &&
    im.ops.any fun f => f.2.cell 2 && maybeSame list f.2.desc o.desc && maybePrints list (f.2.desc + 1) && im.before e f

/-- The rules on a SORT that name no tensor (R115). -/
def Image.sortOk (im : Image) (e : Placed) : Bool :=
  let o := e.2
  bits o.imm 15 13 == 0 && capOk (im.cap o.sBatchCap) && im.strict o.sBatchCap && decide (o.dst < 63) &&
  (if o.sPass = 0 then o.sExcess == 0 else capMode (im.cap o.cap) != 1)

/-- The rules on the record tensor and the manifest of a SORT. A spill SORT follows the SORT of its router and records that spills into
its EXCESS_SRC, and which entries name one tensor goes by log 23; two SORTs of one record tensor have a count register or a WAIT_UNITS between them (R115). Where a SORT drops, a
RENORM NORM on its records comes between it and every FINAL that is not before it (R108), and for a first pass before every operation
that sends its manifest (R121). -/
def Image.sortTensors (im : Image) (list : Option Bytes) (e : Placed) : Bool :=
  let o := e.2
  (o.sPass == 0 || im.sorts.any fun f =>
     f != e && maybeSame list f.2.desc o.desc && f.2.sPass == 0 && f.2.router == o.router && decide (f.1 < e.1) &&
     capMode (im.cap f.2.cap) == 1 && capExcess (im.cap f.2.cap) == o.sExcess) &&
  (im.sorts.all fun f => f == e || !surelySame list f.2.desc o.desc || (im.after e false).contains f || (im.after f false).contains e) &&
  (capMode (im.cap o.cap) != 2 ||
    (let norms := im.ops.filter fun g => g.2.cell 5 && maybeSame list g.2.desc o.desc && bitAt g.2.imm 0 && im.before e g
     !norms.isEmpty && im.ops.all fun f =>
       !((f.2.isFinal && surelySame list f.2.desc o.desc && !im.before f e) ||
         (o.sPass == 0 && (f.2.sends || f.2.isNetMove) && surelySame list f.2.desc (o.desc + 1))) || norms.any fun g => im.before g f))

/-- The rules on a COMBINE (R155, R157). -/
def Image.combineOk (im : Image) (e : Placed) : Bool :=
  let o := e.2
  let returns (entry : Nat) (link : Bool) : List Placed :=
    im.ops.filter fun f => f.2.desc == entry && (f.2.cell 7 || (f.2.slot == 6 && f.2.op == 3) || (link && f.2.slot == 7 && f.2.op == 2))
  bits o.imm 4 0 == 0 && im.strict o.cap &&
  match o.cMode with
  | 0 =>
    bits o.imm 12 5 == 0 && (o.cSrc == 1 || im.ops.any fun m => m.2.isNetMove && m.2.cnt == o.cnt && im.before m e &&
      im.ops.any fun h => h.2.isHand && h.2.cnt == o.cnt + 1 && im.before m h && im.before h e)
  | 1 => bits o.imm 13 5 == 0 && (returns (o.desc + 1) false).all fun f => im.before f e
  | 2 =>
    o.cSrc == 0 && (decide (2 ≤ o.cEpilogue) || o.cFp8 == 0) && (o.cEpilogue == 3 || o.cMargin == 0) &&
    ((returns (o.desc + 2) true).all fun f => im.before f e) &&
    (o.cSpill == 0 || (returns (o.desc + 4) true).all fun f => im.before f e)
  | _ => false

/-- The rules on a BURN that need no router (R191). -/
def Image.burnOk (im : Image) (e : Placed) : Bool :=
  let o := e.2
  bitAt o.imm 14 == false && bits o.imm 7 0 == 0 && (o.bGhost || o.bGhostCnt == 0) &&
  (im.sorts.any fun f => f.2.router == o.router && f.2.dst + 1 == o.cnt && im.before f e) &&
  ((im.ops.filter fun f => f.2.cell 0xA && f.2.cnt == o.cnt).length == 1) &&
  (!o.bGhost || im.ops.any fun f => f.2.isTest && f.2.dGhost && f.2.router == o.router && f.2.dst + 1 == o.bGhostCnt && im.before f e)

/-- The rules on one cell-group operation. -/
def Image.cellOk (im : Image) (e : Placed) : Bool :=
  let o := e.2
  match o.op with
  | 1 => im.ports (o.slot - 1) != 0
  | 2 => im.ports (o.slot - 1) != 0
  | 3 => im.deltaOk e
  | 4 =>
    bits o.imm 15 2 == 0 && bits o.imm 1 0 != 3 && im.strict o.cap
  | 5 => bits o.imm 15 1 == 0
  | 6 => im.sortOk e
  | 8 => im.combineOk e
  | 0xA => im.burnOk e
  | _ => true

/-- The rules on one network, link, basin or confluence operation. -/
def Image.backOk (im : Image) (regions : List Nat) (e : Placed) : Bool :=
  let o := e.2
  match o.slot with
  | 6 =>
    if o.op = 1 then
      im.strict o.cap && decide (capLane (im.cap o.cap) ≤ 65536) && decide (o.cnt < 63) &&
      im.ops.any fun f => f.2.isRefdec && f.2.cnt == o.cnt + 1 && im.before e f
    else o.region != im.region.val && regions.contains o.region && (o.op == 2 || im.strict o.cap)
  | 7 => o.cls != 0 && (o.op == 1 || (o.timeout != 0 && im.strict o.cap))
  | 8 =>
    match o.op with
    | 1 => decide (o.size ≤ 5)
    | 2 => im.ops.any fun f => f.2.isNetMove && f.2.cnt + 1 == o.cnt && im.before f e
    | 4 =>
      let walks := im.ops.filter fun f => f.2.isNetMove && f.2.cnt + 1 == o.cnt
      o.size == 0 && o.pool == 0 && (walks.isEmpty || o.desc == 0) &&
      walks.all fun m => im.ops.all fun f => !(f.2.isTerm && f.2.cSrc == 0 && f.2.cnt == m.2.cnt) || im.before f e
    | _ => o.size == 0 && o.pool == 0
  | 9 => decide (o.tree ≤ 2) && !(bitAt o.cfFormat 3 && !bitAt o.cfFormat 2)
  | _ => true

/-- Every rule on one operation that needs no router. -/
def State.opOk (s : State) (im : Image) (regions : List Nat) (e : Placed) : Bool :=
  let o := e.2
  o.known && o.reservedOk && (!o.counted || capOk (im.cap o.cap)) && (o.regReads ++ im.regWrites o).all (fun c => decide (c < 64)) &&
  s.frontOk im e && (!o.isCell || im.cellOk e) && im.backOk regions e

/-- Pairs of an allocation and a free that are not ordered (R284). -/
def Image.allocsBad (im : Image) : List Nat :=
  let allocs := im.ops.filter fun e => e.2.isNetMove || (e.2.slot == 8 && e.2.op == 1)
  let frees := im.ops.filter fun e => e.2.slot == 8 && (e.2.op == 3 || e.2.op == 4)
  allocs.flatMap fun a => (frees.filter fun f => !im.ordered a f).map fun f => max a.1 f.1

/-- Entries of the record tensors that an operation writes or takes weights from: a SELECT's, a NORM's, a SORT's, and those of the
SORT whose manifest an operation sends (R125). -/
def Image.recordEntries (im : Image) (list : Option Bytes) (o : SlotOp) : List Nat :=
  if o.cell 4 then [o.desc + 1]
  else if o.cell 5 ∨ o.cell 6 then [o.desc]
  else if o.sends ∨ o.isNetMove then (im.sorts.filter fun f => surelySame list (f.2.desc + 1) o.desc).map fun f => f.2.desc
  else []

/-- Pairs of operations that touch one record tensor, one of them with a write, and are not ordered (R125). -/
def Image.recordsBad (im : Image) (list : Option Bytes) : List Nat :=
  let marks := im.ops.filter fun e => e.2.cell 4 || e.2.cell 5 || e.2.cell 6
  marks.flatMap fun a => (im.ops.filter fun f =>
    f != a && ((im.recordEntries list a.2).any fun i => (im.recordEntries list f.2).any (surelySame list i)) && !im.ordered a f).map
    fun f => max a.1 f.1

/-- The rules on one operation that compare the tensors which entries name; PLATE_LOAD knows them by entry number alone, a command by its
list (log 23). A PROOF_EMIT comes after the operations that send its router's manifests (R246); the row tensor behind a SCORE's logit
buffer is the one it read (R81), and no SHAPE 3 SCORE reads rows that a TEST has compacted (R180); a SELECT of MODE 2 waits for one
of MODE 1 on its tensors (R98; log 110). -/
def Image.tensorsOk (im : Image) (list : Option Bytes) (e : Placed) : Bool :=
  let o := e.2
  match o.slot with
  | 0 =>
    o.op != 7 || im.ops.all fun f =>
      !(f.2.sends && ((im.sorts.any fun g => g.2.router == o.imm % 128 && surelySame list (g.2.desc + 1) f.2.desc) ||
        match list with | none => false | some l => vwRouter (viewAt l f.2.desc) == o.imm % 128)) || im.before f e
  | 1 =>
    (o.op != 2 || o.shape != 3 || !im.ops.any fun f => f.2.isTest && surelySame list f.2.desc o.desc && !im.before e f) &&
    (o.op != 3 || im.ops.all fun f =>
      !(f.2.slot == 1 && f.2.op == 2 && f.2.desc + 1 == o.desc) || maybeSame list (o.desc + 2) f.2.desc)
  | 6 | 7 | 8 | 9 => true
  | _ =>
    match o.op with
    | 3 => im.deltaTensors list e
    | 4 => bits o.imm 1 0 != 2 || im.ops.any fun f =>
        f.2.cell 4 && bits f.2.imm 1 0 == 1 && maybeSame list f.2.desc o.desc && maybeSame list (f.2.desc + 1) (o.desc + 1) && im.before f e
    | 6 => im.sortTensors list e
    | _ => true

/-- The bundles of an image that break a rule on the tensors its entries name. -/
def Image.tensorsBad (im : Image) (list : Option Bytes) : List Nat :=
  ((im.ops.filter fun e => !im.tensorsOk list e).map (·.1)) ++ im.recordsBad list

/-- Matching of edge sends and receives toward an image (R133): the bundles of receives without their number of sends. -/
def edgesBad (ims : List Image) (im : Image) : List Nat :=
  let recvs := im.ops.filter fun e => e.2.slot == 6 && e.2.op == 3
  let sendsTo (a desc : Nat) : Nat := ((ims.filter fun x => x.region.val == a).flatMap fun x => x.ops).countP fun e =>
    e.2.slot == 6 && e.2.op == 2 && e.2.region == im.region.val && e.2.desc == desc
  let bad := recvs.filter fun e => (recvs.countP fun f => f.2.region == e.2.region && f.2.desc == e.2.desc) != sendsTo e.2.region e.2.desc
  let missing := ims.any fun x => x.ops.any fun e =>
    e.2.slot == 6 && e.2.op == 2 && e.2.region == im.region.val &&
    !recvs.any fun f => f.2.region == x.region.val && f.2.desc == e.2.desc
  bad.map (·.1) ++ (if missing then [im.bundles.length - 1] else [])

/-- Routers that an image's PROOF_EMITs name. -/
def Image.emits (im : Image) : List Nat :=
  (List.range 128).filter fun ρ => im.ops.any fun e => e.2.slot == 0 && e.2.op == 7 && e.2.imm % 128 == ρ

/-- The bundles of an image that break a rule that needs no router, the image standing in a set. -/
def State.structBad (s : State) (ims : List Image) (im : Image) : List Nat :=
  let regions := ims.map fun x => x.region.val
  ((List.range im.bundles.length).filter fun b => !s.bundleOk ims im b) ++
  ((im.ops.filter fun e => !s.opOk im regions e).map (·.1)) ++ im.allocsBad ++ im.tensorsBad none ++ edgesBad ims im ++
  (if ims.all fun x => x.emits == im.emits then [] else [im.bundles.length - 1])

/-! ### Rules that need routers (R330) -/

/-- The rules on one operation that read the router table; nothing is checked against a router that is not written. -/
def State.routerRuleOk (s : State) (routers : Tab (BitVec 512)) (stage : Nat) (list : Option Bytes) (im : Image) (e : Placed) : Bool :=
  let o := e.2
  let g := s.live.length
  let written (ρ : Nat) : Bool := (routers.get? ρ).isSome
  if o.routers.all fun ρ => !written ρ then true
  else
    let rt := routers.getD o.router 0
    let r2 := routers.getD (o.router + 1) 0
    match o.slot with
    | 0 => true
    | 1 =>
      (o.shape != 3 || o.op == 5 || !(written o.router && written (o.router + 1)) ||
        (rtH rt == rtH r2 && rtE rt == rtE r2 && rtElem rt == rtElem r2 && rtSplit rt == rtSplit r2)) &&
      ((if o.shape = 3 then [o.router, o.router + 1] else [o.router]).all fun ρ =>
        let rt := routers.getD ρ 0
        !written ρ ||
        ((o.op != 2 || o.format == rtElem rt) && (o.op != 1 || decide (gateBytes rt o.shape g ≤ stage * 0x80000)) &&
         (o.op != 3 || rtSplit rt == 0 || im.ops.any fun f =>
           f.2.slot == 9 && (f.2.op == 2 || f.2.op == 3) && (maybeSame list f.2.desc o.desc || maybeSame list (f.2.desc + 1) o.desc) &&
           im.before f e)))
    | 6 | 7 | 8 | 9 => true
    | _ =>
      match o.op with
      | 3 => rtReprint rt == 1 && (!(o.isTest && o.dGhost) || im.lanesOf (o.dst + 1) == rtE rt)
      | 4 => if bits o.imm 1 0 = 0 then rtGroups rt == 0 else rtGroups rt != 0
      | 6 => (o.sPass == 1 || im.strict o.cap || capMode (im.cap o.cap) == rtOverflow rt) && im.lanesOf (o.dst + 1) == rtE rt
      | 8 => !(o.isFinal && o.cSpill == 1) || rtOverflow rt == 1
      | 0xA => im.lanesOf o.cnt == rtE rt
      | _ => true

/-- The bundles of an image that break a rule that needs routers. -/
def State.routerBad (s : State) (routers : Tab (BitVec 512)) (stage : Nat) (list : Option Bytes) (im : Image) : List Nat :=
  (im.ops.filter fun e => !s.routerRuleOk routers stage list im e).map (·.1)

/-- The lowest of the listed bundles. -/
def firstBad (l : List Nat) : Option Nat := match l with | [] => none | b :: t => some (t.foldl min b)

end Sys2Proof.Machine
end

