-- ==== Sys2Proof/Machine/PlateCheck.lean ====
section
/-! DEFINITION. Sys2Proof/Machine/PlateCheck.lean: PLATE_LOAD and PLATE_DROP (R41, R341), and the validation of the two commands that
run a plate set, LAYER_RUN and COMBINE_RUN (R329 steps 4 to 7, R330, R342 to R345). -/

namespace Sys2Proof.Machine

/-! ### Signatures (R235, R236) -/

/-- The engine's reproducibility signature. -/
def State.reproSig (s : State) : W64 :=
  BitVec.ofNat 64 (s.stepping.toNat * 2 ^ 56 + s.getF (pgArray s.leader) Fld.ARRAY_STATE_MATH_TABLE_ID * 2 ^ 48 +
    s.getF pgProof Fld.ARITH_OPT_SET * 2 ^ 40)

/-- The geometry signature of region r in force. -/
def State.geometrySig (s : State) (r : Nat) : W64 := BitVec.ofNat 64 (s.getF (pgRegion r) Fld.GEOMETRY_GEOMETRY_SIG)

/-! ### PLATE_LOAD (R41, R341) -/

/-- Checks 1 and 2 of R41 on the bytes of an image; the reserved bits of CAP_TABLE (R49) are among the reserved fields. FLAGS[1:0] are
checked against nothing (log 104). -/
def imageBytesOk (bs : Bytes) : Bool :=
  field bs 0x38 8 == crc64 (putField bs 0x38 8 0) && field bs 0 8 == 0x314554414C503844 && field bs 8 4 == 1 &&
  field bs 0x2C 4 == 0 && decide (field bs 0x24 4 < 4) && decide (1 ≤ imBundles bs ∧ imBundles bs ≤ 32768) &&
  ((words (bs.drop 0x40) 2 64).all fun l => decide (1 ≤ l ∧ l ≤ 1024)) && (words (bs.drop 0xC0) 8 64).all fun c => c % 256 == 0

/-- Check 8 of R41: PORT_MAP's nibbles, and a port for every STAGE_LOAD; the row operations are among the rules of a cell
group. -/
def Image.portsOk (im : Image) : Bool :=
  ((List.range 8).all fun p => let v := bits im.portMap.toNat (4 * p + 3) (4 * p); decide (v ≤ 4) || v == 15) &&
  im.ops.all fun e => !(e.2.slot == 1 && e.2.op == 1) || im.ports 0 != 0

/-- Whether an image uses the confluence slot. -/
def Image.fused (im : Image) : Bool := im.ops.any fun e => e.2.slot == 9

/-- The bytes of the image at an address: none where a byte fails translation. BUNDLE_COUNT out of range leaves the head alone,
which check 2 refuses. -/
def State.readImage (s : State) (cmd : Command) (a : Nat) : Option Bytes :=
  (s.readStruct cmd a imageHead).bind fun h =>
    if imBundles h = 0 ∨ 32768 < imBundles h then some h else s.readStruct cmd a (imageHead + 64 * imBundles h)

/-- The images at a command's table of addresses. -/
def State.readImages (s : State) (cmd : Command) (as : List Nat) : List (Option Bytes) := as.map (s.readImage cmd)

/-- The checks of R41 on image i of the n of the set, in order. That a live region lacks an image shows at check 3 of the last image, and
check 6 goes by the image's operations, not its FLAGS[0] (log 104). -/
def State.checkImage (s : State) (cmd : Command) (ims : List Image) (worst : Unit → List (RegionId × Option Nat)) (i n : Nat) (bs : Bytes) :
    Option Nat :=
  let im := parseImage bs
  let routers := (s.ctx cmd.ctx.val).routers
  if !imageBytesOk bs || 8 ≤ field bs 0xC 4 || !s.live.contains im.region.val ||
      (ims.take i).any (fun x => x.region == im.region) ||
      (i + 1 == n && s.live.any fun r => !ims.any fun x => x.region.val == r) then some stPlateInvalid
  else if im.geometrySig != s.geometrySig im.region.val then some stGeometryMismatch
  else if im.reproSig != s.reproSig then some stReproMismatch
  else if im.fused && !cmd.fused then some stPrivilegeFault
  else if !(s.structBad ims im).isEmpty || !im.portsOk ||
      !(s.routerBad routers (recStage (s.ctx cmd.ctx.val).record) none im).isEmpty then some stPlateInvalid
  else match ((worst ()).find? fun w => w.1 == im.region).bind (·.2) with
    | none => some stPlateInvalid
    | some t => if im.wcet < t then some stPlateInvalid else none

/-- Bytes of the plate area that the sets of a context take in region r, slot n aside. -/
def plateBytes (x : Ctx) (n r : Nat) : Nat :=
  x.sets.foldl (fun a e => if e.1 = n then a
    else e.2.2.foldl (fun a im => if im.region.val = r then a + imageHead + 64 * im.bundles.length else a) a) 0

/-- Whether the images fit the free plate area of every region (R40, R341); the slot's previous contents count as free. -/
def imagesFit (x : Ctx) (n : Nat) (ims : List Image) : Bool :=
  ims.all fun im => decide (plateBytes x n im.region.val + imageHead + 64 * im.bundles.length ≤ recPlateBytes x.record)

/-- PLATE_LOAD (R41, R341): all images or nothing. -/
def State.plateLoad (s : State) (cmd : Command) : Verdict :=
  let n := cmdField cmd.raw 25 1
  let slot := cmdSet cmd.raw
  let x := s.ctx cmd.ctx.val
  if 15 < slot ∨ n = 0 ∨ 8 < n then .fail stCommandInvalid 0 0
  else match s.readStruct cmd (cmdAddr cmd.raw) (8 * n) with
    | none => .fail stBoundsFault 0 0
    | some table =>
      let read := s.readImages cmd (words table 8 n)
      let ims := (read.filterMap id).map parseImage
      let worst (_ : Unit) := s.worstCases x.routers none ims
      match (read.zipIdx).findSome? fun e =>
          match e.1 with
          | none => some stBoundsFault
          | some bs => s.checkImage cmd ims worst e.2 n bs with
      | some c => .fail c 0 0
      | none =>
        let wcet := ims.foldl (fun m im => max m im.wcet) 0
        if !imagesFit x slot ims then .fail stShareFault 0 0
        else if !s.admitted cmd.ctx.val none wcet then .fail stAdmissionFault 0 0
        else .done (s.modCtx cmd.ctx.val fun x => { x with sets := x.sets.set slot (wcet, ims) }) (leBytes 8 wcet)

/-- Commands of a context, validated and not completed, that name a set slot: every run of it, and the loads and drops
validated before a command (R341). -/
def State.slotFree (s : State) (m : Command) : Bool :=
  let c := m.ctx.val
  let slot := cmdSet m.raw
  let before := (s.flight.takeWhile fun f => f.2 != m.seq).map (·.2)
  let names (raw : BitVec 512) (seq : W32) : Bool :=
    cmdSet raw == slot && (isSetOp (cmdOp raw) || ((cmdOp raw == 0x10 || cmdOp raw == 0x11) && before.contains seq))
  !((s.ctx c).heads.any (fun h => match h.2.cmd with | none => false | some k => k.seq != m.seq && names k.raw k.seq)) &&
  !(s.runs.any fun y => y.cmd.ctx.val == c && names y.cmd.raw y.cmd.seq) &&
  !(s.ended.any fun e => e.ctx.val == c && names e.raw e.seq)

/-- PLATE_LOAD (R41). -/
def execPlateLoad (c : CtxId) (q : RingId) (s : State) : Host.Outcome State Fault Refusal :=
  .next (s.controlRow c.val q.val 0x10 State.slotFree State.plateLoad)

/-- PLATE_DROP (R341): an empty slot is COMMAND_INVALID. -/
def State.plateDrop (s : State) (cmd : Command) : Verdict :=
  let slot := cmdSet cmd.raw
  if 15 < slot ∨ ((s.ctx cmd.ctx.val).sets.get? slot).isNone then .fail stCommandInvalid 0 0
  else .done (s.modCtx cmd.ctx.val fun x => { x with sets := x.sets.erase (· == slot) }) []

/-- PLATE_DROP (R341). -/
def execPlateDrop (c : CtxId) (q : RingId) (s : State) : Host.Outcome State Fault Refusal :=
  .next (s.controlRow c.val q.val 0x11 State.slotFree State.plateDrop)

/-! ### Views (R128, R342) -/

/-- The fields that a view of each KIND reads; every other bit is 0. -/
def viewOk (list : Bytes) (i : Nat) : Bool :=
  let v := viewAt list i
  zeroAt list (192 * i + 8) 56 &&
  match vwKind v with
  | 0 => v == 0
  | 5 => decide (vwRowEntry v < listLen list) && v == vwRowEntry v * 2 ^ 36 + 5
  | 6 => decide (vwOutElem v ≤ 1) && v == vwRouter v * 2 ^ 28 + vwOutElem v * 2 ^ 26 + bits v 25 16 * 2 ^ 16 + 6
  | k => decide (k ≤ 4) && v == vwRouter v * 2 ^ 28 + flag (vwReturn v) * 32 + vwPhase v * 16 + k &&
      (!vwReturn v || vwPhase v == 1)

/-- Whether a view's kind is one that carries an exchange. -/
def isExchangeView (v : Nat) : Bool := decide (1 ≤ vwKind v ∧ vwKind v ≤ 4)

/-- Whether an exchange operation's slot matches its view's kind (R127, R128): a FORWARD return may be handed back within its own
region (R158). -/
def kindFits (o : SlotOp) (v : Nat) : Bool :=
  isExchangeView v &&
  (if o.slot = 7 then vwKind v == 3
   else if o.isCell then vwKind v == 1 || vwKind v == 4 || (vwKind v == 2 && vwReturn v)
   else vwKind v != 3)

/-- Whether entry i can serve as a structure tensor of NET_MOVE, TERM, PACKAGE and FINAL; manifest tells that it is read as
one. -/
def structView (list : Bytes) (i : Nat) (manifest : Bool) : Bool :=
  let v := viewAt list i
  vwKind v != 5 && vwKind v != 6 && (!manifest || !isExchangeView v || vwPhase v == 0)

/-- Whether the return receives of an image that a DESC value names are ROW-phase views with RETURN set (R157). -/
def returnsOk (list : Bytes) (im : Image) (entry : Nat) (link : Bool) : Bool :=
  im.ops.all fun e =>
    !(e.2.desc == entry && (e.2.cell 7 || (e.2.slot == 6 && e.2.op == 3) || (link && e.2.slot == 7 && e.2.op == 2))) ||
    (vwReturn (viewAt list entry) && vwPhase (viewAt list entry) == 1)

/-- Whether a view of kind 1 to 4 that names a manifest is of the ENTRY phase (R342). -/
def manifestView (list : Bytes) (i : Nat) : Bool := !isExchangeView (viewAt list i) || vwPhase (viewAt list i) == 0

/-- The conditions of R128 and R342 on the views that one operation uses. -/
def opViewsOk (list : Bytes) (im : Image) (o : SlotOp) : Bool :=
  let d := o.desc
  (!o.exchanges || kindFits o (viewAt list d)) &&
  (!o.isNetMove || (isExchangeView (viewAt list d) && vwPhase (viewAt list d) == 0)) &&
  (!o.cell 6 || manifestView list (d + 1)) && (!(o.lands && vwPhase (viewAt list d) == 0) || manifestView list (d + 2)) &&
  (!o.cell 8 || (combineEntry list o.router).isSome) &&
  (!o.isTerm || (combineEntry list o.router == some (d + 1) && structView list d true && structView list (d + 2) false)) &&
  (!o.isPackage || (structView list d true && structView list (d + 1) false && structView list (d + 2) false &&
    returnsOk list im (d + 1) false)) &&
  (!o.isFinal || (structView list d false && structView list (d + 1) true && structView list (d + 2) false &&
    returnsOk list im (d + 2) true &&
    (o.cSpill == 0 || (structView list (d + 3) true && structView list (d + 4) false && returnsOk list im (d + 4) true))))

/-- Whether a confluence operation's tensors make a call: S a multiple of 4 KiB up to 4 GiB, source and destination of the
call's type, or the bytes of a structure, and S bytes (R206, R207; log 17). -/
def cfTensorsOk (list : Bytes) (o : SlotOp) : Bool :=
  !(o.slot == 9 && (o.op == 2 || o.op == 3)) ||
  (let S := cfBytes list o
   let t := if bitAt o.cfFormat 0 then 1 else 0
   let typed (d : Bytes) : Bool := dsElem d == t || dsElem d == 0xA
   decide (1 ≤ S ∧ S ≤ 2 ^ 32) && S % 4096 == 0 && typed (descAt list o.desc) && typed (descAt list (o.desc + 1)) &&
   cfRoom (descAt list (o.desc + 1)) == S)

/-- Step 4 of R329 on the views of a set's list. -/
def viewsOk (list : Bytes) (ims : List Image) : Bool :=
  let combines := (List.range (listLen list)).filter fun i => vwKind (viewAt list i) == 6
  ((List.range (listLen list)).all (viewOk list)) &&
  (combines.map fun i => vwRouter (viewAt list i)).eraseDups.length == combines.length &&
  ims.all fun im => im.ops.all fun e =>
    let span := opSpan list im e.2
    decide (e.2.desc + span ≤ listLen list ∨ span = 0) && opViewsOk list im e.2 && cfTensorsOk list e.2

/-! ### Step 5 (R330) -/

/-- The runs of entry i that lie in the host fabric, as region r would access them. -/
def State.fabricPieces (s : State) (cmd : Command) (r i : Nat) (need : Need) : List Piece :=
  let d := descAt cmd.list i
  let ds := if dsDistributed d then
      match cmd.owners.get? i with | none => [] | some o => (ownedBlocks o s.self r).map (blockDesc d o)
    else [d]
  ds.flatMap fun d => (footRanges d (dsBase d) need.isRows).flatMap fun f =>
    ((translate cmd.windows false f.1 f.2).getD []).filter fun p => !p.store

/-- The bundles of an image whose operations reach the fabric without a port of their unit. -/
def State.portsBad (s : State) (cmd : Command) (routers : Tab (BitVec 512)) (im : Image) : List Nat :=
  (im.ops.filter fun e =>
    !(decide (1 ≤ e.2.slot ∧ e.2.slot ≤ 5) && im.ports (e.2.slot - 1) != 0) &&
    (opRoles routers cmd.list s.live.length im e.2).any fun x => !(s.fabricPieces cmd im.region.val x.entry x.need).isEmpty).map
    (·.1)

/-- Memory transactions of an operation at its bound (R66, R309): those of the rows or the weights that it moves, and of any other
operation one for each unit of the tensors in the fabric that it names (log 119). -/
def State.opTransactions (s : State) (cmd : Command) (routers : Tab (BitVec 512)) (im : Image) (o : SlotOp) : Nat :=
  if o.cell 1 || o.cell 2 then im.bound o * ceilDiv (moveBytes routers cmd.list im o) 64
  else if o.slot = 1 ∧ o.op = 1 then ceilDiv (gateBytes (routers.getD o.router 0) o.shape s.live.length) 64
  else if 1 ≤ o.slot ∧ o.slot ≤ 5 then
    ((opRoles routers cmd.list s.live.length im o).flatMap fun x => (s.fabricPieces cmd im.region.val x.entry x.need).map fun p =>
      ceilDiv (p.addr % 64 + p.len) 64).sum
  else 0

/-- Memory byte bound of an image (R309): its transactions at the bounds of R66, 64 bytes each. -/
def State.memBound (s : State) (cmd : Command) (routers : Tab (BitVec 512)) (im : Image) : Nat :=
  im.ops.foldl (fun a e => a + im.times e.1 * (64 * s.opTransactions cmd routers im e.2)) 0

/-- Images in ascending region. -/
def byRegion (ims : List Image) : List Image := (List.range 8).flatMap fun r => ims.filter fun im => im.region.val == r

/-- Step 5 of R329: code, INDEX and REGION of the first failure; R330 fills the last two for PLATE_INVALID alone (R327). With the checks
of R330 go those of the chapters on tensors that PLATE_LOAD could not compare without the command's list (log 23). -/
def State.step5 (s : State) (cmd : Command) (ims : List Image) : Option (Nat × Nat × Nat) :=
  let x := s.ctx cmd.ctx.val
  let g := byRegion ims
  let worst := s.worstCases x.routers (some cmd.list) ims
  if (g.any fun im => !s.live.contains im.region.val || im.geometrySig != s.geometrySig im.region.val) ||
      (s.live.any fun r => !g.any fun im => im.region.val == r) then some (stGeometryMismatch, 0, 0)
  else if g.any fun im => im.reproSig != s.reproSig then some (stReproMismatch, 0, 0)
  else if g.any fun im => im.fused && !cmd.fused then some (stPrivilegeFault, 0, 0)
  else
    g.findSome? fun im =>
            let r := im.region.val
            match firstBad (s.routerBad x.routers (recStage x.record) (some cmd.list) im ++ s.portsBad cmd x.routers im ++
                im.tensorsBad (some cmd.list)) with
            | some b => some (stPlateInvalid, b, r)
            | none =>
              match (worst.find? fun w => w.1 == im.region).bind (·.2) with
              | none => some (stPlateInvalid, 0, r)
              | some t => if im.wcet < t then some (stPlateInvalid, 0, r) else none

/-! ### Step 7 (R344) -/

/-- The fabric and region-store ranges of a tensor's footprint. -/
def footPieces (w : Tab (BitVec 128)) (d : Bytes) (wr : Bool) : List Piece :=
  (footRanges d (dsBase d) false).flatMap fun f => (translate w wr f.1 f.2).getD []

/-- Whether two pieces of one region's view share a byte. -/
def piecesMeet (p q : List Piece) : Bool :=
  p.any fun a => q.any fun b => a.store == b.store && rangesMeet (a.addr, a.len) (b.addr, b.len)

/-- Whether pieces that regions a and b see share a byte: of the fabric, or of one region's store. -/
def piecesShared (a b : Nat) (p q : List Piece) : Bool :=
  piecesMeet (p.filter fun x => !x.store || a == b) (q.filter fun x => !x.store || a == b)

/-- The data operations of a set on confluence groups: region, the ordinal of their call on the group, which is that of the CF_ARM
before them, and the operation (R65). -/
def fusedData (ims : List Image) : List (Nat × Nat × SlotOp) :=
  ims.flatMap fun im => (im.ops.filter fun e => e.2.slot == 9 && (e.2.op == 2 || e.2.op == 3)).map fun e =>
    (im.region.val, im.ops.countP (fun f => f.2.slot == 9 && f.2.op == 1 && f.2.group == e.2.group && decide (f.1 < e.1)), e.2)

/-- The entry of a fused call's destination that overlaps a source or another region's destination of the call at this member (R207);
what a CF_LOCAL writes may be the tensor that the call's CF_GLOBAL names (log 114). -/
def cfOverlap (cmd : Command) (ims : List Image) : Option Nat :=
  let ops := fusedData ims
  let src (o : SlotOp) : List Piece := footPieces cmd.windows (descAt cmd.list o.desc) false
  let dst (o : SlotOp) : List Piece := footPieces cmd.windows (descAt cmd.list (o.desc + 1)) true
  ops.findSome? fun a =>
    if ops.any fun b => a.2.1 == b.2.1 && a.2.2.group == b.2.2.group &&
        ((!(a.2.2.op == 2 && b.2.2.op == 3) && piecesShared a.1 b.1 (dst a.2.2) (src b.2.2)) ||
         (a.1 != b.1 && piecesShared a.1 b.1 (dst a.2.2) (dst b.2.2))) then some (a.2.2.desc + 1) else none

/-- Whether every live region has data operations of the same kinds in every fused call of a set, so that each names its source
(R207; log 114). -/
def fusedWhole (live : List Nat) (ims : List Image) : Bool :=
  let ops := fusedData ims
  ops.all fun a => live.all fun r => ops.any fun b => b.1 == r && b.2.1 == a.2.1 && b.2.2.group == a.2.2.group && b.2.2.op == a.2.2.op

/-- The link byte bounds of a set, summed by peer and peer context (R137). -/
def State.setLinkBounds (s : State) (cmd : Command) (ims : List Image) : Tab Nat :=
  let rt := (s.ctx cmd.ctx.val).routers
  (ims.flatMap fun im => s.linkBounds rt cmd.list im).foldl (fun t e => t.update (1024 * e.2.1 + e.1) 0 (· + e.2.2)) []

/-- RATE and DEPTH of a bucket as its register holds them: partition p, link or memory (R309). -/
def State.bucketReg (s : State) (link : Bool) (p : Nat) : Nat × Nat :=
  if link then (s.getF (pgSched + 8 * p) Fld.REG_LINK_RATE, s.getF (pgSched + 8 * p) Fld.REG_LINK_DEPTH)
  else (s.getF (pgSched + 8 * p) Fld.REG_MEM_RATE, s.getF (pgSched + 8 * p) Fld.REG_MEM_DEPTH)

/-- The placement tables of the routers that a command names, by router; a failure is its code. -/
def State.placementsOf (s : State) (cmd : Command) (ρs : List Nat) : Except Nat (Tab Bytes) :=
  ρs.foldl (fun acc ρ =>
    match acc with
    | .error c => .error c
    | .ok t =>
      let rt := (s.ctx cmd.ctx.val).routers.getD ρ 0
      match s.readPlacement cmd.windows (rtPlacement rt) with
      | none => .error stBoundsFault
      | some bs => if placementOk bs (rtE rt) s.self && s.placementReachable bs then .ok (t.set ρ bs) else .error stPlacementFault)
    (.ok [])

/-- Step 7 of R329 for a set: placement, TANK_OVERFLOW, CREDIT_FAULT, REGULATOR_FAULT (R344). -/
def State.step7 (s : State) (cmd : Command) (ims : List Image) : Option (Nat × Nat × Nat) :=
  let x := s.ctx cmd.ctx.val
  let p := recPartition x.record
  match s.placementsOf cmd (s.commandRouters cmd) with
  | .error c => some (c, 0, 0)
  | .ok tables =>
    match (byRegion ims).findSome? fun im =>
        (im.ops.find? fun e => !lanesOk tables cmd.list im e.2) with
    | some _ => some (stPlacementFault, 0, 0)
    | none =>
      if ims.any fun im => im.ops.any fun e => e.2.isFinal && e.2.cEpilogue == 2 && decide (65536 < 4 * combineW cmd.list e.2.router) then
        some (stTankOverflow, 0, 0)
      else if (s.setLinkBounds cmd ims).any fun e => decide ((s.membership.credit.getD e.1 (0, 0)).2 < e.2) then some (stCreditFault, 0, 0)
      else
        let (mr, md) := s.bucketReg false p
        let (lr, ld) := s.bucketReg true p
        if ims.any fun im => (mr != 0 && decide (md * 65536 < s.memBound cmd x.routers im)) ||
            (lr != 0 && decide (ld * 65536 < s.linkBound x.routers cmd.list im)) then some (stRegulatorFault, 0, 0)
        else none

/-! ### LAYER_RUN and COMBINE_RUN -/

/-- The owner tables of the distributed entries of a list that have a role; an entry whose table does not translate has none. -/
def State.ownersOf (s : State) (cmd : Command) (roles : List Role) : Tab Bytes :=
  (List.range (listLen cmd.list)).foldl (fun t i =>
    let d := descAt cmd.list i
    if dsDistributed d && roles.any (fun x => x.entry == i) then
      match (s.readStruct cmd (dsOwnerBase d) 64).bind fun h => s.readStruct cmd (dsOwnerBase d) (64 + 8 * min (owBlocks h) 65536) with
      | none => t
      | some o => t.set i o
    else t) []

/-- Counts of a table row i of region r (R343). -/
def cntAt (counts : Bytes) (r i : Nat) : Nat := field counts (32 * r + 4 * i) 4

/-- Groups that a set's confluence operations name. -/
def imagesGroups (ims : List Image) : List Nat :=
  ((ims.flatMap fun im => im.ops.filter fun e => e.2.slot == 9 && e.2.op != 4).map fun e => e.2.group).eraseDups

/-- A plate set in COMBINE_RUN: every TERM reads memory, and nothing selects or hands over (R345). -/
def combineOnly (ims : List Image) : Bool :=
  ims.all fun im => im.ops.all fun e =>
    let o := e.2
    !(o.isTerm && o.cSrc == 0) && !(o.slot == 1 && (o.op == 2 || o.op == 4)) && !o.cell 4 && !o.cell 6 && !o.isHand

/-- The environment of a command's tensor checks. -/
def State.tensorEnv (s : State) (cmd : Command) : TensorEnv := ⟨cmd.windows, s.membership.members, s.membership.epoch, s.self, s.live⟩

/-- Validation of a run of a plate set from step 4 on (R344, R345). -/
def State.runCheck (s : State) (cmd : Command) : Verdict :=
  let n := cmdField cmd.raw 25 1
  let combine := cmdOp cmd.raw == 0x21
  let x := s.ctx cmd.ctx.val
  if n = 0 ∨ 64 < n ∨ 15 < cmdSet cmd.raw ∨ 1 < cmdField cmd.raw 26 1 then .fail stCommandInvalid 0 0
  else if cmdAddr cmd.raw % 64 ≠ 0 then .fail stAlignFault 0 0
  else match s.setImages cmd.ctx.val (cmdSet cmd.raw) with
    | none => .fail stCommandInvalid 0 0
    | some ims =>
      match s.readStruct cmd (cmdAddr cmd.raw) (192 * n) with
      | none => .fail stBoundsFault 0 0
      | some list =>
        let roles := setRoles x.routers list s.live.length ims
        let cmd1 := { cmd with list := list }
        let cmd2 := { cmd1 with owners := s.ownersOf cmd1 roles }
        let ρs := s.commandRouters cmd2
        if !viewsOk list ims || ρs.any (fun ρ => (x.routers.get? ρ).isNone) || !fusedWhole s.live ims ||
            (imagesGroups ims).any (fun g => !(s.group g).defined) then .fail stCommandInvalid 0 0
        else if (imagesGroups ims).any fun g => (s.group g).state == 3 then .fail stNotMember 0 0
        else match s.readStruct cmd (cmdAddr2 cmd.raw) 256 with
          | none => .fail stBoundsFault 0 0
          | some counts =>
            let cmd3 := { cmd2 with counts := counts }
            if s.live.any fun r => (List.range 8).any fun i => decide (2 ^ 24 ≤ cntAt counts r i) then .fail stCommandInvalid 0 0
            else match s.step5 cmd3 ims with
              | some (c, i, r) => .fail c i r
              | none =>
                match checkTensors (s.tensorEnv cmd3) list cmd3.owners roles with
                | some (c, i) => .fail c i 0
                | none =>
                  match cfOverlap cmd3 ims with
                  | some i => .fail stOverlapFault i 0
                  | none =>
                    if combine && !combineOnly ims then .fail stCommandInvalid 0 0
                    else match s.step7 cmd3 ims with
                    | some (c, i, r) => .fail c i r
                    | none => .latch cmd3

/-- The images of a run command's set. -/
def State.cmdImages (s : State) (m : Command) : List Image := (s.setImages m.ctx.val (cmdSet m.raw)).getD []

/-- Whether a run of a plate set is a cross-member command (R392): its set has a CF_GLOBAL, or a placement that it names has another
member. -/
def State.crossesSet (s : State) (m : Command) : Bool :=
  (s.cmdImages m).any (fun im => im.ops.any fun e => e.2.slot == 9 && e.2.op == 3) ||
  match s.placementsOf m (s.commandRouters m) with
  | .error _ => false
  | .ok ts => ts.any fun e => (plAll e.2).any fun a => plMember e.2 (cpMember a) != s.self

/-- Whether an epoch boundary is under way and a run of a plate set crosses members: none is validated then (R392). -/
def State.stopsSet (s : State) (m : Command) : Bool := s.membership.phase != 0 && s.crossesSet m

/-- LAYER_RUN (R344): validated and latched; the issue rule starts it. -/
def execLayerRun (c : CtxId) (q : RingId) (s : State) : Host.Outcome State Fault Refusal :=
  .next (s.claimRow c.val q.val 0x20 State.runCheck State.stopsSet)

/-- COMBINE_RUN (R345): validated and latched; the issue rule starts it. -/
def execCombineRun (c : CtxId) (q : RingId) (s : State) : Host.Outcome State Fault Refusal :=
  .next (s.claimRow c.val q.val 0x21 State.runCheck State.stopsSet)

end Sys2Proof.Machine
end

