-- ==== Sys2Proof/Machine/Float.lean ====
section
/-! DEFINITION. Sys2Proof/Machine/Float.lean: the engine's arithmetic (R70, R71, R82 to R85, R163, R173): exact dyadic numbers,
one rounding at the end of each operation, the number formats, and the exponential table. -/

namespace Sys2Proof.Machine

/-- An operand or result: a NaN with its sign, an infinity, or the exact number ±m × 2^e. -/
inductive Fp where
  | nan (neg : Bool)
  | inf (neg : Bool)
  | fin (neg : Bool) (m : Nat) (e : Int)
  deriving DecidableEq, Repr

/-- +0. -/
def Fp.zero : Fp := .fin false 0 0
/-- 1. -/
def Fp.one : Fp := .fin false 1 0
/-- The NaN that an invalid operation forms; its sign and payload are free (log 7). -/
def Fp.newNan : Fp := .nan (bitAt Config.nanBits.toNat 22)

/-- Whether a number is a NaN. -/
def Fp.isNan : Fp → Bool | .nan _ => true | _ => false
/-- Whether a number is ±0. -/
def Fp.isZero : Fp → Bool | .fin _ 0 _ => true | _ => false
/-- Whether a number is neither NaN nor infinite. -/
def Fp.isFinite : Fp → Bool | .fin _ _ _ => true | _ => false
/-- The sign bit. -/
def Fp.sign : Fp → Bool | .nan s => s | .inf s => s | .fin s _ _ => s
/-- The number with its sign inverted. -/
def Fp.neg : Fp → Fp | .nan s => .nan (!s) | .inf s => .inf (!s) | .fin s m e => .fin (!s) m e
/-- The magnitude. -/
def Fp.abs : Fp → Fp | .nan _ => .nan false | .inf _ => .inf false | .fin _ m e => .fin false m e

/-- The signed integer of a finite number at exponent q, where q is at most its own. -/
def scaled (neg : Bool) (m : Nat) (e q : Int) : Int :=
  let v := (m : Int) * 2 ^ (e - q).toNat
  if neg then -v else v

/-- The exact sum (R70): one of two opposite values is +0; −0 only from two −0. -/
def Fp.add : Fp → Fp → Fp
  | .nan _, _ => Fp.newNan
  | _, .nan _ => Fp.newNan
  | .inf a, .inf b => if a == b then .inf a else Fp.newNan
  | .inf a, _ => .inf a
  | _, .inf b => .inf b
  | .fin a m e, .fin b n f =>
    if m = 0 ∧ n = 0 then .fin (a && b) 0 0
    else
      let q := min e f
      let v := scaled a m e q + scaled b n f q
      .fin (decide (v < 0)) v.natAbs q

/-- The exact product (R70); infinity times zero is NaN (R71). -/
def Fp.mul : Fp → Fp → Fp
  | .nan _, _ => Fp.newNan
  | _, .nan _ => Fp.newNan
  | .inf a, y => if y.isZero then Fp.newNan else .inf (a != y.sign)
  | x, .inf b => if x.isZero then Fp.newNan else .inf (x.sign != b)
  | .fin a m e, .fin b n f => .fin (a != b) (m * n) (e + f)

/-- The quotient to so many bits that one rounding of it is the rounding of the exact quotient: the last bit is sticky. -/
def Fp.div : Fp → Fp → Fp
  | .nan _, _ => Fp.newNan
  | _, .nan _ => Fp.newNan
  | .inf a, y => match y with | .inf _ => Fp.newNan | _ => .inf (a != y.sign)
  | x, .inf b => .fin (x.sign != b) 0 0
  | .fin a m e, .fin b n f =>
    if n = 0 then (if m = 0 then Fp.newNan else .inf (a != b))
    else
      let s := 64 + n.log2
      let q := m * 2 ^ s / n
      .fin (a != b) (2 * q + flag (m * 2 ^ s % n != 0)) (e - f - s - 1)

/-- Whether x < y, by value; false with a NaN. -/
def Fp.lt : Fp → Fp → Bool
  | .nan _, _ => false
  | _, .nan _ => false
  | .inf a, y => a && y != .inf true
  | _, .inf b => !b
  | .fin a m e, .fin b n f => decide (scaled a m e (min e f) < scaled b n f (min e f))

/-- Whether x ≤ y, by value; false with a NaN. -/
def Fp.le (x y : Fp) : Bool := !x.isNan && !y.isNan && !y.lt x

/-- m / 2^k, rounded to nearest, ties to even. -/
def rneShift (m k : Nat) : Nat :=
  let q := m / 2 ^ k
  let r := 2 * (m % 2 ^ k)
  if r < 2 ^ k then q else if 2 ^ k < r then q + 1 else q + q % 2

/-- A magnitude rounded to p significant bits, with no bit below 2^qmin: the integer and its exponent. -/
def roundMag (p : Nat) (qmin : Option Int) (m : Nat) (e : Int) : Nat × Int :=
  let q0 := (m.log2 : Int) + 1 + e - p
  let q := match qmin with | none => q0 | some x => max q0 x
  if q ≤ e then (m, e) else (rneShift m (q - e).toNat, q)

/-- Overflow to infinity at 2^128 and the flush of results below 2^−126 (R71). -/
def finish32 (neg : Bool) (m : Nat) (e : Int) : Fp :=
  if m = 0 then .fin neg 0 0
  else if 128 ≤ (m.log2 : Int) + e then .inf neg
  else if (m.log2 : Int) + e < -126 then .fin neg 0 0
  else .fin neg m e

/-- rne: an exact value rounded to FP32, then flushed below 2^−126 (R70, R71; log 12). -/
def Fp.rne : Fp → Fp
  | .fin neg m e => finish32 neg (roundMag 24 (some (-149)) m e).1 (roundMag 24 (some (-149)) m e).2
  | x => x

/-- An exact value rounded to BF16 precision with the exponent range unbounded, then flushed (R71). -/
def Fp.toBf : Fp → Fp
  | .fin neg m e => finish32 neg (roundMag 8 none m e).1 (roundMag 8 none m e).2
  | x => x

/-- rne(x + y). -/
def fadd (x y : Fp) : Fp := (x.add y).rne
/-- rne(x × y). -/
def fmul (x y : Fp) : Fp := (x.mul y).rne
/-- rne(x / y). -/
def fdiv (x y : Fp) : Fp := (x.div y).rne
/-- rne(x − y). -/
def fsub (x y : Fp) : Fp := (x.add y.neg).rne

/-! ### Encodings -/

/-- The bits of a number with eb exponent bits and mb mantissa bits that it is representable in. -/
def packIeee (eb mb : Nat) (neg : Bool) (m : Nat) (e : Int) : Nat :=
  let bias : Int := 2 ^ (eb - 1) - 1
  let s := flag neg * 2 ^ (eb + mb)
  if m = 0 then s
  else
    let top := (m.log2 : Int) + e
    let q := max (top - mb) (1 - bias - mb)
    let n := if e ≤ q then m / 2 ^ (q - e).toNat else m * 2 ^ (e - q).toNat
    if n < 2 ^ mb then s + n else s + (top + bias).toNat * 2 ^ mb + (n - 2 ^ mb)

/-- The value of the bits of such a format, infinities and NaNs aside. -/
def unpackIeee (eb mb : Nat) (w : Nat) : Fp :=
  let bias : Int := 2 ^ (eb - 1) - 1
  let neg := bitAt w (eb + mb)
  let ex := bits w (eb + mb - 1) mb
  let mant := w % 2 ^ mb
  if ex = 0 then .fin neg mant (1 - bias - mb) else .fin neg (2 ^ mb + mant) ((ex : Int) - bias - mb)

/-- An FP32 word as a number. -/
def ofF32 (w : Nat) : Fp :=
  if bits w 30 23 = 255 then (if w % 2 ^ 23 = 0 then .inf (bitAt w 31) else .nan (bitAt w 31)) else unpackIeee 8 23 w

/-- The FP32 word of a number; a NaN's payload is free (log 7). -/
def toF32 : Fp → Nat
  | .nan s => flag s * 2 ^ 31 + 0x7FC00000 + Config.nanBits.toNat % 2 ^ 22
  | .inf s => flag s * 2 ^ 31 + 0x7F800000
  | .fin s m e => packIeee 8 23 s m e

/-- A BF16 word as an operand: subnormals are zero of the same sign (R71). -/
def ofBf (w : Nat) : Fp :=
  if bits w 14 7 = 255 then (if w % 128 = 0 then .inf (bitAt w 15) else .nan (bitAt w 15))
  else if bits w 14 7 = 0 then .fin (bitAt w 15) 0 0 else unpackIeee 8 7 w

/-- The BF16 word of a number; NaN is the quiet BF16 NaN with its sign. -/
def toBfWord (x : Fp) : Nat :=
  match x.toBf with
  | .nan s => flag s * 2 ^ 15 + 0x7FC0
  | .inf s => flag s * 2 ^ 15 + 0x7F80
  | .fin s m e => packIeee 8 7 s m e

/-- An FP8 code as a number; t is 2 for E4M3, 3 for E5M2 (R71, R253). -/
def ofFp8 (t w : Nat) : Fp :=
  if t = 2 then (if w % 128 = 127 then .nan (bitAt w 7) else unpackIeee 4 3 w)
  else if bits w 6 2 = 31 then (if w % 4 = 0 then .inf (bitAt w 7) else .nan (bitAt w 7)) else unpackIeee 5 2 w

/-- FMAX of an FP8 type (R163). -/
def fp8Max (t : Nat) : Fp := if t = 2 then .fin false 448 0 else .fin false 57344 0

/-- The FP8 code of a number: one RNE rounding, saturated at ±FMAX, NaN to the type's NaN code (R163). -/
def toFp8 (t : Nat) (x : Fp) : Nat :=
  match x with
  | .nan s => flag s * 128 + (if t = 2 then 0x7F else 0x7E)
  | .inf s => flag s * 128 + (if t = 2 then 0x7E else 0x7B)
  | .fin s m e =>
    let r := if t = 2 then roundMag 4 (some (-9)) m e else roundMag 3 (some (-16)) m e
    if (fp8Max t).lt (.fin false r.1 r.2) then flag s * 128 + (if t = 2 then 0x7E else 0x7B)
    else if t = 2 then packIeee 4 3 s r.1 r.2 else packIeee 5 2 s r.1 r.2

/-- Whether quantising a number to FP8 saturates: its magnitude is above FMAX or infinite. -/
def fp8Saturates (t : Nat) (x : Fp) : Bool := !x.isNan && (fp8Max t).lt x.abs

/-- An element of a tensor as a number: FP32, BF16 or FP8. -/
def ofElem (t w : Nat) : Fp := match t with | 0 => ofF32 w | 1 => ofBf w | _ => ofFp8 t w

/-! ### Sums and the exponential -/

/-- The sum of R83: sixteen lanes by index mod 16 in ascending index, then pairwise in index order. -/
def sum16 (vs : List Fp) : Fp :=
  let lane (j : Nat) : Fp :=
    ((List.range (ceilDiv (vs.length - j) 16)).map fun i => vs.getD (16 * i + j) Fp.zero).foldl fadd Fp.zero
  let p (i : Nat) : Fp := fadd (lane (2 * i)) (lane (2 * i + 1))
  fadd (fadd (fadd (p 0) (p 1)) (fadd (p 2) (p 3))) (fadd (fadd (p 4) (p 5)) (fadd (p 6) (p 7)))

/-- The search for the largest m whose (2m − 1)^256 does not pass a bound, bit by bit. -/
def rootSearch (bound : Nat) : Nat → Nat → Nat
  | 0, m => m
  | k + 1, m => rootSearch bound k (if (2 * (m + 2 ^ k) - 1) ^ 256 ≤ bound then m + 2 ^ k else m)

/-- 2^23 × T[j] of the math table 0x01 (R84): the FP32 value nearest to 2^(j/256). -/
def expT (j : Nat) : Nat := rootSearch (2 ^ (256 * 24 + j)) 25 0

/-- exp_T (R84). -/
def expF (x : Fp) : Fp :=
  match x with
  | .nan s => .nan s
  | .inf true => Fp.zero
  | .inf false => .inf false
  | _ =>
    let y := fmul x (ofF32 0x3FB8AA3B)
    if Fp.le (.fin false 128 0) y then .inf false
    else if y.lt (.fin true 126 0) then Fp.zero
    else match y with
      | .fin s m e =>
        let k := (-e).toNat
        let v : Int := if e ≤ 0 then (if s then -(m : Int) else m) else scaled s m e 0
        let i := v / (2 ^ k : Nat)
        let f256 := (256 * (v - i * (2 ^ k : Nat))).toNat
        let j := f256 / 2 ^ k
        let g := f256 % 2 ^ k
        let t := expT j
        let r := (Fp.fin false (t * 2 ^ k + (expT (j + 1) - t) * g) (-(23 + (k : Int)))).rne
        match r with
        | .fin _ m2 e2 => finish32 false m2 (e2 + i)
        | z => z
      | z => z

end Sys2Proof.Machine
end

