-- ==== Sys2Proof/Machine/Quant.lean ====
section
/-! DEFINITION. Sys2Proof/Machine/Quant.lean: quantisation to FP8 with a power-of-two scale (R163, R173), the MXFP8 blocks of prints and
of the confluence wire (R173, R213) and stochastic rounding (R214). -/

namespace Sys2Proof.Machine

/-- The scale byte for a magnitude a: e + 127 for the smallest e with a ≤ FMAX × 2^e, clamped to −127 .. 127 (R163). -/
def scaleByte (t : Nat) (a : Fp) : Nat :=
  match (List.range 255).find? fun c => a.le ((fp8Max t).mul (.fin false 1 (((c : Nat) : Int) - 127))) with
  | some c => c
  | none => 254

/-- x × 2^−e for a scale byte. -/
def unscale (x : Fp) (c : Nat) : Fp := x.mul (.fin false 1 (127 - (c : Int)))

/-- The largest magnitude among finite values, +0 for none. -/
def maxFinite (xs : List Fp) : Fp := xs.foldl (fun a x => if x.isFinite && a.lt x.abs then x.abs else a) Fp.zero

/-- Whether an element overruns its row's scale (R163). -/
def overruns (t : Nat) (x : Fp) (c : Nat) : Bool := fp8Saturates t (unscale x c)

/-- The value of an MXFP8 E4M3 element with scale byte c (R173): a NaN code or scale 0xFF gives NaN, a result below 2^−126
flushes. -/
def mxValue (c q : Nat) : Fp :=
  if c = 255 then .nan (bitAt q 7)
  else match ofFp8 2 q with
    | .fin s m e => finish32 s m (e + ((c : Int) - 127))
    | x => x

/-- A block of 32 as the engine stores it in a print: scale byte and elements (R173). -/
def mxBlock (xs : List Fp) : Nat × List Nat :=
  let c := scaleByte 2 (maxFinite xs)
  (c, xs.map fun x => toFp8 2 (unscale x c))

/-- ⌊(a / b) × 2^24⌋ for magnitudes. -/
def ratio24 (a b : Fp) : Nat :=
  match a, b with
  | .fin _ m e, .fin _ n f =>
    let k := e - f + 24
    if 0 ≤ k then m * 2 ^ k.toNat / max n 1 else m / (max n 1 * 2 ^ (-k).toNat)
  | _, _ => 0

/-- The 24-bit draw of R214. -/
def srDraw (i p callSeq : Nat) (seed : W64) : Nat :=
  let key : W64 := BitVec.ofNat 64 (Nat.lor (Nat.lor i (p * 2 ^ 31)) (callSeq % 2 ^ 23 * 2 ^ 41))
  let z := key ^^^ seed
  let z := (z ^^^ (z >>> 30)) * 0xBF58476D1CE4E5B9
  let z := (z ^^^ (z >>> 27)) * 0x94D049BB133111EB
  let z := z ^^^ (z >>> 31)
  (z >>> 40).toNat

/-- An E4M3 code by stochastic rounding with draw u (R214). -/
def srCode (x : Fp) (c u : Nat) : Nat :=
  let v := (unscale x c).abs
  let lo := ((List.range 0x7F).filter fun q => (ofFp8 2 q).le v).length - 1
  let l := ofFp8 2 lo
  let f := if lo = 0x7E then 0 else ratio24 (v.add l.neg) ((ofFp8 2 (lo + 1)).add l.neg)
  flag x.sign * 128 + (if u < f then lo + 1 else lo)

/-- A block of the confluence wire (R213, R214): infinities and NaNs are 0x7F with their sign; u gives the draw of each
element where ROUND is 1. -/
def wireBlock (xs : List Fp) (u : Option (Nat → Nat)) : Nat × List Nat :=
  let c := scaleByte 2 (maxFinite xs)
  (c, (xs.zipIdx).map fun e =>
    if !e.1.isFinite then flag e.1.sign * 128 + 0x7F
    else match u with
      | none => toFp8 2 (unscale e.1 c)
      | some f => srCode e.1 c (f e.2))

end Sys2Proof.Machine
end

