-- ==== Sys2Proof/Machine/Groups.lean ====
section
/-! DEFINITION. Sys2Proof/Machine/Groups.lean: confluence groups (R202 to R205, R229), their trees (R209), the local sum and the
encodings of a call (R212 to R216) and the packets of a call (R217 to R219). -/

namespace Sys2Proof.Machine

/-! ### Groups -/

/-- N, GROUP and the members of a group record (R203). -/
def grN (b : Bytes) : Nat := field b 8 2
def grSlot (b : Bytes) : Nat := field b 0xA 1
def grMembers (b : Bytes) : List Nat := words (b.drop 0x40) 2 (grN b)

/-- Strictly ascending. -/
def ascending : List Nat → Bool
  | a :: b :: t => decide (a < b) && ascending (b :: t)
  | _ => true

/-- Whether a group record keeps R203. -/
def groupRecordOk (b : Bytes) (self : Nat) : Bool :=
  decide (1 ≤ grN b ∧ grN b ≤ 1024) && decide (grSlot b ≤ 63) && field b 0 8 == crc64 (b.drop 0x40) && zeroAt b 0xB 5 &&
  zeroAt b 0x18 40 && ascending (grMembers b) && (grMembers b).all (fun m => decide (m < 1024)) && (grMembers b).contains self

/-- GROUP, FORMAT, DEST_MASK and SIZE_4K of a CONFLUENCE. -/
def cfGroup (raw : BitVec 512) : Nat := cmdField raw 24 1
def cfFmt (raw : BitVec 512) : Nat := cmdField raw 25 1
def cfMask (raw : BitVec 512) : Nat := cmdField raw 26 1
def cfSize (raw : BitVec 512) : Nat := cmdField raw 28 4

/-- Whether a group has a call in progress or waiting, a CONFLUENCE that has passed its checks and not issued among them (R203). -/
def State.groupBusy (s : State) (g : Nat) : Bool :=
  !(s.group g).calls.isEmpty ||
  s.ctxs.any fun e => e.2.heads.any fun h => match h.2.cmd with
    | none => false
    | some m => cmdOp m.raw == 0x22 && cfGroup m.raw == g

/-- GROUP_DEFINE (R202, R203). -/
def State.groupDefine (s : State) (cmd : Command) : Verdict :=
  match s.readStruct cmd (cmdAddr cmd.raw) 64 with
  | none => .fail stBoundsFault 0 0
  | some h =>
    if grN h = 0 ∨ 1024 < grN h then .fail stGroupInvalid 0 0
    else match s.readStruct cmd (cmdAddr cmd.raw) (64 + up64 (2 * grN h)) with
      | none => .fail stBoundsFault 0 0
      | some b =>
        if !groupRecordOk b s.self || s.groupBusy (grSlot b) then .fail stGroupInvalid 0 0
        else
          let g := { Group.undefined with defined := true, members := grMembers b, tag := BitVec.ofNat 64 (field b 0 8),
                                          srSeed := BitVec.ofNat 64 (field b 0x10 8) }
          .done (s.modGroup (grSlot b) fun _ => s.formGroup g) []

/-- GROUP_DEFINE (R203). -/
def execGroupDefine (c : CtxId) (q : RingId) (s : State) : Host.Outcome State Fault Refusal :=
  .next (s.controlRow c.val q.val 0x07 always State.groupDefine)

/-- GROUP_DELETE (R202): a slot that holds no group, or whose group has a call, is GROUP_INVALID (log 18). -/
def State.groupDelete (s : State) (cmd : Command) : Verdict :=
  let g := cmdField cmd.raw 24 1
  if 63 < g then .fail stCommandInvalid 0 0
  else if !(s.group g).defined || s.groupBusy g then .fail stGroupInvalid 0 0
  else .done { s with groups := s.groups.erase (· == g) } []

/-- GROUP_DELETE (R202). -/
def execGroupDelete (c : CtxId) (q : RingId) (s : State) : Host.Outcome State Fault Refusal :=
  .next (s.controlRow c.val q.val 0x08 always State.groupDelete)

/-! ### Trees (R209) -/

/-- The largest power of two that is at most n. -/
def treeRoot (n : Nat) : Nat := 2 ^ n.log2
/-- The lowest set bit of a position. -/
def lowBit (x : Nat) : Nat := 2 ^ ((List.range 11).find? (bitAt x)).getD 0
/-- up(x) of R209. -/
def treeUp (n : Nat) : Nat → Nat → Option Nat
  | 0, _ => none
  | fuel + 1, x =>
    if x = treeRoot n then none
    else
      let b := lowBit x
      let p := if bitAt (x / (2 * b)) 0 then x - b else x + b
      if p ≤ n then some p else treeUp n fuel p
/-- epos or wpos of the member at index i of n (R209). -/
def treePos (tree n i : Nat) : Nat := if tree = 0 then i + 1 else if n % 2 = 0 then n - i else (i + 1) % n + 1
/-- Index of a member in a live list. -/
def liveIndex (live : List Nat) (m : Nat) : Nat := (live.findIdx? (· == m)).getD live.length
/-- Position of a member in a tree. -/
def posOf (live : List Nat) (tree m : Nat) : Nat := treePos tree live.length (liveIndex live m)
/-- The parent of a member in a tree; none for the root. -/
def parentOf (live : List Nat) (tree m : Nat) : Option Nat :=
  (treeUp live.length 11 (posOf live tree m)).bind fun p => live.find? fun k => posOf live tree k == p
/-- The children of a member in a tree, lower position first. -/
def childrenOf (live : List Nat) (tree m : Nat) : List Nat :=
  let cs := live.filter fun k => parentOf live tree k == some m
  match cs with
  | [a, b] => if posOf live tree a ≤ posOf live tree b then [a, b] else [b, a]
  | l => l

/-! ### Arithmetic (R212 to R216) -/

/-- ELEM_TYPE, LOCAL_TYPE, WIRE and ROUND of a call's FORMAT. -/
def fmBf (f : Nat) : Bool := bitAt f 0
def fmLocalBf (f : Nat) : Bool := bitAt f 1
def fmMx (f : Nat) : Bool := bitAt f 2
def fmRound (f : Nat) : Bool := bitAt f 3
/-- Bytes of an element. -/
def fmEs (f : Nat) : Nat := if fmBf f then 2 else 4
/-- Elements of a call. -/
def Call.count (k : Call) : Nat := k.sizeBlocks * 4096 / fmEs k.format
/-- Slabs of each half (R208). -/
def Call.slabs (k : Call) : Nat := k.count / 2 / 512
/-- First element of slab j of a tree's half. -/
def Call.slabAt (k : Call) (tree j : Nat) : Nat := tree * (k.count / 2) + 512 * j

/-- Address of element t of a call's tensor: of a structure by its bytes. -/
def sumAddr (d : Bytes) (es t : Nat) : Nat := if dsElem d = 0xA then dsBase d + es * t else dsAddr d t

/-- An operand of a call: the command that holds its list, the region, the entry. -/
abbrev SumAt := Command × Nat × Nat

/-- Element t of an operand. -/
def State.sumRead (s : State) (f t : Nat) (a : SumAt) : Fp :=
  let bs := (s.readCtx a.1.windows a.2.1 (sumAddr (descAt a.1.list a.2.2) (fmEs f) t) (fmEs f)).getD []
  if fmBf f then ofBf (leNat bs) else ofF32 (leNat bs)

/-- The local sum of element t over operands in ascending region (R212). -/
def State.localSum (s : State) (f t : Nat) (srcs : List SumAt) : Fp :=
  srcs.foldl (fun acc a => if fmLocalBf f then (acc.add (s.sumRead f t a)).toBf else fadd acc (s.sumRead f t a)) Fp.zero

/-- Bytes of the pad channels behind element t of a tensor of es-byte elements (R255). -/
def padBehind (d : Bytes) (es t : Nat) : Nat :=
  let C := dsSize d 0
  if dsLayout d = 1 ∧ t % max C 1 + 1 = C then es * (32 * ceilDiv C 32 - C) else 0

/-- The state with element t of an operand written (R216), and +0 in the pad channels behind it (R255). -/
def State.sumWrite (s : State) (f t : Nat) (v : Fp) (a : SumAt) : State :=
  let bs := if fmBf f then leBytes 2 (toBfWord v) else leBytes 4 (toF32 v)
  let d := descAt a.1.list a.2.2
  (s.writeCtx a.1.windows a.2.1 (sumAddr d (fmEs f) t) (bs ++ zeros (padBehind d (fmEs f) t))).getD s

/-- The state with free values over every element of an operand: an aborted call leaves it undefined (R228). -/
def State.sumScribble (s : State) (f n : Nat) (a : SumAt) : State :=
  (List.range n).foldl (fun s t =>
    let s1 := s.drew
    (s1.writeCtx a.1.windows a.2.1 (sumAddr (descAt a.1.list a.2.2) (fmEs f) t) (leBytes (fmEs f) s.freeVal.toNat)).getD s1) s

/-- A slab on the wire (R213, R214, R218); pos is the sender's live-list index, first the slab's first element. -/
def encodeSlab (f first pos callSeq : Nat) (seed : W64) (vs : List Fp) : Bytes :=
  if fmMx f then
    let bs := (List.range (ceilDiv vs.length 32)).map fun b =>
      wireBlock ((vs.drop (32 * b)).take 32)
        (if fmRound f then some fun i => srDraw (first + 32 * b + i) pos callSeq seed else none)
    bs.flatMap (fun b => leBytes 1 b.1) ++ bs.flatMap fun b => b.2.flatMap (leBytes 1 ·)
  else vs.flatMap fun v => leBytes 2 (toBfWord v)

/-- A slab's values (R213). -/
def decodeSlab (f : Nat) (bs : Bytes) : List Fp :=
  if fmMx f then (List.range 512).map fun i => mxValue (field bs (i / 32) 1) (field bs (16 + i) 1)
  else (List.range 512).map fun i => ofBf (field bs (2 * i) 2)

/-! ### Packets (R217 to R219) -/

/-- Bytes 8 to 31 of an arm packet: the signature (R217). -/
def callSignature (g : Group) (k : Call) : Bytes :=
  build 24 [(0, 4, g.callSeq), (4, 4, g.epoch), (8, 8, g.tag.toNat), (16, 8, k.format * 2 ^ 26 + k.sizeBlocks)]
/-- An arm (0x10) or verdict (0x11) packet. -/
def armBytes (kind tree : Nat) (bit9 : Bool) (g self diff : Nat) (sig : Bytes) : Bytes :=
  leBytes 8 (kind + tree * 2 ^ 8 + flag bit9 * 2 ^ 9 + g * 2 ^ 10 + self * 2 ^ 16 + diff * 2 ^ 26) ++ sig ++ zeros 32
/-- A data packet (R218). -/
def dataBytes (f tree dir g self seq epoch slab : Nat) (payload : Bytes) : Bytes :=
  leBytes 8 (0x12 + tree * 2 ^ 8 + dir * 2 ^ 9 + g * 2 ^ 10 + self * 2 ^ 16 + flag (fmMx f) * 2 ^ 26) ++
  leBytes 8 (slab + seq * 2 ^ 32) ++ leBytes 8 epoch ++ zeros 8 ++ payload
/-- A control packet (R219). -/
def cfControl (kind tree dir g w0 seq epoch slabs : Nat) : Bytes :=
  leBytes 8 (kind + tree * 2 ^ 8 + dir * 2 ^ 9 + g * 2 ^ 10 + w0) ++ leBytes 4 seq ++ leBytes 4 epoch ++ leBytes 16 slabs

/-- Fields that every confluence packet has in bytes 0 to 7. -/
def pkWord (p : Bytes) : Nat := field p 0 8
def pkTree (p : Bytes) : Nat := bits (pkWord p) 8 8
def pkDir (p : Bytes) : Nat := bits (pkWord p) 9 9
def pkGroup (p : Bytes) : Nat := bits (pkWord p) 15 10
def pkMember (p : Bytes) : Nat := bits (pkWord p) 25 16
def pkMember2 (p : Bytes) : Nat := bits (pkWord p) 35 26
def pkKind (p : Bytes) : Nat := field p 0 1
/-- CALL_SEQ of a packet. -/
def pkSeq (p : Bytes) : Nat := if pkKind p = 0x12 then field p 12 4 else field p 8 4
/-- GROUP_EPOCH of a packet. -/
def pkEpoch (p : Bytes) : Nat := if pkKind p = 0x12 then field p 16 4 else field p 12 4

end Sys2Proof.Machine
end

