-- ==== Sys2Proof/WellFormed.lean ====
section
/-! DEFINITION. Sys2Proof/WellFormed.lean: which operands fit the signal or the structure that carries them. A command whose
operand does not fit cannot reach the block. -/

namespace Sys2Proof

/-- A frame carries at most 15,360 data bytes (R365). -/
def frameFits (data : Bytes) : Bool := decide (data.length ≤ 15360)
/-- An edge flit carries at most 256 data bytes (R377). -/
def flitFits (data : Bytes) : Bool := decide (data.length ≤ 256)
/-- A packet is 1 to 4,160 bytes long (R366). -/
def packetFits (pkt : Bytes) : Bool := !pkt.isEmpty && decide (pkt.length ≤ 4160)
/-- A tile is a whole number of 64-byte units, at least one (R457). -/
def tileFits (units : Bytes) : Bool := !units.isEmpty && units.length % 64 == 0
/-- Training results give LANE_EQ of the four lanes (R395). -/
def lanesFit (res : LinkTrainResult) : Bool := res.eq.length == 4
/-- Self-test results are of at most eight regions (R1). -/
def testsFit (res : BringupResult) : Bool := decide (res.tests.length ≤ 8)
/-- The boundary register's cells fit 1,024 bytes: more than the single-ended signals of R448 need. -/
def wbrFits (bits : Bytes) : Bool := decide (bits.length ≤ 1024)

/-- A fault of the scoring array names one of its physical columns, 0 to 257 (R90). -/
def columnFits (bad : Option ArrayBad) : Bool := match bad with | none => true | some b => decide (b.column.toNat ≤ 257)

/-- Whether every operand of a command fits. -/
def wellFormed : Instr → Bool
  | .armPacket _ _ k | .verdictPacket _ _ k | .dataPacket _ _ k | .confluenceCredit _ _ k | .failPacket _ _ k
  | .keepalivePacket _ _ k | .space _ _ k | .ident _ _ k | .width _ _ k | .widthAck _ _ k | .relay _ _ k
  | .announce _ _ k | .propose _ _ k | .accept _ _ k | .holding _ _ k | .commit _ _ k | .landing _ _ k
  | .creditReturn _ _ k | .probe _ _ k _ => packetFits k
  | .frameReceive _ _ f => frameFits f.data
  | .edgeFlitReceive _ _ _ d => flitFits d
  | .expertOutputTile _ _ u _ | .extScoreBlock _ _ u _ => tileFits u
  | .linkTrainStep _ _ res => lanesFit res
  | .bringupStep res => testsFit res
  | .wsExtest _ b | .wsIntest _ b | .scan _ b => wbrFits b
  | .stageLoad _ _ b | .score _ _ b => columnFits b
  | _ => true

end Sys2Proof
end

