-- ==== Sys2Proof/Machine/Calls.lean ====
section
/-! DEFINITION. Sys2Proof/Machine/Calls.lean: the confluence call at one member (R206, R220 to R228, R346): validation and issue, the arm
phase, the slabs, failures and re-forming. The call in progress on a group is the first of its list. -/

namespace Sys2Proof.Machine

/-! ### Operands -/

/-- The operations of a running set's confluence units in each region: region and entry, of those with a given opcode that wait
for the call. -/
def State.fusedOps (s : State) (seq : W32) (op : Nat) : List SumAt :=
  match s.run? seq with
  | none => []
  | some x => x.regions.filterMap fun e =>
      (e.2.busy.find? fun b => b.unit == 11 && b.opcode == op && b.ends.isNone).map fun b => (x.cmd, e.1, (e.2.opOf b).desc)

/-- Sources of a call in ascending region: those of its command, or those that the confluence operation op of its set names. -/
def State.callSources (s : State) (k : Call) (op : Nat) : List SumAt :=
  match k.cmd, k.run with
  | some m, _ => s.live.map fun r => (m, r, 2 * r)
  | none, some seq => s.fusedOps seq op
  | none, none => []

/-- Destinations of a call. -/
def State.callDests (s : State) (k : Call) (op : Nat) : List SumAt :=
  match k.cmd, k.run with
  | some m, _ => (s.live.filter (bitAt k.destMask)).map fun r => (m, r, 2 * r + 1)
  | none, some seq => (s.fusedOps seq op).map fun a => (a.1, a.2.1, a.2.2 + 1)
  | none, none => []

/-- The regions of a set whose images have a confluence operation with an opcode on a group. -/
def Run.confluers (x : Run) (g op : Nat) : List Nat :=
  (x.regions.filter fun e => e.2.image.ops.any fun f => f.2.slot == 9 && f.2.op == op && f.2.group == g).map (·.1)

/-- Whether every region of a set that has a confluence operation with an opcode on group g is in it now; for a CF_GLOBAL also that
its TREE takes the tree in (R65). -/
def State.together (s : State) (seq : W32) (g op tree : Nat) : Bool :=
  match s.run? seq with
  | none => false
  | some x => (x.confluers g op).all fun r =>
      match x.regions.get? r with
      | none => false
      | some q => q.busy.any fun b => b.unit == 11 && b.opcode == op && b.ends.isNone && (q.opOf b).group == g &&
          (op != 3 || (q.opOf b).tree == 0 || (q.opOf b).tree == tree + 1)

/-- L over all elements of a call (R212); a call whose context was torn down before its data was read sends free values (log 7). -/
def State.sumLocal (s : State) (k : Call) (op : Nat) : State × List W32 :=
  let srcs := s.callSources k op
  if srcs.isEmpty then
    ({ s with freeCtr := s.freeCtr + k.count },
     (List.range k.count).map fun t => BitVec.ofNat 32 (Config.freeBits (s.freeCtr + t)).toNat)
  else (s, (List.range k.count).map fun t => BitVec.ofNat 32 (toF32 (s.localSum k.format t srcs)))

/-- Write values from element t on at every destination of a call. -/
def State.writeDests (s : State) (k : Call) (op t : Nat) (vs : List Fp) : State :=
  let dests := s.callDests k op
  (vs.zipIdx).foldl (fun s e => dests.foldl (fun s a => s.sumWrite k.format (t + e.2) e.1 a) s) s

/-! ### The call's end -/

/-- The state with the first call of a group changed. -/
def State.modCall (s : State) (g : Nat) (f : Call → Call) : State :=
  s.modGroup g fun x => match x.calls with | [] => x | k :: t => { x with calls := f k :: t }

/-- The operation with which a region takes part in a call of group g: its confluence unit's, where it has no end yet. -/
def RegionRun.callOp (q : RegionRun) (g : Nat) : Option Busy :=
  q.busy.find? fun b => b.unit == 11 && b.ends.isNone && (q.opOf b).group == g

/-- Give the open confluence operations of a set on group g their end in every region: the tc that the region has reached. -/
def State.endOpen (s : State) (seq : W32) (g op : Nat) : State :=
  match s.run? seq with
  | none => s
  | some x => x.regions.foldl (fun s e =>
      s.modRR seq e.1 fun q =>
        { q with busy := q.busy.map fun b =>
            if b.unit == 11 && b.opcode == op && b.ends.isNone && (q.opOf b).group == g then
              { b with ends := some (max b.issue (s.region e.1).tc) }
            else b }) s

/-- Halt a set in every region that takes part in a call of group g, a mask: with the bundle of the operation that is in it, or with the
last bundle that issued where none is (R62; log 19). -/
def State.haltOpen (s : State) (seq : W32) (g mask code : Nat) : State :=
  match s.run? seq with
  | none => s
  | some x => (x.regions.filter fun e => bitAt mask e.1).foldl (fun s e =>
      match e.2.callOp g with
      | none => s.haltRegion seq e.1 code (s.region e.1).tc
      | some b =>
        let tc := max b.issue (s.region e.1).tc
        (s.modRR seq e.1 (·.stop b tc)).halt seq e.1 code b.bundle 9 tc) s

/-- The first call of a group ends: its command completes with a status, or the operations of its set end; RESULT carries the
GROUP_EPOCH and FIRST_DIFF (R346). -/
def State.dropCall (s : State) (g status diff : Nat) : State :=
  let x := s.group g
  match x.calls with
  | [] => s
  | k :: t =>
    let s1 := s.modGroup g fun x => { x with calls := t }
    match k.cmd, k.run with
    | some m, _ =>
      let e := plainEnd m status 0 0 (some k.issue) 0 (fit 24 (leBytes 4 x.epoch ++ leBytes 2 diff))
      s1.ends [{ e with flags := flag k.nonfinite * 2 ^ flNonfiniteSum + flag k.lit * 2 ^ flSafelight }]
    | none, some seq =>
      if status = stSuccess then
        let s2 := (s1.endOpen seq g 1).endOpen seq g 3
        if k.nonfinite then s2.modRun seq fun y =>
          { y with regions := y.regions.map fun e => (e.1, { e.2 with flags := setFlag e.2.flags flNonfiniteSum }) } else s2
      else s1.haltOpen seq g k.destMask status
    | none, none => s1

/-- A re-form that waited for the call in progress (R205). -/
def State.lateReform (s : State) (g : Nat) : State := s.modGroup g s.reformed

/-- The first call of a group completes without a failure: CALL_SEQ advances (R221, R222). -/
def State.finishCall (s : State) (g status diff : Nat) : State :=
  let s1 := s.dropCall g status diff
  let s2 := s1.modGroup g fun x => { x with callSeq := (x.callSeq + 1) % 2 ^ 32, early := [] }
  let s3 := if status = stSuccess then s2.bumpF pgConfluence Fld.CALL_COUNT_COUNT 1
    else (s2.bumpF pgConfluence Fld.MISMATCH_COUNT_COUNT 1).contain pgConfluence 1
  s3.lateReform g

/-! ### Data movement (R223, R224) -/

/-- Slabs of credit toward a neighbour. -/
def Call.creditOf (k : Call) (tree dir m : Nat) : Nat :=
  match k.credit.find? fun c => c.1 == tree && c.2.1 == dir && c.2.2.1 == m with | none => 32 | some c => c.2.2.2
/-- The call with the credit toward a neighbour set. -/
def Call.setCredit (k : Call) (tree dir m n : Nat) : Call :=
  { k with credit := (k.credit.filter fun c => !(c.1 == tree && c.2.1 == dir && c.2.2.1 == m)) ++ [(tree, dir, m, n)] }

/-- Send a slab to a neighbour, or hold it for credit. -/
def State.sendSlab (s : State) (g tree dir m : Nat) (pkt : Bytes) : State :=
  match (s.group g).calls with
  | [] => s
  | k :: _ =>
    let n := k.creditOf tree dir m
    if n = 0 then s.modCall g fun k => { k with waiting := k.waiting ++ [(tree, dir, m, pkt)] }
    else (s.modCall g fun k => k.setCredit tree dir m (n - 1)).sendMember m 0 pkt

/-- A result slab reaches this member: written at its destinations and sent on to its children unchanged (R215, R223). -/
def State.resultSlab (s : State) (g tree j : Nat) (payload : Bytes) : State :=
  let x := s.group g
  match x.calls with
  | [] => s
  | k :: _ =>
    let vs := decodeSlab k.format payload
    let s1 := s.writeDests k 3 (k.slabAt tree j) vs
    let s2 := s1.modCall g fun k =>
      { k with done := k.done.set tree (j + 1), nonfinite := k.nonfinite || vs.any fun v => !v.isFinite }
    (childrenOf x.live tree s.self).foldl (fun s c =>
      s.sendSlab g tree 1 c (dataBytes k.format tree 1 g s.self x.callSeq x.epoch j payload)) s2

/-- Form the next slabs of a tree's half as far as the children's slabs allow (R215, R223); while a region resets a call sees no local
data (R411). -/
def State.formSlabs (s : State) (g tree : Nat) : Nat → State
  | 0 => s
  | fuel + 1 =>
    let x := s.group g
    match x.calls with
    | [] => s
    | k :: _ =>
      let j := k.nextUp.getD tree 0
      let cs := childrenOf x.live tree s.self
      let got := cs.map fun c => (k.up.find? fun u => u.1 == tree && u.2.1 == c && u.2.2.1 == j).map fun u => (c, u.2.2.2)
      let ready := match k.run with | none => s.regions.all (fun e => e.2.health != 2) | some seq => s.together seq g 3 tree
      if k.local_.isEmpty || k.verdicts.get? tree != some true || !bitAt k.trees tree || decide (k.slabs ≤ j) || got.any (·.isNone) ||
          !ready then s
      else
        let first := k.slabAt tree j
        let pos := posOf x.live tree s.self
        let parts := got.filterMap id
        let vs := (List.range 512).map fun i =>
          let of (p : Nat × List W32) : Fp := ofF32 (p.2.getD i 0).toNat
          let lower := (parts.filter fun p => decide (posOf x.live tree p.1 < pos)).map of
          let upper := (parts.filter fun p => decide (pos < posOf x.live tree p.1)).map of
          (lower ++ [ofF32 (k.local_.getD (first + i) 0).toNat] ++ upper).foldl fadd Fp.zero
        let payload := encodeSlab k.format first (liveIndex x.live s.self) x.callSeq x.srSeed vs
        let s1 := s.modCall g fun k =>
          { k with nextUp := k.nextUp.set tree (j + 1), up := k.up.filter fun u => !(u.1 == tree && u.2.2.1 == j) }
        let s2 := match parentOf x.live tree s.self with
          | some p => s1.sendSlab g tree 0 p (dataBytes k.format tree 0 g s.self x.callSeq x.epoch j payload)
          | none => s1.resultSlab g tree j payload
        s2.formSlabs g tree fuel

/-- A half is through: its last slab has been written, and none of it is held for credit any more (R222, R224; log 122). -/
def Call.through (k : Call) (t : Nat) : Bool := k.done.getD t 0 == k.slabs && !k.waiting.any fun w => w.1 == t

/-- Every half that the call's trees carry is through. -/
def Call.complete (k : Call) : Bool := k.trees != 0 && (List.range 2).all fun t => !bitAt k.trees t || k.through t

/-- The CF_GLOBALs of a fused call on group g end whose halves are through (R65). -/
def State.endGlobals (s : State) (g : Nat) (k : Call) : State :=
  match k.run.bind s.run? with
  | none => s
  | some x => x.regions.foldl (fun s e =>
      s.modRR x.cmd.seq e.1 fun q =>
        { q with busy := q.busy.map fun b =>
            let half (t : Nat) : Bool := (q.opOf b).tree == 2 - t || k.through t
            if b.unit == 11 && b.opcode == 3 && b.ends.isNone && (q.opOf b).group == g && half 0 && half 1 then
              { b with ends := some (max b.issue (s.region e.1).tc) }
            else b }) s

/-! ### Deadlines of confluence operations (R65) -/

/-- A confluence operation of region r has reached its TIMEOUT, in cycle tc: the call falls silent, a CF_GLOBAL leaves its destinations
undefined, and the plate halts (R65, R230). -/
def State.silence (s : State) (seq : W32) (r g : Nat) (b : Busy) (tc : Nat) : State :=
  let s1 := match (s.group g).calls.find? fun k => k.run == some seq with
    | some k => if b.opcode = 3 then (s.callDests k 3).foldl (fun (s : State) a => s.sumScribble k.format k.count a) s else s
    | none => s
  let s2 := s1.modGroup g (s1.without seq)
  ((s2.reach r tc).modRR seq r (·.stop b tc)).halt seq r stConfluenceTimeout b.bundle 9 tc

/-- The region of a call whose operation has passed its deadline, with the operation and the deadline. -/
def State.overdue (s : State) (g : Nat) (k : Call) : Option (W32 × Nat × Busy × Nat) :=
  (k.run.bind s.run?).bind fun x => x.regions.findSome? fun e =>
    (e.2.callOp g).bind fun b => b.due.bind fun d => if d < (s.region e.1).tc then some (x.cmd.seq, e.1, b, d) else none

/-- The data phase moves on: slabs form, and a call whose last slab is written is done (R222); what comes after the deadline of an
operation in it comes too late (R65, R242). -/
def State.advanceCall (s : State) (g : Nat) : State :=
  match (s.group g).calls with
  | [] => s
  | k :: _ =>
    if k.phase != 2 then s
    else match s.overdue g k with
    | some (seq, r, b, d) => s.silence seq r g b d
    | none =>
      let s1 := (s.formSlabs g 0 (k.slabs + 1)).formSlabs g 1 (k.slabs + 1)
      match (s1.group g).calls with
      | [] => s1
      | k1 :: _ => if k1.complete then s1.finishCall g stSuccess 0 else s1.endGlobals g k1

/-- The call of a group of one member: every destination gets L (R215). -/
def State.soloCall (s : State) (g op : Nat) : State :=
  match (s.group g).calls with
  | [] => s
  | k :: _ =>
    let (s1, l) := s.sumLocal k op
    let vs := l.map fun v => ofF32 v.toNat
    (s1.writeDests k op 0 vs).modCall g fun k => { k with nonfinite := k.nonfinite || vs.any fun v => !v.isFinite }

/-! ### The arm phase (R220, R221) -/

/-- Whether the children of this member in a tree have all armed. -/
def armed (x : Group) (k : Call) (tree self : Nat) : Bool :=
  (childrenOf x.live tree self).all fun c => k.arms.any fun a => a.1 == tree && a.2.1 == c

/-- The first difference that the children's arm packets show, in ascending position: none when all match (R220). -/
def firstDiffOf (x : Group) (k : Call) (tree self : Nat) : Option Nat :=
  (childrenOf x.live tree self).findSome? fun c =>
    match k.arms.find? fun a => a.1 == tree && a.2.1 == c with
    | none => none
    | some a => if !a.2.2.1 then some a.2.2.2.1 else if a.2.2.2.2 != callSignature x k then some c else none

/-- The data of a call may move: L is formed, at the first GO, for a command; for a fused call by its own operations. -/
def State.startData (s : State) (g : Nat) : State :=
  match (s.group g).calls with
  | [] => s
  | k :: _ =>
    let s0 := s.modCall g fun k => { k with phase := 2 }
    match k.run with
    | some seq =>
      match s.overdue g k with
      | some (seq, r, b, d) => s.silence seq r g b d
      | none => (if (List.range 2).all fun t => k.verdicts.get? t == some true then s0.endOpen seq g 1 else s0).advanceCall g
    | none =>
      if k.local_.isEmpty then
        let (s1, l) := s0.sumLocal k 3
        (s1.modCall g fun k => { k with local_ := l }).advanceCall g
      else s0.advanceCall g

/-- A verdict on a tree: it goes on down the tree; GO starts the half, MISMATCH completes the call (R220, R221). -/
def State.verdict (s : State) (g tree : Nat) (go : Bool) (diff : Nat) : State :=
  let x := s.group g
  match x.calls with
  | [] => s
  | k :: _ =>
    let s1 := (childrenOf x.live tree s.self).foldl (fun s c =>
      s.sendMember c 0 (armBytes 0x11 tree (!go) g s.self diff (callSignature x k))) s
    if !go then s1.finishCall g stSignatureMismatch diff
    else
      let s2 := s1.modCall g fun k => { k with verdicts := k.verdicts.set tree true }
      if k.phase = 3 then s2 else s2.startData g

/-- A member whose children have armed sends its own signature up, or as root the verdict down (R220). -/
def State.tryArm (s : State) (g tree : Nat) : State :=
  let x := s.group g
  match x.calls with
  | [] => s
  | k :: _ =>
    if k.phase != 1 && k.phase != 2 || !armed x k tree s.self || k.verdicts.get? tree != none then s
    else
      let diff := firstDiffOf x k tree s.self
      match parentOf x.live tree s.self with
      | some p => s.sendMember p 0 (armBytes 0x10 tree diff.isNone g s.self (diff.getD 0) (callSignature x k))
      | none => s.verdict g tree diff.isNone (diff.getD 0)

/-- The first call of a group starts its in-package arm (R220, R222): alone, the whole call runs to its end (R225). -/
def State.armCall (s : State) (g : Nat) : State :=
  let x := s.group g
  match x.calls with
  | [] => s
  | k :: _ =>
    let joined := match k.run.bind s.run? with | none => k.run.isNone | some y => (y.confluers g 1).all (bitAt k.destMask)
    if k.phase != 0 || x.reform || x.state != 1 || !joined then s
    else
      let s1 := (s.modCall g fun k => { k with phase := 1, arms := x.early }).modGroup g fun x => { x with early := [] }
      if 1 < x.live.length then (s1.tryArm g 0).tryArm g 1
      else match k.run with
        | some _ => s1.modCall g fun k => { k with phase := 2 }
        | none =>
          let s2 := s1.soloCall g 3
          (s2.reach s2.leader (k.issue + 2408 + 13 * k.sizeBlocks)).finishCall g stSuccess 0

/-- CALL_ARM (R222): a waiting call starts its arm once the call before it has completed and no re-form is pending. -/
def execCallArm (g : GroupId) (s : State) : Host.Outcome State Fault Refusal := .next (s.armCall g.val)

/-! ### Packets of a call -/

/-- Whether a packet is of the group's call in progress or of the one that arms next (R219). -/
def State.callPacket (s : State) (pkt : Bytes) : Bool :=
  let x := s.group (pkGroup pkt)
  x.defined && pkEpoch pkt == x.epoch && pkSeq pkt == x.callSeq && (x.state == 1 || x.state == 2)

/-- A packet of no current call is discarded (R219). -/
def State.stalePacket (s : State) : State := s.bumpF pgConfluence Fld.STALE_COUNT_COUNT 1

/-- The call heard from a neighbour: its watchdog starts again (R226). -/
def State.heard (s : State) (g m : Nat) : State := s.modCall g fun k => { k with heard := k.heard.set m s.tcNow }

/-- An arm packet from a child (R220). -/
def State.armPacket (s : State) (pkt : Bytes) : State :=
  let g := pkGroup pkt
  let x := s.group g
  if !s.callPacket pkt || x.state == 2 then s.stalePacket
  else
    let e := (pkTree pkt, pkMember pkt, bitAt (pkWord pkt) 9, pkMember2 pkt, (pkt.drop 8).take 24)
    match x.calls with
    | k :: _ =>
      if k.phase = 0 then s.modGroup g fun x => { x with early := x.early ++ [e] }
      else if k.arms.any fun a => a.1 == e.1 && a.2.1 == e.2.1 then s.heard g e.2.1
      else ((s.modCall g fun k => { k with arms := k.arms ++ [e] }).heard g e.2.1).tryArm g e.1
    | [] => s.modGroup g fun x => { x with early := x.early ++ [e] }

/-- A verdict from the parent (R220, R221); one that comes in the tc of a FAIL is applied before it (R222): a GO goes on down the tree of
a call that is aborted all the same, a MISMATCH completes it. -/
def State.verdictPacket (s : State) (pkt : Bytes) : State :=
  let g := pkGroup pkt
  let x := s.group g
  match x.calls with
  | k :: _ =>
    let first := k.phase == 3 && k.aborted == some s.tcNow
    if !s.callPacket pkt || (k.phase != 1 && k.phase != 2 && !first) || (k.verdicts.get? (pkTree pkt)).isSome then s.stalePacket
    else (s.heard g (pkMember pkt)).verdict g (pkTree pkt) (!bitAt (pkWord pkt) 9) (pkMember2 pkt)
  | [] => s.stalePacket

/-- A data slab, up from a child or down from the parent (R223); the slab's credit returns to its sender (R224). -/
def State.dataPacket (s : State) (pkt : Bytes) : State :=
  let g := pkGroup pkt
  let x := s.group g
  let tree := pkTree pkt
  let m := pkMember pkt
  let j := field pkt 8 4
  match x.calls with
  | k :: _ =>
    if !s.callPacket pkt || (k.phase != 1 && k.phase != 2) then s.stalePacket
    else
      let s1 := (s.heard g m).sendMember m 0 (cfControl 0x13 tree (pkDir pkt) g (s.self * 2 ^ 16) x.callSeq x.epoch 1)
      let payload := pkt.drop 32
      if pkDir pkt = 0 then
        let vs := (decodeSlab k.format payload).map fun v => BitVec.ofNat 32 (toF32 v)
        (s1.modCall g fun k => { k with up := k.up ++ [(tree, m, j, vs)] }).advanceCall g
      else (s1.resultSlab g tree j payload).advanceCall g
  | [] => s.stalePacket

/-- Slabs that wait for credit toward a neighbour go while there is credit (R224). -/
def State.flushSlabs (s : State) (g tree dir m : Nat) : List (Nat × Nat × Nat × Bytes) → State
  | [] => s
  | w :: t =>
    if w.1 == tree && w.2.1 == dir && w.2.2.1 == m then (s.sendSlab g tree dir m w.2.2.2).flushSlabs g tree dir m t
    else s.flushSlabs g tree dir m t

/-- A CREDIT packet (R224). -/
def State.creditPacket (s : State) (pkt : Bytes) : State :=
  let g := pkGroup pkt
  let m := pkMember pkt
  match (s.group g).calls with
  | k :: _ =>
    if !s.callPacket pkt || k.phase == 3 then s.stalePacket
    else
      let n := k.creditOf (pkTree pkt) (pkDir pkt) m + field pkt 16 2
      let mine (w : Nat × Nat × Nat × Bytes) : Bool := w.1 == pkTree pkt && w.2.1 == pkDir pkt && w.2.2.1 == m
      let s1 := (s.heard g m).modCall g fun k =>
        { k.setCredit (pkTree pkt) (pkDir pkt) m n with waiting := k.waiting.filter fun w => !mine w }
      (s1.flushSlabs g (pkTree pkt) (pkDir pkt) m k.waiting).advanceCall g
  | [] => s.stalePacket

/-! ### Failure (R226 to R229) -/

/-- Members that a set of FAIL notices excludes: of two that name each other only the higher, and a member not itself by its
own notice (R227). -/
def excludedBy (fails : List (Nat × Nat)) : List Nat :=
  ((fails.filter fun f => !(fails.contains (f.2, f.1) && decide (f.1 < f.2))).map (·.1)).eraseDups

/-- The tree neighbours of this member in a group. -/
def State.neighbours (s : State) (g : Nat) : List (Nat × Nat × Nat) :=
  let x := s.group g
  (List.range 2).flatMap fun t =>
    (match parentOf x.live t s.self with | none => [] | some p => [(t, 0, p)]) ++
    (childrenOf x.live t s.self).map fun c => (t, 1, c)

/-- Send FAIL up and down both trees (R227). -/
def State.sendFail (s : State) (g failed detector : Nat) : State :=
  let x := s.group g
  (s.neighbours g).foldl (fun s n =>
    s.sendMember n.2.2 0 (cfControl 0x14 n.1 n.2.1 g (failed * 2 ^ 16 + detector * 2 ^ 26) x.callSeq x.epoch 0)) s

/-- The group's packets leave every inlet (R228 step 2). -/
def State.drainGroup (s : State) (g : Nat) : State :=
  let goes (k : Packet) : Bool := k.cls == 0 && decide (0x10 ≤ pkKind k.bytes ∧ pkKind k.bytes ≤ 0x15) && pkGroup k.bytes == g
  s.live.foldl (fun s r => (List.range 4).foldl (fun s p =>
    (s.modInlet r p fun i =>
      { i with bank0 := { i.bank0 with packets := i.bank0.packets.filter fun k => !goes k.2 },
               bank1 := { i.bank1 with packets := i.bank1.packets.filter fun k => !goes k.2 } }).levelCheck r p) s) s

/-- The first failure aborts the call (R228 steps 1 to 3): destinations are left, undefined where data had moved; the group is
RE-FORMING and asks for an epoch boundary. A further one is only noted. -/
def State.abortCall (s : State) (g failed detector : Nat) : State :=
  let x := s.group g
  let s0 := s.modGroup g fun x => { x with fails := x.fails ++ [(failed, detector)] }
  if x.state != 1 then s0
  else
    let s1 := match x.calls with
      | k :: _ => if k.phase = 2 then (s.callDests k 3).foldl (fun (s : State) a => s.sumScribble k.format k.count a) s0 else s0
      | [] => s0
    let s2 := (s1.modCall g fun k => if k.phase = 0 then k else { k with phase := 3, aborted := some s.tcNow }).modGroup g fun x =>
      { x with state := 2 }
    { s2.drainGroup g with membership := { s2.membership with requested := true } }

/-- A FAIL packet (R227, R228): the first that a member receives is forwarded, and every one excludes. -/
def State.failPacket (s : State) (pkt : Bytes) : State :=
  let g := pkGroup pkt
  if !s.callPacket pkt then s.stalePacket
  else
    let failed := pkMember pkt
    let det := pkMember2 pkt
    let s1 := if (s.group g).forwarded then s else (s.sendFail g failed det).modGroup g fun x => { x with forwarded := true }
    if (s.group g).fails.contains (failed, det) then s1 else s1.abortCall g failed det

/-- A KEEPALIVE restarts the watchdog on its sender (R226). -/
def State.keepalivePacket (s : State) (pkt : Bytes) : State :=
  let g := pkGroup pkt
  match (s.group g).calls with
  | k :: _ => if s.callPacket pkt && (k.phase == 1 || k.phase == 2) then s.heard g (pkMember pkt) else s.stalePacket
  | [] => s.stalePacket

/-- Whether a member has armed in a tree, as far as this one knows. -/
def Call.armedBy (k : Call) (tree m : Nat) : Bool := k.arms.any fun a => a.1 == tree && a.2.1 == m

/-- Whether a half has still to send slabs up from here, and whether it has still to write result slabs. -/
def Call.upLeft (k : Call) (tree : Nat) : Bool := bitAt k.trees tree && decide (k.nextUp.getD tree 0 < k.slabs)
def Call.downLeft (k : Call) (tree : Nat) : Bool := bitAt k.trees tree && decide (k.done.getD tree 0 < k.slabs)

/-- Whether this member waits on a neighbour in a tree (R226): for credit; on a child for its arm packet or its next slab; on its parent,
once its children have armed, for the verdict and the result slabs. -/
def State.waitsOn (s : State) (g tree m : Nat) : Bool :=
  let x := s.group g
  match x.calls with
  | [] => false
  | k :: _ =>
    (k.phase == 1 || k.phase == 2) &&
    (k.waiting.any (fun w => w.1 == tree && w.2.2.1 == m) ||
     if (childrenOf x.live tree s.self).contains m then
       !k.armedBy tree m ||
       (k.verdicts.get? tree == some true && k.upLeft tree &&
        !k.up.any fun u => u.1 == tree && u.2.1 == m && u.2.2.1 == k.nextUp.getD tree 0)
     else parentOf x.live tree s.self == some m && armed x k tree s.self && (k.verdicts.get? tree == none || k.downLeft tree))

/-- Whether a neighbour waits on this member in a tree (R226): its parent until it has armed and while it has slabs to send up; a child
that has armed, until it has the verdict and its result slabs. -/
def State.waitedOnBy (s : State) (g tree m : Nat) : Bool :=
  let x := s.group g
  match x.calls with
  | [] => false
  | k :: _ =>
    if parentOf x.live tree s.self == some m then !armed x k tree s.self || k.upLeft tree
    else k.armedBy tree m && (k.verdicts.get? tree == none || k.downLeft tree || k.waiting.any fun w => w.1 == tree && w.2.2.1 == m)

/-- A member that waits on a child tells each neighbour that waits on it (R226). -/
def State.keepalives (s : State) (g : Nat) : State :=
  let x := s.group g
  if (List.range 2).any fun t => (childrenOf x.live t s.self).any fun c => s.waitsOn g t c then
    ((s.neighbours g).filter fun n => s.waitedOnBy g n.1 n.2.2).foldl (fun s n =>
      s.sendMember n.2.2 0 (cfControl 0x15 n.1 n.2.1 g (s.self * 2 ^ 16) x.callSeq x.epoch 0)) s
  else s

/-- KEEPALIVE_SEND (R226). -/
def execKeepaliveSend (g : GroupId) (s : State) : Host.Outcome State Fault Refusal := .next (s.keepalives g.val)

/-- The watchdog on a neighbour expires (R226, R227): it fires only while the member waits on that neighbour and has not heard
from it in the same tc. -/
def State.cfWatchdog (s : State) (g m : Nat) : State :=
  let fresh := match (s.group g).calls with | [] => false | k :: _ => k.heard.get? m == some s.tcNow
  if ((List.range 2).any fun t => s.waitsOn g t m) && !fresh then (s.sendFail g m s.self).abortCall g m s.self else s

/-- CONFLUENCE_WATCHDOG (R226). -/
def execConfluenceWatchdog (g : GroupId) (neighbour : MemberId) (s : State) : Host.Outcome State Fault Refusal :=
  .next (s.cfWatchdog g.val neighbour.toNat)

/-- The kinds of class 0 packets, by KIND; another KIND is of no call. -/
def State.classZero (s : State) (pkt : Bytes) : State :=
  match pkKind pkt with
  | 0x10 => s.armPacket pkt
  | 0x11 => s.verdictPacket pkt
  | 0x12 => s.dataPacket pkt
  | 0x13 => s.creditPacket pkt
  | 0x14 => s.failPacket pkt
  | 0x15 => s.keepalivePacket pkt
  | _ => s.stalePacket

/-- ARM_PACKET (R220). -/
def execArmPacket (r : RegionId) (p : PortId) (pkt : Bytes) (s : State) : Host.Outcome State Fault Refusal :=
  if packetFits pkt then .next (if pkKind pkt == 0x10 then (s.takeInlet r.val p.val pkt).armPacket pkt else s) else .fault .malformed

/-- VERDICT_PACKET (R221). -/
def execVerdictPacket (r : RegionId) (p : PortId) (pkt : Bytes) (s : State) : Host.Outcome State Fault Refusal :=
  if packetFits pkt then .next (if pkKind pkt == 0x11 then (s.takeInlet r.val p.val pkt).verdictPacket pkt else s)
  else .fault .malformed

/-- DATA_PACKET (R223). -/
def execDataPacket (r : RegionId) (p : PortId) (pkt : Bytes) (s : State) : Host.Outcome State Fault Refusal :=
  if packetFits pkt then .next (if pkKind pkt == 0x12 then (s.takeInlet r.val p.val pkt).dataPacket pkt else s) else .fault .malformed

/-- CONFLUENCE_CREDIT (R224). -/
def execConfluenceCredit (r : RegionId) (p : PortId) (pkt : Bytes) (s : State) : Host.Outcome State Fault Refusal :=
  if packetFits pkt then .next (if pkKind pkt == 0x13 then (s.takeInlet r.val p.val pkt).creditPacket pkt else s)
  else .fault .malformed

/-- FAIL_PACKET (R227). -/
def execFailPacket (r : RegionId) (p : PortId) (pkt : Bytes) (s : State) : Host.Outcome State Fault Refusal :=
  if packetFits pkt then .next (if pkKind pkt == 0x14 then (s.takeInlet r.val p.val pkt).failPacket pkt else s) else .fault .malformed

/-- KEEPALIVE_PACKET (R226). -/
def execKeepalivePacket (r : RegionId) (p : PortId) (pkt : Bytes) (s : State) : Host.Outcome State Fault Refusal :=
  if packetFits pkt then .next (if pkKind pkt == 0x15 then (s.takeInlet r.val p.val pkt).keepalivePacket pkt else s)
  else .fault .malformed

/-! ### Re-forming (R204, R205, R228) -/

/-- The calls that wait on the group of an excluded member complete with NOT_MEMBER (R229; log 123). -/
def State.turnAway (s : State) (g : Nat) : State :=
  if (s.group g).state = 3 then (s.group g).calls.foldl (fun s _ => s.dropCall g stNotMember 0) s else s

/-- A group at a membership epoch boundary: after a failure it re-forms without the excluded and its call completes with
GROUP_REFORMED; a changed live list re-forms it between calls. -/
def State.groupBoundary (s : State) (g : Nat) : State :=
  let x := s.group g
  if !x.defined then s
  else if x.state = 2 then
    let out := excludedBy x.fails
    let s1 := s.modGroup g fun x => s.formGroup { x with excluded := (x.excluded ++ out).eraseDups }
    let s2 := ((s1.bumpF pgConfluence Fld.REFORM_COUNT_COUNT 1).contain pgConfluence 0).pend 0x55
    let s3 := ((s2.setF pgConfluence Fld.LAST_FAIL_GROUP g).setF pgConfluence Fld.LAST_FAIL_FAILED_MEMBER (out.headD 0)).setF
      pgConfluence Fld.LAST_FAIL_NEW_EPOCH s.membership.epoch
    match x.calls with
    | [] => s3
    | k :: _ => (if k.phase = 3 then s3.dropCall g stGroupReformed 0 else s3).turnAway g
  else
    let y := s.formGroup x
    if y.live == x.live then s
    else if x.calls.all fun k => k.phase == 0 then s.modGroup g fun _ => y
    else s.modGroup g fun x => { x with reform := true }

/-! ### CONFLUENCE (R346) -/

/-- The fabric and region-store ranges of an entry, a store range told apart by region. -/
def regionPieces (w : Tab (BitVec 128)) (d : Bytes) (r : Nat) (wr : Bool) : List (Nat × Piece) :=
  (footPieces w d wr).map fun p => (if p.store then r + 1 else 0, p)

/-- Whether two such lists share a byte. -/
def taggedMeet (p q : List (Nat × Piece)) : Bool :=
  p.any fun a => q.any fun b => a.1 == b.1 && rangesMeet (a.2.addr, a.2.len) (b.2.addr, b.2.len)

/-- Whether a destination of a call overlaps a source or another destination (R207); with the entry. -/
def sumOverlap (w : Tab (BitVec 128)) (list : Bytes) (live : List Nat) (mask : Nat) : Option Nat :=
  let dests := live.filter (bitAt mask)
  dests.findSome? fun r =>
    let mine := regionPieces w (descAt list (2 * r + 1)) r true
    if live.any (fun q => taggedMeet mine (regionPieces w (descAt list (2 * q)) q false)) ||
        dests.any (fun q => q != r && taggedMeet mine (regionPieces w (descAt list (2 * q + 1)) q true)) then some (2 * r + 1) else none

/-- Validation of a CONFLUENCE from step 4 on (R206, R207, R229, R346): the list is as long as its highest named entry. -/
def State.confluenceCheck (s : State) (cmd : Command) : Verdict :=
  let raw := cmd.raw
  let f := cfFmt raw
  let x := s.group (cfGroup raw)
  let dests := s.live.filter (bitAt (cfMask raw))
  if 63 < cfGroup raw ∨ cfSize raw = 0 ∨ 2 ^ 20 < cfSize raw ∨ (fmRound f ∧ !fmMx f) ∨ dests.isEmpty ∨ !x.defined then
    .fail stCommandInvalid 0 0
  else if x.state = 3 then .fail stNotMember 0 0
  else if cmdAddr raw % 64 ≠ 0 then .fail stAlignFault 0 0
  else
    let n := (s.live.map fun r => 2 * r + 1 + flag (bitAt (cfMask raw) r)).foldl max 0
    match s.readStruct cmd (cmdAddr raw) (192 * n) with
    | none => .fail stBoundsFault 0 0
    | some list =>
      let t := if fmBf f then 1 else 0
      let need := Need.sum t (cfSize raw * 4096)
      let roles := (s.live.map fun r => Role.mk (2 * r) true false false false need) ++
        dests.map fun r => Role.mk (2 * r + 1) false true false false need
      if !(List.range n).all (viewOk list) || roles.any (fun x => vwKind (viewAt list x.entry) != 0) then .fail stCommandInvalid 0 0
      else match checkTensors (s.tensorEnv cmd) list [] roles with
        | some (c, i) => .fail c i 0
        | none =>
          match sumOverlap cmd.windows list s.live (cfMask raw) with
          | some i => .fail stOverlapFault i 0
          | none => .latch { cmd with list := list }

/-- Whether a CONFLUENCE is a cross-member command: its group has more live members than this (R392). -/
def State.crossesCall (s : State) (m : Command) : Bool := decide (1 < (s.group (cfGroup m.raw)).live.length)

/-- Whether an epoch boundary is under way and a CONFLUENCE crosses members: none is validated then (R392). -/
def State.stopsCall (s : State) (m : Command) : Bool := s.membership.phase != 0 && s.crossesCall m

/-- CONFLUENCE (R346): validated and latched; the issue rule starts it. -/
def execConfluence (c : CtxId) (q : RingId) (s : State) : Host.Outcome State Fault Refusal :=
  .next (s.claimRow c.val q.val 0x22 State.confluenceCheck State.stopsCall)

/-- A new call, waiting (R222). -/
def newCall (cmd : Option Command) (run : Option W32) (size format mask trees issue : Nat) : Call :=
  { cmd := cmd, run := run, sizeBlocks := size, format := format, destMask := mask, trees := trees, phase := 0, issue := issue,
    arms := [], verdicts := [], local_ := [], up := [], nextUp := [], done := [], credit := [], waiting := [],
    nonfinite := false, lit := false, heard := [], aborted := none }

/-- A CONFLUENCE issues (R222): its call waits for CALL_ARM; on a member that has been excluded since its checks it completes with
NOT_MEMBER (R229; log 123). -/
def State.issueCall (s : State) (cmd : Command) : State :=
  if (s.group (cfGroup cmd.raw)).state = 3 then s.endFail cmd stNotMember 0 0
  else s.modGroup (cfGroup cmd.raw) fun x =>
    { x with calls := x.calls ++ [newCall (some cmd) none (cfSize cmd.raw) (cfFmt cmd.raw) (cfMask cmd.raw) 3 s.tcNow] }

end Sys2Proof.Machine
end

