-- ==== Sys2Proof/Machine/Routers.lean ====
section
/-! DEFINITION. Sys2Proof/Machine/Routers.lean: ROUTER_WRITE (R94, R169, R193, R337), CONTEXT_PARAM (R171, R338), balance images
(R197, R198) and the update of the dodge-and-burn loop at a completion (R192, R194). -/

namespace Sys2Proof.Machine

/-- Whether an FP32 encoding is finite and not negative (−0 counts as 0). -/
def fp32NonNegative (w : Nat) : Bool := decide (w < 0x7F800000) || w == 0x80000000

/-- The ranges and conditions on one router entry (R94, R193, R337) for a context with a ROUTER_E_MAX on an engine with n live
regions; an unsplit router with REPRINT by R169. -/
def routerOk (e : BitVec 512) (eMax n : Nat) : Bool :=
  let E := rtE e
  decide (32 ≤ rtH e ∧ rtH e ≤ 16384) && rtH e % 32 == 0 && decide (1 ≤ E ∧ E ≤ eMax) &&
  decide (1 ≤ rtK e ∧ rtK e ≤ 16 ∧ rtK e ≤ E) && decide (rtFunction e ≤ 2) && decide (rtElem e ≤ 2) &&
  decide (rtSplit e ≤ 1) && (rtSplit e == 0 || (n != 0 && rtH e % (32 * n) == 0 && rtReprint e == 0)) &&
  (rtGroups e == 0 ||
    (decide (2 ≤ rtGroups e ∧ rtGroups e ≤ 32) && E % rtGroups e == 0 &&
     decide (1 ≤ rtGroupKeep e ∧ rtGroupKeep e ≤ rtGroups e - 1) && decide (rtK e ≤ rtGroupKeep e * (E / rtGroups e)) &&
     decide (1 ≤ rtGroupTopM e ∧ rtGroupTopM e ≤ 2 ∧ rtGroupTopM e ≤ E / rtGroups e))) &&
  decide (rtNormMode e ≤ 1) && decide (1 ≤ rtOverflow e ∧ rtOverflow e ≤ 2) && decide (rtReprint e ≤ 1) &&
  decide (rtOrdinal e ≤ 127) && decide (rtPeerContext e ≤ 15) && fp32Positive (rtRouteScale e) &&
  fp32NonNegative (rtNoiseAmp e) && fp32Positive (rtBalClamp e) && decide (1 ≤ rtBalGamma e) &&
  rtField e 0x1F 1 == 0 && rtField e 0x22 6 == 0 && rtField e 0x30 16 == 0

/-- The router table with entries written from first on. -/
def routersAfter (t : Tab (BitVec 512)) (first : Nat) (entries : List (BitVec 512)) : Tab (BitVec 512) :=
  (entries.zipIdx).foldl (fun t e => t.set (first + e.2) e.1) t

/-- Whether no two routers with REPRINT = 1 share a REPRINT_ORDINAL (R169). -/
def ordinalsApart (t : Tab (BitVec 512)) : Bool :=
  let l := (t.filter fun e => rtReprint e.2 == 1).map fun e => rtOrdinal e.2
  l.eraseDups.length == l.length

/-- Whether a sequence slot of the context holds print planes of a router. -/
def State.planesHeld (s : State) (c ρ : Nat) : Bool :=
  s.slots.any fun e => e.2.state != 0 && e.2.ctx.val == c && e.2.planes.any fun p => p.1 == ρ

/-- Whether an entry may replace router ρ while slots hold planes (R169). -/
def State.reprintKept (s : State) (c ρ : Nat) (e : BitVec 512) : Bool :=
  !s.planesHeld c ρ ||
  match (s.ctx c).routers.get? ρ with
  | none => true
  | some o => rtH o == rtH e && rtReprint o == rtReprint e && rtOrdinal o == rtOrdinal e

/-- One router written: a new E gives it a burn table of +0 with LOAD and WINDOW 0 (R337), and a command that runs on it
discards its pending counts (R192). -/
def State.putRouter (s : State) (c ρ : Nat) (e : BitVec 512) : State :=
  let fresh := ((s.ctx c).routers.get? ρ).map rtE != some (rtE e)
  let s1 := s.modCtx c fun x =>
    { x with
      routers := x.routers.set ρ e,
      burn := if fresh then x.burn.set ρ (List.replicate (rtE e) 0) else x.burn,
      load := if fresh then x.load.erase (· == ρ) else x.load,
      window := if fresh then x.window.erase (· == ρ) else x.window,
      dirtyBurn := if fresh && !x.dirtyBurn.contains ρ then x.dirtyBurn ++ [ρ] else x.dirtyBurn }
  if fresh then
    { s1 with
      runs := s1.runs.map fun y =>
        if y.cmd.ctx.val == c && y.started && (y.routers.get? ρ).isSome then { y with rewritten := y.rewritten ++ [ρ] } else y,
      ended := s1.ended.map fun y =>
        if y.ctx.val == c && (y.routers.get? ρ).isSome then { y with rewritten := y.rewritten ++ [ρ] } else y }
  else s1

/-- ROUTER_WRITE (R337): all entries or none. -/
def State.routerWrite (s : State) (cmd : Command) : Verdict :=
  let c := cmd.ctx.val
  let first := cmdField cmd.raw 24 1
  let n := cmdField cmd.raw 25 1
  if 128 < first + n ∨ 127 < first then .fail stCommandInvalid 0 0
  else match s.readStruct cmd (cmdAddr cmd.raw) (64 * n) with
    | none => .fail stBoundsFault 0 0
    | some bs =>
      let es := (words bs 64 n).map (BitVec.ofNat 512 ·)
      if es.all (fun e => routerOk e (recEMax (s.ctx c).record) s.live.length) &&
          ordinalsApart (routersAfter (s.ctx c).routers first es) &&
          (es.zipIdx).all fun e => s.reprintKept c (first + e.2) e.1 then
        .done (((es.zipIdx).foldl (fun s e => s.putRouter c (first + e.2) e.1) s).modCtx c fun x =>
          { x with generation := x.generation + 1 }) []
      else .fail stRouterInvalid 0 0

/-- ROUTER_WRITE (R337). -/
def execRouterWrite (c : CtxId) (q : RingId) (s : State) : Host.Outcome State Fault Refusal :=
  .next (s.controlRow c.val q.val 0x12 always State.routerWrite)

/-- CONTEXT_PARAM (R338): KIND 0 a threshold schedule, KIND 1 the noise seed. -/
def State.contextParam (s : State) (cmd : Command) : Verdict :=
  let c := cmd.ctx.val
  let i := cmdField cmd.raw 25 1
  match cmdField cmd.raw 24 1 with
  | 0 =>
    if 7 < i then .fail stCommandInvalid 0 0
    else match s.readStruct cmd (cmdAddr cmd.raw) 256 with
      | none => .fail stBoundsFault 0 0
      | some bs =>
        let vs := words bs 4 64
        if vs.all fp32NonNegative then
          .done (s.modCtx c fun x => { x with schedules := x.schedules.set i (vs.map (BitVec.ofNat 32 ·)) }) []
        else .fail stRouterInvalid 0 0
  | 1 => .done (s.modCtx c fun x => { x with seed := BitVec.ofNat 64 (cmdAddr cmd.raw) }) []
  | _ => .fail stCommandInvalid 0 0

/-- CONTEXT_PARAM (R338). -/
def execContextParam (c : CtxId) (q : RingId) (s : State) : Host.Outcome State Fault Refusal :=
  .next (s.controlRow c.val q.val 0x13 always State.contextParam)

/-! ### The balance loop -/

/-- Burn values of a router of E experts. -/
def Ctx.burnOf (x : Ctx) (ρ E : Nat) : List W32 := (List.range E).map fun e => (x.burn.getD ρ []).getD e 0
/-- LOAD of a router of E experts. -/
def Ctx.loadOf (x : Ctx) (ρ E : Nat) : List Nat := (List.range E).map fun e => (x.load.getD ρ []).getD e 0
/-- WINDOW of a router. -/
def Ctx.windowOf (x : Ctx) (ρ : Nat) : Nat := x.window.getD ρ 0

/-- The balance image of a router (R197). -/
def balanceImage (x : Ctx) (ρ : Nat) (e : BitVec 512) : Bytes :=
  let body := zeros 48 ++ (x.burnOf ρ (rtE e)).flatMap (fun b => leBytes 4 b.toNat) ++ (x.loadOf ρ (rtE e)).flatMap (leBytes 4 ·)
  leBytes 8 (crc64 body) ++ leBytes 2 (rtE e) ++ leBytes 2 (x.windowOf ρ) ++ leBytes 2 (rtBalPeriod e) ++ leBytes 1 ρ ++ [0] ++ body

/-- Whether an image may replace the state of a router (R198). -/
def balanceOk (bs : Bytes) (ρ : Nat) (e : BitVec 512) : Bool :=
  let E := rtE e
  let w := field bs 0xA 2
  let p := field bs 0xC 2
  field bs 0 8 == crc64 (bs.drop 0x10) && field bs 8 2 == E && field bs 0xE 1 == ρ &&
  (if p = 0 then w == 0 else decide (w < p)) && zeroAt bs 0xF 1 && zeroAt bs 0x10 48 &&
  (List.range E).all fun i =>
    let v := ofF32 (field bs (0x40 + 4 * i) 4)
    v.isFinite && v.abs.le (ofF32 (rtBalClamp e))

/-- No earlier command of the context on the router named by a balance command is incomplete (R195, R198). -/
def balanceOwn (s : State) (cmd : Command) : Bool := !s.earlierNames cmd (cmdField cmd.raw 24 1)

/-- BURN_READ (R198): writes the image of the state after every earlier command on the router. -/
def State.burnRead (s : State) (cmd : Command) : Verdict :=
  let ρ := cmdField cmd.raw 24 1
  match (s.ctx cmd.ctx.val).routers.get? ρ with
  | none => .fail stCommandInvalid 0 0
  | some e =>
    match s.writeCtx cmd.windows s.leader (cmdAddr cmd.raw) (balanceImage (s.ctx cmd.ctx.val) ρ e) with
    | none => .fail stBoundsFault 0 0
    | some s1 => .done s1 []

/-- BURN_READ (R198). -/
def execBurnRead (c : CtxId) (q : RingId) (s : State) : Host.Outcome State Fault Refusal :=
  .next (s.controlRow c.val q.val 0x17 balanceOwn State.burnRead)

/-- BURN_WRITE (R198): replaces burn values, LOAD and WINDOW of a router. -/
def State.burnWrite (s : State) (cmd : Command) : Verdict :=
  let ρ := cmdField cmd.raw 24 1
  match (s.ctx cmd.ctx.val).routers.get? ρ with
  | none => .fail stCommandInvalid 0 0
  | some e =>
    match s.readStruct cmd (cmdAddr cmd.raw) (64 + 8 * rtE e) with
    | none => .fail stBoundsFault 0 0
    | some bs =>
      if balanceOk bs ρ e then
        .done (s.modCtx cmd.ctx.val fun x =>
          { x with
            burn := x.burn.set ρ ((words (bs.drop 0x40) 4 (rtE e)).map (BitVec.ofNat 32 ·)),
            load := x.load.set ρ (words (bs.drop (0x40 + 4 * rtE e)) 4 (rtE e)),
            window := x.window.set ρ (field bs 0xA 2),
            dirtyBurn := if x.dirtyBurn.contains ρ then x.dirtyBurn else x.dirtyBurn ++ [ρ] }) []
      else .fail stBalanceInvalid 0 0

/-- BURN_WRITE (R198). -/
def execBurnWrite (c : CtxId) (q : RingId) (s : State) : Host.Outcome State Fault Refusal :=
  .next (s.controlRow c.val q.val 0x18 balanceOwn State.burnWrite)

/-- One expert's update (R194): the new value, and whether the clamp cut it. dir is 1 for +γ, 2 for −γ, 0 for none. -/
def burnStep (b : W32) (dir gamma : Nat) (clamp : Fp) : W32 × Bool :=
  let g : Fp := .fin (dir == 2) (if dir = 0 then 0 else gamma) (-24)
  let v := fadd (ofF32 b.toNat) g
  let cut := clamp.lt v.abs
  let w := if clamp.lt v then clamp else if v.lt clamp.neg then clamp.neg else v
  (BitVec.ofNat 32 (toF32 w), cut)

/-- The update of one router's burn table (R194); LOAD and WINDOW go to 0, and the BALANCE page shows it (R201). -/
def State.updateBurn (s : State) (c ρ : Nat) (e : BitVec 512) : State :=
  let x := s.ctx c
  let E := rtE e
  let load := x.loadOf ρ E
  let total := load.sum
  let dirs := load.map fun l => if E * l < total then 1 else if total < E * l then 2 else 0
  let r := ((x.burnOf ρ E).zip dirs).map fun p => burnStep p.1 p.2 (rtBalGamma e) (ofF32 (rtBalClamp e))
  let s1 := s.modCtx c fun x =>
    { x with burn := x.burn.set ρ (r.map (·.1)), load := x.load.erase (· == ρ), window := x.window.erase (· == ρ),
             dirtyBurn := if x.dirtyBurn.contains ρ then x.dirtyBurn else x.dirtyBurn ++ [ρ] }
  let s2 := s1.bumpF pgBalance Fld.UPDATE_COUNT_COUNT 1
  let s3 := s2.setReg (pgBalance + 0x88)
    (c * 2 ^ 40 + ρ * 2 ^ 33 + dirs.count 1 * 2 ^ 22 + dirs.count 2 * 2 ^ 11 + (r.filter (·.2)).length)
  s3.setReg (pgBalance + 0x90) (load.foldl max 0 * 2 ^ 32 + load.foldl min (load.headD 0))

/-- Load accounting of a set that completes without a halt (R192): the pending counters of every region are added into LOAD,
and WINDOW grows by one for each router with a BURN, where BAL_PERIOD is not 0 (R193) and E was not changed meanwhile. -/
def State.countLoads (s : State) (e : Ended) : State :=
  e.burned.foldl (fun s ρ =>
    match e.routers.get? ρ with
    | none => s
    | some rt =>
      if e.rewritten.contains ρ || rtBalPeriod rt == 0 then s
      else s.modCtx e.ctx.val fun x =>
        { x with
          load := x.load.set ρ ((addLanes (x.loadOf ρ (rtE rt)) ((e.loads.getD ρ []).take (rtE rt))).map (min · 0xFFFFFFFF)),
          window := x.window.set ρ (x.windowOf ρ + 1) }) s

/-- The updates that a completion triggers, in ascending router (R194, R195), and whether there was one: of every router that a LAYER_RUN
names; a COMBINE_RUN triggers none (R345). -/
def State.updateBurns (s : State) (e : Ended) : State × Bool :=
  ((List.range 128).filter fun ρ => cmdOp e.raw == 0x20 && (e.routers.get? ρ).isSome).foldl (fun acc ρ =>
    match e.routers.get? ρ with
    | none => acc
    | some rt =>
      if e.rewritten.contains ρ || rtBalPeriod rt == 0 || decide ((acc.1.ctx e.ctx.val).windowOf ρ < rtBalPeriod rt) then acc
      else (acc.1.updateBurn e.ctx.val ρ rt, true)) (s, false)

end Sys2Proof.Machine
end

