-- ==== Sys2Proof/Machine/Sequences.lean ====
section
/-! DEFINITION. Sys2Proof/Machine/Sequences.lean: sequence slots and their print planes (R170, R174, R302), the three commands that
change them (R339) and the step boundary at which they take effect (R303). -/

namespace Sys2Proof.Machine

/-- Prints per 256 KiB basin: Q of R174. -/
def printsPerBasin (e : BitVec 512) : Nat := 262144 / rtPrintBytes e

/-- Insert a router by REPRINT_ORDINAL. -/
def insertOrdinal (e : Nat × BitVec 512) : List (Nat × BitVec 512) → List (Nat × BitVec 512)
  | [] => [e]
  | f :: t => if rtOrdinal e.2 ≤ rtOrdinal f.2 then e :: f :: t else f :: insertOrdinal e t

/-- Routers that a slot keeps prints for, in ascending REPRINT_ORDINAL (R170, R174). -/
def printRouters (x : Ctx) (budget : Nat) : List (Nat × BitVec 512) :=
  (x.routers.filter fun e => rtReprint e.2 == 1 && decide (rtOrdinal e.2 < budget)).foldr insertOrdinal []

/-- Allocate n persistent basins of q bytes from POOL 1 of region r for context c; none when the pool runs out. -/
def State.allocMany (s : State) (c r q : Nat) : Nat → Option (List Nat × State)
  | 0 => some ([], s)
  | n + 1 =>
    match s.allocBasin c 1 r q 1 true with
    | none => none
    | some (h, s1) => (s1.allocMany c r q n).map fun p => (h :: p.1, p.2)

/-- A print plane while it is being built: its router, its basins and its plane tables (R174). -/
structure Plane where
  router : Nat
  basins : List Nat
  tables : List Nat
  deriving DecidableEq, Repr

/-- Allocate the planes of a slot, one per router, each with its basins and then the 4 KiB tables of its handles (R174; the order
of the two is log 16). -/
def State.allocPlanes (s : State) (c r maxTokens : Nat) : List (Nat × BitVec 512) → Option (List Plane × State)
  | [] => some ([], s)
  | e :: t =>
    let n := ceilDiv maxTokens (printsPerBasin e.2)
    match s.allocMany c r 262144 n with
    | none => none
    | some (hs, s1) =>
      match s1.allocMany c r 4096 (ceilDiv n 1024) with
      | none => none
      | some (ts, s2) => (s2.allocPlanes c r maxTokens t).map fun p => (⟨e.1, hs, ts⟩ :: p.1, p.2)

/-- Write the plane tables: 1,024 handles of 4 bytes to each basin of tables. -/
def State.writeTables (s : State) (w : Tab (BitVec 128)) (c : Nat) : List Nat → List Nat → Option State
  | [], _ => some s
  | t :: ts, hs =>
    match s.basinWrite w c t 0 (fit 4096 ((hs.take 1024).flatMap (leBytes 4 ·))) with
    | none => none
    | some s1 => s1.writeTables w c ts (hs.drop 1024)

/-- Zero the ledger of every print of a plane (R174): position p lies in basin p / Q at offset (p mod Q) × PS. -/
def State.zeroLedgers (s : State) (w : Tab (BitVec 128)) (c ps q : Nat) (hs : List Nat) : Nat → Option State
  | 0 => some s
  | p + 1 =>
    match s.zeroLedgers w c ps q hs p with
    | none => none
    | some s1 => s1.basinWrite w c (hs.getD (p / q) 0) (p % q * ps) (zeros 64)

/-- One plane's tables written and its ledgers zeroed. -/
def State.buildPlane (s : State) (w : Tab (BitVec 128)) (c maxTokens : Nat) (p : Plane) : Option State :=
  let e := (s.ctx c).routers.getD p.router 0
  (s.writeTables w c p.tables p.basins).bind fun s1 =>
    s1.zeroLedgers w c (rtPrintBytes e) (printsPerBasin e) p.basins maxTokens

/-- The planes of a slot with their tables written and their ledgers zero: what a join does to memory (R174). -/
def State.buildPlanes (s : State) (w : Tab (BitVec 128)) (c r budget maxTokens : Nat) : Except Nat (List Plane × State) :=
  match s.allocPlanes c r maxTokens (printRouters (s.ctx c) budget) with
  | none => .error stBasinExhausted
  | some (planes, s1) =>
    match planes.foldl (fun (o : Option State) p => o.bind fun s => s.buildPlane w c maxTokens p) (some s1) with
    | none => .error stBoundsFault
    | some s2 => .ok (planes, s2)

/-- SLOT of SEQ_LEAVE and SEQ_UPDATE; REGION and the fields of SEQ_JOIN. -/
def seqSlotOf (raw : BitVec 512) : Nat := cmdField raw 24 2
/-- TOKEN_FIRST of a join. -/
def joinFirst (raw : BitVec 512) : Nat := cmdField raw 28 4
/-- TOKEN_COUNT of a join. -/
def joinCount (raw : BitVec 512) : Nat := cmdField raw 32 4
/-- MAX_TOKENS of a join. -/
def joinMax (raw : BitVec 512) : Nat := cmdField raw 36 4
/-- REGION of a join. -/
def joinRegion (raw : BitVec 512) : Nat := cmdField raw 24 1

/-- A slot that is joining or occupied: one that is leaving no longer counts (R302). -/
def SeqSlot.taken (x : SeqSlot) : Bool := x.state == 1 || x.state == 2

/-- The slots of a region. -/
def regionSlots (r : Nat) : List Nat := (List.range 64).map (64 * r + ·)

/-- The ranges that joins waiting without a slot are to hold: those that a leave at their boundary makes room for (R174; log 120). -/
def State.slotless (s : State) : List Command :=
  s.ctxs.flatMap fun e => e.2.seqWait.filter fun m => cmdOp m.raw == 0x14 &&
    !s.slots.any fun x => x.2.state == 1 && x.2.ctx == m.ctx && x.2.tokenFirst == joinFirst m.raw

/-- Whether R302 lets a join in: its range ends in time and meets no other, and the region keeps to its tokens. -/
def State.joinFits (s : State) (raw : BitVec 512) : Bool :=
  let n := joinCount raw
  let waiting := s.slotless.map (·.raw)
  let mine := (regionSlots (joinRegion raw)).filter fun i => (s.slot i).taken
  decide (joinFirst raw + n ≤ 2 ^ 24) &&
  !(s.slots.any fun e => e.2.taken && rangesMeet (e.2.tokenFirst, e.2.tokenCount) (joinFirst raw, n)) &&
  !(waiting.any fun w => rangesMeet (joinFirst w, joinCount w) (joinFirst raw, n)) &&
  decide ((mine.map fun i => (s.slot i).tokenCount).sum +
    ((waiting.filter fun w => joinRegion w == joinRegion raw).map joinCount).sum + n ≤ 262144)

/-- The lowest-numbered free slot of a region (R339). -/
def State.freeSlot (s : State) (r : Nat) : Option Nat := (regionSlots r).find? fun i => (s.slot i).state == 0

/-- What a slot holds that a join takes: state 1 joining, 2 occupied (R170, R302). -/
def joinedSlot (m : Command) (state : Nat) (planes : List Plane) : SeqSlot :=
  { ctx := m.ctx, tokenFirst := joinFirst m.raw, tokenCount := joinCount m.raw, state := state,
    negBudget := cmdField m.raw 25 1, maxTokens := joinMax m.raw, maxAge := cmdField m.raw 26 1,
    schedule := cmdField m.raw 27 1, joinStep := cmdStep m.raw, layerSkip := BitVec.ofNat 128 (cmdField m.raw 40 16),
    planes := planes.map fun p => (p.router, p.basins), tables := planes.flatMap (·.tables) }

/-- The slot that a waiting join holds, or gets at its boundary. -/
def State.joinSlot (s : State) (m : Command) : Option Nat :=
  match (regionSlots (joinRegion m.raw)).find? fun i => (s.slot i).state == 1 && (s.slot i).ctx == m.ctx && (s.slot i).tokenFirst == joinFirst m.raw with
  | some i => some i
  | none => s.freeSlot (joinRegion m.raw)

/-- A join takes effect (R174, R339); one whose pool runs out leaves its slot free, and the region counts it (R294). -/
def State.joinNow (s : State) (m : Command) : State :=
  match s.joinSlot m with
  | none => s.endFail m stSeqInvalid 0 0
  | some i =>
    match s.buildPlanes m.windows m.ctx.val (joinRegion m.raw) (cmdField m.raw 25 1) (joinMax m.raw) with
    | .error code =>
      ((if code = stBasinExhausted then s.exhausted (joinRegion m.raw) else s).setSlot i SeqSlot.free).endFail m code 0 0
    | .ok (planes, s1) =>
      ((s1.setSlot i (joinedSlot m 2 planes)).modCtx m.ctx.val fun x =>
        { x with dirtySlots := x.dirtySlots ++ [i] }).endDone m (leBytes 2 i)

/-- A leave takes effect: planes and tables are released, the slot is free (R174). -/
def State.leaveNow (s : State) (m : Command) : State :=
  let i := seqSlotOf m.raw
  let x := s.slot i
  let s1 := s.modCtx m.ctx.val fun y => (x.planes.flatMap (·.2) ++ x.tables).foldl freeBasin y
  ((s1.setSlot i SeqSlot.free).modCtx m.ctx.val fun y =>
    { y with dirtySlots := y.dirtySlots.filter (· != i) }).endDone m []

/-- An update takes effect; of a slot that has just been left it is discarded (R339). -/
def State.updateNow (s : State) (m : Command) : State :=
  let i := seqSlotOf m.raw
  let x := s.slot i
  if x.state != 0 && x.ctx == m.ctx then
    let x1 : SeqSlot :=
      { x with maxAge := cmdField m.raw 26 1, schedule := cmdField m.raw 27 1,
               layerSkip := BitVec.ofNat 128 (cmdField m.raw 40 16) }
    ((s.setSlot i x1).modCtx m.ctx.val fun y =>
      { y with dirtySlots := if y.dirtySlots.contains i then y.dirtySlots else y.dirtySlots ++ [i] }).endDone m []
  else s.endDone m []

/-- A validated sequence command leaves its ring and waits for its step boundary (R303). -/
def State.parkSeq (s : State) (m : Command) : State := s.modCtx m.ctx.val fun x => { x with seqWait := x.seqWait ++ [m] }

/-- A validated join holds its slot as joining from then on (R302); without a free slot it waits for one that is leaving (R174;
log 120). -/
def State.reserve (s : State) (m : Command) : State :=
  match s.freeSlot (joinRegion m.raw) with
  | none => s
  | some i => s.setSlot i (joinedSlot m 1 [])

/-- SEQ_JOIN (R302, R339): its operands' ranges, then the range and a slot of the region; it takes effect at the step boundary. -/
def State.seqJoin (s : State) (m : Command) : Verdict :=
  if 8 ≤ joinRegion m.raw ∨ !s.live.contains (joinRegion m.raw) ∨ 128 < cmdField m.raw 25 1 ∨ 7 < cmdField m.raw 27 1 ∨
      2 ^ 24 ≤ joinFirst m.raw ∨ joinCount m.raw = 0 ∨ 262144 < joinCount m.raw ∨ 262144 < joinMax m.raw then
    .fail stCommandInvalid 0 0
  else if !s.joinFits m.raw || ((regionSlots (joinRegion m.raw)).all fun i => (s.slot i).taken) then .fail stSeqInvalid 0 0
  else .park ((s.reserve m).parkSeq m)

/-- SEQ_JOIN (R339). -/
def execSeqJoin (c : CtxId) (q : RingId) (s : State) : Host.Outcome State Fault Refusal :=
  .next (s.controlRow c.val q.val 0x14 always State.seqJoin)

/-- SEQ_LEAVE (R339): the slot must be occupied by the issuing context; it is leaving from then on. -/
def State.seqLeave (s : State) (m : Command) : Verdict :=
  let i := seqSlotOf m.raw
  if 511 < i then .fail stCommandInvalid 0 0
  else if (s.slot i).state = 2 ∧ (s.slot i).ctx = m.ctx then
    .park ((s.setSlot i { s.slot i with state := 3 }).parkSeq m)
  else .fail stSeqInvalid 0 0

/-- SEQ_LEAVE (R339). -/
def execSeqLeave (c : CtxId) (q : RingId) (s : State) : Host.Outcome State Fault Refusal :=
  .next (s.controlRow c.val q.val 0x15 always State.seqLeave)

/-- SEQ_UPDATE (R339): a slot that is leaving still counts as occupied, so that a leave and an update can meet at a boundary. -/
def State.seqUpdate (s : State) (m : Command) : Verdict :=
  let i := seqSlotOf m.raw
  if 511 < i ∨ 7 < cmdField m.raw 27 1 then .fail stCommandInvalid 0 0
  else if 2 ≤ (s.slot i).state ∧ (s.slot i).ctx = m.ctx then .park (s.parkSeq m)
  else .fail stSeqInvalid 0 0

/-- SEQ_UPDATE (R339). -/
def execSeqUpdate (c : CtxId) (q : RingId) (s : State) : Host.Outcome State Fault Refusal :=
  .next (s.controlRow c.val q.val 0x16 always State.seqUpdate)

end Sys2Proof.Machine
end

