-- ==== Sys2Proof/Machine/Complete.lean ====
section
/-! DEFINITION. Sys2Proof/Machine/Complete.lean: the end of a command: its boundary sweep (R281), load accounting and burn update (R192,
R195), contact-sheet entries (R247 to R249), completion, signal and interrupt (R324 to R327), the charge of VTIME (R307), and
completions held by CPL_RING.ENABLE (R350). -/

namespace Sys2Proof.Machine

/-! ### Contact sheet -/

/-- Low 32 bits of the CRC of the live regions' geometry signatures (R247). -/
def State.geometryFold (s : State) : Nat := crc64 (s.live.flatMap fun r => leBytes 8 (s.geometrySig r).toNat) % 2 ^ 32

/-- A contact-sheet entry (R247). -/
def State.contactBytes (s : State) (e : Ended) (p : ProofEntry) (entry : Nat) : Bytes :=
  leBytes 8 (e.seq.toNat + entry % 2 ^ 32 * 2 ^ 32) ++
  leBytes 8 (flag (e.lateTc != 0) * 2 ^ 26 + flag p.open_ * 2 ^ 27 + flag p.spill * 2 ^ 28 + s.liveMask * 2 ^ 29 + e.ctx.val * 2 ^ 37 +
    p.router * 2 ^ 41 + cmdStep e.raw * 2 ^ 48) ++
  leBytes 8 p.burn ++ leBytes 8 p.manifest ++ leBytes 8 p.output ++ leBytes 8 (e.tcRun % 2 ^ 48) ++ leBytes 8 s.reproSig.toNat ++
  leBytes 8 (s.geometryFold + e.lateTc * 2 ^ 32)

/-- One entry written, or lost (R248, R249); with whether it was lost. -/
def State.writeContact (s : State) (e : Ended) (p : ProofEntry) : State × Bool :=
  let pg := pgProof + 0x20 * e.ctx.val
  let entry := s.getF pg Fld.CONTACT_HEAD_NEXT_SEQ
  let head := s.getF pg Fld.CONTACT_HEAD_HEAD
  let size := 2 ^ s.getF pg Fld.CONTACT_CTL_SIZE_LOG2
  let s1 := s.setF pg Fld.CONTACT_HEAD_NEXT_SEQ (entry + 1)
  let full := decide (size ≤ sub32 head (s.getF pg Fld.CONTACT_TAIL_TAIL)) || s.getF pg Fld.CONTACT_CTL_ENABLE == 0
  let wrote := if full then none
    else s1.writeCtx (s.ctx e.ctx.val).windows s.leader (s.getF pg Fld.CONTACT_BASE_BASE * 64 + 64 * (head % size)) (s.contactBytes e p entry)
  match wrote with
  | some s2 => (s2.setF pg Fld.CONTACT_HEAD_HEAD (head + 1), false)
  | none => (((s1.bumpF pgProof Fld.PROOF_LOST_COUNT 1).contain pgProof 0).pend (0x70 + e.ctx.val), true)

/-- Every entry of a command, in ascending router; the command carries PROOF_LOST where one was lost. -/
def State.writeContacts (s : State) (e : Ended) : State × Ended :=
  e.proofs.foldl (fun acc p =>
    let (s1, lost) := acc.1.writeContact e p
    (s1, if lost then { acc.2 with flags := setFlag acc.2.flags flProofLost } else acc.2)) (s, e)

/-! ### Completions -/

/-- The 64 bytes of a completion with a PHASE (R327). -/
def completionBytes (e : Ended) (phase : Bool) : Bytes :=
  leBytes 8 (cmdOp e.raw + e.ring.val * 2 ^ 10 + e.ctx.val * 2 ^ 12 + cmdTag e.raw * 2 ^ 16 + e.seq.toNat * 2 ^ 32) ++
  leBytes 8 (e.flags % 2 ^ 16 + flag e.halted * 2 ^ 29 + e.index % 2 ^ 15 * 2 ^ 30 + e.region % 8 * 2 ^ 45 + e.status * 2 ^ 48) ++
  leBytes 8 (e.tcRun % 2 ^ 48 + cmdStep e.raw * 2 ^ 48) ++ leBytes 8 (e.lateTc * 2 ^ 32) ++ fit 24 e.result ++
  leBytes 8 (flag phase * 2 ^ 63)

/-- A completion's signal (R326): of an event of the command's own context, as another's is no event that it may signal. -/
def State.applySignal (s : State) (e : Ended) : State :=
  if cmdSignalEn e.raw && cmdSignal e.raw / 256 == e.ctx.val then
    let ev := cmdSignal e.raw
    let (n, f) := s.event ev
    let v : W32 × Bool := if cmdOp e.raw = 0 ∧ cmdReset e.raw then (0, false) else (n + 1, f || e.status != stSuccess)
    ({ s with events := if v = (0, false) then s.events.erase (· == ev) else s.events.set ev v }).noteWaits
  else s

/-- The completion written, HEAD moved, its signal and interrupt applied (R324, R472); a ring that does not translate tears the context
down (R321). -/
def State.writeCompletion (s : State) (e : Ended) : State :=
  let c := e.ctx.val
  let pg := pgRing c
  let head := s.getF pg Fld.CPL_PTR_HEAD
  let phase := !bitAt head (s.getF pg Fld.CPL_RING_SIZE_LOG2)
  match s.writeCtx (s.ctx c).windows s.leader (s.getF pg Fld.CPL_RING_BASE * 0x1000 + 64 * (head % s.cplSize c)) (completionBytes e phase) with
  | none => (s.contain pg 1).startTeardown c stBoundsFault true
  | some s1 =>
    let s2 := ((s1.setF pg Fld.CPL_PTR_HEAD (head + 1)).putEntries e).applySignal e
    (({ s2 with flight := s2.flight.filter fun f => f.2 != e.seq }).pend c).vfEvent s.leader 4

/-! ### VTIME (R307) -/

/-- Live clusters that the claim of an ended command counts: a set's own; one per region of a call or a copy. -/
def State.claimC (s : State) (e : Ended) : Nat :=
  if e.isSet then e.clusters else if cmdOp e.raw = 0x22 then s.live.length else if cmdOp e.raw = 0x23 then 1 else 0

/-- The charge of a command that issued. -/
def State.chargeVtime (s : State) (e : Ended) : State :=
  let share := max (recIssueShare (s.ctx e.ctx.val).record) 1
  let n := e.tcRun * s.claimC e * 256 / share
  if n = 0 then s else s.modCtx e.ctx.val fun x => { x with vtime := x.vtime + n }

/-! ### COMMAND_COMPLETE -/

/-- Whether an ended command reaches a boundary at which its context's transient basins are swept: every one but those that failed
validation and so change no state (R281, R331; log 20). -/
def Ended.sweeps (e : Ended) : Bool := e.isSet || e.issued.isSome || e.status == stSuccess

/-- The boundary of an ended command: sweep, counters, contact-sheet entries, then the burn update (R192, R195, R248, R281). -/
def State.boundaryOf (s : State) (e : Ended) : State × Ended :=
  let tc := match e.issued with | none => e.tcRun | some t => s.tcNow - t
  let lit := e.issued.isSome && s.power.safelight
  let e1 := { e with tcRun := tc, flags := if lit then setFlag e.flags flSafelight else e.flags }
  let s1 := if e.sweeps then s.sweep e.ctx.val else s
  if e.isSet then
    if e.halted then (s1, e1)
    else
      let (s2, e2) := (s1.countLoads e1).writeContacts e1
      let (s3, updated) := s2.updateBurns e2
      (s3, if updated then { e2 with flags := setFlag e2.flags flBurnUpdated } else e2)
  else (s1, e1)

/-- The copy in flight that ends first. -/
def State.firstCopy (s : State) : Option Copying :=
  s.copies.foldl (fun a k => match a with | none => some k | some b => if k.due < b.due then some k else some b) none

/-- A copy that is over goes before what has ended already. -/
def State.copyEnded (s : State) (k : Copying) : State :=
  { s with ended := { k.end_ stSuccess k.due with endTc := k.due } :: s.ended }

/-- The copy that ends before the first of the commands that have ended, if one does: its ports are free, and it is the first of them
(R271, R324); where nothing else has ended, the timeline goes on to its end. -/
def State.endCopy (s : State) : State :=
  match s.firstCopy with
  | none => s
  | some k =>
    match s.ended with
    | e :: _ => if k.due < e.endTc then (s.dropCopies (· == k)).copyEnded k else s
    | [] => ((s.reach s.leader k.due).dropCopies (· == k)).copyEnded k

/-- The first command that has ended completes (R324): its completion is written, or held while CPL_RING.ENABLE is 0 (R350). -/
def State.complete (s : State) : State :=
  let s0 := s.releaseAwaits.endCopy
  match s0.ended with
  | [] => s0
  | e :: t =>
    let (s1, e1) := ({ s0 with ended := t }).boundaryOf e
    let s2 := s1.chargeVtime e1
    (if s2.getF (pgRing e.ctx.val) Fld.CPL_RING_ENABLE == 1 then s2.writeCompletion e1
     else s2.modCtx e.ctx.val fun x => { x with held := x.held ++ [{ e1 with held := true }] }).settleIdle

/-- COMMAND_COMPLETE (R324); without a leader no completion is written (R18). -/
def execCommandComplete (s : State) : Host.Outcome State Fault Refusal := .next (if s.led then s.complete else s)

/-- A write of CPL_RING (R349, R350): setting ENABLE writes the held completions, in order. -/
def State.writeCplRing (s : State) (c w : Nat) : State :=
  let s1 := s.writeRing (pgRing c + 0xC0) w
  if s1.getF (pgRing c) Fld.CPL_RING_ENABLE == 1 then
    let held := (s1.ctx c).held
    (held.foldl (fun s e => if (s.ctx c).state == 5 then s else s.writeCompletion e)
      (s1.modCtx c fun x => { x with held := [] })).settleIdle
  else s1

/-- CPL_RING_ENABLE (R350). -/
def execCplRingEnable (c : CtxId) (w : W64) (s : State) : Host.Outcome State Fault Refusal :=
  .next (s.whereAnswers (pgRing c.val) fun s => s.writeCplRing c.val w.toNat)

end Sys2Proof.Machine
end

