-- ==== Sys2Proof/Machine/Copy.lean ====
section
/-! DEFINITION. Sys2Proof/Machine/Copy.lean: TENSOR_COPY (R270 to R272, R347). -/

namespace Sys2Proof.Machine

/-- PERM[k] of a copy. -/
def copyPerm (raw : BitVec 512) (k : Nat) : Nat := bits (cmdField raw 28 4) (3 * k + 2) (3 * k)
/-- A tensor that is blocked, planed or grouped-channel. -/
def dsSpecial (d : Bytes) : Bool := dsBlock d != 0 || elemPlaned (dsElem d) || dsLayout d == 1

/-- The conditions of R270 on two descriptors and a permutation; the tensors have one rank. -/
def copyOk (src dst : Bytes) (raw : BitVec 512) : Bool :=
  let n := dsRank src
  let perm := (List.range n).map (copyPerm raw)
  dsRank dst == n && (perm.all fun p => decide (p < n)) && perm.eraseDups.length == n &&
  ((List.range 6).all fun k => decide (k < n) || copyPerm raw k == 0) &&
  ((List.range n).all fun k => dsSize dst k == dsSize src (copyPerm raw k)) && dsElem src == dsElem dst &&
  (perm == List.range n || (!dsSpecial src && !dsSpecial dst))

/-- Whether a copy is plain: PERM is the identity. -/
def copyPlain (src : Bytes) (raw : BitVec 512) : Bool :=
  (List.range (dsRank src)).all fun k => copyPerm raw k == k

/-- The traversal number, in the source, of destination element t (R270): destination index k is source index PERM[k]. -/
def copySource (src dst : Bytes) (raw : BitVec 512) (t : Nat) : Nat :=
  (List.range (dsRank dst)).foldl (fun a k => a + dsIndexFrom dst 0 k t * dsExtent src 0 (copyPerm raw k)) 0

/-- The units of a tensor in traversal order: address and bytes. A planed type's unit is one plane of a row (R257). -/
def dsUnits (d : Bytes) : List (Nat × Nat) :=
  if elemPlaned (dsElem d) then
    (List.range (dsExtent d 1 (dsRank d))).flatMap fun o => (List.range (elemBits (dsElem d))).map fun p =>
      (((dsBase d : Int) + dsOffsetFrom d 1 o + (p : Nat) * dsPlaneStride d).toNat, dsSize d 0 / 8)
  else (List.range (dsCount d)).map fun t => (dsAddr d t, elemBytes (dsElem d))

/-- The pad positions of a grouped-channel tensor: channels SIZE[0] up to a multiple of 32, of every outer position (R255). -/
def dsPads (d : Bytes) : List (Nat × Nat) :=
  if dsLayout d = 1 ∧ dsSize d 0 % 32 ≠ 0 then
    let c := dsSize d 0 % 32
    (List.range (dsExtent d 1 (dsRank d))).map fun o =>
      (((dsBase d : Int) + ((c * elemBytes (dsElem d) : Nat) : Int) + ((dsSize d 0 / 32 : Nat) : Int) * dsStride d 0 +
        dsOffsetFrom d 1 o).toNat, (32 - c) * elemBytes (dsElem d))
  else []

/-- Whether an overlap of a copy's tensors is refused (R272). -/
def copyOverlaps (w : Tab (BitVec 128)) (src dst : Bytes) (raw : BitVec 512) : Bool :=
  let same := putField (putField (putField src 0 8 0) 0x18 8 0) 0x20 8 0 == putField (putField (putField dst 0 8 0) 0x18 8 0) 0x20 8 0
  piecesMeet (footPieces w src false) (footPieces w dst true) && !(copyPlain src raw && same)

/-- Validation of a TENSOR_COPY from step 4 on (R347). -/
def State.copyCheck (s : State) (cmd : Command) : Verdict :=
  if 7 < copyRegion cmd.raw ∨ !s.live.contains (copyRegion cmd.raw) then .fail stCommandInvalid 0 0
  else if cmdAddr cmd.raw % 64 ≠ 0 then .fail stAlignFault 0 0
  else match s.readStruct cmd (cmdAddr cmd.raw) 384 with
    | none => .fail stBoundsFault 0 0
    | some list =>
      let src := descAt list 0
      let dst := descAt list 1
      if !viewOk list 0 || !viewOk list 1 then .fail stCommandInvalid 0 0
      else match checkTensors (s.tensorEnv cmd) list [] [⟨0, true, false, false, false, .copy⟩, ⟨1, false, true, false, false, .copy⟩] with
        | some (c, i) => .fail c i 0
        | none =>
          if !copyOk src dst cmd.raw then .fail stCommandInvalid 0 0
          else if copyOverlaps cmd.windows src dst cmd.raw then .fail stOverlapFault 1 0
          else .latch { cmd with list := list }

/-- TENSOR_COPY (R347): validated and latched; the issue rule starts it. -/
def execTensorCopy (c : CtxId) (q : RingId) (s : State) : Host.Outcome State Fault Refusal :=
  .next (s.claimRow c.val q.val 0x23 State.copyCheck never)

/-- Write runs of bytes at context addresses; those that do not translate are left out (validation has translated them). -/
def State.writeRuns (s : State) (w : Tab (BitVec 128)) (r : Nat) (l : List (Nat × Bytes)) : State :=
  l.foldl (fun s e => (s.writeCtx w r e.1 e.2).getD s) s

/-- The bytes of runs at context addresses. -/
def State.readRuns (s : State) (w : Tab (BitVec 128)) (r : Nat) (l : List (Nat × Nat)) : List Bytes :=
  l.map fun e => (s.readCtx w r e.1 e.2).getD (zeros e.2)

/-- The runs of bytes that a copy moves: source address, length and destination address, its scales last (R270, R272). -/
def copyRuns (src dst : Bytes) (raw : BitVec 512) : List (Nat × Nat × Nat) :=
  let from_ := if copyPlain src raw then dsUnits src
    else (List.range (dsCount dst)).map fun t => (dsAddr src (copySource src dst raw t), elemBytes (dsElem src))
  ((from_.zip (dsUnits dst)).map fun e => (e.1.1, e.1.2, e.2.1)) ++
    if dsBlock src != 0 && dsBlock dst != 0 then [(dsScaleBase src, dsCount src / 32, dsScaleBase dst)] else []

/-- Units that follow each other and name the same bytes of a request are one transaction. -/
def addUnit (u : Nat × Int × List Nat) : List (Nat × Int × List Nat) → List (Nat × Int × List Nat)
  | [] => [u]
  | v :: t => if u.1 = v.1 ∧ u.2.1 = v.2.1 then (u.1, u.2.1, u.2.2 ++ v.2.2) :: t else u :: v :: t

/-- The transactions of a copy (R146, R271): for each unit that it moves a read and a write, dealt to the eight ports of its region in
turn. -/
def State.copyRequests (s : State) (w : Tab (BitVec 128)) (r : Nat) (runs : List (Nat × Nat × Nat)) (pads : List (Nat × Nat)) : State :=
  let reads := (runs.flatMap fun e => landUnits w e.1 e.2.1 e.2.2).foldr addUnit []
  let writes := ((runs.map fun e => (e.2.2, e.2.1)) ++ pads).flatMap (fun e => fabricUnits w true e.1 e.2 0) |>.foldr addUnit []
  let give (write : Bool) (s : State) (e : (Nat × Int × List Nat) × Nat) : State :=
    (s.modMemPort r (e.2 % 8) fun m => m.take (s.memSlots r) write none e.1).count (pgMem r (e.2 % 8)) (if write then 0x41 else 0x40) 1
  writes.zipIdx.foldl (give true) (reads.zipIdx.foldl (give false) s)

/-- A copy as it leaves memory (R270, R272): the whole source read first; pads of a grouped-channel destination +0; a plain copy
takes scales along. -/
def State.runCopy (s : State) (cmd : Command) : State :=
  let r := copyRegion cmd.raw
  let w := cmd.windows
  let dst := descAt cmd.list 1
  let runs := copyRuns (descAt cmd.list 0) dst cmd.raw
  let data := (runs.map fun e => e.2.2).zip (s.readRuns w r (runs.map fun e => (e.1, e.2.1)))
  (s.writeRuns w r (data ++ (dsPads dst).map fun e => (e.1, zeros e.2))).copyRequests w r runs (dsPads dst)

/-- Whether a copy reads bytes of region store whose check bits mark them uncorrectable (R317, R445). -/
def State.copyPoisoned (s : State) (cmd : Command) : Bool :=
  let r := copyRegion cmd.raw
  !(s.region r).poison.isEmpty && (copyRuns (descAt cmd.list 0) (descAt cmd.list 1) cmd.raw).any fun e =>
    ((translate cmd.windows false e.1 e.2.1).getD []).any fun p => p.store && s.poisoned r p.addr p.len

end Sys2Proof.Machine
end

