-- ==== Sys2Proof/Machine/Pages.lean ====
section
/-! DEFINITION. Sys2Proof/Machine/Pages.lean: writes of registers by access code (R11 to R13) and the rows that act on a page's
common header: ERR_FORCE (R431), PAGE_CTL.CLEAR and EVT_SEL (R436). -/

namespace Sys2Proof.Machine

/-- The value that a field's rule takes a written value as (R11): kind of page, offset within the page, high bit of the
field, value written. -/
def takenAs (kind off hi v : Nat) : Nat :=
  match kind, off, hi with
  | 0x02, 0x090, 31 => max v 1
  | 0x03, 0x080, 31 => max v 1
  | 0x03, 0x080, 7 => min v 0xFE
  | 0x25, 0x080, 31 => min (max v 1000) 1000000
  | 0x27, 0x088, 31 => min (max v 1000) 1000000
  | 0x0B, 0x088, 11 => min v 2048
  | 0x0A, 0x090, 47 => max v 1
  | 0x0A, 0x090, 31 => max v 1
  | 0x22, 0x088, 15 => min v 120
  | 0x22, 0x090, 31 => max v 100
  | 0x29, _, 4 => min (max v 4) 16
  | 0x24, _, 4 => min (max v 4) 20
  | 0x28, _, 13 => min v 16000
  | _, _, _ => v

/-- The word of a register after a write of data, field by field (R11, R13): a reserved bit stays, RW takes its value, W1C
clears all but the bits that events have set in the same tc (R12), RO, RC and WO store nothing. -/
def writeFields (kind off idx : Nat) (fs : List FieldSpec) (old data fresh : Nat) : Nat :=
  fs.foldl (fun w f =>
    let v := bits data f.hi f.lo
    match f.acc with
    | .rw => putBits w f.hi f.lo (takenAs kind off f.hi v)
    | .own => if 0x80 ≤ idx then putBits w f.hi f.lo v else w
    | .w1c => putBits w f.hi f.lo (bits w f.hi f.lo - Nat.land (bits w f.hi f.lo) (v - Nat.land v (bits fresh f.hi f.lo)))
    | _ => w) old

/-- Whether a write of 1 to a register's VALID clears the whole register: ERR_FIRST (R429), LAST_ESCALATION (R434). -/
def clearsWhole (a : Nat) : Bool :=
  a % 0x1000 == 0x30 || lastEscalationOff (pageKind a) == some (a % 0x1000)

/-- The bits that events have set in a register in the current tc (R12). -/
def State.freshBits (s : State) (a : Nat) : Nat := ((s.sameTc.getD a (0, 0)).1).toNat

/-- A write of a register that has no behaviour of its own, by its access codes (R11 to R13). A record captured in the same tc stays
(R432, R434). -/
def State.writePlain (s : State) (a data : Nat) : State :=
  match regSpec a with
  | none => s
  | some (sp, i) =>
    if clearsWhole a && bitAt data 63 then if bitAt (s.freshBits a) 63 then s else s.setReg a 0
    else s.setReg a (writeFields (pageKind a) (a % 0x1000) i sp.fields (s.reg a) data (s.freshBits a))

/-- What the events of the current tc alone leave in an RC field (R12): of a counter their number, of a level that a field holds the
largest of, the level as it is: HIGH_WATER of WP_QUEUE (R443) and PEAK of POWER_EST (R424). -/
def State.eventsAlone (s : State) (a : Nat) (f : FieldSpec) : Nat :=
  match s.sameTc.get? a with
  | none => 0
  | some e =>
    if pageKind a = 0x08 ∧ a % 0x1000 = 0x80 then min (s.region (a / 0x1000000)).workQueue.length 2048
    else if pageKind a = 0x22 ∧ 0x100 ≤ a % 0x1000 then bits (s.reg a) 15 0
    else bits (s.reg a) f.hi f.lo - bits e.2.toNat f.hi f.lo

/-- The value that a read returns of a register that shows w: RC fields as they were before the current tc (R12). -/
def State.beforeTc (s : State) (a w : Nat) : Nat :=
  match regSpec a, s.sameTc.get? a with
  | some (sp, _), some e => sp.fields.foldl (fun w f => if f.acc == .rc then putBits w f.hi f.lo (bits e.2.toNat f.hi f.lo) else w) w
  | _, _ => w

/-- The state with the RC fields of a register that a test selects cleared but for the events of the current tc (R11, R12). -/
def State.clearFields (s : State) (a : Nat) (sel : FieldSpec → Bool) : State :=
  match regSpec a with
  | none => s
  | some (sp, _) =>
    if sp.fields.any sel then
      let put (v : FieldSpec → Nat) (w : Nat) : Nat := sp.fields.foldl (fun w f => if sel f then putBits w f.hi f.lo (v f) else w) w
      let s1 := s.setReg a (put (s.eventsAlone a) (s.reg a))
      match s.sameTc.get? a with
      | none => s1
      | some e => { s1 with sameTc := s1.sameTc.set a (e.1, BitVec.ofNat 64 (put (fun _ => 0) e.2.toNat)) }
    else s

/-- A read clears every RC field of its register (R11, R12). -/
def State.readClear (s : State) (a : Nat) : State := s.clearFields a fun f => f.acc == .rc

/-- PAGE_STATUS.STATE: 0 live; a cell or cluster 1 resetting or 2 fenced; a link port, an edge or a memory port 3 isolated (R428). -/
def State.pageState (s : State) (pg : Nat) : Nat :=
  let r := pg / 0x1000000
  let p := pg % 0x1000000 / 0x1000
  let isolated (b : Bool) : Nat := if b then 3 else 0
  match pageKind pg with
  | 0x10 =>
    let u := s.cluster r ((p - 0x200) / 0x40)
    if u.state ≠ 0 then u.state else if u.resetting.contains (p % 0x40) then 1 else if u.fencedCells.contains (p % 0x40) then 2 else 0
  | 0x0F => (s.cluster r (p - 0x100)).state
  | 0x0A => isolated (s.getF pg Fld.LINK_STATE_STATE == 6)
  | 0x0C => isolated (s.getF pg Fld.EDGE_STATE_STATE == 6)
  | 0x09 => isolated (s.getF pg Fld.MP_STATE_STATE == 1)
  | _ => 0

/-- A write of a register of a page that answers, where the page's unit takes writes: not while it resets, and in a fenced unit only
ERR_STATUS, ERR_MASK and ERR_FIRST (R428). -/
def State.takesWrite (s : State) (a : Nat) : Bool :=
  match s.pageState (pageBase a) with
  | 1 => false
  | 2 => a % 0x1000 == 0x18 || a % 0x1000 == 0x20 || a % 0x1000 == 0x30
  | _ => true

/-- A write of the register at an offset from E, where it is taken (R9, R428). -/
def State.whereTaken (s : State) (a : Nat) (f : State → State) : State :=
  s.whereAnswers (pageBase a) fun s => if s.takesWrite a then f s else s

/-- A write of ERR_FORCE of a page (R431, R432): each assigned bit written with 1 raises its fault as far as the page's own
registers are concerned, lowest first, and FORCED is counted once. -/
def State.forceErrors (s : State) (pg w : Nat) : State :=
  let is := (List.range (errBits (pageKind pg))).filter (bitAt w)
  let s1 := is.foldl (fun s i => s.record pg i true) s
  if bits w 31 0 == 0 then s1 else s1.count pg 6 1

/-- ERR_FORCE (R431). -/
def execErrForce (page : BitVec 16) (w : W64) (s : State) : Host.Outcome State Fault Refusal :=
  .next (s.whereTaken (page.toNat * 0x1000 + 0x28) fun s => s.forceErrors (page.toNat * 0x1000) w.toNat)

/-- A write of PAGE_CTL: ENABLE is stored; CLEAR clears the counting counters as a read does (R429, R436). -/
def State.writePageCtl (s : State) (pg w : Nat) : State :=
  let s1 := s.setF pg Fld.PAGE_CTL_ENABLE (bits w 0 0)
  if bitAt w 1 then
    (List.range 8).foldl (fun s i =>
      if bits (s.reg (pg + 0x38)) (8 * i + 7) (8 * i) < 0x80 then s.readClear (pg + 8 * i + Fld.EVT_CNT_COUNT.off) else s) s1
  else s1

/-- PAGE_CTL_CLEAR (R436). -/
def execPageCtlClear (page : BitVec 16) (w : W64) (s : State) : Host.Outcome State Fault Refusal :=
  .next (s.whereTaken (page.toNat * 0x1000 + 0x08) fun s => s.writePageCtl (page.toNat * 0x1000) w.toNat)

/-- A write of EVT_SEL: counters whose code changes read 0, and count the new code from the next tc (R436). -/
def State.writeEvtSel (s : State) (pg w : Nat) : State :=
  let old := s.reg (pg + 0x38)
  (List.range 8).foldl (fun s i =>
    if bits old (8 * i + 7) (8 * i) == bits w (8 * i + 7) (8 * i) then s
    else s.resetRegs fun a => a == pg + 8 * i + Fld.EVT_CNT_COUNT.off) ((s.note (pg + 0x38) 0).setReg (pg + 0x38) w)

/-- EVT_SEL_WRITE (R436). -/
def execEvtSelWrite (page : BitVec 16) (w : W64) (s : State) : Host.Outcome State Fault Refusal :=
  .next (s.whereTaken (page.toNat * 0x1000 + 0x38) fun s => s.writeEvtSel (page.toNat * 0x1000) w.toNat)

end Sys2Proof.Machine
end

