-- ==== Sys2Proof/Machine/Sched.lean ====
section
/-! DEFINITION. Sys2Proof/Machine/Sched.lean: readiness (R305), claims (R304), the issue rule (R306), relocation and eviction (R301, R310,
R311), saves and loads (R312, R313), the end of a teardown (R318), regulators (R309, R320), budgets (R315) and the wait for link
credit (R137). -/

namespace Sys2Proof.Machine

/-! ### Readiness -/

/-- RATE and DEPTH in force in region r for partition p (R309, R320). -/
def State.rateIn (s : State) (r : Nat) (link : Bool) (p : Nat) : Nat × Nat :=
  let w := ((s.region r).rates.getD (if link then 8 + p else p) 0).toNat
  (bits w 19 0, bits w 39 20)

/-- Level of a bucket. -/
def State.bucketAt (s : State) (r : Nat) (link : Bool) (p : Nat) : Nat := (s.region r).buckets.getD (if link then 8 + p else p) 0

/-- Every regulator bucket holds the set's byte bounds (R309). -/
def State.regulated (s : State) (m : Command) : Bool :=
  let x := s.ctx m.ctx.val
  let p := recPartition x.record
  (s.cmdImages m).all fun im =>
    let r := im.region.val
    ((s.rateIn r false p).1 == 0 || decide (s.memBound m x.routers im ≤ s.bucketAt r false p)) &&
    ((s.rateIn r true p).1 == 0 || decide (s.linkBound x.routers m.list im ≤ s.bucketAt r true p))

/-- Link credit holds the set's link bound toward every peer (R137). -/
def State.credited (s : State) (m : Command) : Bool :=
  (s.setLinkBounds m (s.cmdImages m)).all fun e => decide (e.2 ≤ (s.membership.credit.getD e.1 (0, 0)).1)

/-- The cost of a copy on eight ports (R271): 64 B per tc and port, edge tiles of a transposing copy in full, paced by the
slots. -/
def State.copyCost (s : State) (m : Command) : Nat :=
  let src := descAt m.list 0
  let r := copyRegion m.raw
  let swaps := copyPerm m.raw 0 == 1 && copyPerm m.raw 1 == 0 && decide (2 ≤ dsRank src)
  let elems := if swaps then 32 * ceilDiv (dsSize src 0) 32 * (32 * ceilDiv (dsSize src 1) 32) * dsExtent src 2 (dsRank src) else dsCount src
  let tcs := ceilDiv (ceilDiv (elems * elemBits (dsElem src)) 8) 512
  let slots := s.memSlots r
  if slots < 2 * s.latMem r then ceilDiv (tcs * (2 * s.latMem r)) (max slots 1) else tcs

/-- What a command costs its real-time budget (R315, R333). -/
def State.rtCost (s : State) (m : Command) : Nat :=
  match cmdOp m.raw with
  | 0x20 => (((s.ctx m.ctx.val).sets.get? (cmdSet m.raw)).map (·.1)).getD 0
  | 0x21 => (((s.ctx m.ctx.val).sets.get? (cmdSet m.raw)).map (·.1)).getD 0
  | 0x22 => 2408 + 13 * cfSize m.raw +
      (if 1 < (s.group (cfGroup m.raw)).live.length then s.getF pgConfluence Fld.CF_CFG_WATCHDOG * gradeMHz s.bringUp.grade else 0)
  | 0x23 => 512 + s.copyCost m
  | _ => 0

/-- A sequence change of the command's STEP that was validated before it waits (R303). -/
def State.stepWaits (s : State) (m : Command) : Bool :=
  let before := (s.flight.takeWhile fun f => f.2 != m.seq).map (·.2)
  (s.ctx m.ctx.val).seqWait.any fun k => cmdStep k.raw == cmdStep m.raw && before.contains k.seq

/-- Whether a command is a cross-member one (R392). -/
def State.crosses (s : State) (m : Command) : Bool :=
  let op := cmdOp m.raw
  if isSetOp op then s.crossesSet m else op == 0x22 && s.crossesCall m

/-- Plate sets and calls wait while a region resets or is to reset at the next command boundary (R411, R414), cross-member ones while an epoch boundary is under way (R392). -/
def State.heldBack (s : State) (m : Command) : Bool :=
  let op := cmdOp m.raw
  ((isSetOp op || op == 0x22) && s.regions.any fun e => e.2.health == 2 || e.2.resetAtBoundary) || (s.membership.phase != 0 && s.crosses m)

/-- Whether a latched command with a claim is ready (R305), but for the sequence changes that it may wait for. -/
def State.readyButStep (s : State) (m : Command) : Bool :=
  s.cplEnabled m.ctx.val && s.serialHolds m && !s.heldBack m &&
  (!isSetOp (cmdOp m.raw) || (!s.routersBusy m (s.commandRouters m) && s.regulated m && s.credited m)) &&
  (recPriority (s.ctx m.ctx.val).record == 0 || decide (s.rtCost m ≤ (s.ctx m.ctx.val).budget))

/-- Whether a latched command with a claim is ready (R303, R305). -/
def State.cmdReady (s : State) (m : Command) : Bool := s.readyButStep m && (cmdOp m.raw != 0x20 || !s.stepWaits m)

/-- Whether a command's opcode has a claim. -/
def opClaims (op : Nat) : Bool := decide (0x20 ≤ op ∧ op ≤ 0x23)

/-- Whether a latched command without a claim is ready (R195, R323, R341, R350). -/
def State.controlReady (s : State) (m : Command) : Bool :=
  s.cplEnabled m.ctx.val && s.serialHolds m &&
  (match cmdOp m.raw with
   | 0x17 | 0x18 => balanceOwn s m
   | 0x10 | 0x11 => s.slotFree m
   | _ => true)

/-- Whether a latched command is ready (R305). -/
def State.latchedReady (s : State) (m : Command) : Bool := if opClaims (cmdOp m.raw) then s.cmdReady m else s.controlReady m

/-- What the leader's checks of a command with a claim come to (R329). -/
def State.claimCheck (s : State) (m : Command) : Verdict :=
  match cmdOp m.raw with
  | 0x22 => s.confluenceCheck m
  | 0x23 => s.copyCheck m
  | _ => s.runCheck m

/-- A command as it stands once it has been validated; one that fails a check takes no claim and waits for nothing more. -/
def State.afterChecks (s : State) (m : Command) : Option Command :=
  if !opClaims (cmdOp m.raw) then some m
  else match s.preCheck m.ctx.val m.raw, s.claimCheck m with
    | none, .latch k => some k
    | _, _ => none

/-- Whether the head of a ring is ready, whatever its context's residency (R305): one that has not been validated is as ready as it will
be then, and never without room for its completion (R324). -/
def State.headReady (s : State) (c q : Nat) : Bool :=
  match (s.ctx c).heads.get? q with
  | none => false
  | some h =>
    match h.cmd with
    | some m => s.latchedReady m
    | none =>
      s.canValidate c q &&
      (let p := s.number c q h.raw
       match p.2.afterChecks p.1 with
       | none => true
       | some m => p.2.latchedReady m)

/-- Some head of a context is ready. -/
def State.anyReady (s : State) (c : Nat) : Bool := (List.range 4).any (s.headReady c)
/-- BLOCKED (R297). -/
def State.blocked (s : State) (c : Nat) : Bool := !s.ctxIdle c && !s.running c && !s.anyReady c

/-! ### Claims (R304, R306) -/

/-- Memory ports that an image's PORT_MAP gives to any unit. -/
def imagePorts (im : Image) : Nat := maskOf ((List.range 8).filter fun p => bits im.portMap.toNat (4 * p + 3) (4 * p) != 15)

/-- Units and memory ports that a command claims in region r. -/
def State.claimIn (s : State) (m : Command) (r : Nat) : Nat × Nat :=
  match cmdOp m.raw with
  | 0x22 => (2 ^ 11, 0)
  | 0x23 => (0, if copyRegion m.raw = r then 255 else 0)
  | _ => (s.cmdImages m).foldl (fun a im => if im.region.val = r then (Nat.lor a.1 (imageUnits im), Nat.lor a.2 (imagePorts im)) else a) (0, 0)

/-- Units and memory ports that are claimed in region r: by the sets, the copies and the calls in flight. -/
def State.claimedIn (s : State) (r : Nat) : Nat × Nat :=
  let calls := if s.groups.any fun e => e.2.calls.any fun k => k.run.isNone then 2 ^ 11 else 0
  let copies := if s.copies.any fun k => copyRegion k.cmd.raw == r && decide (s.tcNow < k.due) then 255 else 0
  s.runs.foldl (fun a y =>
    match y.regions.get? r with
    | none => a
    | some g => (Nat.lor a.1 (imageUnits g.image), Nat.lor a.2 (imagePorts g.image))) (calls, copies)

/-- A save, a load or a pending load holds the memory ports (R312). -/
def State.portsHeld (s : State) : Bool := s.loading.isSome || !s.saving.isEmpty

/-- Whether a command's whole claim is free. -/
def State.claimFree (s : State) (m : Command) : Bool :=
  s.live.all fun r =>
    let a := s.claimIn m r
    let b := s.claimedIn r
    Nat.land a.1 b.1 == 0 && Nat.land a.2 b.2 == 0 && (a.2 == 0 || !s.portsHeld)

/-! ### Issue -/

/-- The first multiple of 64 at least 512 tc after now (R58). -/
def epochAfter (tc : Nat) : Nat := 64 * ceilDiv (tc + 512) 64

/-- One region's part of a set before its epoch. -/
def RegionRun.waiting (im : Image) : RegionRun :=
  { image := im, bundle := 0, todo := [], last := 0, begun := false, lastBundle := 0, loops := [], passes := 0, spills := [], hold := 0, free := [], busy := [],
    cnt := [], ready := [], opened := [], halt := none, ended := none, late := 0, digests := [], handOvers := [], load := [],
    burned := [], spill := 0, drop := 0, skipped := 0, flags := 0, valid := [], loadedTokens := [], sorted := [], streams := [], mapped := [], works := [], ext := ⟨0, 0, 0⟩, sends := [] }

/-- A plate set issues: it is in flight until its epoch cycle starts it. -/
def State.issueSet (s : State) (m : Command) : State :=
  let run : Run :=
    { cmd := m, set := cmdSet m.raw, issue := s.tcNow, epoch := epochAfter s.tcNow, started := false,
      regions := (s.cmdImages m).foldl (fun t im => t.set im.region.val (RegionRun.waiting im)) [], routers := [], rewritten := [],
      placements := [], seed := 0, schedules := [], burn := [], slots := [], open_ := false, safelight := s.power.safelight }
  { s with runs := s.runs ++ [run] }

/-- A copy issues (R271, R347): it holds the ports of its REGION for what it costs; bytes of its source whose check bits mark them
uncorrectable tear its context down (R317, R445; log 49). -/
def State.issueCopy (s : State) (m : Command) : State :=
  let k : Copying := ⟨m, s.tcNow, s.tcNow + s.copyCost m, s.power.safelight⟩
  let t := { s with copies := s.copies ++ [k] }
  if s.copyPoisoned m then t.startTeardown m.ctx.val stContextFault false else t.runCopy m

/-- A latched command issues and leaves its ring (R306, R315). -/
def State.issue (s : State) (m : Command) : State :=
  let c := m.ctx.val
  let cost := if recPriority (s.ctx c).record = 1 then s.rtCost m else 0
  let s1 := match cmdOp m.raw with
    | 0x22 => s.issueCall m
    | 0x23 => s.issueCopy m
    | _ => s.issueSet m
  (s1.modCtx c fun x => { x with lastRing := m.ring.val, budget := x.budget - cost }).popHead c m.ring.val

/-- The rings of a context after the one that issued last, wrapping (R306). -/
def ringsAfter (last : Nat) : List Nat := (List.range 4).map fun i => (last + 1 + i) % 4

/-- The command that a context offers to the issue rule. -/
def State.offer (s : State) (c : Nat) : Option Command :=
  (ringsAfter (s.ctx c).lastRing).findSome? fun q =>
    ((s.ctx c).heads.get? q).bind fun h => h.cmd.bind fun m =>
      if opClaims (cmdOp m.raw) && s.cmdReady m && s.claimFree m then some m else none

/-- The order of R306: high priority first, then the lower VTIME, then the lower context. -/
def State.keyLess (s : State) (a b : Nat) : Bool :=
  let x := s.ctx a
  let y := s.ctx b
  let p := recPriority x.record
  let q := recPriority y.record
  decide (q < p) || (p == q && (decide (x.vtime < y.vtime) || (x.vtime == y.vtime && decide (a < b))))

/-- The first of contexts by the key of R306. -/
def State.firstByKey (s : State) (l : List Nat) : Option Nat :=
  l.foldl (fun m c => match m with | none => some c | some b => if s.keyLess c b then some c else some b) none

/-- The issue rule (R306) for so many commands at most. -/
def State.issueLoop (s : State) : Nat → State
  | 0 => s
  | fuel + 1 =>
    match s.firstByKey ((List.range 16).filter fun c => (s.ctx c).state == 1 && (s.offer c).isSome) with
    | none => s
    | some c => match s.offer c with | none => s | some m => (s.issue m).issueLoop fuel

/-! ### Step boundaries (R303) -/

/-- Entries of ring q of a context that the leader has not read. -/
def State.unread (s : State) (c q : Nat) : List (BitVec 512) :=
  let base := s.getF (ringPage c q) Fld.CMD_RING_BASE * 0x1000
  (List.range (s.ringLeft c q)).map fun i =>
    BitVec.ofNat 512 (leNat ((s.readCtx (s.ctx c).windows s.leader (base + 64 * ((s.ringHead c q + i) % s.ringSize c q)) 64).getD []))

/-- A routed-layer command of a STEP. -/
def layerOf (step : Nat) (raw : BitVec 512) : Bool := cmdOp raw == 0x20 && cmdStep raw == step

/-- Whether the rings of a context carry a routed-layer command of a STEP. -/
def State.carries (s : State) (c step : Nat) : Bool :=
  ((s.ctx c).heads.any fun h => layerOf step h.2.raw) || (List.range 4).any fun q => (s.unread c q).any (layerOf step)

/-- Whether a routed-layer command of a STEP is about to issue: nothing but its sequence changes holds it (R303). -/
def State.layerNext (s : State) (c step : Nat) : Bool :=
  (s.ctx c).state == 1 && (s.ctx c).heads.any fun h => match h.2.cmd with
    | none => false
    | some m => layerOf step m.raw && s.readyButStep m && s.claimFree m

/-- Whether the sequence changes of a step may take effect (R303): every command of the context validated before any of them has
completed, but for themselves; and the first routed-layer command of the STEP is about to issue or, where the rings carry none, no
routed-layer command of the context is in flight. -/
def State.boundaryReady (s : State) (c step : Nat) : Bool :=
  let here := (s.ctx c).seqWait.filter fun m => cmdStep m.raw == step
  let own (q : W32) : Bool := here.any fun m => m.seq == q
  !here.isEmpty &&
  (here.all fun m => (s.flight.takeWhile fun f => f.2 != m.seq).all fun f => f.1.val != c || own f.2) &&
  (if s.carries c step then s.layerNext c step
   else !(s.runs.any fun x => x.cmd.ctx.val == c && cmdOp x.cmd.raw == 0x20) &&
    !(s.ended.any fun e => e.ctx.val == c && cmdOp e.raw == 0x20))

/-- The sequence changes of a step take effect: leaves, then updates, then joins, each kind in order of validation. -/
def State.boundary (s : State) (c step : Nat) : State :=
  let here := (s.ctx c).seqWait.filter fun m => cmdStep m.raw == step
  let s0 := s.modCtx c fun x => { x with seqWait := x.seqWait.filter fun m => cmdStep m.raw != step }
  let kind (op : Nat) : List Command := here.filter fun m => cmdOp m.raw == op
  (kind 0x14).foldl State.joinNow ((kind 0x16).foldl State.updateNow ((kind 0x15).foldl State.leaveNow s0))

/-- STEP_BOUNDARY (R303). -/
def execStepBoundary (c : CtxId) (step : BitVec 16) (s : State) : Host.Outcome State Fault Refusal :=
  .next (if s.boundaryReady c.val step.toNat then s.boundary c.val step.toNat else s)

/-! ### Issue points -/

/-- VTIMEs come down when the smallest of the open contexts reaches 2^47 (R307). -/
def State.wrapVtime (s : State) : State :=
  let open_ := (List.range 16).filter fun c => (s.ctx c).state != 0
  if !open_.isEmpty && open_.all fun c => decide (2 ^ 47 ≤ (s.ctx c).vtime) then
    open_.foldl (fun s c => s.modCtx c fun x => { x with vtime := x.vtime - 2 ^ 46 }) s
  else s

/-- Heads whose opcode the engine does not define are validated, and fail with COMMAND_INVALID (R329, R333). -/
def State.refuseUndefined (s : State) : State :=
  (List.range 64).foldl (fun s i =>
    let c := i / 4
    let q := i % 4
    match (s.ctx c).heads.get? q with
    | none => s
    | some h =>
      if !opDefined (cmdOp h.raw) && s.canValidate c q then
        let (m, s1) := s.number c q h.raw
        s1.settle m (.fail stCommandInvalid 0 0)
      else s) s

/-! ### Loads (R301, R312) -/

/-- The share of a context is placed and its load begins. -/
def State.beginLoad (s : State) (c b : Nat) : State :=
  { (s.placeAt c b).modCtx c fun x => { x with state := 3 } with loading := some (Fin.ofNat 16 c) }

/-- A load begins at the place found for the share, or relocates the shares where that makes one; else it is given up. -/
def State.loadFound (s : State) (c : Nat) : Option Nat → State
  | some b => s.beginLoad c b
  | none => if s.fitsCompacted c then { s with relocating := true } else { s with loading := none }

/-- A pending load goes on once no save or relocation is in progress: its share is placed, or the shares are relocated. -/
def State.tryLoad (s : State) : State :=
  match s.loading with
  | none => s
  | some c =>
    if (s.ctx c.val).state != 2 || !s.saving.isEmpty || s.relocating then s
    else s.loadFound c.val (s.firstFit c.val (recShareG (s.ctx c.val).record))

/-! ### Eviction (R310, R311) -/

/-- Evictable contexts (R310). One with a CONFLUENCE call in progress is RUNNING. -/
def State.evictable (s : State) (c : Nat) : Bool :=
  let x := s.ctx c
  c != 0 && x.state == 1 && !s.running c && recLanding x.record == 0

/-- Insert a context by how long it has been idle or blocked: longest first, then the lower number. -/
def insertSince (since : Nat → Nat) (c : Nat) : List Nat → List Nat
  | [] => [c]
  | d :: t => if since c < since d ∨ (since c = since d ∧ c < d) then c :: d :: t else d :: insertSince since c t

/-- Evictable idle contexts, longest idle first. -/
def State.idleOnes (s : State) (p : Nat → Bool) : List Nat :=
  ((List.range 16).filter fun c => s.evictable c && s.ctxIdle c && p c).foldr (insertSince fun c => (s.ctx c).idleSince) []
/-- Evictable blocked contexts, longest blocked first. -/
def State.blockedOnes (s : State) (p : Nat → Bool) : List Nat :=
  ((List.range 16).filter fun c => s.evictable c && s.blocked c && p c).foldr (insertSince fun c => (s.ctx c).blockedSince) []

/-- The contexts without their shares. -/
def State.withoutShares (s : State) (l : List Nat) : State :=
  l.foldl (fun s c => s.modCtx c fun x => { x with share := none, state := 2 }) s

/-- The shortest run of victims, in order, that makes a context's share fit. -/
def State.victims (s : State) (c : Nat) (order : List Nat) : Option (List Nat) :=
  ((List.range (order.length + 1)).map fun n => order.take n).find? fun l => (s.withoutShares l).fitsCompacted c

/-- Evict contexts for another, with the cause of LAST_EVICT: their saves begin (R311, R320). -/
def State.evict (s : State) (c cause : Nat) (l : List Nat) : State :=
  let s1 := l.foldl (fun s v =>
    ((((s.modCtx v fun x => { x with state := 4 }).bumpF pgSched Fld.EVICT_COUNT_COUNT 1).setF pgSched Fld.LAST_EVICT_FOR_CONTEXT c).setF
      pgSched Fld.LAST_EVICT_CONTEXT v).setF pgSched Fld.LAST_EVICT_CAUSE cause) s
  { s1 with saving := s1.saving ++ l.map (Fin.ofNat 16), loading := some (Fin.ofNat 16 c) }.tryLoad

/-- What the eviction rule does for one waiting context: the first case of R311 whose table makes its share fit; none where none
does. -/
def State.serve (s : State) (c : Nat) : Option State :=
  let high (d : Nat) : Bool := recPriority (s.ctx d).record == 1
  let normal (d : Nat) : Bool := !high d
  let grace := s.getF pgSched Fld.SCHED_CFG_IDLE_GRACE * 1000
  let quiet := (List.range 16).all fun d => d == 0 || (s.ctx d).state != 1 || s.blocked d || s.ctxIdle d
  let cases : List (Nat × List Nat) :=
    (if high c then [(0, s.idleOnes normal ++ s.idleOnes high ++ s.blockedOnes normal)] else []) ++
    (if quiet then [(1, s.blockedOnes (fun _ => true) ++ s.idleOnes fun _ => true)] else []) ++
    (if normal c then [(2, s.idleOnes fun d => decide ((s.ctx d).idleSince + grace ≤ s.time))] else [])
  (cases.findSome? fun k => (s.victims c k.2).map fun l => (k.1, l)).map fun e => s.evict c e.1 e.2

/-- Insert a context by the key of R306. -/
def State.insertKey (s : State) (c : Nat) : List Nat → List Nat
  | [] => [c]
  | d :: t => if s.keyLess d c then d :: s.insertKey c t else c :: d :: t

/-- The waiting contexts are served by the key of R306, high priority first; a share that fits as it is, or after relocation,
needs no eviction, and a context that cannot be served leaves the next one its turn. -/
def State.placeWaiting (s : State) : State :=
  if s.loading.isSome || !s.saving.isEmpty then s.tryLoad
  else (((((List.range 16).filter fun c => (s.ctx c).state == 2 && s.anyReady c).foldr s.insertKey []).findSome? s.serve)).getD s

/-- Contexts that are not blocked stand at no blocked time (R311). -/
def State.noteBlocked (s : State) : State :=
  (List.range 16).foldl (fun s c =>
    if (s.ctx c).state == 0 || s.blocked c then s else s.modCtx c fun x => { x with blockedSince := s.time }) s

/-- An issue point (R306). Nothing issues before bring-up has ended, without a leader, in a held reset or in power-fail; in NOT_READY
what was validated still issues (R409). -/
def State.issuePoint (s : State) : State :=
  if decide (s.bringState < 10) || !s.led || s.power.held || s.power.powerFail then s
  else ((s.refuseUndefined.wrapVtime.issueLoop 64).noteBlocked.placeWaiting).settleIdle

/-- ISSUE_POINT (R306). -/
def execIssuePoint (s : State) : Host.Outcome State Fault Refusal := .next s.issuePoint

/-- RELOCATION_DONE (R301): the shares stand at their new granules, and a pending load goes on. -/
def execRelocationDone (s : State) : Host.Outcome State Fault Refusal :=
  .next (if s.relocating then ({ s.compact with relocating := false }).tryLoad else s)

/-! ### Saves and loads (R312 to R314) -/

/-- No command in flight holds a memory port. -/
def State.portsIdle (s : State) : Bool := s.live.all fun r => (s.claimedIn r).2 == 0

/-- Status encoding of a failed transfer (R317). -/
def transferCode (f : TransferFault) : Nat := match f with | .translation => stBoundsFault | .data => stContextFault

/-- Bytes of a staging bank from its first to its last that is not 0. -/
def Bank.extent (b : Bank) : Nat := (b.bytes.getLast?.map fun c => c.1 + 1).getD 0

/-- The tag of a staging bank in the save area, 24 bytes: whether it is set and names a pair, router, extent, bytes loaded, generation and
scale (log 97). -/
def Bank.tagBytes (b : Bank) : Bytes :=
  let t := b.tag.getD (0, 0, 0)
  leBytes 1 (flag b.tag.isSome + flag b.pair * 2 + flag b.poison * 4) ++ leBytes 1 t.1 ++ zeros 2 ++ leBytes 4 b.extent ++ leBytes 4 b.size ++
    leBytes 8 t.2.1 ++ leBytes 4 t.2.2

/-- The bank that tag bytes and saved bytes spell. -/
def bankOf (tag bs : Bytes) : Bank :=
  { bytes := Memory.write [] 0 bs, pair := bitAt (field tag 0 1) 1, size := field tag 8 4, poison := bitAt (field tag 0 1) 2,
    tag := if bitAt (field tag 0 1) 0 then some (field tag 1 1, field tag 12 8, field tag 20 4) else none }

/-- Tags and ACTIVE bit of region r in the save area: 64 bytes (R313). -/
def Ctx.tagBlock (x : Ctx) (r : Nat) : Bytes :=
  let none_ : Bank := ⟨[], none, false, 0, false⟩
  fit 64 ((x.banks.getD (2 * r) none_).tagBytes ++ (x.banks.getD (2 * r + 1) none_).tagBytes ++ leBytes 1 (x.active.getD r 0))

/-- The record of an occupied slot, 256 bytes (R302, R313; log 97). -/
def SeqSlot.record (x : SeqSlot) : Bytes :=
  fit 256 (leBytes 1 x.ctx.val ++ leBytes 1 x.state ++ leBytes 1 x.negBudget ++ leBytes 1 x.maxAge ++ leBytes 4 x.tokenFirst ++
    leBytes 4 x.tokenCount ++ leBytes 4 x.maxTokens ++ leBytes 2 x.schedule ++ leBytes 2 x.joinStep ++ leBytes 16 x.layerSkip.toNat ++
    (x.planes.flatMap fun p => leBytes 1 p.1 ++ p.2.flatMap (leBytes 4 ·)))

/-- Places in the save area behind STATE_BASE (log 97): the slot records, the burn tables and the staging banks. -/
def saveSlotAt (i : Nat) : Nat := 0x1000 + 256 * i
/-- Where the burn table of a router lies. -/
def saveBurnAt (ρ : Nat) : Nat := 0x40000 + 4096 * ρ
/-- Where a staging bank lies. -/
def saveBankAt (k : Nat) : Nat := 0x100000 + 0x800000 * k

/-- The parts of a context's save image: where each lies, its bytes, and whether it is dirty (R313). -/
def State.imageParts (s : State) (c : Nat) : List (Nat × Bytes × Bool) :=
  let x := s.ctx c
  ((List.range 8).map fun r => (0x40 + 64 * r, x.tagBlock r, true)) ++
  (x.banks.map fun e => (saveBankAt e.1, Memory.read e.2.bytes 0 e.2.extent, x.dirtyBanks.contains e.1)) ++
  (x.routers.map fun e => (saveBurnAt e.1, (x.burnOf e.1 (rtE e.2)).flatMap (fun b => leBytes 4 b.toNat), x.dirtyBurn.contains e.1)) ++
  ((s.slots.filter fun e => e.2.ctx.val == c && e.2.state != 0).map fun e => (saveSlotAt e.1, e.2.record, x.dirtySlots.contains e.1))

/-- The dirty parts of a context written to its save area through its window table, and the image's CRC (R313); none where it does not
translate. -/
def State.writeImage (s : State) (c : Nat) : Option State :=
  let x := s.ctx c
  let parts := s.imageParts c
  let crc := leBytes 8 (crc64 (parts.flatMap fun p => p.2.1))
  ((0, crc) :: (parts.filter fun p => p.2.2).map fun p => (p.1, p.2.1)).foldl (fun o p =>
    o.bind fun t => t.writeCtx x.windows s.leader (recStateBase x.record + p.1) p.2) (some s)

/-- The save of a context ends (R313): its dirty state is in the save area, its share is free; a save area that does not translate tears
it down (R317). -/
def State.saveDone (s : State) (c : Nat) : State :=
  match s.writeImage c with
  | none => (s.startTeardown c stBoundsFault false).tryLoad
  | some s0 =>
    let s1 := { s0 with saving := s0.saving.filter fun v => v.val != c }
    (s1.modCtx c fun x =>
      { x with state := 2, share := none, saved := true, banks := [], dirtyBanks := [], dirtyBurn := [], dirtySlots := [] }).tryLoad

/-- CONTEXT_SAVE_DONE (R313): saves run once the commands in flight have left the memory ports (R312); one that fails tears the
context down (R314, R317). -/
def execContextSaveDone (c : CtxId) (bad : Option TransferFault) (s : State) : Host.Outcome State Fault Refusal :=
  .next (if (s.ctx c.val).state == 4 && s.portsIdle then
    match bad with
    | none => s.saveDone c.val
    | some f => (s.startTeardown c.val (transferCode f) false).tryLoad
  else s)

/-- What a load reads of a save area (R313): the banks that its tags name, ACTIVE and the burn tables; the code of a failure where it does
not translate or its CRC differs (R317). -/
def State.loadImage (s : State) (c : Nat) : Except Nat (Tab Bank × Tab Nat × Tab (List W32)) :=
  let x := s.ctx c
  let get (at_ n : Nat) : Option Bytes := s.readCtx x.windows s.leader (recStateBase x.record + at_) n
  match get 0 8, get 0x40 512 with
  | some crc, some tags =>
    let banks := (List.range 16).filterMap fun k =>
      let t := (tags.drop (64 * (k / 2) + 24 * (k % 2))).take 24
      if field t 0 1 = 0 ∧ field t 4 4 = 0 then none else some (k, t)
    let slots := s.slots.filter fun e => e.2.ctx.val == c && e.2.state != 0
    match banks.mapM fun e => get (saveBankAt e.1) (field e.2 4 4), x.routers.mapM fun e => get (saveBurnAt e.1) (4 * rtE e.2),
        slots.mapM fun e => get (saveSlotAt e.1) 256 with
    | some bs, some burns, some recs =>
      if crc64 (tags ++ bs.flatten ++ burns.flatten ++ recs.flatten) ≠ leNat crc then .error stContextFault
      else .ok ((banks.zip bs).map (fun e => (e.1.1, bankOf e.1.2 e.2)),
        (List.range 8).filterMap (fun r => if field tags (64 * r + 48) 1 = 0 then none else some (r, field tags (64 * r + 48) 1)),
        (x.routers.zip burns).map fun e => (e.1.1, (words e.2 4 (rtE e.1.2)).map (BitVec.ofNat 32 ·)))
    | _, _, _ => .error stBoundsFault
  | _, _ => .error stBoundsFault

/-- The load of a context ends (R313): RESIDENT, with what its save area holds; a context that was never saved has nothing to load. -/
def State.loadDone (s : State) (c : Nat) : State :=
  if !(s.ctx c).saved then ({ s with loading := none }).modCtx c fun x => { x with state := 1 }
  else match s.loadImage c with
    | .error code => s.startTeardown c code false
    | .ok (banks, active, burn) =>
      ({ s with loading := none }).modCtx c fun x => { x with state := 1, saved := false, banks := banks, active := active, burn := burn }

/-- CONTEXT_LOAD_DONE (R313). -/
def execContextLoadDone (c : CtxId) (bad : Option TransferFault) (s : State) : Host.Outcome State Fault Refusal :=
  .next (if (s.ctx c.val).state == 3 && s.portsIdle then
    match bad with
    | none => s.loadDone c.val
    | some f => s.startTeardown c.val (transferCode f) false
  else s)

/-! ### The end of a teardown (R318) -/

/-- Commands of a context that were running (R318 step 5); with them a CONTEXT_KILL of its own context, which waits for the end. -/
def State.runningEnds (s : State) (c : Nat) : List Ended :=
  ((s.deferred.filter fun e => e.2.ctx.val == c).map fun e => { e.2 with status := stContextFault }).foldr s.insertByFlight (s.ctx c).tornRunning

/-- Commands of a context validated and not issued, in the order of validation. -/
def State.validatedEnds (s : State) (c : Nat) : List Ended :=
  (((((s.ctx c).heads.filterMap fun h => h.2.cmd) ++ (s.ctx c).seqWait).map fun m =>
    plainEnd m stContextFault 0 0 none 0 (zeros 24))).foldr s.insertByFlight []

/-- Commands never validated, ring 0 to 3, each from its head; an entry that cannot be read completes with its fields 0. -/
def State.unreadEnds (s : State) (c : Nat) : List Ended :=
  (List.range 4).flatMap fun q =>
    let mk (raw : BitVec 512) : Ended :=
      plainEnd ⟨Fin.ofNat 16 c, Fin.ofNat 4 q, raw, 0, false, [], [], [], []⟩ stContextFault 0 0 none 0 (zeros 24)
    let head := match (s.ctx c).heads.get? q with | none => [] | some h => if h.cmd.isNone then [mk h.raw] else []
    head ++ (s.unread c q).map mk

/-- The firmware opens the supervisor context (R296). -/
def State.openSupervisor (s : State) : State := s.openCtx 0 supervisorRecord

/-- The bytes of a share zeroed in every region. -/
def State.zeroShare (s : State) (b : Nat × Nat) : State :=
  s.live.foldl (fun s r => s.modRegion r fun g => { g with store := g.store.clear (b.1 * 0x200000) (b.2 * 0x200000) }) s

/-- A teardown ends (R318 steps 4 to 6): completions are written with the context's table as it stood, unless the completion ring
is the cause or is disabled; then everything of the context is released, and it is CLOSED. -/
def State.endTeardown (s : State) (c : Nat) : State :=
  let x := s.ctx c
  let outs := s.runningEnds c ++ s.validatedEnds c ++ s.unreadEnds c
  let write := !x.cplFault && s.getF (pgRing c) Fld.CPL_RING_ENABLE == 1
  let s1 := if write then outs.foldl (fun s e => if (s.ctx c).cplFault then s else (s.writeCompletion e)) s else s
  let s2 := { s1 with
    flight := s1.flight.filter fun f => f.1.val != c, deferred := s1.deferred.filter fun e => e.2.ctx.val != c,
    slots := s1.slots.map fun (e : Nat × SeqSlot) => if e.2.ctx.val == c then (e.1, SeqSlot.free) else e }
  let s3 := match x.share with | none => s2 | some b => s2.zeroShare b
  let s4 := ((((s3.resetEvents c).resetRing c).resetContact c).clearSources c)
  let s5 := { s4 with ctxs := s4.ctxs.set c { Ctx.closed with faultCode := x.faultCode } }
  ((if c = 0 then s5.openSupervisor else s5).pend (0x60 + c)).settleIdle

/-- TEARDOWN_END (R318). -/
def execTeardownEnd (c : CtxId) (s : State) : Host.Outcome State Fault Refusal :=
  .next (if (s.ctx c.val).state == 5 then s.endTeardown c.val else s)

/-! ### Regulators, budgets, link credit -/

/-- The refill tick of region r (R309, R320): written parameters take effect, every bucket gains RATE × 64 B up to its DEPTH. -/
def State.refill (s : State) (r : Nat) : State :=
  (List.range 16).foldl (fun s i =>
    let w := s.reg (pgSched + 0x200 + 8 * i)
    s.modRegion r fun g =>
      { g with rates := g.rates.set i (BitVec.ofNat 64 w),
               buckets := g.buckets.set i (min (g.buckets.getD i 0 + bits w 19 0 * 64) (bits w 39 20 * 65536)) }) s

/-- REGULATOR_REFILL (R309). -/
def execRegulatorRefill (r : RegionId) (s : State) : Host.Outcome State Fault Refusal :=
  .next (if s.live.contains r.val then s.refill r.val else s)

/-- RT_BUDGET_REFILL (R315): an open high-priority context's counter is RT_BUDGET again. -/
def execRtBudgetRefill (c : CtxId) (s : State) : Host.Outcome State Fault Refusal :=
  .next (if (s.ctx c.val).state != 0 && recPriority (s.ctx c.val).record == 1 then
    s.modCtx c.val fun x => { x with budget := recRtBudget x.record } else s)

/-- REG_BUCKET_WRITE (R320): the register is stored; the next refill tick puts it in force. -/
def execRegBucketWrite (link : Bool) (part : Fin 8) (w : W64) (s : State) : Host.Outcome State Fault Refusal :=
  .next (s.whereAnswers pgSched fun s => s.writePlain (pgSched + (if link then 0x240 else 0x200) + 8 * part.val) w.toNat)

/-- CREDIT_WAIT_TIMEOUT (R137): a set that has waited for link credit for the watchdog period completes with LINK_TIMEOUT before its
epoch. -/
def execCreditWaitTimeout (c : CtxId) (q : RingId) (s : State) : Host.Outcome State Fault Refusal :=
  .next (match ((s.ctx c.val).heads.get? q.val).bind (·.cmd) with
    | none => s
    | some m => if isSetOp (cmdOp m.raw) && !s.credited m then (s.settle m (.fail stLinkTimeout 0 0)).settleIdle else s)

end Sys2Proof.Machine
end

