-- ==== Sys2Proof/Machine/Timeline.lean ====
section
/-! DEFINITION. Sys2Proof/Machine/Timeline.lean: how a plate runs in a region: the issue of bundles (R42, R46, R47), iteration counts
(R49, R50), the start at the epoch (R48, R58), the end of operations, halts (R60 to R63, R475), stalls (R26, R241) and the
control-slot operations (R51). -/

namespace Sys2Proof.Machine

/-- A region's digest parts of a router with none yet: the digests of no bytes. -/
def Digest.empty : Digest := ⟨0, [], [], false, [], false⟩

/-! ### Count registers -/

/-- The lanes of a count register (R48). -/
def RegionRun.lanes (g : RegionRun) (c : Nat) : List Nat :=
  (List.range (g.image.lanesOf c)).map fun i => (g.cnt.getD c []).getD i 0
/-- The lanes of a register with one lane replaced; lanes hold 24 bits. -/
def RegionRun.withLane (g : RegionRun) (c i v : Nat) : List Nat := (g.lanes c).set i (v % 2 ^ 24)

/-! ### One operation that issues -/

/-- An operation in its issue cycle t, with the state of its region's part before it; takes holds what R50 takes of each lane and
its excess. -/
structure Op where
  seq : W32
  r : Nat
  run : Run
  g : RegionRun
  o : SlotOp
  t : Nat
  takes : List (Nat × Nat)

/-- n of R50. -/
def Op.n (x : Op) : Nat := (x.takes.map (·.1)).sum
/-- Excess of each lane. -/
def Op.excess (x : Op) : List Nat := x.takes.map (·.2)
/-- The deadline of an operation that has a TIMEOUT (R61, R65, R242). -/
def Op.deadline (x : Op) : Nat := x.t + 1024 * x.o.timeout
/-- The running command. -/
def Op.cmd (x : Op) : Command := x.run.cmd
/-- Its context. -/
def Op.c (x : Op) : Nat := x.run.cmd.ctx.val
/-- The router that the operation's own field names, as latched (R95). -/
def Op.rt (x : Op) : BitVec 512 := x.run.routers.getD x.o.router 0
/-- The router of an entry's view. -/
def Op.viewRt (x : Op) (i : Nat) : BitVec 512 := x.run.routers.getD (vwRouter (viewAt x.run.cmd.list i)) 0
/-- Descriptor of entry DESC + i. -/
def Op.d (x : Op) (i : Nat) : Bytes := descAt x.run.cmd.list (x.o.desc + i)
/-- The placement table of a router, as latched (R113). -/
def Op.table (x : Op) (ρ : Nat) : Bytes := x.run.placements.getD ρ []
/-- STEP of the command. -/
def Op.step (x : Op) : Nat := cmdStep x.run.cmd.raw
/-- Duration of the operation with n iterations. -/
def State.opTime (s : State) (x : Op) (n : Nat) : Nat := s.opCost x.run.routers (some x.run.cmd.list) x.r x.g.image x.o n

/-- The capacity entry that bounds an operation's iterations (R115). -/
def Image.takeCap (im : Image) (o : SlotOp) : W64 := if o.cell 6 then im.cap o.sBatchCap else im.cap o.cap

/-- R50 over a register's lanes. -/
def takeLanes (c : W64) (lanes : List Nat) : List (Nat × Nat) := clampLanes (capLane c) (capTotal c) lanes

/-- Whether a STRICT entry meets excess. -/
def strictHit (c : W64) (takes : List (Nat × Nat)) : Bool := capMode c == 0 && takes.any fun p => p.2 != 0

/-- Whether an operation that runs keeps a bundle from issuing in cycle t: the bundle waits for its unit or its registers (R46, R47), or
it halts the plate by then, at a check of an item or at its deadline (R62, R242). -/
def RegionRun.holdsBack (g : RegionRun) (t : Nat) (b : Busy) : Bool :=
  g.units.contains b.unit || bitAt g.hold b.unit || b.writes.any (fun w => g.regs.contains w.1) ||
  (b.halts.isSome && decide (b.ends.getD 0 ≤ t)) || (b.ends.isNone && decide (b.due.getD (t + 1) ≤ t))

/-- The issue cycle of the current bundle (R46), or none while a unit or a register that it waits for is in use (R47), or where a
halt comes first (R62); END waits for every unit (R51). The slots of a bundle that has begun issue in its cycle. -/
def RegionRun.issueAt (g : RegionRun) : Option Nat :=
  if !g.fresh then some g.last
  else if g.haltedBy g.cycle || g.busy.any (g.holdsBack g.cycle) || g.spills.any (fun p => g.regs.contains p.reg) then none
  else some g.cycle

/-- The excess of a LOOP that has ended reaches its register (R47, R50). -/
def RegionRun.spilled (g : RegionRun) (p : LoopSpill) : RegionRun :=
  { g with
    cnt := g.cnt.set p.reg p.lanes, ready := g.ready.set p.reg (g.last + 1),
    opened := (g.opened.filter (· != p.reg)) ++ (if p.open_ then [p.reg] else []) }

/-- The bundle that a region's part comes to after the current one (R51); the LOOPs that end there write their excess. -/
def RegionRun.next (g : RegionRun) : RegionRun :=
  let ctl := slotOp g.cur 0
  let (b, ls) := if ctl.op = 2 then enterLoop g.loops g.bundle ctl.body g.passes else advance g.loops g.bundle
  let done := g.spills.filter fun p => decide (ls.length < p.depth)
  done.foldl RegionRun.spilled
    { g with bundle := b, loops := ls, todo := issueOrder (g.image.bundles.getD b 0), spills := g.spills.filter fun p => decide (p.depth ≤ ls.length) }

/-- The current bundle issues in cycle t: the region reaches it, and it is counted (R435, R472). -/
def State.openBundle (s : State) (seq : W32) (r : Nat) (g : RegionRun) (t : Nat) : State :=
  if g.fresh then
    let s1 := (s.reach r t).count (pgRegion r) 0x42 1
    let s2 := if g.bundle % 8 = 0 then s1.vfEvent r (0x1000 + g.bundle / 8) else s1
    let hold := if (slotOp g.cur 0).op = 3 then (slotOp g.cur 0).imm % 2 ^ 13 else 0
    s2.modRR seq r fun g => { g with last := t, begun := true, lastBundle := g.bundle, hold := hold }
  else s

/-- A fetched bundle fails parity (R43): the region raises BUNDLE_PARITY and the plate halts in the bundle's issue cycle, with that
bundle's index (log 105). -/
def State.badBundle (s : State) (seq : W32) (r : Nat) (g : RegionRun) (t : Nat) : State :=
  ((s.reach r t).contain (pgRegion r) 1).halt seq r stBundleParity g.bundle 0 t

/-- Release cycle of row j of a work descriptor that left region r (R57, R151). -/
def State.rowRelease (s : State) (r : Nat) (w : Work) (j : Nat) : Nat := w.left + w.held + s.expBase r + s.expRow r * j

/-- The earliest timeout of a row that has not committed (R151). -/
def State.tileDeadline (s : State) (r : Nat) (g : RegionRun) : Option Nat :=
  let t := max 1 (s.getF (pgCombine r) Fld.TILE_CFG_TILE_TIMEOUT) * 1024
  (g.works.flatMap fun e =>
    ((List.range e.2.count).filter fun j => !e.2.done.contains j).map fun j => s.rowRelease r e.2 j - e.2.late + t).foldl
    (fun m c => match m with | none => some c | some d => some (min c d)) none

/-- The issue cycle of the current bundle, or none while it has to wait; a row's timeout comes before the bundles of its cycle (R151,
R242). -/
def State.issueAt (s : State) (r : Nat) (g : RegionRun) : Option Nat :=
  g.issueAt.filter fun t => !g.fresh || (match s.tileDeadline r g with | none => true | some d => decide (t < d))

/-- Bundles of NOPs issue by themselves, one tc each (R46). -/
def State.passNops (s : State) (seq : W32) (r : Nat) : Nat → State
  | 0 => s
  | fuel + 1 =>
    match (s.run? seq).bind fun x => x.regions.get? r with
    | none => s
    | some g =>
      if g.ended.isNone && g.todo.isEmpty && g.fresh && decide (g.bundle < g.image.bundles.length) then
        match s.issueAt r g with
        | none => s
        | some t =>
          if !parityOk g.cur then s.badBundle seq r g t
          else ((s.openBundle seq r g t).modRR seq r RegionRun.next).passNops seq r fuel
      else s

/-- What follows every change of a region's part: bundles of NOPs pass, and a set that is over ends. -/
def State.goOn (s : State) (seq : W32) (r : Nat) : State :=
  match (s.run? seq).bind fun x => x.regions.get? r with
  | none => s
  | some g => (s.passNops seq r (walkFuel [g.image])).finishRun seq

/-- The slot that issued leaves the bundle; after the last one the plate goes on to the next bundle. -/
def State.closeSlot (s : State) (seq : W32) (r : Nat) : State :=
  s.modRR seq r fun g =>
    let todo := g.todo.drop 1
    if todo.isEmpty && g.ended.isNone then g.next else { g with todo := todo }

/-- A check that an operation makes at its issue halts the plate in its issue tc (R62, R475). -/
def State.haltOp (s : State) (x : Op) (code : Nat) : State := (s.haltOne x.seq x.r ⟨code, x.g.bundle, x.o.slot, x.t⟩).spread x.seq

/-- Excess under SPILL and DROP is reported at issue (R50). -/
def State.noteExcess (s : State) (x : Op) : State :=
  let m := capMode (x.g.image.takeCap x.o)
  let n := x.excess.sum
  if n = 0 then s
  else s.modRR x.seq x.r fun g =>
    if m = 1 then { g with spill := g.spill + n, flags := setFlag g.flags flCapacitySpill }
    else if m = 2 then { g with drop := g.drop + n, flags := setFlag g.flags flCapacityDrop } else g

/-- Whether an operation that issues is open (R60). -/
def State.openOp (s : State) (x : Op) : Bool := s.opensSelf x.r x.o || (x.o.counted && x.o.regReads.any x.g.opened.contains)

/-- An operation starts: its unit is busy until ends, and at its end it writes registers; halts is the code of the item check that
stops it there (R475), with its registers never ready; due is the deadline of one that waits. Under SPILL its excess goes to EXCESS_CNT
(R50). -/
def State.startOp (s : State) (x : Op) (ends : Option Nat) (writes : List (Nat × List Nat)) (halts : Option Nat := none)
    (due : Option Nat := none) : State :=
  let cap := x.g.image.cap x.o.cap
  let excess := if x.o.counted && !x.o.cell 6 && !x.o.receives && capMode cap == 1 then [(capExcess cap, x.excess)] else []
  let w := if halts.isSome then (x.g.image.regWrites x.o).map fun c => (c, []) else writes ++ excess
  s.modRR x.seq x.r fun g =>
    { g with busy := g.busy ++ [⟨x.o.unit, x.g.bundle, x.o.op, x.t, ends, w, halts, x.takes, due, s.openOp x⟩] }

/-- An operation of fixed duration starts with n iterations. -/
def State.runOp (s : State) (x : Op) (n : Nat) (writes : List (Nat × List Nat)) : State := s.startOp x (some (x.t + s.opTime x n)) writes

/-- Fixed part F and cost per item of an operation (R475). -/
def State.itemTime (s : State) (x : Op) (i : Nat) : Nat := x.t + s.opTime x i

/-- An operation whose item i fails its check: it stops in the first tc of that item (R475). -/
def State.stopAtItem (s : State) (x : Op) (i code : Nat) : State :=
  s.startOp x (some (s.itemTime x i)) [] (some code)

/-- Whether an operation reads bytes of region store whose check bits mark them uncorrectable (R445): the rows that it moves, the
whole of any other tensor that it reads. -/
def State.readsPoison (s : State) (x : Op) : Bool :=
  let list := x.run.cmd.list
  let bad (a n : Nat) : Bool :=
    ((translate x.run.cmd.windows false a n).getD []).any fun p => p.store && s.poisoned x.r p.addr p.len
  !(s.region x.r).poison.isEmpty &&
  (opRoles x.run.routers list s.live.length x.g.image x.o).any fun role =>
    let d := descAt list role.entry
    role.read &&
      (if role.need.isRows then
        (List.range x.n).any fun k => match localRow x.run.cmd s.self x.r role.entry k with | none => false | some a => bad a.1 (dsRowBytes d)
      else (footRanges d (dsBase d) false).any fun f => bad f.1 f.2)

/-- Whether a sending operation of region r sends lane l of its register (R130): the destination's lane, or the lanes of the
members that it reaches; a return stream has the lane that the answered stream filled (R158). -/
def State.sendsLane (s : State) (run : Run) (r : Nat) (o : SlotOp) (l : Nat) : Bool :=
  let v := viewAt run.cmd.list o.desc
  let t := run.placements.getD (vwRouter v) []
  let dest := if o.slot = 6 then o.region else r
  let gw := if 8 ≤ l then s.gatewayTo (plMember t (l - 8)) else none
  match vwKind v with
  | 1 => l == dest
  | 2 => if vwReturn v then l == dest else gw.map (·.1) == some dest
  | 3 => vwReturn v || gw == some (r, o.port)
  | _ => if vwReturn v then gw.map (·.1) == some dest else l == dest

/-- The lanes that R50 counts: all of the register, or those that a sending operation sends (R130). -/
def State.countedLanes (s : State) (run : Run) (r : Nat) (g : RegionRun) (o : SlotOp) : List Nat :=
  if o.sends then (g.lanes o.cnt).zipIdx.map fun e => if s.sendsLane run r o e.2 then e.1 else 0 else g.lanes o.cnt

/-- The operation that is next to issue in a region's part of a set, if it is one that a row selects: its bundle opens, R50 is
applied, and f gives its effect; a bundle of bad parity halts under its own index (log 105). -/
def State.plateOp (s : State) (seq : W32) (r : Nat) (sel : SlotOp → Bool) (f : State → Op → State) : State :=
  match s.run? seq with
  | none => s
  | some run =>
    match run.regions.get? r with
    | none => s
    | some g =>
      match g.todo, s.issueAt r g with
      | sl :: _, some t =>
        let o := slotOp g.cur sl
        if run.started && g.ended.isNone && sel o then
          if g.fresh && !parityOk g.cur then s.badBundle seq r g t
          else
            let cap := g.image.takeCap o
            let takes := if o.counted && !o.receives then takeLanes cap (s.countedLanes run r g o) else []
            let s1 := s.openBundle seq r g t
            let x : Op := ⟨seq, r, run, { g with last := t, begun := true }, o, t, takes⟩
            if strictHit cap takes then ((s1.haltOp x stCapacityFault).closeSlot seq r).goOn seq r
            else if s1.readsPoison x then s1.startTeardown x.c stContextFault false
            else ((f (s1.noteExcess x) x).closeSlot seq r).goOn seq r
        else s
      | _, _ => s

/-! ### Waits for slots of memory ports (R146) -/

/-- Whether the transactions of a port have to wait for slots: writes that are late with their answers and those that LAT_mem allows in
flight are more than its slots (R146). -/
def State.shortOfSlots (s : State) (r m : Nat) : Bool :=
  decide (s.memSlots r < s.latMem r + ((s.memPort r m).txs.filter (·.late)).length)

/-! ### The end of an operation -/

/-- An operation of the bundle that is issuing ends only after the bundle's other slots have issued in its cycle (R46, R47). -/
def RegionRun.issuing (g : RegionRun) (b : Busy) : Bool := !g.fresh && !g.endLeft && b.issue == g.last

/-- What an operation writes at its end e: its unit is free, its registers hold their new lanes, are ready and are open where it was
(R46, R47, R60); PROOF_EMIT freezes its router's digest parts (R246). -/
def RegionRun.ended_ (g : RegionRun) (b : Busy) (e : Nat) : RegionRun :=
  let g1 := { g with busy := g.busy.filter (fun c => c.unit != b.unit), free := g.free.set b.unit e }
  if b.halts.isSome then g1
  else
    let g2 := b.writes.foldl (fun (g : RegionRun) w =>
      { g with
        cnt := g.cnt.set w.1 w.2, ready := g.ready.set w.1 e,
        opened := (g.opened.filter (· != w.1)) ++ (if b.open_ then [w.1] else []) }) g1
    if b.unit = 12 ∧ b.opcode = 7 then
      let ρ := (g.opOf b).imm % 128
      { g2 with digests := g2.digests.set ρ { g2.digests.getD ρ Digest.empty with frozen := true } }
    else g2

/-- OPERATION_END (R46): the unit is free and its registers are ready; a failed item check halts the plate now (R475). -/
def State.opEnd (s : State) (seq : W32) (r u : Nat) : State :=
  match (s.run? seq).bind fun x => x.regions.get? r with
  | none => s
  | some g =>
    match g.busy.find? fun b => b.unit == u with
    | none => s
    | some b =>
      match b.ends with
      | none => s
      | some e =>
        if g.issuing b then s else
        let owned := (List.range 8).filter fun p => bits g.image.portMap.toNat (4 * p + 3) (4 * p) == u && decide (u ≤ 4)
        let s0 := (s.reach r e).endPorts r owned
        let s1 := s0.modRR seq r fun g => g.ended_ b e
        let s2 := match b.halts with
          | none => s1
          | some code => (s1.haltOne seq r ⟨code, b.bundle, (g.opOf b).slot, e⟩).spread seq
        s2.goOn seq r

/-- OPERATION_END (R46). -/
def execOperationEnd (run : W32) (r : RegionId) (u : UnitId) (s : State) : Host.Outcome State Fault Refusal :=
  .next (s.opEnd run r.val u.val)

/-! ### Stalls (R26, R241) -/

/-- A TIMING_LATE stall of d tc begins in a region in cycle c: it is recorded (R433, R435, R472). -/
def State.noteLate (s : State) (r c d : Nat) : State :=
  ((((s.contain (pgRegion r) 0).count (pgRegion r) 0x41 1).vfEvent r 3).bumpF (pgRegion r) Fld.LATE_SUM_DEFICIT d).modRegion r
    fun g => { g with stall := d, stallEnd := c + d }

/-- Release cycle of item i of a transfer that reaches region r (R132). -/
def State.itemRelease (s : State) (r : Nat) (t : Transfer) (i : Nat) : Nat :=
  t.sent + t.held + s.latPath t.src r + ceilDiv t.itemBytes 320 * (i + 1)

/-- What has still to happen from cycle c on in a region's part happens d tc later; rel is a descriptor's last release, and tile says
that a row is what the region waits for. A halt whose cause falls in cycle c itself is not delayed (R63). -/
def RegionRun.stalled (g : RegionRun) (rel : Work → Nat) (c d : Nat) (tile : Bool) : RegionRun :=
  let later (t : Nat) : Nat := if c ≤ t then t + d else t
  let after (t : Nat) : Nat := if c < t then t + d else t
  { g with
    last := if g.fresh && decide (c ≤ (if g.begun then g.last + 1 else g.last)) then g.last + d else g.last,
    free := g.free.map later, ready := g.ready.map fun e => (e.1, later e.2),
    halt := g.halt.map fun h => { h with tc := after h.tc },
    ext := { g.ext with release := later g.ext.release, ends := later g.ext.ends },
    busy := g.busy.map fun b => { b with ends := b.ends.map (if b.halts.isSome then after else later) }, works := g.works.map fun e =>
      (e.1, if c ≤ e.2.left then { e.2 with left := e.2.left + d }
        else if c ≤ rel e.2 then { e.2 with held := e.2.held + d, late := e.2.late + if tile then d else 0 } else e.2),
    late := g.late + d }

/-- Every part of a set that runs in region r has its later moments d tc later from cycle c on. -/
def State.delayParts (s : State) (r c d : Nat) (tile : Bool) : State :=
  { s with runs := s.runs.map fun (x : Run) =>
    if x.started then { x with regions := x.regions.map fun (e : Nat × RegionRun) =>
      if e.1 == r && e.2.ended.isNone then (e.1, e.2.stalled (fun w => s.rowRelease r w (w.count - 1)) c d tile) else e } else x }

/-- The releases of a transfer that have still to come in cycle c come d tc later. -/
def Transfer.stalled (t : Transfer) (latest c d : Nat) : Transfer := if c ≤ latest then { t with held := t.held + d } else t

/-- The cycle up to which region r has run: the last bundle and the last end of an operation there. -/
def State.ranTo (s : State) (r : Nat) : Nat :=
  s.runs.foldl (fun m x => match x.regions.get? r with
    | none => m
    | some g => if x.started && g.ended.isNone then g.free.foldl max (max m g.last) else m) 0

/-- The whole timeline of region r stalls by d tc from cycle c on, or from the cycle that it has already run to. -/
def State.stallFrom (s : State) (r c d : Nat) (tile : Bool) : State :=
  let c := max c (s.ranTo r)
  (((s.reach r c).noteLate r c d).delayParts r c d tile).modRegion r fun g =>
    { g with transfers := g.transfers.map fun t => t.stalled (s.itemRelease r t (t.count - 1)) c d }

/-- The operations that region r runs, with the part that runs them. -/
def State.busyIn (s : State) (r : Nat) : List (RegionRun × Busy) :=
  s.runs.flatMap fun x => match x.regions.get? r with | none => [] | some g => g.busy.map fun b => (g, b)

/-- The release cycle that comes next in cycle tc: the least that is not past, else the greatest. -/
def nextRelease (tc : Nat) (l : List Nat) : Option Nat :=
  let pick (f : Nat → Nat → Nat) (l : List Nat) : Option Nat := l.foldl (fun m t => match m with | none => some t | some u => some (f t u)) none
  (pick min (l.filter fun t => decide (tc ≤ t))).orElse fun _ => pick max l

/-- Release cycles of the rows that a set's work descriptors still miss, or of all of them once none is missing (R57, R151). -/
def State.rowReleases (s : State) (g : RegionRun) (r : Nat) : List Nat :=
  let at_ (f : Work → List Nat) := g.works.flatMap fun e => (f e.2).map (s.rowRelease r e.2)
  let missing := at_ fun w => (List.range w.count).filter fun j => !w.done.contains j
  if missing.isEmpty then at_ fun w => List.range w.count else missing

/-- The declared release cycle that comes next at a crossing of region r (R57); none when it holds nothing. A memory operation's data
comes back in every cycle from its first release to its end; a write that waits for a slot holds the region from its issue on (R146). -/
def State.releaseCycle (s : State) (r : Nat) (x : Crossing) : Option Nat :=
  let tc := (s.region r).tc
  nextRelease tc (match x with
  | .edge src => ((s.region r).transfers.filter fun t => t.src == src.val && !t.open_).flatMap fun t =>
      (t.sent + t.held + s.latPath src.val r) :: (List.range t.count).map (s.itemRelease r t)
  | .memory => ((s.busyIn r).filter fun e => decide (e.2.unit ≤ 4) && (e.2.opcode == 1 || (e.2.unit != 0 && e.2.opcode == 2 &&
      (s.region r).memPorts.any fun m => s.shortOfSlots r m.1))).map fun e =>
        max (if e.2.opcode = 1 then e.2.issue + s.latMem r else e.2.issue) (min tc (e.2.ends.getD 0))
  | .tile => s.runs.flatMap fun y => match y.regions.get? r with | none => [] | some g => s.rowReleases g r
  | .ext => ((s.busyIn r).filter fun e => e.2.unit == 0 && e.2.opcode == 4 && e.2.ends.isNone).map fun e => e.1.ext.release
  | .start => s.runs.filterMap fun y =>
      match y.regions.get? r with | none => none | some g => if y.started && !g.begun then some g.last else none)

/-- STOP_BATH_RELEASE (R26): data that arrived in time is released in its cycle; late data stalls the region by the deficit. -/
def State.release (s : State) (r : Nat) (x : Crossing) (d : Nat) : State :=
  match s.releaseCycle r x with
  | none => s
  | some c => if d = 0 then s.reach r c else s.stallFrom r c d (x == .tile)

/-- Memory operations that stall a region on a port that is short of slots have waited for one (R146): the port counts the tc and says
so. -/
def State.slotWait (s : State) (r : Nat) (x : Crossing) (d : Nat) : State :=
  if x = .memory ∧ d ≠ 0 then
    (s.region r).memPorts.foldl (fun s m =>
      if m.2.txs.isEmpty || !s.shortOfSlots r m.1 then s else (s.count (pgMem r m.1) 0x42 d).contain (pgMem r m.1) 1) s
  else s

/-! ### The epoch (R48, R58, R59, R95, R113) -/

/-- One region's part starts at its epoch cycle, or where the region, in cycle tc, is already past it in its next tc (R58): the regulator
buckets are charged (R309), and the counts are loaded (R48). -/
def State.startRegion (s : State) (x : Run) (r : Nat) (g : RegionRun) (tc : Nat) : State :=
  let late := if x.epoch < tc then tc + 1 - x.epoch else 0
  let start := x.epoch + late
  let c := x.cmd.ctx.val
  let p := recPartition (s.ctx c).record
  let charge (k n : Nat) (b : Tab Nat) : Tab Nat := if bits (((s.region r).rates.getD k 0).toNat) 19 0 = 0 then b else b.set k (b.getD k 0 - n)
  let mem := s.memBound x.cmd x.routers g.image
  let link := s.linkBound x.routers x.cmd.list g.image
  let s0 := if late = 0 then s else s.noteLate r x.epoch late
  let s1 := (s0.reach r start).modRegion r fun q => { q with lastCtx := some c, buckets := charge (8 + p) link (charge p mem q.buckets) }
  let s2 := (s1.count (pgRegion r) 0x43 1).vfEvent r 1
  let counts : Tab (List Nat) := (List.range 8).foldl (fun t i =>
    if cntAt x.cmd.counts r i = 0 then t else t.set i [cntAt x.cmd.counts r i]) []
  s2.modRR x.cmd.seq r fun g =>
    { g with
      bundle := 0, todo := issueOrder (g.image.bundles.getD 0 0), last := start, begun := false, free := List.replicate 13 start,
      cnt := counts, late := late }

/-- Link credit is deducted at the epoch (R137). -/
def State.chargeCredit (s : State) (x : Run) : State :=
  (s.setLinkBounds x.cmd (x.regions.map fun e => e.2.image)).foldl (fun s e =>
    { s with membership := { s.membership with credit := s.membership.credit.update e.1 (0, 0) fun a => (a.1 - e.2, a.2) } }) s

/-- The checks that depend on routers, made again against those latched for the command (R330, R476), and that no group has excluded this
member since (R229): code, INDEX and REGION of the first failure. -/
def State.latchCheck (s : State) (cmd : Command) (ims : List Image) : Option (Nat × Nat × Nat) :=
  if (imagesGroups ims).any fun g => (s.group g).state == 3 then some (stNotMember, 0, 0)
  else match s.step5 cmd ims with
  | some e => some e
  | none =>
    (checkTensors (s.tensorEnv cmd) cmd.list cmd.owners (setRoles (s.ctx cmd.ctx.val).routers cmd.list s.live.length ims)).map fun e =>
      (e.1, e.2, 0)

/-- A set starts in every region. The routers, placement tables, seed, schedules and slots are latched (R95, R113); a table that
no longer passes, or a router that the set no longer fits (R330), fails the command before any access. -/
def State.epochStart (s : State) (seq : W32) : State :=
  match s.run? seq with
  | none => s
  | some x =>
    if x.started then s
    else
      let k := s.ctx x.cmd.ctx.val
      let ρs := s.commandRouters x.cmd
      let images := x.regions.map fun e => e.2.image
      let fail (code : Nat) (index : Nat := 0) (region : Nat := 0) : State :=
        ({ s with runs := s.runs.filter fun y => y.cmd.seq != seq }).endFail x.cmd code index region
      match s.latchCheck x.cmd images with
      | some (code, index, region) => fail code index region
      | none =>
      match s.placementsOf x.cmd ρs with
      | .error code => fail code
      | .ok tables =>
        if images.any fun im => im.ops.any fun e => !lanesOk tables x.cmd.list im e.2 then fail stPlacementFault
        else
          let y := { x with
            started := true, routers := k.routers.filter (fun e => ρs.contains e.1), placements := tables, seed := k.seed,
            open_ := images.any fun im => !(s.opens images im).isEmpty, schedules := k.schedules, burn := k.burn.filter (fun e => ρs.contains e.1), slots := s.slots.filter fun e => e.2.ctx == x.cmd.ctx && decide (2 ≤ e.2.state) }
          let s1 := (s.modRun seq fun _ => y).chargeCredit y
          let s2 := y.regions.foldl (fun u e => u.startRegion y e.1 e.2 (s.region e.1).tc) s1
          y.regions.foldl (fun s e => s.goOn seq e.1) s2

/-- EPOCH_START (R58). -/
def execEpochStart (run : W32) (s : State) : Host.Outcome State Fault Refusal := .next (s.epochStart run)

/-! ### Control-slot operations (R51) -/

/-- Whether an operation is the control slot's with an opcode. -/
def isControl (op : Nat) (o : SlotOp) : Bool := o.slot == 0 && o.op == op

/-- SET_CNT: IMM[23:0] goes to lane 0 of DST. -/
def State.setCnt (s : State) (x : Op) : State := s.runOp x 0 [(x.o.dst, x.g.withLane x.o.dst 0 (x.o.imm % 2 ^ 24))]

/-- SET_CNT (R51). -/
def execSetCnt (run : W32) (r : RegionId) (s : State) : Host.Outcome State Fault Refusal :=
  .next (s.plateOp run r.val (isControl 1) State.setCnt)

/-- LOOP (R51): the bundle after it is the first of the body, n times, or the one behind the body. Under SPILL its excess waits for its
end (R47; log 106). -/
def State.loopOp (s : State) (x : Op) : State :=
  let cap := x.g.image.cap x.o.cap
  s.modRR x.seq x.r fun g =>
    { g with
      passes := x.n,
      spills := if capMode cap = 1 then g.spills ++ [⟨g.loops.length + 1, capExcess cap, x.excess, s.openOp x⟩] else g.spills }

/-- LOOP (R51). -/
def execLoop (run : W32) (r : RegionId) (s : State) : Host.Outcome State Fault Refusal :=
  .next (s.plateOp run r.val (isControl 2) State.loopOp)

/-- WAIT_UNITS (R51): the next bundle waits until every named unit is free. -/
def execWaitUnits (run : W32) (r : RegionId) (s : State) : Host.Outcome State Fault Refusal :=
  .next (s.plateOp run r.val (isControl 3) fun s _ => s)

/-- SIGNAL (R51, R352). -/
def execSignal (run : W32) (r : RegionId) (s : State) : Host.Outcome State Fault Refusal :=
  .next (s.plateOp run r.val (isControl 4) fun s x => (s.signal x.c (x.o.imm % 256)).runOp x 0 [])

/-- READ_TIME (R51, R447): bits [23:0] of the time counter in its issue cycle go to lane 0 of DST. -/
def execReadTime (run : W32) (r : RegionId) (s : State) : Host.Outcome State Fault Refusal :=
  .next (s.plateOp run r.val (isControl 5) fun s x => s.runOp x 0 [(x.o.dst, x.g.withLane x.o.dst 0 (s.timeAt x.r x.t))])

/-- READ_SENSOR (R51): the manual numbers no sensors and gives no encoding of a reading, so the reading is a free value (log 7). -/
def execReadSensor (run : W32) (r : RegionId) (s : State) : Host.Outcome State Fault Refusal :=
  .next (s.plateOp run r.val (isControl 6) fun s x => s.drew.runOp x 0 [(x.o.dst, x.g.withLane x.o.dst 0 s.freeVal.toNat)])

/-- Whether a PROOF_EMIT of a router has ended by cycle t (R246). -/
def RegionRun.emitted (g : RegionRun) (ρ t : Nat) : Bool :=
  (g.digests.getD ρ Digest.empty).frozen ||
  g.busy.any fun b => b.unit == 12 && b.opcode == 7 && decide (b.ends.getD (t + 1) ≤ t) && (g.opOf b).imm % 128 == ρ

/-- The state with a region's digest of a router changed by an operation that issued in x.t, unless PROOF_EMIT had frozen it
(R246). -/
def State.modDigest (s : State) (x : Op) (ρ : Nat) (f : Digest → Digest) : State :=
  s.modRR x.seq x.r fun g =>
    if g.emitted ρ x.t then g else { g with digests := g.digests.set ρ (f (g.digests.getD ρ Digest.empty)) }

/-- PROOF_EMIT (R246): it freezes the digest parts of its router when it ends. -/
def execProofEmit (run : W32) (r : RegionId) (s : State) : Host.Outcome State Fault Refusal :=
  .next (s.plateOp run r.val (isControl 7) fun s x => s.runOp x 0 [])

/-- END (R51): it waits for every unit, and ends one tc after every unit is free. -/
def State.endOp (s : State) (x : Op) : State :=
  let e := max x.t (x.g.free.foldl max 0) + 1
  (s.reach x.r e).modRR x.seq x.r fun g => { g with ended := some e }

/-- END (R51). -/
def State.endPlate (s : State) (seq : W32) (r : Nat) : State :=
  match (s.run? seq).bind fun x => x.regions.get? r with
  | none => s
  | some g => if g.busy.isEmpty then s.plateOp seq r (isControl 0x3F) State.endOp else s

/-- END (R51). -/
def execEndPlate (run : W32) (r : RegionId) (s : State) : Host.Outcome State Fault Refusal := .next (s.endPlate run r.val)

end Sys2Proof.Machine
end

