-- ==== Sys2Proof/Machine/Movers.lean ====
section
/-! DEFINITION. Sys2Proof/Machine/Movers.lean: ROW_LOAD and ROW_STORE (R53, R258, R259, R268, R478), of token rows and of prints (R175),
and the transactions that they put on the memory ports (R146, R454, R455). -/

namespace Sys2Proof.Machine

/-! ### Memory transactions (R146, R454) -/

/-- Transactions on the ports that a unit owns, port after port (R146, R435), those of a STAGE_LOAD with its bank; without a port there are
none. -/
def State.request (s : State) (x : Op) (write : Bool) (us : List (Nat × Int × List Nat)) (bank : Option (Nat × Nat) := none) : State :=
  let ports := (List.range 8).filter fun p => bits x.g.image.portMap.toNat (4 * p + 3) (4 * p) == x.o.slot - 1
  if ports.isEmpty then s
  else (us.zipIdx).foldl (fun s e =>
    let p := ports.getD (e.2 % ports.length) 0
    (s.modMemPort x.r p fun m => m.take (s.memSlots x.r) write bank e.1).count (pgMem x.r p) (if write then 0x41 else 0x40) 1) s

/-! ### Prints in memory (R174, R175) -/

/-- The latched slot and position of a token (R170). -/
def Run.slotOf (x : Run) (token : Nat) : Option (SeqSlot × Nat) :=
  (x.slots.find? fun e => decide (e.2.tokenFirst ≤ token) && decide (token < e.2.tokenFirst + e.2.tokenCount)).map fun e =>
    (e.2, token - e.2.tokenFirst)

/-- The slot and position of a token that belongs to reprint in a router (R170). -/
def Run.printSlot (x : Run) (ρ token : Nat) : Option (SeqSlot × Nat) :=
  (x.slotOf token).bind fun (sl, pos) =>
    let rt := x.routers.getD ρ 0
    if rtReprint rt = 1 ∧ rtOrdinal rt < sl.negBudget ∧ pos < sl.maxTokens then some (sl, pos) else none

/-- What stands for the tensor of an entry in the tables that a region's part keeps by tensor (log 23). -/
def Op.key (x : Op) (i : Nat) : Nat := tensorKey x.cmd.list i

/-- Valid rows of the row tensor of an entry (R478). -/
def Op.valid (x : Op) (i : Nat) : Nat := min (x.g.valid.getD (x.key i) 0) (dsRows (descAt x.cmd.list i))

/-- The tokens of the first n rows of a row tensor by its index column; a row past the valid ones stands for none (R258, R478). -/
def State.columnTokens (s : State) (x : Op) (i n : Nat) : List (Option Nat) :=
  (List.range n).map fun k => if k < x.valid i then some (s.rowToken x.cmd x.r i k) else none

/-- The tokens that n items of a print buffer stand for: those of the rows as the latest TEST found them, before it compacted their
column (R179; log 116); else those that the column names. -/
def State.bufferTokens (s : State) (x : Op) (i n : Nat) : List (Option Nat) :=
  match x.g.loadedTokens.get? (x.key i) with
  | some l => (List.range n).map fun k => l[k]?
  | none => s.columnTokens x i n

/-- Handle and offset of the print of a token for a router (R174). -/
def Run.printPlace (x : Run) (ρ token : Nat) : Option (Nat × Nat) :=
  (x.printSlot ρ token).bind fun (sl, pos) =>
    let ps := rtPrintBytes (x.routers.getD ρ 0)
    let q := max (262144 / max ps 1) 1
    (sl.planes.find? fun p => p.1 == ρ).bind fun p => (p.2[pos / q]?).map fun h => (h, pos % q * ps)

/-- The same for what an item stands for: nothing where it stands for no token, or where no DELTA names a router. -/
def Run.placeOf (x : Run) (ρ token : Option Nat) : Option (Nat × Nat) := ρ.bind fun ρ => token.bind (x.printPlace ρ)

/-- Context address of a place in a basin of the overflow pool, for the transactions that reach it. -/
def State.printAddr (s : State) (c : Nat) (pl : Nat × Nat) : Nat := basinAddr (s.ctx c) pl.1 + pl.2

/-! ### ROW_LOAD and ROW_STORE -/

/-- Whether an operation of a cell group's opcode stands in group g. -/
def isCellOp (g : CellGroupId) (op : Nat) (o : SlotOp) : Bool := o.slot == g.val + 2 && o.op == op

/-- B of a row move. -/
def Op.moved (x : Op) : Nat := moveBytes x.run.routers x.cmd.list x.g.image x.o
/-- Whether a print buffer holds n prints. -/
def Op.bufferFits (x : Op) (e n : Nat) : Bool := decide (n * x.moved ≤ dsExtent (descAt x.cmd.list e) 0 (dsRank (descAt x.cmd.list e)))
/-- Context address of print i of a print buffer (R175). -/
def Op.bufferAt (x : Op) (e ps i : Nat) : Nat := dsBase (descAt x.cmd.list e) + i * ps

/-- Whether n rows fit entry i of the list in the region. -/
def State.rowsFit (s : State) (x : Op) (i n : Nat) : Bool := decide (n ≤ localRows x.cmd s.self x.r i)

/-- Whether a move of prints stays in its view and its buffer (R268), and whether every plane that it reaches translates (R277). -/
def State.printsFit (s : State) (x : Op) (write : Bool) (view buffer : Nat) (ρ : Option Nat) (tokens : List (Option Nat)) : Bool :=
  s.rowsFit x view x.n && x.bufferFits buffer x.n &&
  tokens.all fun t => match x.run.placeOf ρ t with
    | none => true
    | some pl => (translate x.cmd.windows write (s.printAddr x.c pl) x.moved).isSome

/-- Print i of a PRINTS view into the buffer (R175): an item without a print is loaded as zeros. -/
def State.loadPrint (s : State) (x : Op) (buffer : Nat) (ρ token : Option Nat) (i : Nat) : State :=
  let ps := x.moved
  let at_ := x.bufferAt buffer ps i
  match x.run.placeOf ρ token with
  | none => (s.writeCtx x.cmd.windows x.r at_ (zeros ps)).getD s
  | some pl =>
    match s.basinRead x.cmd.windows x.c pl.1 pl.2 ps with
    | none => s
    | some bs =>
      ((s.writeCtx x.cmd.windows x.r at_ bs).getD s).request x false
        (landUnits x.cmd.windows (s.printAddr x.c pl) ps at_)

/-- Row i of a token tensor with its token index (R258). -/
def State.loadRow (s : State) (x : Op) (i : Nat) : State :=
  let w := x.cmd.windows
  let n := dsRowBytes (x.d 0)
  match s.rowRead x.cmd x.r x.o.desc i, localRow x.cmd s.self x.r x.o.desc i with
  | some bs, some a =>
    let to_ := ((localRow x.cmd s.self x.r (x.o.desc + 1) i).map (·.1)).getD 0
    (((s.rowWrite x.cmd x.r (x.o.desc + 1) i bs).getD s).setRowToken x.cmd x.r (x.o.desc + 1) i (s.rowToken x.cmd x.r x.o.desc i)).request
      x false (landUnits w a.1 n to_)
  | _, _ => s

/-- The rows of a token tensor, and how many are valid from now on (R258, R478). -/
def State.loadRows (s : State) (x : Op) : State :=
  ((List.range x.n).foldl (fun s i => s.loadRow x i) s).modRR x.seq x.r fun g =>
    { g with valid := g.valid.set (x.key (x.o.desc + 1)) x.n, loadedTokens := g.loadedTokens.erase (· == x.key (x.o.desc + 1)) }

/-- ROW_LOAD: rows of DESC into DESC + 1, ⌈n/128⌉ to lane 0 of DST; a count past a tensor halts before any access (R268). -/
def State.rowLoad (s : State) (x : Op) : State :=
  let run (s : State) : State := s.runOp x x.n [(x.o.dst, x.g.withLane x.o.dst 0 (ceilDiv x.n 128))]
  match printMove x.cmd.list x.o with
  | some (view, buffer) =>
    let ρ := x.g.image.printRouter x.cmd.list buffer
    let tokens := s.columnTokens x (vwRowEntry (viewAt x.cmd.list view)) x.n
    if !s.printsFit x false view buffer ρ tokens then s.haltOp x stBoundsFault
    else run ((tokens.zipIdx).foldl (fun s e => s.loadPrint x buffer ρ e.1 e.2) s)
  | none =>
    if !s.rowsFit x (x.o.desc + 1) x.n || !s.rowsFit x x.o.desc x.n then s.haltOp x stBoundsFault
    else run (s.loadRows x)

/-- ROW_LOAD (R53). -/
def execRowLoad (run : W32) (r : RegionId) (g : CellGroupId) (s : State) : Host.Outcome State Fault Refusal :=
  .next (s.plateOp run r.val (isCellOp g 1) State.rowLoad)

/-- Print i of the buffer back to its token's print plane (R175). -/
def State.storePrint (s : State) (x : Op) (buffer : Nat) (ρ token : Option Nat) (i : Nat) : State :=
  let ps := x.moved
  match x.run.placeOf ρ token, s.readCtx x.cmd.windows x.r (x.bufferAt buffer ps i) ps with
  | some pl, some bs =>
    ((s.basinWrite x.cmd.windows x.c pl.1 pl.2 bs).getD s).request x true
      (fabricUnits x.cmd.windows true (s.printAddr x.c pl) ps 0)
  | _, _ => s

/-- Row i of DESC into DESC + 1. -/
def State.storeRow (s : State) (x : Op) (i : Nat) : State :=
  match s.rowRead x.cmd x.r x.o.desc i, localRow x.cmd s.self x.r (x.o.desc + 1) i with
  | some bs, some a =>
    ((s.rowWrite x.cmd x.r (x.o.desc + 1) i bs).getD s).request x true (fabricUnits x.cmd.windows true a.1 (dsRowBytes (x.d 1)) 0)
  | _, _ => s

/-- ROW_STORE: rows of DESC, in the share, into DESC + 1. -/
def State.rowStore (s : State) (x : Op) : State :=
  match printMove x.cmd.list x.o with
  | some (view, buffer) =>
    let ρ := x.g.image.printRouter x.cmd.list buffer
    let tokens := s.bufferTokens x (vwRowEntry (viewAt x.cmd.list view)) x.n
    if !s.printsFit x true view buffer ρ tokens then s.haltOp x stBoundsFault
    else ((tokens.zipIdx).foldl (fun s e => s.storePrint x buffer ρ e.1 e.2) s).runOp x x.n []
  | none =>
    if !s.rowsFit x x.o.desc x.n || !s.rowsFit x (x.o.desc + 1) x.n then s.haltOp x stBoundsFault
    else ((List.range x.n).foldl (fun s i => s.storeRow x i) s).runOp x x.n []

/-- ROW_STORE (R53). -/
def execRowStore (run : W32) (r : RegionId) (g : CellGroupId) (s : State) : Host.Outcome State Fault Refusal :=
  .next (s.plateOp run r.val (isCellOp g 2) State.rowStore)

end Sys2Proof.Machine
end

