-- ==== Sys2Proof/Machine/Scoring.lean ====
section
/-! DEFINITION. Sys2Proof/Machine/Scoring.lean: the scoring-slot operations: STAGE_LOAD and BANK_SWAP (R73 to R75), SCORE (R68 to R72,
R76 to R79), SCORE_STORE (R80 to R86), EXT_TILE_IN with the blocks it receives (R87 to R89), and faults of the array (R92). -/

namespace Sys2Proof.Machine

/-- Whether an operation is the scoring slot's with an opcode. -/
def isScore (op : Nat) (o : SlotOp) : Bool := o.slot == 1 && o.op == op

/-- The elements of a row. -/
def rowElems (t : Nat) (bs : Bytes) : List Fp := (words bs (elemBytes t) (bs.length / max (elemBytes t) 1)).map (ofElem t)

/-- A tensor's scale: SCALE for FP8, 1 for the rest (R69). -/
def dsScaleOf (d : Bytes) : Fp := if dsElem d = 2 ∨ dsElem d = 3 then ofF32 (dsScale d) else Fp.one

/-! ### Staging (R73 to R75) -/

/-- Scale byte of element (h, e) of a block-scaled tensor of rank 2 (R256). -/
def scaleIndex (d : Bytes) (h e : Nat) : Nat := if dsBlock d = 1 then h / 32 + dsSize d 0 / 32 * e else h + dsSize d 0 * (e / 32)

/-- Place of a weight in a bank, in elements: pass order (R74). -/
def bankIndex (slice q h c : Nat) : Nat := (q * slice + h) * 256 + c

/-- Key of a bank of a region in a context. -/
def bankKey (r bank : Nat) : Nat := 2 * r + bank

/-- One weight of a STAGE_LOAD: its bytes go to its place, and for FP8 its block's scale byte behind the elements, 127 where the type
has none. -/
def State.stageWeight (s : State) (x : Op) (d : Bytes) (b : Memory) (room idx h e : Nat) : Memory :=
  let es := elemBytes (dsElem d)
  let rd (a n : Nat) : Bytes := (s.readCtx x.cmd.windows x.r a n).getD []
  let b1 := b.write (es * idx) (rd (dsAddr d (h + dsSize d 0 * e)) es)
  if es = 2 then b1
  else b1.write (room + idx) (if dsBlock d = 0 then [127] else rd (dsScaleBase d + scaleIndex d h e) 1)

/-- Bytes of a bank's elements with the pad columns of every pass. -/
def bankRoom (rt : BitVec 512) (shape n : Nat) : Nat := passesOf rt shape * rtSlice rt n * 256 * rtEs rt

/-- The bank that a STAGE_LOAD fills (R74): the region's slice of each expert. -/
def State.stageBank (s : State) (x : Op) : Bank :=
  let rt := x.rt
  let n := s.live.length
  let d := x.d 0
  let slice := rtSlice rt n
  let off := if rtSplit rt = 1 then (s.live.findIdx? (· == x.r)).getD 0 * slice else 0
  let room := bankRoom rt x.o.shape n
  let es := if x.o.shape = 3 then 2 * rtE rt else rtE rt
  let bytes := (List.range es).foldl (fun b e =>
    (List.range slice).foldl (fun b h =>
      let q := e / rtE rt * rtPasses rt + e % rtE rt / 256
      s.stageWeight x d b room (bankIndex slice q h (e % rtE rt % 256)) (off + h) e) b) []
  let scale := if dsElem d = 2 ∨ dsElem d = 3 then dsScale d else 0x3F800000
  { bytes := bytes, tag := some (x.o.router, (s.ctx x.c).generation, scale), pair := x.o.shape == 3, size := gateBytes rt x.o.shape n,
    poison := false }

/-- Fabric units that a STAGE_LOAD reads, each once; they land in the bank, not in region store. -/
def State.stageUnits (s : State) (x : Op) : List (Nat × Int × List Nat) :=
  let d := x.d 0
  let n := s.live.length
  let slice := rtSlice x.rt n
  let off := if rtSplit x.rt = 1 then (s.live.findIdx? (· == x.r)).getD 0 * slice else 0
  let us := (List.range (dsSize d 1)).flatMap fun e => (List.range slice).flatMap fun h =>
    (fabricUnits x.cmd.windows false (dsAddr d (off + h + dsSize d 0 * e)) (elemBytes (dsElem d)) 0).map (·.1)
  us.eraseDups.map fun u => (u, 0, [])

/-- An uncorrectable or parity fault of the array during an operation (R92, R414): the plate halts with ARRAY_FAULT, the column is
suspect, and the region has the report; the same column again asks for a region reset at the next command boundary. An error in the
context's staging share also tears the context down (R317). -/
def State.arrayFault (s : State) (x : Op) (bad : ArrayBad) : State :=
  let col := bad.column.toNat
  let again := (s.region x.r).suspects.contains col
  let s1 := ((s.escalate (pgArray x.r) 0 4).setF (pgArray x.r) Fld.COLUMN_MAP_SUSPECT col).modRegion x.r fun g =>
    { g with suspects := if again then g.suspects else g.suspects ++ [col], resetAtBoundary := g.resetAtBoundary || again }
  let s2 := s1.haltOp x stArrayFault
  if bad.staging then s2.startTeardown x.c stContextFault false else s2

/-- STAGE_LOAD: BANK is relative to ACTIVE (R52). -/
def State.stageLoad (s : State) (bad : Option ArrayBad) (x : Op) : State :=
  match bad with
  | some b => s.arrayFault x b
  | none =>
    let act := (s.ctx x.c).active.getD x.r 0
    let bank := if x.o.bank = 1 then act else 1 - act
    let key := bankKey x.r bank
    let b := s.stageBank x
    let s1 := s.modCtx x.c fun k =>
      { k with banks := k.banks.set key b, latest := k.latest.set x.r bank,
               dirtyBanks := if k.dirtyBanks.contains key then k.dirtyBanks else k.dirtyBanks ++ [key] }
    (s1.request x false (s.stageUnits x) (some (x.c, key))).runOp x 0 []

/-- STAGE_LOAD (R74). -/
def execStageLoad (run : W32) (r : RegionId) (bad : Option ArrayBad) (s : State) : Host.Outcome State Fault Refusal :=
  if columnFits bad then .next (s.plateOp run r.val (isScore 1) fun s x => s.stageLoad bad x) else .fault .malformed

/-- BANK_SWAP (R75): inverts ACTIVE. -/
def State.bankSwap (s : State) (x : Op) : State :=
  (s.modCtx x.c fun k => { k with active := k.active.set x.r (1 - k.active.getD x.r 0) }).runOp x 0 []

/-- BANK_SWAP (R75). -/
def execBankSwap (run : W32) (r : RegionId) (s : State) : Host.Outcome State Fault Refusal :=
  .next (s.plateOp run r.val (isScore 5) State.bankSwap)

/-! ### SCORE (R68 to R79) -/

/-- A weight of a bank: pass q, hidden index h, column c; block-scaled elements are decoded as R173 decodes them (R256). -/
def Bank.weight (b : Bank) (rt : BitVec 512) (room slice q h c : Nat) : Fp :=
  let i := bankIndex slice q h c
  if rtElem rt = 0 then ofBf (leNat (b.bytes.read (2 * i) 2))
  else
    let w := ofFp8 (rtElem rt + 1) (b.bytes.byte i).toNat
    let k := (b.bytes.byte (room + i)).toNat
    if k = 255 then .nan false else fmul w (.fin false 1 ((k : Int) - 127))

/-- The accumulator of a site over a BF16 pass (R70). -/
def dotBf (xs ws : List Fp) : Fp := (xs.zip ws).foldl (fun acc p => fadd acc (p.1.mul p.2)) Fp.zero

/-- The accumulator of a site over an FP8 pass: two products at a time, summed exactly and rounded once (R70). -/
def dotFp8 : Fp → List Fp → List Fp → Fp
  | acc, x0 :: x1 :: xs, w0 :: w1 :: ws => dotFp8 (fadd acc ((x0.mul w0).add (x1.mul w1)).rne) xs ws
  | acc, _, _ => acc

/-- One logit (R70, R72). -/
def logitOf (rt : BitVec 512) (sigma : Fp) (xs ws : List Fp) : Fp :=
  if rtElem rt = 0 then dotBf xs ws else fmul (dotFp8 Fp.zero xs ws) sigma

/-- Bytes of a logit block: 128 rows of 256 FP32 words (R79). -/
def logitBlock : Nat := 131072

/-- Bytes of a tensor that is taken by offset. -/
def dsSpan (d : Bytes) : Nat := dsExtent d 0 (dsRank d) * elemBits (dsElem d) / 8

/-- Write bytes at an offset of an entry, from its BASE. -/
def State.putAt (s : State) (x : Op) (e off : Nat) (bs : Bytes) : State :=
  (s.writeCtx x.cmd.windows x.r (dsBase (descAt x.cmd.list e) + off) bs).getD s
/-- Read n bytes at an offset of an entry. -/
def State.getAt (s : State) (x : Op) (e off n : Nat) : Bytes :=
  (s.readCtx x.cmd.windows x.r (dsBase (descAt x.cmd.list e) + off) n).getD (zeros n)

/-- The logits of tile i and pass q: rows without a valid token and columns at or above E are +0 (R79). -/
def State.scoreBlock (s : State) (x : Op) (b : Bank) (i q : Nat) : Bytes :=
  let rt := x.rt
  let n := s.live.length
  let slice := rtSlice rt n
  let room := bankRoom rt x.o.shape n
  let rows := shapeRows x.o.shape
  let sigma := fmul (dsScaleOf (x.d 0)) (match b.tag with | some t => ofF32 t.2.2 | none => Fp.one)
  let q0 := q % max (rtPasses rt) 1
  (List.range 128).flatMap fun j =>
    let k := i * rows + j
    if j < rows ∧ k < x.valid x.o.desc then
      let xs := (rowElems (dsElem (x.d 0)) ((s.rowRead x.cmd x.r x.o.desc k).getD [])).take slice
      (List.range 256).flatMap fun c =>
        if 256 * q0 + c < rtE rt then
          leBytes 4 (toF32 (logitOf rt sigma xs ((List.range slice).map fun h => b.weight rt room slice q h c)))
        else zeros 4
    else zeros 1024

/-- SCORE: the tag check, then the extent, then n × P blocks (R75, R79). A bank that a failed read has left uncorrectable halts the plate
with ARRAY_FAULT and tears its context down (R92, R317, R445). -/
def State.score (s : State) (bad : Option ArrayBad) (x : Op) : State :=
  let k := s.ctx x.c
  let b := k.banks.getD (bankKey x.r (k.active.getD x.r 0)) ⟨[], none, false, 0, false⟩
  let tagged := match b.tag with
    | none => false
    | some t => t.1 == x.o.router && t.2.1 == k.generation && b.pair == (x.o.shape == 3)
  let P := passesOf x.rt x.o.shape
  if !tagged then s.haltOp x stStageMiss
  else if dsSpan (x.d 1) < x.n * P * logitBlock then s.haltOp x stBoundsFault
  else if b.poison then ((s.escalate (pgArray x.r) 0 4).haltOp x stArrayFault).startTeardown x.c stContextFault false
  else match bad with
    | some bad => s.arrayFault x bad
    | none =>
      let s1 := (List.range (x.n * P)).foldl (fun s u =>
        s.putAt x (x.o.desc + 1) (logitBlock * u) (s.scoreBlock x b (u / P) (u % P))) s
      (s1.count (pgArray x.r) 0x40 x.n).runOp x x.n []

/-- SCORE (R79). -/
def execScore (run : W32) (r : RegionId) (bad : Option ArrayBad) (s : State) : Host.Outcome State Fault Refusal :=
  if columnFits bad then .next (s.plateOp run r.val (isScore 2) fun s x => s.score bad x) else .fault .malformed

/-! ### SCORE_STORE (R80 to R86) -/

/-- −∞. -/
def Fp.negInf : Fp := .inf true

/-- The largest of numbers, −∞ for none; NaNs are left out. -/
def maxOf (l : List Fp) : Fp := l.foldl (fun m x => if m.lt x then x else m) Fp.negInf

/-- The scores of a row's logits by the router's function (R82, R83, R85). -/
def scoresOf (fn : Nat) (l : List Fp) : List Fp :=
  let live := l.filter fun v => !v.isNan
  let raw :=
    if live.all (· == Fp.negInf) then l.map fun _ => Fp.zero
    else match fn with
      | 0 =>
        let z := if live.any (· == Fp.inf false) then l.map fun v => if v == .inf false then Fp.one else Fp.zero
          else l.map fun v => if v.isNan then Fp.zero else expF (fsub v (maxOf live))
        let R := fdiv Fp.one (sum16 z)
        z.map fun v => fmul v R
      | 1 => l.map fun v => fdiv Fp.one (fadd Fp.one (expF v.neg))
      | _ => l
  (l.zip raw).map fun p => if p.1.isNan then Fp.zero else p.2

/-- The biased scores of a row (R85, R86). -/
def biasedOf (l scores burn : List Fp) : List Fp :=
  ((l.zip scores).zip burn).map fun p => if p.1.1.isNan then Fp.negInf else fadd p.1.2 p.2

/-- A row of a score tile (R81). -/
def scoreRecord (token : Nat) (valid : Bool) (q router : Nat) (b sc : List Fp) : Bytes :=
  leBytes 8 (token + flag valid * 2 ^ 24 + q * 2 ^ 25 + router * 2 ^ 29) ++ zeros 56 ++ fit 1024 (b.flatMap fun v => leBytes 4 (toF32 v)) ++
    fit 1024 (sc.flatMap fun v => leBytes 4 (toF32 v))

/-- Bytes of a unit of 128 rows (R80). -/
def unitBytes : Nat := 270336

/-- The logits of token row k over all passes of the half-th router of the shape. -/
def State.logitsOf (s : State) (x : Op) (half k : Nat) : List Fp :=
  let rows := shapeRows x.o.shape
  let P := passesOf x.rt x.o.shape
  let p1 := rtPasses x.rt
  ((List.range p1).flatMap fun q =>
    (words (s.getAt x x.o.desc (logitBlock * (k / rows * P + half * p1 + q) + 1024 * (k % rows)) 1024) 4 256).map ofF32).take (rtE x.rt)

/-- The rows of one token in every pass, and its NaN logits. -/
def State.scoreRows (s : State) (x : Op) (burns : List (List Fp)) (k : Nat) : List Bytes × Nat :=
  let p1 := rtPasses x.rt
  let token := s.rowToken x.cmd x.r (x.o.desc + 2) k
  (List.range (passesOf x.rt x.o.shape / max p1 1)).foldl (fun acc half =>
    let rt := x.run.routers.getD (x.o.router + half) 0
    let l := s.logitsOf x half k
    let sc := scoresOf (rtFunction rt) l
    let b := biasedOf l sc (burns.getD half [])
    let padB := b ++ List.replicate (256 * p1 - b.length) Fp.negInf
    let padS := sc ++ List.replicate (256 * p1 - sc.length) Fp.zero
    (acc.1 ++ (List.range p1).map fun q =>
      scoreRecord token true (half * p1 + q) (x.o.router + half) ((padB.drop (256 * q)).take 256) ((padS.drop (256 * q)).take 256),
     acc.2 + (l.filter Fp.isNan).length)) ([], 0)

/-- Whether an entry lies in the region-store slices of one cell group (R80): four clusters of 4 MiB. -/
def inOneGroup (w : Tab (BitVec 128)) (d : Bytes) : Bool :=
  match (footRanges d (dsBase d) false).flatMap fun f => (translate w true f.1 f.2).getD [⟨false, 0, 0⟩] with
  | [] => false
  | p :: t => (p :: t).all fun q =>
      q.store && q.addr / 0x1000000 == p.addr / 0x1000000 && (q.addr + q.len - 1) / 0x1000000 == p.addr / 0x1000000

/-- Burn values of a router as the command's SCORE_STOREs latch them: those of its epoch (R86, R195, R337). -/
def Op.burnOf (x : Op) (ρ : Nat) : List W32 := (List.range (rtE (x.run.routers.getD ρ 0))).map fun e => (x.run.burn.getD ρ []).getD e 0

/-- The digest of the burn values that a router's SCORE_STORE latched (R244). -/
def State.latchBurn (s : State) (x : Op) (ρ : Nat) : State :=
  s.modDigest x ρ fun d => { d with burn := crc64 ((x.burnOf ρ).flatMap fun v => leBytes 4 v.toNat) }

/-- SCORE_STORE (R80, R81); the rows past the valid tokens hold +0 in every word, the biased ones too (log 109). -/
def State.scoreStore (s : State) (x : Op) : State :=
  let rows := shapeRows x.o.shape
  let P := passesOf x.rt x.o.shape
  let p1 := max (rtPasses x.rt) 1
  let groups := ceilDiv (x.n * rows) 128
  if !inOneGroup x.cmd.windows (x.d 1) || decide (dsSpan (x.d 1) < unitBytes * (groups * P)) ||
      decide (dsSpan (x.d 0) < x.n * P * logitBlock) then s.haltOp x stBoundsFault
  else
    let ρs := if x.o.shape = 3 then [x.o.router, x.o.router + 1] else [x.o.router]
    let burns := ρs.map fun ρ => (x.burnOf ρ).map fun v => ofF32 v.toNat
    let valid := x.valid (x.o.desc + 2)
    let put (s : State) (k : Nat) : State :=
      let live := decide (k / rows < x.n) && decide (k < valid)
      let (rs, nan) := if live then s.scoreRows x burns k
        else ((List.range P).map fun q => scoreRecord 0 false q (x.o.router + q / p1) [] [], 0)
      let s1 := (rs.zipIdx).foldl (fun s e =>
        s.putAt x (x.o.desc + 1) (unitBytes * (k / 128 * P + e.2) + 2112 * (k % 128)) e.1) s
      if nan = 0 then s1
      else (s1.bumpF (pgArray x.r) Fld.NAN_COUNT_COUNT nan).modRR x.seq x.r fun g => { g with flags := setFlag g.flags flNanScore }
    let s1 := (List.range (128 * groups)).foldl put s
    (ρs.foldl (fun s ρ => s.latchBurn x ρ) s1).runOp x x.n [(x.o.dst, x.g.withLane x.o.dst 0 (groups * P))]

/-- SCORE_STORE (R80). -/
def execScoreStore (run : W32) (r : RegionId) (s : State) : Host.Outcome State Fault Refusal :=
  .next (s.plateOp run r.val (isScore 3) State.scoreStore)

/-! ### External scores (R87 to R89) -/

/-- EXT_TIMEOUT of a region in tc; 0 is taken as 1 (R88, R93). -/
def State.extWait (s : State) (r : Nat) : Nat := 1024 * max 1 (s.getF (pgArray r) Fld.EXT_CFG_EXT_TIMEOUT)

/-- EXT_TILE_IN: it runs until its last block is released, the first of them LAT_ext after its issue, and for at least its own cost
(R52, R88; log 107). -/
def State.extTileIn (s : State) (x : Op) : State :=
  let P := passesOf x.rt x.o.shape
  if dsSpan (x.d 1) < x.n * P * logitBlock then s.haltOp x stBoundsFault
  else
    let e := x.t + s.opTime x x.n
    let due := x.t + s.extWait x.r
    (s.startOp x (if x.n * P = 0 then some e else none) [(x.o.dst, x.g.withLane x.o.dst 0 (x.n * P))] none
      (if x.n * P = 0 then none else some due)).modRR x.seq x.r fun g =>
      { g with ext := ⟨0, x.t + s.latExt x.r, e⟩ }

/-- EXT_TILE_IN (R87). -/
def execExtTileIn (run : W32) (r : RegionId) (s : State) : Host.Outcome State Fault Refusal :=
  .next (s.plateOp run r.val (isScore 4) State.extTileIn)

/-- The EXT_TILE_IN that region r runs and that still waits for blocks. -/
def State.extOp (s : State) (r : Nat) : Option (Run × RegionRun × Busy) :=
  s.runs.findSome? fun x => (x.regions.get? r).bind fun g =>
    (g.busy.find? fun b => b.unit == 0 && b.opcode == 4 && b.ends.isNone).map fun b => (x, g, b)

/-- The operation of a busy unit as it stood at its issue, with its iterations. -/
def RegionRun.asOp (x : Run) (r : Nat) (g : RegionRun) (b : Busy) : Op :=
  let o := g.opOf b
  ⟨x.cmd.seq, r, x, g, o, b.issue, b.takes⟩

/-- The operation that a unit runs stops, and the plate halts (R475). -/
def State.stopOp (s : State) (seq : W32) (r : Nat) (b : Busy) (o : SlotOp) (code tc : Nat) : State :=
  (s.modRR seq r (·.stop b tc)).halt seq r code b.bundle o.slot tc

/-- A tile with a bad tag is discarded whole (R457). -/
def State.badTag (s : State) (r : Nat) : State := (s.contain (pgTile r) 0).bumpF (pgCombine r) Fld.STRAY_COUNT_COUNT 1

/-- Units of a write that had bad parity are marked uncorrectable where they land in region store (R457). -/
def State.markBad (s : State) (w : Tab (BitVec 128)) (r a : Nat) (bad : List Nat) : State :=
  bad.foldl (fun s u =>
    ((translate w true (a + 64 * u) 64).getD []).foldl (fun s p =>
      if p.store then s.modRegion r fun g => { g with poison := (p.addr / 64) :: g.poison } else s) s) s

/-- TILE, PASS, ROUTER and the reserved bits of an external block's tag. -/
def extTag (i q router : Nat) : Nat := i * 2 ^ 32 + q * 2 ^ 24 + router * 2 ^ 17 + 1

/-- Tile-port beats and rows of the current tc with those of one more tile: beats of 512 bytes, at most two a tc are seen (R471). -/
def tileBeats (old bytes rows : Nat) : Nat := min (old % 256 + ceilDiv bytes 512) 2 + min (old / 256 + rows) 255 * 256

/-- The plate of a region halts at the deadline of its EXT_TILE_IN (R88, R242). -/
def State.extLate (s : State) (seq : W32) (r : Nat) (g : RegionRun) (b : Busy) : State :=
  let due := b.due.getD b.issue
  ((s.reach r due).contain (pgTile r) 2).stopOp seq r b (g.opOf b) stExtTileTimeout due

/-- The next block of an EXT_TILE_IN commits in cycle c: the block behind it is released a block time later, its deadline counts from c,
and the operation ends with the last block, or at the end of its own cost (R87, R88). -/
def RegionRun.extCommit (g : RegionRun) (o : SlotOp) (c wait : Nat) (last : Bool) : RegionRun :=
  { g with
    ext := { g.ext with blocks := g.ext.blocks + 1, release := c + blockTime o.shape },
    busy := g.busy.map fun b =>
      if b.unit = 0 then { b with due := some (c + wait), ends := if last then some (max g.ext.ends c) else b.ends } else b }

/-- An external block arrives (R87): the next in (tile, pass) order commits at its release cycle, or late and with a stall by its
deficit (R26, R88); another one, or one whose length is not that of the SHAPE's block (log 108), is discarded and halts the plate; one
that would commit past the deadline comes too late. -/
def State.extBlock (s : State) (r tag : Nat) (units : Bytes) (par : TilePar) : State :=
  if !s.live.contains r then s
  else if par.tagBad || decide (2 ≤ tag % 16) then s.badTag r
  else match s.extOp r with
    | none => s
    | some (x, g, b) =>
      let o := RegionRun.asOp x r g b
      let rt := o.rt
      let P := passesOf rt o.o.shape
      let i := g.ext.blocks / max P 1
      let q := g.ext.blocks % max P 1
      let tc := max b.issue (s.region r).tc
      if b.due.getD tc < tc then s.extLate x.cmd.seq r g b
      else if tag ≠ extTag i q (o.o.router + q / max (rtPasses rt) 1) ∨ units.length ≠ 1024 * shapeRows o.o.shape then
        (s.contain (pgTile r) 1).stopOp x.cmd.seq r b o.o stExtTileOrder tc
      else
        let c := max tc g.ext.release
        if b.due.getD c < c then s.extLate x.cmd.seq r g b
        else
          let off := logitBlock * g.ext.blocks
          let s0 := if g.ext.release < tc then s.stallFrom r g.ext.release (tc - g.ext.release) false else s
          let s1 := ((s0.putAt o (o.o.desc + 1) off units).markBad x.cmd.windows r (dsBase (o.d 1) + off) par.badUnits).bumpF
            (pgTile r) Fld.TP_COUNT_EXT_BLOCKS 1
          (s1.modRegion r fun q => { q with beats := tileBeats q.beats units.length 0 }).modRR x.cmd.seq r fun g =>
            g.extCommit o.o c (s.extWait r) (g.ext.blocks + 1 == o.n * P)

/-- EXT_SCORE_BLOCK (R87). -/
def execExtScoreBlock (r : RegionId) (tag : W64) (units : Bytes) (par : TilePar) (s : State) : Host.Outcome State Fault Refusal :=
  if tileFits units then .next (if par.tagBad || tag.toNat % 16 != 0 then s.extBlock r.val tag.toNat units par else s)
  else .fault .malformed

/-- EXT_TILE_TIMEOUT (R88). -/
def State.extTimeout (s : State) (seq : W32) (r : Nat) : State :=
  match s.extOp r with
  | none => s
  | some (x, g, b) =>
    if x.cmd.seq = seq then s.extLate seq r g b else s

/-- EXT_TILE_TIMEOUT (R88). -/
def execExtTileTimeout (run : W32) (r : RegionId) (s : State) : Host.Outcome State Fault Refusal := .next (s.extTimeout run r.val)

end Sys2Proof.Machine
end

