-- ==== Sys2Proof/Machine/Selection.lean ====
section
/-! DEFINITION. Sys2Proof/Machine/Selection.lean: SELECT (R96 to R102), NORM (R103 to R106), SORT (R107 to R120) and BURN (R190, R191). -/

namespace Sys2Proof.Machine

/-! ### Ranking (R96, R97) -/

/-- The noise sample u of R96. -/
def noiseOf (seed : W64) (step ρ token e : Nat) : Fp :=
  let key : W64 := BitVec.ofNat 64 (Nat.lor (Nat.lor token (e * 2 ^ 24)) (Nat.lor (ρ * 2 ^ 34) (step * 2 ^ 41)))
  let z := key ^^^ seed
  let z := (z ^^^ (z >>> 30)) * 0xBF58476D1CE4E5B9
  let z := (z ^^^ (z >>> 27)) * 0x94D049BB133111EB
  let z := z ^^^ (z >>> 31)
  let v : Int := ((z >>> 40).toNat : Int) - 2 ^ 23
  .fin (decide (v < 0)) v.natAbs (-24)

/-- b_r[e] (R96, R97). -/
def rankScore (rt : BitVec 512) (seed : W64) (step ρ token e : Nat) (b : Fp) : Fp :=
  if b.isNan ∨ b = Fp.negInf then Fp.negInf
  else if rtNoiseAmp rt = 0 then b
  else fadd b (fmul (ofF32 (rtNoiseAmp rt)) (noiseOf seed step ρ token e))

/-- Whether candidate (e, x) ranks before (f, y) (R97). -/
def ranksBefore (a c : Nat × Fp) : Bool := c.2.lt a.2 || (!a.2.lt c.2 && decide (a.1 < c.1))

/-- Insert a candidate in rank order. -/
def insertRank (a : Nat × Fp) : List (Nat × Fp) → List (Nat × Fp)
  | [] => [a]
  | c :: t => if ranksBefore a c then a :: c :: t else c :: insertRank a t

/-- Candidates in rank order (R97). -/
def ranked (l : List (Nat × Fp)) : List (Nat × Fp) := l.foldl (fun acc a => insertRank a acc) []

/-- The candidates that take the first k ranks; a score of −∞ and all that rank after it are left out (R100). -/
def chosen (k : Nat) (l : List (Nat × Fp)) : List (Nat × Fp) := ((ranked l).take k).takeWhile fun c => c.2 != Fp.negInf

/-- Score of group g (R101). -/
def groupScore (topM : Nat) (l : List (Nat × Fp)) : Fp :=
  match ranked l with
  | [] => Fp.negInf
  | [a] => a.2
  | a :: b :: _ => if topM = 1 then a.2 else if a.2 = Fp.negInf ∨ b.2 = Fp.negInf then Fp.negInf else fadd a.2 b.2

/-- GROUP_MASK of a token (R101). -/
def groupMask (rt : BitVec 512) (br : List (Nat × Fp)) : Nat :=
  let size := rtE rt / max (rtGroups rt) 1
  let scores := (List.range (rtGroups rt)).map fun g => (g, groupScore (rtGroupTopM rt) ((br.drop (g * size)).take size))
  maskOf (((ranked scores).take (rtGroupKeep rt)).map (·.1))

/-! ### Selection records (R102) -/

/-- Bytes of a record. -/
def recordSize (k : Nat) : Nat := 16 * (k + 1)
/-- TOKEN of a record. -/
def recToken (r : Bytes) : Nat := field r 0 3
/-- VALID. -/
def recValid (r : Bytes) : Bool := bitAt (field r 0 8) 24
/-- GROUP_MASK. -/
def recMask (r : Bytes) : Nat := field r 4 4
/-- Entry i of a record, 128 bits. -/
def recEntry (r : Bytes) (i : Nat) : Nat := field r (16 * (i + 1)) 16
def enWeight (e : Nat) : Nat := bits e 31 0
def enScore (e : Nat) : Nat := bits e 63 32
def enSpilled (e : Nat) : Bool := bitAt e 111
def enDropped (e : Nat) : Bool := bitAt e 110
def enEmpty (e : Nat) : Bool := bitAt e 109
def enCopy (e : Nat) : Nat := bits e 108 106
def enExpert (e : Nat) : Nat := bits e 105 96
/-- An entry that is neither EMPTY nor DROPPED. -/
def enLive (e : Nat) : Bool := !enEmpty e && !enDropped e

/-- An entry for an expert with its score and ranking score. -/
def mkEntry (expert score rank : Nat) : Bytes := leBytes 16 (score * 2 ^ 32 + rank * 2 ^ 64 + expert * 2 ^ 96)
/-- An empty entry: RANK_SCORE is −∞. -/
def emptyEntry : Bytes := leBytes 16 (0xFF800000 * 2 ^ 64 + 0x3FF * 2 ^ 96 + 2 ^ 109)

/-- A record's header. -/
def mkHeader (token : Nat) (valid : Bool) (used mask : Nat) : Bytes :=
  leBytes 16 (token + flag valid * 2 ^ 24 + used * 2 ^ 25 + mask * 2 ^ 32)

/-- Bytes of record number pos of an entry. -/
def State.recordAt (s : State) (x : Op) (e k pos : Nat) : Bytes := s.getAt x e (recordSize k * pos) (recordSize k)

/-! ### SELECT -/

/-- Whether an operation is a cell group's, of group g, with an opcode and a low part of IMM. -/
def isSelect (g : CellGroupId) (o : SlotOp) : Bool := isCellOp g 4 o

/-- The first router of the pair where a SELECT's score tensor is of SHAPE 3 (R99). -/
def Image.pairBase (im : Image) (o : SlotOp) : Option Nat :=
  let stores := im.ops.filter fun e => e.2.slot == 1 && e.2.op == 3 && e.2.desc + 1 == o.desc
  ((im.ops.find? fun e => e.2.slot == 1 && (e.2.op == 2 || e.2.op == 4) && e.2.shape == 3 &&
    stores.any fun f => e.2.desc + 1 == f.2.desc)).map fun e => e.2.router

/-- The TAG of row j of unit u of a score tensor. -/
def State.unitTag (s : State) (x : Op) (u j : Nat) : Nat := leNat (s.getAt x x.o.desc (unitBytes * u + 2112 * j) 8)

/-- Whether every row of unit u carries the pass and the router that SELECT expects (R99). -/
def State.unitOk (s : State) (x : Op) (q router u : Nat) : Bool :=
  (List.range 128).all fun j => let t := s.unitTag x u j; bits t 28 25 == q && bits t 35 29 == router

/-- BIASED and SCORE words of row j over the units of a router. -/
def State.unitRow (s : State) (x : Op) (us : List Nat) (j : Nat) : List (Nat × Nat) :=
  us.flatMap fun u =>
    let bs := s.getAt x x.o.desc (unitBytes * u + 2112 * j + 64) 2048
    (words bs 4 256).zip (words (bs.drop 1024) 4 256)

/-- The record of row j of group i (R100, R101). -/
def State.selectRow (s : State) (x : Op) (us : List Nat) (u0 i j : Nat) : Bytes :=
  let rt := x.rt
  let k := rtK rt
  let tag := s.unitTag x u0 j
  let token := tag % 2 ^ 24
  let valid := bitAt tag 24
  let row := (s.unitRow x us j).take (rtE rt)
  let br := row.zipIdx.map fun e => (e.2, rankScore rt x.run.seed x.step x.o.router token e.2 (ofF32 e.1.1))
  let old := s.recordAt x (x.o.desc + 1) k (128 * i + j)
  let mode := bits x.o.imm 1 0
  if mode = 1 then mkHeader token valid 0 (if valid then groupMask rt br else 0) ++ old.drop 16
  else
    let mask := if mode = 2 then recMask old else 0
    let size := rtE rt / max (rtGroups rt) 1
    let cands := if mode = 2 then br.filter fun c => bitAt mask (c.1 / max size 1) else br
    let best := if valid then chosen k cands else []
    mkHeader token valid best.length mask ++
      (best.flatMap fun c => mkEntry c.1 (row.getD c.1 (0, 0)).2 (toF32 c.2)) ++ (List.replicate (k - best.length) emptyEntry).flatten

/-- SELECT (R98 to R102). -/
def State.select (s : State) (x : Op) : State :=
  let p1 := max (rtPasses x.rt) 1
  let base := x.g.image.pairBase x.o
  let P := if base.isSome then 2 * p1 else p1
  let groups := x.n / P
  let k := rtK x.rt
  if x.n % P ≠ 0 then s.haltOp x stSelectPassFault
  else if dsSpan (x.d 1) < recordSize k * (128 * groups) ∨ dsSpan (x.d 0) < unitBytes * x.n then s.haltOp x stBoundsFault
  else
    let owner (q : Nat) : Nat := match base with | none => x.o.router | some b => b + q / p1
    let bad := (List.range x.n).find? fun u => !s.unitOk x (u % P) (owner (u % P)) u
    let whole := match bad with | none => groups | some u => u / P
    let s1 := (List.range whole).foldl (fun s i =>
      let us := ((List.range P).filter fun q => owner q == x.o.router).map fun q => i * P + q
      (List.range 128).foldl (fun (s : State) j => s.putAt x (x.o.desc + 1) (recordSize k * (128 * i + j)) (s.selectRow x us (us.headD (i * P)) i j)) s) s
    match bad with
    | none => s1.runOp x x.n [(x.o.dst, x.g.withLane x.o.dst 0 groups)]
    | some u => s1.stopAtItem x u stSelectPassFault

/-- SELECT (R98). -/
def execSelect (run : W32) (r : RegionId) (g : CellGroupId) (s : State) : Host.Outcome State Fault Refusal :=
  .next (s.plateOp run r.val (isSelect g) State.select)

/-! ### NORM (R103 to R106) -/

/-- Unnormalised terms of the live entries: the scores, or the exponentials of R105. -/
def normTerms (fn : Nat) (live : List Fp) : List Fp :=
  if fn = 2 then
    if live.any (· == Fp.inf false) then live.map fun v => if v == .inf false then Fp.one else Fp.zero
    else live.map fun v => expF (fsub v (maxOf live))
  else live

/-- The weights of live scores in rank order, and whether their sum is +0 (R104, R105). -/
def normWeights (rt : BitVec 512) (live : List Fp) : List Fp × Bool :=
  let scale := ofF32 (rtRouteScale rt)
  if rtFunction rt ≠ 2 ∧ rtNormMode rt = 0 then (live.map fun v => fmul v scale, false)
  else
    let z := normTerms (rtFunction rt) live
    let S := z.foldl fadd Fp.zero
    if S.isZero then (live.map fun _ => Fp.zero, true)
    else
      let R := fdiv Fp.one S
      (z.map fun v => fmul (fmul v R) scale, false)

/-- COPY of a live entry (R106); an expert that the router does not have has no copy count, so its copy is free (log 7). -/
def copyOf (t : Bytes) (token e : Nat) : Nat :=
  if e < plE t ∧ plCopies t e ≠ 0 then token % plCopies t e else (Config.copyOf e token).toNat

/-- The entries of a record with weights and copies, in rank order. -/
def fillEntries (t : Bytes) (token : Nat) : List Nat → List Fp → Bytes
  | [], _ => []
  | e :: es, ws =>
    let live := enLive e
    let c := if live then copyOf t token (enExpert e) else 0
    let w := if live then toF32 (ws.headD Fp.zero) else 0
    leBytes 16 (putBits (putBits e 31 0 w) 108 106 c) ++ fillEntries t token es (if live then ws.drop 1 else ws)

/-- NORM of one record; a zero sum counts once, on the page of the cluster whose cell holds the record (R104; log 115). -/
def State.normRecord (s : State) (x : Op) (pos : Nat) : State :=
  let k := rtK x.rt
  let r := s.recordAt x x.o.desc k pos
  let es := (List.range k).map (recEntry r)
  if bitAt x.o.imm 0 && !es.any enDropped then s
  else
    let valid := recValid r
    let live := if valid then (es.filter enLive).map fun e => ofF32 (enScore e) else []
    let (ws, zero) := normWeights x.rt live
    let bs := if valid then fillEntries (x.table x.o.router) (recToken r) es ws
      else es.flatMap fun e => leBytes 16 (putBits (putBits e 31 0 0) 108 106 0)
    let s1 := s.putAt x x.o.desc (recordSize k * pos) (r.take 16 ++ bs)
    if valid && zero then s1.count (pgCluster x.r (4 * (x.o.slot - 2) + pos % 128 / 32)) 0x40 1 else s1

/-- NORM: one batch of 128 records per item. -/
def State.normOp (s : State) (x : Op) : State :=
  if dsSpan (x.d 0) < recordSize (rtK x.rt) * (128 * x.n) then s.haltOp x stBoundsFault
  else ((List.range (128 * x.n)).foldl (fun s pos => s.normRecord x pos) s).runOp x x.n []

/-- NORM (R103). -/
def execNorm (run : W32) (r : RegionId) (g : CellGroupId) (s : State) : Host.Outcome State Fault Refusal :=
  .next (s.plateOp run r.val (isCellOp g 5) State.normOp)

/-! ### SORT (R107 to R120) -/

/-- A selection that the count phase takes up: position, rank and entry. -/
structure Pick where
  pos : Nat
  rank : Nat
  entry : Nat
  deriving DecidableEq, Repr

/-- The records of a SORT that are VALID, with their positions. -/
def validRecords (rs : List Bytes) : List (Nat × Bytes) := (rs.zipIdx.filter fun e => recValid e.1).map fun e => (e.2, e.1)

/-- The first record that breaks R116 step 1: its position and the code. -/
def recordFault (t : Bytes) (E k : Nat) : Option Nat → List (Nat × Bytes) → Option (Nat × Nat)
  | _, [] => none
  | last, (pos, r) :: rs =>
    let es := (List.range k).map (recEntry r)
    if (match last with | none => false | some p => decide (recToken r ≤ p)) then some (pos, stSortOrderFault)
    else if es.any fun e => (!enEmpty e && decide (E ≤ enExpert e)) || (enLive e && decide (plCopies t (enExpert e) ≤ enCopy e)) then
      some (pos, stRecordFault)
    else recordFault t E k (some (recToken r)) rs

/-- The selections that a pass counts, in ascending position and rank (R116 step 2). -/
def picksOf (pass k : Nat) (rs : List (Nat × Bytes)) : List Pick :=
  rs.flatMap fun p => ((List.range k).map fun i => Pick.mk p.1 i (recEntry p.2 i)).filter fun a =>
    enLive a.entry && (pass == 0 || enSpilled a.entry)

/-- Split the selections into those that stay within each expert's bound and the excess (R107). -/
def splitPicks (kept : List Nat) : List Nat → List Pick → List Pick × List Pick
  | _, [] => ([], [])
  | seen, a :: as =>
    let e := enExpert a.entry
    let n := seen.getD e 0
    let (live, out) := splitPicks kept (seen.set e (n + 1)) as
    if n < kept.getD e 0 then (a :: live, out) else (live, a :: out)

/-- The manifest entry of one record for one lane (R119). -/
def manifestEntry (k pass member region token pos : Nat) (as : List Pick) : Bytes :=
  let mask := maskOf (as.map (·.rank))
  fit (entrySize k) (leBytes 8 (token + region * 2 ^ 24 + member * 2 ^ 27 + mask * 2 ^ 37 + as.length * 2 ^ 53 + pass * 2 ^ 58) ++
    leBytes 8 pos ++ as.flatMap fun a => leBytes 8 (enExpert a.entry * 2 ^ 32 + enCopy a.entry * 2 ^ 42 + a.rank * 2 ^ 45))

/-- The entries of one lane, in ascending position (R120). -/
def laneEntries (t : Bytes) (k pass member region lane : Nat) (rs : List (Nat × Bytes)) (as : List Pick) : List Bytes :=
  rs.filterMap fun p =>
    let mine := as.filter fun a => a.pos == p.1 && laneOf t (plCopy t (enExpert a.entry) (enCopy a.entry)) == lane
    if mine.isEmpty then none else some (manifestEntry k pass member region (recToken p.2) p.1 mine)

/-- Directory and entries of a manifest (R117). -/
def manifestBytes (k pass : Nat) (lanes : List (List Bytes)) : Bytes :=
  let d := dirSize (lanes.length - 8)
  let dir := (lanes.foldl (fun (acc : Bytes × Nat) l =>
    (acc.1 ++ leBytes 16 (l.length + pass * 2 ^ 24 + acc.2 * 2 ^ 32), acc.2 + entrySize k * l.length)) ([], d)).1
  fit d dir ++ (lanes.map List.flatten).flatten

/-- Set the mark at a bit of an entry of a record. -/
def State.markEntry (s : State) (x : Op) (k bit : Nat) (a : Pick) : State :=
  let off := recordSize k * a.pos + 16 * (a.rank + 1)
  let e := leNat (s.getAt x x.o.desc off 16)
  s.putAt x x.o.desc off (leBytes 16 (if bitAt e bit then e else e + 2 ^ bit))

/-- A manifest enters its digest's stream (R244). -/
def State.digestManifest (s : State) (x : Op) (ρ pass entry : Nat) (bs : Bytes) : State :=
  let d := x.g.digests.getD ρ Digest.empty
  let start := if pass = 0 then d.manifest.length else d.spill.length
  (s.modDigest x ρ fun d => if pass = 0 then { d with manifest := d.manifest ++ bs } else { d with spill := d.spill ++ bs, hasSpill := true }).modRR
    x.seq x.r fun g => { g with sorted := g.sorted.set (x.key entry) (ρ, pass, start) }

/-- SORT (R107, R116 to R120). -/
def State.sort (s : State) (x : Op) : State :=
  let rt := x.rt
  let k := rtK rt
  let E := rtE rt
  let t := x.table x.o.router
  let M := plM t
  let pass := x.o.sPass
  let room := dirSize M + entrySize k * 128 * x.n * min k (s.live.length + M - 1)
  if dsSpan (x.d 1) < room ∨ dsSpan (x.d 0) < recordSize k * (128 * x.n) then s.haltOp x stBoundsFault
  else
    let rs := validRecords ((List.range (128 * x.n)).map (s.recordAt x x.o.desc k))
    match recordFault t E k none rs with
    | some (pos, code) => s.stopAtItem x (pos / 128) code
    | none =>
      let picks := picksOf pass k rs
      let counts := (List.range E).map fun e => (picks.filter fun a => enExpert a.entry == e).length
      let cap := x.g.image.cap x.o.cap
      let takes := takeLanes cap counts
      if pass = 1 ∧ counts ≠ (List.range E).map (fun e => (x.g.cnt.getD x.o.sExcess []).getD e 0) then
        s.stopAtItem x x.n stRecordFault
      else if strictHit cap takes then s.stopAtItem x x.n stCapacityFault
      else
        let kept := takes.map (·.1)
        let (live, out) := splitPicks kept (List.replicate E 0) picks
        let excess := takes.map (·.2)
        let lanes := (List.range (8 + M)).map fun l => laneEntries t k pass s.self x.r l rs live
        let bs := manifestBytes k pass lanes
        let s1 := out.foldl (fun s a => s.markEntry x k (if capMode cap = 1 then 111 else 110) a) s
        let s2 := (s1.putAt x (x.o.desc + 1) 0 bs).digestManifest x x.o.router pass (x.o.desc + 1) bs
        let s3 := s2.modRR x.seq x.r fun g =>
          if out.isEmpty then g
          else if capMode cap = 1 then { g with spill := g.spill + out.length, flags := setFlag g.flags flCapacitySpill }
          else { g with drop := g.drop + out.length, flags := setFlag g.flags flCapacityDrop }
        s3.runOp x x.n ([(x.o.dst, lanes.map List.length), (x.o.dst + 1, kept)] ++
          (if capMode cap = 1 then [(capExcess cap, excess)] else []))

/-- SORT (R115). -/
def execSort (run : W32) (r : RegionId) (g : CellGroupId) (s : State) : Host.Outcome State Fault Refusal :=
  .next (s.plateOp run r.val (isCellOp g 6) State.sort)

/-! ### BURN (R190, R191) -/

/-- BURN: the lanes of CNT, and of GHOST_CNT with GHOST, go into the pending counters of the router. -/
def State.burn (s : State) (x : Op) : State :=
  let add := addLanes (x.g.lanes x.o.cnt) (if x.o.bGhost then x.g.lanes x.o.bGhostCnt else [])
  (s.modRR x.seq x.r fun g =>
    { g with
      load := g.load.set x.o.router (addLanes (g.load.getD x.o.router []) add),
      burned := if g.burned.contains x.o.router then g.burned else g.burned ++ [x.o.router] }).runOp x 0 []

/-- BURN (R191). -/
def execBurn (run : W32) (r : RegionId) (g : CellGroupId) (s : State) : Host.Outcome State Fault Refusal :=
  .next (s.plateOp run r.val (isCellOp g 0xA) State.burn)

end Sys2Proof.Machine
end

