-- ==== Sys2Proof/Machine/Exchange.lean ====
section
/-! DEFINITION. Sys2Proof/Machine/Exchange.lean: the exchange of entries, rows and terms (R121 to R140, R158, R159): count headers, what a
sending operation sends, what a receive checks and where its items land, over edges, over links and within a region. -/

namespace Sys2Proof.Machine

/-! ### Count headers (R122) -/

/-- A count header. -/
def countHeader (count router member via dest src pass tag epoch step rowBytes entryBytes : Nat) : Bytes :=
  leBytes 8 (1 + pass * 2 ^ 8 + src * 2 ^ 9 + dest * 2 ^ 12 + via * 2 ^ 15 + member * 2 ^ 16 + router * 2 ^ 26 + count * 2 ^ 33) ++
    leBytes 8 tag ++ leBytes 8 (step % 2 ^ 16 + epoch % 2 ^ 32 * 2 ^ 32) ++ leBytes 8 (rowBytes + entryBytes * 2 ^ 32) ++ zeros 32

def hdCount (h : Bytes) : Nat := bits (field h 0 8) 56 33
def hdRouter (h : Bytes) : Nat := bits (field h 0 8) 32 26
def hdMember (h : Bytes) : Nat := bits (field h 0 8) 25 16
def hdPass (h : Bytes) : Nat := bits (field h 0 8) 8 8
def hdKind (h : Bytes) : Nat := field h 0 1
def hdTag (h : Bytes) : Nat := field h 8 8
def hdEpoch (h : Bytes) : Nat := field h 20 4
def hdStep (h : Bytes) : Nat := field h 16 2
def hdRowBytes (h : Bytes) : Nat := field h 24 4
def hdEntryBytes (h : Bytes) : Nat := field h 28 2
/-- A header as a gateway re-issues it to a region (R123). -/
def viaGateway (h : Bytes) (g n : Nat) : Bytes :=
  leBytes 8 (putBits (putBits (putBits (field h 0 8) 56 33 n) 15 15 1) 14 12 g) ++ h.drop 8

/-! ### Manifests and entries (R117, R119, R124) -/

/-- View of the operation's DESC. -/
def Op.view (x : Op) : Nat := viewAt x.cmd.list x.o.desc
/-- Router of the exchange: that of a COMBINE's own field, else that of the view. -/
def Op.vRouter (x : Op) : Nat := if x.o.cell 8 then x.o.router else vwRouter x.view
/-- Its entry, as latched. -/
def Op.vRt (x : Op) : BitVec 512 := x.run.routers.getD x.vRouter 0
/-- Its placement table. -/
def Op.vTable (x : Op) : Bytes := x.table x.vRouter
/-- Entry size S of its router. -/
def Op.entryBytes (x : Op) : Nat := entrySize (rtK x.vRt)
/-- Directory bytes D. -/
def Op.dirBytes (x : Op) : Nat := dirSize (plM x.vTable)
/-- Lane of a member. -/
def Op.memberLane (x : Op) (member : Nat) : Nat := 8 + (plIndex x.vTable member).getD 0

/-- Directory entry of a lane of the manifest at an entry of the list: OFFSET, COUNT, PASS. -/
def State.dirAt (s : State) (x : Op) (e lane : Nat) : Nat × Nat × Nat :=
  let w := leNat (s.getAt x e (16 * lane) 8)
  (bits w 63 32, bits w 23 0, bits w 24 24)

def meToken (e : Bytes) : Nat := field e 0 3
def meSourceRegion (e : Bytes) : Nat := bits (field e 0 8) 26 24
def meMask (e : Bytes) : Nat := bits (field e 0 8) 52 37
def meSlots (e : Bytes) : Nat := bits (field e 0 8) 57 53
def mePos (e : Bytes) : Nat := field e 8 3
/-- Slot s of an entry. -/
def meSlot (e : Bytes) (i : Nat) : Nat := field e (16 + 8 * i) 8
def slRank (w : Nat) : Nat := bits w 48 45
def slCopy (w : Nat) : Nat := bits w 44 42
def slExpert (w : Nat) : Nat := bits w 41 32
def slWeight (w : Nat) : Nat := bits w 31 0
/-- Address of the copy that a slot names. -/
def slPlace (t : Bytes) (w : Nat) : Nat := plCopy t (slExpert w) (slCopy w)
/-- Used slots of an entry. -/
def meSlotsOf (e : Bytes) : List Nat := (List.range (meSlots e)).map (meSlot e)
/-- Whether a slot's copy resides in region g of this engine. -/
def residesAt (t : Bytes) (g : Nat) (w : Nat) : Bool := cpMember (slPlace t w) == plSelf t && cpRegion (slPlace t w) == g
/-- The lane that an entry goes to: that of its copies (R114). -/
def meLane (t : Bytes) (e : Bytes) : Nat := laneOf t (slPlace t (meSlot e 0))

/-- The part of an entry for region g (R123): its slots there, compacted, and their ranks; none when there is none. -/
def splitEntry (t : Bytes) (g size : Nat) (e : Bytes) : Option Bytes :=
  let mine := (meSlotsOf e).filter (residesAt t g)
  if mine.isEmpty then none
  else
    let w := putBits (putBits (field e 0 8) 52 37 (maskOf (mine.map slRank))) 57 53 mine.length
    some (fit size (leBytes 8 w ++ (e.drop 8).take 8 ++ mine.flatMap (leBytes 8 ·)))

/-- Overwrite bytes at an offset. -/
def patch (bs : Bytes) (off : Nat) (new : Bytes) : Bytes := bs.take off ++ new ++ bs.drop (off + new.length)

/-- An entry with its weights copied from the record at its SOURCE_POS (R121); it keeps its size. The record tensor is that of entry rec:
DESC + 1 of an operation that sends a manifest (log 115). -/
def State.weighed (s : State) (x : Op) (rec : Nat) (e : Bytes) : Bytes :=
  fit x.entryBytes ((List.range (meSlots e)).foldl (fun b i =>
    let w := meSlot e i
    patch b (16 + 8 * i) (s.getAt x rec (recordSize (rtK x.vRt) * mePos e + 16 * (slRank w + 1)) 4)) e)

/-- Entries from number i on of a lane of the manifest at DESC, n of them, with their weights; they are written back and enter the
digest as sent (R121, R244). -/
def State.takeEntries (s : State) (x : Op) (rec lane i n : Nat) : State × List Bytes :=
  let off := (s.dirAt x x.o.desc lane).1
  (List.range n).foldl (fun (acc : State × List Bytes) k =>
    let a := off + x.entryBytes * (i + k)
    let e := acc.1.weighed x rec (acc.1.getAt x x.o.desc a x.entryBytes)
    let s1 := acc.1.putAt x x.o.desc a e
    let s2 := match x.g.sorted.get? (x.key x.o.desc) with
      | none => s1
      | some (ρ, pass, start) => s1.modDigest x ρ fun d =>
          if pass = 0 then { d with manifest := patch d.manifest (start + a) e } else { d with spill := patch d.spill (start + a) e }
    (s2, acc.2 ++ [e])) (s, [])

/-! ### What a sending operation sends -/

/-- A stream ready to leave. -/
structure Outgoing where
  header : Bytes
  items : List (Nat × Bytes)
  lane : Nat
  first : Nat
  deriving DecidableEq, Repr

/-- Where a sending operation's stream goes: a region, or the lane of a port's member. -/
def State.sendKey (s : State) (x : Op) : Nat :=
  if x.o.slot = 6 then x.o.region
  else if x.o.slot = 7 then x.memberLane ((s.peerOf x.r x.o.port).getD 0) else x.r

/-- Lanes that an operation sends, with what R50 takes of each. -/
def Op.taken (x : Op) : List (Nat × Nat) := ((x.takes.zipIdx).filter fun e => e.1.1 != 0).map fun e => (e.2, e.1.1)

/-- Streams of this part that were sent or received by operations of a kind of view, in order. -/
def Op.streams (x : Op) (sent : Bool) (kind phase : Nat) (returning : Bool) : List Stream :=
  x.g.streams.filter fun t => t.sent == sent && t.kind == kind && t.phase == phase && t.returning == returning && t.router == x.vRouter

/-- Whether two entries of the running command's list name one tensor. -/
def Op.same (x : Op) (i j : Nat) : Bool := surelySame (some x.cmd.list) i j

/-- Entries of a lane that earlier operations sent from the manifest at DESC. -/
def Op.already (x : Op) (lane : Nat) : Nat :=
  ((x.g.streams.filter fun t => t.sent && t.phase == 0 && x.same t.entry x.o.desc).map fun t =>
    if t.kind = 3 then (if t.lane = lane then (t.items.filter fun e => e.1 == x.r).length else 0)
    else (t.items.filter fun e => e.1 == lane).length).sum

/-- The row bytes that headers of a view carry. -/
def Op.headerRow (x : Op) : Nat := if vwReturn x.view then itemBytes x.run.routers x.cmd.list x.o.desc else rtRowBytes x.vRt

/-- The header that an operation's own view makes (R122). -/
def State.ownHeader (s : State) (x : Op) (count dest pass : Nat) : Bytes :=
  countHeader count x.vRouter s.self 0 dest x.r pass (plTag x.vTable) s.membership.epoch x.step x.headerRow x.entryBytes

/-- Items of region r's part that LINK_SENDs of a phase have sent to a lane in a pass. -/
def Op.merged (x : Op) (phase lane pass r : Nat) : Nat :=
  (((x.streams true 3 phase false).filter fun t => t.lane == lane && hdPass t.header == pass).map fun t =>
    (t.items.filter fun e => e.1 == r).length).sum

/-- What region r forwarded for a lane in a pass and no LINK_SEND has sent yet (R131). -/
def Op.forwarded (x : Op) (phase lane pass r : Nat) : List Bytes :=
  (((x.streams false 2 phase false).filter fun t => t.lane == r && hdPass t.header == pass).flatMap fun t =>
    (t.items.filter fun e => e.1 == lane).map (·.2)).drop (x.merged phase lane pass r)

/-- The ENTRY phase of a send (R129, R131, R123). -/
def State.outEntries (s : State) (x : Op) : State × Outgoing :=
  let key := s.sendKey x
  match vwKind x.view with
  | 3 =>
    let want := (x.taken.map (·.2)).sum
    let (off, count, pass) := s.dirAt x x.o.desc key
    let i := x.already key
    let (s1, own) := s.takeEntries x (x.o.desc + 1) key i (min want (count - i))
    let others := ((List.range 8).filter (· != x.r)).flatMap fun r => (x.forwarded 0 key pass r).map fun e => (r, e)
    let items := ((own.map fun e => (x.r, e)) ++ others).take want
    -- ascending source region, each part in its received order
    let sorted := (List.range 8).flatMap fun r => items.filter fun e => e.1 == r
    (s1, ⟨s.ownHeader x items.length 0 pass, sorted, key, (off - x.dirBytes) / max x.entryBytes 1 + i⟩)
  | 4 =>
    let t := (x.streams false 3 0 false).find? fun t =>
      !(x.streams true 4 0 false).any fun u => u.lane == key && u.first == t.lane && hdPass u.header == hdPass t.header
    match t with
    | none => (s, ⟨s.ownHeader x 0 key 0, [], key, 0⟩)
    | some t =>
      let items := ((t.items.zipIdx).filterMap fun e => (splitEntry x.vTable key x.entryBytes e.1.2).map fun b => (e.2, b)).take
        ((x.taken.map (·.2)).sum)
      (s, ⟨viaGateway t.header key items.length, items, key, t.lane⟩)
  | k =>
    let (s1, items) := x.taken.foldl (fun (acc : State × List (Nat × Bytes)) e =>
      let (s2, es) := acc.1.takeEntries x (x.o.desc + 1) e.1 (x.already e.1) e.2
      (s2, acc.2 ++ es.map fun b => (e.1, b))) (s, [])
    let lane := if k = 1 then key else ((x.taken.map (·.1)).head?).getD 8
    let (off, _, pass) := s.dirAt x x.o.desc lane
    (s1, ⟨s.ownHeader x items.length (if k = 1 then key else 0) pass, items, key,
      (off - x.dirBytes) / max x.entryBytes 1 + x.already lane⟩)

/-- The row of DESC + 1 at a position. -/
def State.sourceRow (s : State) (x : Op) (pos : Nat) : Bytes :=
  (s.rowRead x.cmd x.r (x.o.desc + 1) pos).getD (zeros (rtRowBytes x.vRt))

/-- The ROW phase of a send: the header of the ENTRY phase that it follows and a row per entry of it (R129, R131). -/
def State.outRows (s : State) (x : Op) : Outgoing :=
  let key := s.sendKey x
  let k := vwKind x.view
  match (x.streams true k 0 false).find? fun t => t.lane == key && !t.rowed with
  | none => ⟨s.ownHeader x 0 key 0, [], key, 0⟩
  | some t =>
    let rows : List (Nat × Bytes) :=
      if k = 3 then
        (List.range 8).flatMap fun r =>
          let part := t.items.filter fun e => e.1 == r
          if r = x.r then part.map fun e => (r, s.sourceRow x (mePos e.2))
          else ((x.forwarded 1 key (hdPass t.header) r).take part.length).map fun b => (r, b)
      else if k = 4 then
        let rows := ((x.streams false 3 1 false).find? fun u => u.lane == t.first && hdPass u.header == hdPass t.header).map (·.items)
        t.items.map fun e => (e.1, (((rows.getD [])[e.1]?).map (·.2)).getD (zeros (rtRowBytes x.vRt)))
      else t.items.map fun e => (e.1, s.sourceRow x (mePos e.2))
    ⟨t.header, rows, key, t.first⟩

/-- The entries of its own manifest that an ENTRY-phase send reads: offset of the first, and how many. -/
def State.sentEntries (s : State) (x : Op) : List (Nat × Nat) :=
  let S := x.entryBytes
  match vwKind x.view with
  | 4 => []
  | 3 => let (off, count, _) := s.dirAt x x.o.desc (s.sendKey x); [(off, count)]
  | _ => x.taken.map fun e => ((s.dirAt x x.o.desc e.1).1 + S * x.already e.1, e.2)

/-- Whether the entries that a send reads lie in its manifest, and their records in the record tensor (R268). -/
def State.entriesFit (s : State) (x : Op) : Bool :=
  (s.sentEntries x).all fun e => e.2 == 0 || (decide (e.1 + x.entryBytes * e.2 ≤ dsSpan (x.d 0)) &&
    (List.range e.2).all fun i => decide (recordSize (rtK x.vRt) * (mePos (s.getAt x x.o.desc (e.1 + x.entryBytes * i) 16) + 1) ≤ dsSpan (x.d 1)))

/-- Whether every row that a ROW-phase send reads, at the SOURCE_POS of an own entry, is one of the region's in the tensor at DESC + 1
(R268, R274). -/
def State.rowsSendable (s : State) (x : Op) : Bool :=
  vwKind x.view == 4 ||
  match (x.streams true (vwKind x.view) 0 false).find? fun t => t.lane == s.sendKey x && !t.rowed with
  | none => true
  | some t => (t.items.filter fun e => vwKind x.view != 3 || e.1 == x.r).all fun e =>
      (localRow x.cmd s.self x.r (x.o.desc + 1) (mePos e.2)).isSome

/-- An operation of the image whose entry desc + k names the tensor of entry e, if one passes a test. -/
def Op.findOp (x : Op) (test : SlotOp → Bool) (k e : Nat) : Option SlotOp :=
  (x.g.image.ops.find? fun p => test p.2 && x.same (p.2.desc + k) e).map (·.2)

/-- Bytes of a region term's and of a package term's place: RBt and RBp (R156). -/
def Op.termRoom (x : Op) : Nat := up64 (4 * combineW x.cmd.list x.vRouter)
def Op.packageRoom (x : Op) : Nat := up64 (2 * combineW x.cmd.list x.vRouter)
/-- INTER_TYPE is BF16 (R166). -/
def Op.interBf (x : Op) : Bool := cmdOp x.cmd.raw == 0x21 && cmdField x.cmd.raw 26 1 == 1

/-- A region term as a return row: FP32, of a value rounded to BF16 for the own engine under INTER_TYPE BF16 (R158, R166). -/
def Op.returnRow (x : Op) (own : Bool) (bs : Bytes) : Bytes :=
  if own && x.interBf then (words bs 4 (bs.length / 4)).flatMap fun v => leBytes 4 (toF32 (ofF32 v).toBf) else bs

/-- The manifest whose entries a return send answers: that of the TERM or the PACKAGE that wrote the rows of DESC + 1. -/
def Op.answered (x : Op) (test : SlotOp → Bool) : Option Nat := (x.findOp test 2 (x.o.desc + 1)).map (·.desc)

/-- A return stream (R158): terms in the order of the entries they answer. -/
def State.outReturn (s : State) (x : Op) : Outgoing :=
  let key := s.sendKey x
  let W := combineW x.cmd.list x.vRouter
  let rows (n first room bytes : Nat) : List Bytes := (List.range n).map fun i => s.getAt x (x.o.desc + 1) ((first + i) * room) bytes
  match vwKind x.view with
  | 2 =>
    -- the part of a member's return that region key is owed
    match (x.streams false 3 1 true).find? fun t => !(x.streams true 2 1 true).any fun u => u.lane == key && u.first == t.lane &&
        hdPass u.header == hdPass t.header with
    | none => ⟨s.ownHeader x 0 key 0, [], key, 0⟩
    | some t =>
      let part := (t.items.filter fun e => e.1 == key).take x.n
      ⟨viaGateway t.header key part.length, part, key, t.lane⟩
  | 3 =>
    match x.answered SlotOp.isPackage with
    | none => ⟨s.ownHeader x 0 0 0, [], key, 0⟩
    | some e =>
      let (_, count, pass) := s.dirAt x e key
      let n := min x.n count
      ⟨s.ownHeader x n 0 pass, (rows n 0 x.packageRoom (2 * W)).map fun b => (0, b), key, 0⟩
  | k =>
    let lane := if k = 1 then key else ((x.taken.map (·.1)).head?).getD 8
    match x.answered SlotOp.isTerm with
    | none => ⟨s.ownHeader x 0 key 0, [], key, 0⟩
    | some e =>
      let (off, _, pass) := s.dirAt x e lane
      let first := (off - x.dirBytes) / max x.entryBytes 1
      ⟨s.ownHeader x x.n key pass, (rows x.n first x.termRoom (4 * W)).map fun b => (0, x.returnRow (k == 1) b), key, first⟩

/-- Whether what a send reads lies in its tensors (R268). -/
def State.sendFits (s : State) (x : Op) : Bool :=
  if vwPhase x.view = 0 then s.entriesFit x
  else if vwReturn x.view then
    let q := s.outReturn x
    let room := if vwKind x.view = 3 then x.packageRoom else x.termRoom
    vwKind x.view == 2 || q.items.isEmpty || decide ((q.first + q.items.length) * room ≤ dsRoom (x.d 1))
  else s.rowsSendable x

/-- The stream of a sending operation, and the state after its entries were read. -/
def State.outgoing (s : State) (x : Op) : State × Outgoing :=
  if vwPhase x.view = 0 then s.outEntries x else if vwReturn x.view then (s, s.outReturn x) else (s, s.outRows x)

/-- A stream is noted as sent; a ROW phase or a return stream marks the stream it follows. -/
def State.noteSent (s : State) (x : Op) (q : Outgoing) : State :=
  let new : Stream := ⟨true, x.o.desc, x.vRouter, vwKind x.view, q.lane, vwPhase x.view, vwReturn x.view, q.header, q.items, q.first,
    false, false, []⟩
  s.modRR x.seq x.r fun g =>
    let i := if vwPhase x.view = 1 && !vwReturn x.view then
        g.streams.findIdx? fun t => t.sent && t.router == x.vRouter && t.kind == vwKind x.view && t.phase == 0 && t.lane == q.lane && !t.rowed
      else none
    let old := match i with | none => g.streams | some i => g.streams.modify i fun t => { t with rowed := true }
    { g with streams := old ++ [new] }

/-! ### What a receive checks (R122, R129, R133, R158) -/

/-- Source lane of a stream that an operation receives. -/
def State.recvKey (s : State) (x : Op) (hdr : Bytes) : Nat :=
  if x.o.slot = 7 then x.memberLane ((s.peerOf x.r x.o.port).getD 0)
  else if vwKind x.view = 4 && !vwReturn x.view then x.memberLane (hdMember hdr)
  else if x.o.slot = 6 then x.o.region else x.r

/-- The entries of a link-received manifest that belong to region g (R123). -/
def State.splitCount (s : State) (x : Op) (e g : Nat) : Nat :=
  ((List.range (plM x.vTable)).map fun m =>
    let (off, count, _) := s.dirAt x e (8 + m)
    ((List.range count).filter fun i => (splitEntry x.vTable g x.entryBytes (s.getAt x e (off + x.entryBytes * i) x.entryBytes)).isSome).length).sum

/-- PASS of the streams that have filled the received manifest at an entry: that of their headers. -/
def Op.receivedPass (x : Op) (e : Nat) : Nat :=
  (((x.g.streams.filter fun t => !t.sent && t.phase == 0 && x.same (t.entry + 2) e).getLast?).map fun t => hdPass t.header).getD 0

/-- COUNT, PASS and first position of the forward stream that a return stream from a lane answers; none where there is none. -/
def State.forward (s : State) (x : Op) (hdr : Bytes) : Option (Nat × Nat × Nat) :=
  let final (spill : Bool) : Option Nat :=
    if spill then (x.findOp (fun o => o.isFinal && o.cSpill == 1) 4 x.o.desc).map fun o => o.desc + 3
    else (x.findOp SlotOp.isFinal 2 x.o.desc).map fun o => o.desc + 1
  match vwKind x.view with
  | 3 => ((x.streams true 3 0 false).find? fun t => t.lane == s.recvKey x hdr && !t.answered).map fun t =>
      (t.items.length, hdPass t.header, 0)
  | 4 => (x.findOp SlotOp.isPackage 1 x.o.desc).map fun o =>
      (s.splitCount x o.desc (s.recvKey x hdr), x.receivedPass o.desc, 0)
  | k =>
    let lane := if k = 2 then x.memberLane (hdMember hdr) else s.recvKey x hdr
    (match final false with | some e => some e | none => final true).map fun e =>
      let (off, count, pass) := s.dirAt x e lane
      (count, pass, (off - x.dirBytes) / max x.entryBytes 1)

/-- PASS that the ENTRY phase of a receive expects: passes of a router alternate where the set sorts a spill pass of it. -/
def State.expectedPass (s : State) (x : Op) (hdr : Bytes) : Nat :=
  let two := x.run.regions.any fun e => e.2.image.ops.any fun p => p.2.cell 6 && p.2.router == x.vRouter && p.2.sPass == 1
  let before := (x.streams false (vwKind x.view) 0 false).filter fun t => t.lane == s.recvKey x hdr
  if two then before.length % 2 else 0

/-- The stream of the ENTRY phase that a ROW phase from a lane follows. -/
def State.entryOf (s : State) (x : Op) (hdr : Bytes) : Option Stream :=
  (x.streams false (vwKind x.view) 0 false).find? fun t => t.lane == s.recvKey x hdr && !t.rowed

/-- The checks of a receive on a header, in order: its tag, its fields, the header of the ENTRY phase or the forward stream's
COUNT, and its STRICT bound (R122, R129, R133, R158). -/
def State.headerFault (s : State) (x : Op) (hdr : Bytes) : Option Nat :=
  let v := x.view
  if hdTag hdr ≠ plTag x.vTable then some stPlacementFault
  else if hdKind hdr ≠ 1 ∨ hdRouter hdr ≠ x.vRouter ∨ hdEpoch hdr ≠ s.membership.epoch % 2 ^ 32 ∨ hdStep hdr ≠ x.step ∨
      hdRowBytes hdr ≠ x.headerRow ∨ hdEntryBytes hdr ≠ x.entryBytes then some stManifestMismatch
  else if (if vwPhase v = 0 then hdPass hdr != s.expectedPass x hdr
      else if vwReturn v then match s.forward x hdr with | none => true | some f => f.1 != hdCount hdr || f.2.1 != hdPass hdr
      else match s.entryOf x hdr with | none => true | some t => t.header != hdr) then some stManifestMismatch
  else
    let cap := x.g.image.cap x.o.cap
    if x.o.receives && decide (min (capTotal cap) (capLane cap) < hdCount hdr) then some stCapacityFault else none

/-! ### Where items land (R124, R135, R139, R159) -/

/-- Bound of the section of a source lane of the received manifest at entry e (R124); the sections of forwarded entries, which lie in
tensors of their own, are their source regions' (log 58). -/
def State.sectionBound (s : State) (x : Op) (e lane : Nat) : Nat :=
  let far := vwKind x.view == 2
  let fills (o : SlotOp) : Bool :=
    let v := viewAt x.cmd.list o.desc
    o.lands && vwPhase v == 0 && (vwKind v == 2) == far && x.same (o.desc + 2) e &&
    (if o.slot = 7 then x.memberLane ((s.peerOf x.r o.port).getD 0) == lane
     else
      let from_ := if o.slot = 6 then o.region else x.r
      if vwKind v ≤ 2 then from_ == lane
      else decide (8 ≤ lane) && (s.gatewayTo (plMember x.vTable (lane - 8))).map (·.1) == some from_)
  ((x.g.image.ops.filter fun p => fills p.2).map fun p =>
    let c := x.g.image.cap p.2.cap
    min (capTotal c) (capLane c)).foldl max 0

/-- First position of a section. -/
def State.sectionBase (s : State) (x : Op) (e lane : Nat) : Nat := ((List.range lane).map (s.sectionBound x e)).sum

/-- Offset of a section in the received manifest of an ENTRY-phase receive. -/
def State.sectionAt (s : State) (x : Op) (lane : Nat) : Nat := x.dirBytes + x.entryBytes * s.sectionBase x (x.o.desc + 2) lane

/-- The directory of the received manifest shows the sections received (R124). -/
def State.landDirectory (s : State) (x : Op) (key : Nat) (hdr : Bytes) : State :=
  let e := x.o.desc + 2
  let known := (x.g.streams.filter fun (t : Stream) => !t.sent && t.phase == 0 && x.same (t.entry + 2) e).map fun (t : Stream) =>
    (t.lane, hdCount t.header, hdPass t.header)
  let dir := (List.range (8 + plM x.vTable)).flatMap fun l =>
    let (n, p) := if l = key then (hdCount hdr, hdPass hdr)
      else match (known.reverse).find? fun k => k.1 == l with | none => (0, 0) | some k => k.2
    leBytes 16 (n + p * 2 ^ 24 + s.sectionAt x l * 2 ^ 32)
  s.putAt x e 0 (fit x.dirBytes dir)

/-- Base of section r of the region-term return tensor at an entry, in rows: the bounds of the receives of the regions below (R159). -/
def Op.returnBase (x : Op) (e key : Nat) : Nat :=
  let bound (r : Nat) : Nat := ((x.g.image.ops.filter fun p => p.2.lands && p.2.slot != 7 && x.same p.2.desc e && (if p.2.slot = 6 then p.2.region == r else x.r == r)).map fun p =>
      let c := x.g.image.cap p.2.cap
      min (capTotal c) (capLane c)).foldl max 0
  ((List.range key).map bound).sum

/-- Where the items of a stream land (R124, R135, R159): the list entry, the offset of item 0 and the distance from one to the next. -/
def State.landing (s : State) (x : Op) (hdr : Bytes) : Nat × Nat × Nat :=
  let key := s.recvKey x hdr
  if vwPhase x.view = 0 then (x.o.desc + 2, s.sectionAt x key, x.entryBytes)
  else if vwReturn x.view then
    let first := match s.forward x hdr with | none => 0 | some f => f.2.2
    match vwKind x.view with
    | 1 => (x.o.desc, first * x.termRoom, x.termRoom)
    | 2 => (x.o.desc, first * x.packageRoom, x.packageRoom)
    | 3 => (x.o.desc, 0, x.packageRoom)
    | _ => (x.o.desc, x.returnBase x.o.desc key * x.termRoom, x.termRoom)
  else
    let room := up64 (rtRowBytes x.vRt)
    (x.o.desc, ((s.entryOf x hdr).map (·.first)).getD 0 * room, room)

/-- Context address of place i of room bytes, counted from an offset, in the tensor of an entry; in a distributed one, of the region's own
row there (R135, R274). -/
def State.tensorPlace (s : State) (x : Op) (e off room i : Nat) : Option Nat :=
  let d := descAt x.cmd.list e
  if dsDistributed d then (localRow x.cmd s.self x.r e (off / max room 1 + i)).map (·.1)
  else if off + (i + 1) * room ≤ dsRoom d then some (dsBase d + off + i * room) else none

/-- Items of a stream from number i on land in their places. -/
def State.landItems (s : State) (x : Op) (hdr : Bytes) (i : Nat) (items : List Bytes) : State :=
  let (e, off, room) := s.landing x hdr
  (items.zipIdx).foldl (fun s b => match s.tensorPlace x e off room (i + b.2) with
    | none => s
    | some a => (s.writeCtx x.cmd.windows x.r a b.1).getD s) s

/-- What an operation meets that takes a stream with a header: one of the checks of a receive, or items beyond the tensor they land in
(R268). -/
def State.recvFault (s : State) (x : Op) (hdr : Bytes) : Option Nat :=
  match s.headerFault x hdr with
  | some code => some code
  | none =>
    let (e, off, room) := s.landing x hdr
    if (vwPhase x.view == 0 && decide (dsRoom (descAt x.cmd.list e) < x.dirBytes)) ||
        (hdCount hdr != 0 && (s.tensorPlace x e off room (hdCount hdr - 1)).isNone) then some stBoundsFault
    else none

/-- What the items of a received stream are tagged with. -/
def State.tagItems (s : State) (x : Op) (hdr : Bytes) (items : List Bytes) : List (Nat × Bytes) :=
  match vwKind x.view with
  | 2 =>
    if vwPhase x.view = 0 then items.map fun e => (meLane x.vTable e, e)
    else if vwReturn x.view then items.map fun e => (0, e)
    else (((s.entryOf x hdr).map fun t => t.items.map (·.1)).getD []).zip items
  | 3 =>
    if vwReturn x.view then
      ((((x.streams true 3 0 false).find? fun t => t.lane == s.recvKey x hdr && !t.answered).map fun t => t.items.map (·.1)).getD []).zip items
    else items.map fun e => (0, e)
  | _ => items.map fun e => (0, e)

/-- The lanes that a receive writes with their new values (R139, R140, R158). -/
def State.recvLanes (s : State) (x : Op) (hdr : Bytes) (tagged : List (Nat × Bytes)) (old : List Nat) : List Nat :=
  let key := s.recvKey x hdr
  let k := vwKind x.view
  let add (l : List Nat) (lane n : Nat) : List Nat := l.set lane ((l.getD lane 0 + n) % 2 ^ 24)
  if vwPhase x.view = 1 && !vwReturn x.view then
    match s.entryOf x hdr with
    | none => old
    | some t =>
      if k = 3 then t.wrote
      else
        let lanes := if k = 2 then (t.items.map (·.1)).eraseDups else [key]
        lanes.foldl (fun l i => l.set i (t.wrote.getD i 0)) old
  else if k = 3 then
    (List.range old.length).map fun l =>
      if 8 ≤ l then 0
      else if vwReturn x.view then (tagged.filter fun e => e.1 == l).length
      else (tagged.filter fun e => (splitEntry x.vTable l x.entryBytes e.2).isSome).length
  else if k = 2 then
    if vwReturn x.view then add old (x.memberLane (hdMember hdr)) (hdCount hdr)
    else (tagged.map (·.1)).foldl (fun l i => add l i 1) old
  else add old key (hdCount hdr)

/-- The register that a receive writes. -/
def Op.recvReg (x : Op) : Nat := if x.o.slot = 6 ∨ x.o.slot = 7 then x.o.cnt else x.o.dst

/-- A stream is taken by its receive, which passed its checks: the items from number i on that have not landed yet land, the stream is
noted, and the lanes are answered. -/
def State.takeStream (s : State) (x : Op) (hdr : Bytes) (i : Nat) (items : List Bytes) : State × List (Nat × List Nat) :=
  let key := s.recvKey x hdr
  let v := x.view
  let tagged := s.tagItems x hdr items
  let lanes := s.recvLanes x hdr tagged (x.g.lanes x.recvReg)
  let first := if vwPhase v = 0 then s.sectionBase x (x.o.desc + 2) key
    else match s.forward x hdr with | none => 0 | some f => if vwReturn v then f.2.2 else 0
  let new : Stream := ⟨false, x.o.desc, x.vRouter, vwKind v, key, vwPhase v, vwReturn v, hdr, tagged, first, false, false, lanes⟩
  let s0 := s.landItems x hdr i (items.drop i)
  let s1 := if vwPhase v = 0 then s0.landDirectory x key hdr else s0
  let s2 := s1.modRR x.seq x.r fun g =>
    let i := if vwPhase v = 1 && !vwReturn v then
        g.streams.findIdx? fun t => !t.sent && t.router == x.vRouter && t.kind == vwKind v && t.phase == 0 && t.lane == key && !t.rowed
      else none
    let old := match i with | none => g.streams | some i => g.streams.modify i fun t => { t with rowed := true }
    let j := if vwReturn v && vwKind v == 3 then
        old.findIdx? fun t => t.sent && t.router == x.vRouter && t.kind == 3 && t.phase == 0 && t.lane == key && !t.answered
      else none
    let old2 := match j with | none => old | some i => old.modify i fun t => { t with answered := true }
    { g with streams := old2 ++ [new] }
  (s2.count (pgDispatch x.r) 0x41 (if x.o.slot = 6 ∨ x.o.slot = 7 then items.length else 0), [(x.recvReg, lanes)])

/-! ### ROW_SEND (R53, R127) -/

/-- A halt of an operation in a tc of its own. -/
def State.haltAt (s : State) (x : Op) (code tc : Nat) : State := (s.haltOne x.seq x.r ⟨code, x.g.bundle, x.o.slot, tc⟩).spread x.seq

/-- ROW_SEND: the region sends to itself, and its receive is part of it. -/
def State.rowSend (s : State) (x : Op) : State :=
  if !s.sendFits x then s.haltOp x stBoundsFault
  else
    let (s1, q) := s.outgoing x
    match s.recvFault x q.header with
    | some code => s.haltOp x code
    | none =>
      let s2 := s1.noteSent x q
      let (s3, w) := s2.takeStream { x with g := ((s2.run? x.seq).bind fun y => y.regions.get? x.r).getD x.g } q.header 0 (q.items.map (·.2))
      s3.runOp x x.n w

/-- ROW_SEND (R53). -/
def execRowSend (run : W32) (r : RegionId) (g : CellGroupId) (s : State) : Host.Outcome State Fault Refusal :=
  .next (s.plateOp run r.val (isCellOp g 7) State.rowSend)

/-! ### Edges (R132 to R136, R377, R378) -/

/-- The prologue's 32 bytes in a flit of 256 (R378; the widths of its fields are log 21). -/
def prologueFlit (seq : W32) (src dst ctx v desc count item : Nat) : Bytes :=
  build 256 [(0, 4, seq.toNat), (4, 1, src), (5, 1, dst), (6, 1, ctx), (7, 1, v % 64), (8, 1, desc), (12, 4, count), (16, 4, item)]

/-- A control word with its CRC (R377). -/
def flitControl (seq ack nak dest prologue cls : Nat) (data : Bytes) : W64 :=
  let w := 1 + cls * 2 + prologue * 8 + dest * 16 + nak * 128 + ack * 256 + seq * 2 ^ 20
  BitVec.ofNat 64 (w + crc32c (leBytes 4 w ++ fit 256 data) * 2 ^ 32)

/-- The 256-byte flits of a stream of bytes. -/
def cutFlits : Nat → Bytes → List Bytes
  | 0, _ => []
  | n + 1, bs => if bs.isEmpty then [] else fit 256 (bs.take 256) :: cutFlits n (bs.drop 256)

/-- A flit leaves on an edge: it is numbered, kept for a resend (the last 64) and counted (R377, R435). -/
def State.sendFlit (s : State) (r e dest prologue cls : Nat) (data : Bytes) : State :=
  let d := s.edge r e
  let ctl := flitControl d.nextSeq d.expect.pred (flag d.nakOwed) dest prologue cls data
  let kept := d.kept ++ [(d.nextSeq, ctl, fit 256 data)]
  (s.modEdge r e fun d => { d with nextSeq := (d.nextSeq + 1) % 4096, kept := kept.drop (kept.length - 64), nakOwed := false }).count
    (pgEdge r e) 0x40 1

/-- Class of an exchange: dispatch, or reply for a return stream (R33). -/
def streamClass (v : Nat) : Nat := if vwReturn v then 1 else 2

/-- EDGE_SEND: it never waits; its prologue and its stream leave on the first edge of the path. -/
def State.edgeSend (s : State) (x : Op) : State :=
  if !s.sendFits x then s.haltOp x stBoundsFault else
  let (s1, q) := s.outgoing x
  let bytes := q.header ++ (q.items.map (·.2)).flatten
  let item := itemBytes x.run.routers x.cmd.list x.o.desc
  let s2 := match s.path x.r x.o.region with
    | [] => s1
    | (_, e) :: _ =>
      ((prologueFlit x.seq x.r x.o.region x.c x.view x.o.desc q.items.length item, 1) ::
        (cutFlits (bytes.length / 256 + 1) bytes).map fun b => (b, 0)).foldl (fun (s : State) (f : Bytes × Nat) =>
          s.sendFlit x.r e x.o.region f.2 (streamClass x.view) f.1) s1
  let s3 := (s2.noteSent x q).modRR x.seq x.r fun g => { g with sends := g.sends ++ [(x.o.region, x.o.desc, x.t, s.openOp x)] }
  (s3.count (pgDispatch x.r) 0x40 q.items.length).runOp x x.n []

/-- Whether an operation is the network slot's with an opcode. -/
def isNet (op : Nat) (o : SlotOp) : Bool := o.slot == 6 && o.op == op

/-- EDGE_SEND (R54). -/
def execEdgeSend (run : W32) (r : RegionId) (s : State) : Host.Outcome State Fault Refusal :=
  .next (s.plateOp run r.val (isNet 2) State.edgeSend)

/-- Whether a running operation is a LINK_SEND. -/
def Busy.isLinkSend (b : Busy) : Bool := decide (6 ≤ b.unit ∧ b.unit ≤ 9) && b.opcode == 1

/-- The receive that a unit of a region's part runs and that still waits for its data. -/
def RegionRun.waitingRecv (g : RegionRun) (u : Nat) : Option Busy := g.busy.find? fun b => b.unit == u && b.ends.isNone && !b.isLinkSend

/-- Whether every edge of a path carries traffic at both ends. -/
def State.pathUp (s : State) (a d : Nat) : Bool :=
  (s.path a d).all fun e => s.edgeUp e.1 e.2 && s.edgeUp (s.edgeBack e.1 e.2).1 (s.edgeBack e.1 e.2).2

/-- The transfer that a waiting EDGE_RECV matches: the first from its source with its DESC that none has taken (R133). -/
def State.matching (s : State) (x : Op) : Option (Nat × Transfer) :=
  (((s.region x.r).transfers.zipIdx).find? fun e => e.1.seq == x.seq && e.1.src == x.o.region && e.1.desc == x.o.desc && !e.1.taken).map
    fun e => (e.2, e.1)

/-- The items of a transfer that have arrived whole. -/
def Transfer.items (t : Transfer) : List Bytes :=
  (List.range (min t.count ((t.bytes.length - 64) / max t.itemBytes 1))).map fun k => (t.bytes.drop (64 + k * t.itemBytes)).take t.itemBytes

/-- The receive that accounts for a transfer, as its region's landing table has it (R133, R135). -/
def State.receiverOf (s : State) (r : Nat) (t : Transfer) : Option Op :=
  (s.run? t.seq).bind fun run => (run.regions.get? r).bind fun g =>
    (g.image.ops.find? fun p => p.2.slot == 6 && p.2.op == 3 && p.2.region == t.src && p.2.desc == t.desc).map fun p =>
      ⟨t.seq, r, run, g, p.2, (s.region r).tc, []⟩

/-- Items that have arrived and whose release cycle has come take their places, whatever the receiver does (R132, R135); those of a
stream that its receive would not take stay where they are (R122). -/
def State.landTransfer (s : State) (r j : Nat) : State :=
  match (s.region r).transfers[j]? with
  | none => s
  | some t =>
    match s.receiverOf r t with
    | none => s
    | some x =>
      let n := ((List.range t.items.length).filter fun i => decide (s.itemRelease r t i ≤ (s.region r).tc)).length
      if t.taken || t.bytes.length < 64 || n ≤ t.landed || (s.recvFault x (t.bytes.take 64)).isSome then s
      else
        (s.landItems x (t.bytes.take 64) t.landed ((t.items.take n).drop t.landed)).modRegion r fun g =>
          { g with transfers := g.transfers.modify j fun t => { t with landed := n } }

/-- The same for every transfer of a region. -/
def State.landReleased (s : State) (r : Nat) : State :=
  (List.range (s.region r).transfers.length).foldl (fun s j => s.landTransfer r j) s

/-- STOP_BATH_RELEASE (R26): what an edge has brought by the release cycle lands (R132). -/
def State.releaseBath (s : State) (r : Nat) (x : Crossing) (d : Nat) : State :=
  let s1 := (s.slotWait r x d).release r x d
  match x with | .edge _ => s1.landReleased r | _ => s1

/-- STOP_BATH_RELEASE (R26). -/
def execStopBathRelease (r : RegionId) (x : Crossing) (deficit : W32) (s : State) : Host.Outcome State Fault Refusal :=
  .next (s.releaseBath r.val x deficit.toNat)

/-- A waiting EDGE_RECV goes on as far as its transfer has come: the header is checked once it is there, and the rest of the items land
and the receive's end is fixed once all are there (R122, R132); over a cut path the plate halts (R147). -/
def State.settleRecv (s : State) (seq : W32) (r : Nat) : State :=
  match s.run? seq with
  | none => s
  | some run =>
    match run.regions.get? r with
    | none => s
    | some g =>
      match g.waitingRecv 5 with
      | none => s
      | some b =>
        let x := RegionRun.asOp run r g b
        let lat := s.latPath x.o.region r
        let now := max b.issue (s.region r).tc
        match s.matching x with
        | none => if s.pathUp x.o.region r then s else s.stopOp seq r b x.o stEdgeFault now
        | some (i, t) =>
          let start := max b.issue t.sent
          let hdr := t.bytes.take 64
          if t.bytes.length < 64 then (if t.cut then s.stopOp seq r b x.o stEdgeFault now else s)
          else match s.recvFault x hdr with
            | some code => s.stopOp seq r b x.o code (max b.issue (t.sent + lat))
            | none =>
              if t.bytes.length < 64 + hdCount hdr * t.itemBytes then (if t.cut then s.stopOp seq r b x.o stEdgeFault now else s)
              else
                let s1 := s.modRegion r fun q => { q with transfers := q.transfers.modify i fun t => { t with taken := true } }
                let (s2, w) := s1.takeStream x hdr t.landed t.items
                let ends := start + s.opTime x (hdCount hdr)
                s2.modRR seq r fun g =>
                  { g with busy := g.busy.map fun c => if c.unit == 5 then { c with ends := some ends, writes := w, open_ := t.open_ } else c }

/-- Whether a receive is of a ROW phase that follows no ENTRY-phase receive of its stream (R129). -/
def Op.orphan (x : Op) (lane : Nat) : Bool :=
  let v := x.view
  vwPhase v == 1 && !vwReturn v && !((x.streams false (vwKind v) 0 false).any fun t => (vwKind v == 4 || t.lane == lane) && !t.rowed)

/-- EDGE_RECV: the receive's account of a transfer; it waits for its send and its data. A receive from a region that has halted
halts (R62), and so does a ROW phase that follows no ENTRY phase (R129). -/
def State.edgeRecv (s : State) (x : Op) : State :=
  let halted := match x.run.regions.get? x.o.region with | none => some x.t | some g => g.halt.map fun (h : Halt) => max h.tc x.t
  if halted.isSome then s.haltAt x stRegionHalted (halted.getD x.t)
  else if x.orphan x.o.region then s.haltOp x stManifestMismatch
  else (s.startOp x none [(x.recvReg, x.g.lanes x.recvReg)]).settleRecv x.seq x.r

/-- EDGE_RECV (R54). -/
def execEdgeRecv (run : W32) (r : RegionId) (s : State) : Host.Outcome State Fault Refusal :=
  .next (s.plateOp run r.val (isNet 3) State.edgeRecv)

/-! ### Links (R131, R137, R138, R366) -/

/-- The packets of a stream: 4,096 bytes each but for the last (R366). -/
def cutPackets : Nat → Bytes → List Bytes
  | 0, _ => []
  | n + 1, bs => if bs.isEmpty then [] else bs.take 4096 :: cutPackets n (bs.drop 4096)

/-- Bytes of a port's transmit buffer (R387). -/
def transmitBuffer : Nat := 262144

/-- Bytes of streams that a port's transmit buffer holds. -/
def Link.buffered (l : Link) : Nat := ((l.queue.filter fun k => k.cls == 1 || k.cls == 2).map fun k => k.bytes.length).sum

/-- Whether a port below its declared minimum width has more to send than its transmit buffer takes (R387). -/
def State.sendFull (s : State) (r p : Nat) : Bool := s.linkState r p == 4 && decide (transmitBuffer < (s.link r p).buffered)

/-- LINK_SEND: the stream's packets go to the port's transmitter, for the peer context that the router names; where its buffer is full the
region stalls, and the operation ends when the rest has room (R27, R387). -/
def State.linkSend (s : State) (x : Op) : State :=
  if !s.sendFits x then s.haltOp x stBoundsFault else
  let (s1, q) := s.outgoing x
  let bytes := q.header ++ (q.items.map (·.2)).flatten
  let s2 := (cutPackets (bytes.length / 4096 + 1) bytes).foldl (fun s b => s.queuePacket x.r x.o.port x.o.cls (rtPeerContext x.vRt) b) s1
  let s3 := (s2.noteSent x q).count (pgDispatch x.r) 0x40 q.items.length
  if s3.sendFull x.r x.o.port then (s3.modLink x.r x.o.port fun l => { l with heldFrom := some s.time }).startOp x none []
  else s3.runOp x x.n []

/-- Cycles of the timeline that have gone by since a time, at least 1: the length of a stall on a full buffer (log 22). -/
def State.tcSince (s : State) (t : Nat) : Nat := max 1 ((s.time - t) * s.tcPerRef / 10)

/-- A LINK_SEND that waited for its port's buffer goes on once it has room, or once the port is no longer below its minimum width: the
region has stalled in the send's last cycle (R26, R387; log 124). -/
def State.sendRoom (s : State) (r p : Nat) : State :=
  match (s.link r p).heldFrom with
  | none => s
  | some t =>
    if s.sendFull r p then s
    else
      let s1 := s.modLink r p fun l => { l with heldFrom := none }
      match s.runs.findSome? fun x => (x.regions.get? r).bind fun g =>
          (g.busy.find? fun b => b.unit == 6 + p && b.isLinkSend && b.ends.isNone).map fun b => (x, g, b) with
      | none => s1
      | some (x, g, b) =>
        let o := RegionRun.asOp x r g b
        let due := b.issue + s.opTime o o.n
        (s1.modRR x.cmd.seq r fun g =>
          { g with busy := g.busy.map fun c => if c.unit == 6 + p then { c with ends := some due } else c }).stallFrom r due (s.tcSince t) false

/-- Whether an operation is the link slot's on a port with an opcode. -/
def isLink (p : PortId) (op : Nat) (o : SlotOp) : Bool := o.slot == 7 && o.op == op && o.port == p.val

/-- LINK_SEND (R54). -/
def execLinkSend (run : W32) (r : RegionId) (p : PortId) (s : State) : Host.Outcome State Fault Refusal :=
  .next (s.plateOp run r.val (isLink p 1) State.linkSend)

/-- Bytes of the stream that a landing ring holds, from its header: 64 and the items (R122, R366). -/
def streamBytes (hdr : Bytes) (item : Nat) : Nat := 64 + hdCount hdr * item

/-- The lanes of a LINK_RECV's register when it times out: the rows received so far (R61). -/
def State.partLanes (s : State) (x : Op) (bs : Bytes) : List Nat :=
  let item := itemBytes x.run.routers x.cmd.list x.o.desc
  let items := (List.range ((bs.length - 64) / max item 1)).map fun k => (bs.drop (64 + k * item)).take item
  let hdr := bs.take 64
  if vwPhase x.view = 1 ∧ !vwReturn x.view then ((x.g.lanes x.recvReg).map fun _ => 0).set 0 items.length
  else s.recvLanes x hdr (s.tagItems x hdr items) (x.g.lanes x.recvReg)

/-- A LINK_RECV is incomplete at its deadline: the plate halts, and its register holds the rows received (R61, R242). -/
def State.linkLate (s : State) (x : Op) (b : Busy) (member : Nat) : State :=
  let bs := (((s.region x.r).landing.find? fun (l : Landing) => !l.mapped && l.ctx == x.c && l.member == member && l.cls == x.o.cls).map
    (·.bytes)).getD []
  let due := b.due.getD b.issue
  ((s.reach x.r due).modRR x.seq x.r fun g =>
    { g with cnt := g.cnt.set x.recvReg (s.partLanes x bs), ready := g.ready.set x.recvReg due }).stopOp x.seq x.r b x.o stLinkTimeout due

/-- A LINK_RECV that waits on a port maps the oldest stream of its ring: the header is checked once it is there, and the receive
ends when the last item has committed (R138). -/
def State.settleLink (s : State) (seq : W32) (r p : Nat) : State :=
  match s.run? seq with
  | none => s
  | some run =>
    match run.regions.get? r with
    | none => s
    | some g =>
      match g.waitingRecv (6 + p) with
      | none => s
      | some b =>
        let x := RegionRun.asOp run r g b
        let member := (s.peerOf r p).getD 1024
        let now := max b.issue (s.region r).tc
        match ((s.region r).landing.zipIdx).find? fun e => !e.1.mapped && e.1.ctx == x.c && e.1.member == member && e.1.cls == x.o.cls with
        | none => s
        | some (l, i) =>
          let hdr := l.bytes.take 64
          let map (s : State) : State :=
            (s.modRegion r fun q => { q with landing := q.landing.modify i fun l => { l with mapped := true } }).modRR seq r fun g =>
              { g with mapped := g.mapped ++ [(member, l.bytes.length)] }
          if l.bytes.length < 64 then s
          else match s.recvFault x hdr with
            | some code => (map s).stopOp seq r b x.o code now
            | none =>
              let item := itemBytes x.run.routers x.cmd.list x.o.desc
              if l.bytes.length < streamBytes hdr item then s
              else if b.due.getD now < now then s.linkLate x b member
              else
                let items := (List.range (hdCount hdr)).map fun k => (l.bytes.drop (64 + k * item)).take item
                let (s2, w) := (map s).takeStream x hdr 0 items
                s2.modRR seq r fun g =>
                  { g with busy := g.busy.map fun c => if c.unit == 6 + p then { c with ends := some now, writes := w } else c }

/-- LINK_RECV: open until its stream's last item commits, or until its deadline. -/
def State.linkRecv (s : State) (x : Op) : State :=
  if x.orphan (x.memberLane ((s.peerOf x.r x.o.port).getD 1024)) then s.haltOp x stManifestMismatch
  else (s.startOp x none [(x.recvReg, x.g.lanes x.recvReg)] none (some x.deadline)).settleLink x.seq x.r x.o.port

/-- LINK_RECV (R54, R138). -/
def execLinkRecv (run : W32) (r : RegionId) (p : PortId) (s : State) : Host.Outcome State Fault Refusal :=
  .next (s.plateOp run r.val (isLink p 2) State.linkRecv)

/-- LINK_TIMEOUT (R61): a LINK_RECV that still waits at its TIMEOUT. -/
def State.linkTimeout (s : State) (seq : W32) (r p : Nat) : State :=
  match s.run? seq with
  | none => s
  | some run =>
    match run.regions.get? r with
    | none => s
    | some g =>
      match g.waitingRecv (6 + p) with
      | none => s
      | some b => s.linkLate (RegionRun.asOp run r g b) b ((s.peerOf r p).getD 1024)

/-- LINK_TIMEOUT (R61). -/
def execLinkTimeout (run : W32) (r : RegionId) (p : PortId) (s : State) : Host.Outcome State Fault Refusal :=
  .next (s.linkTimeout run r.val p.val)

end Sys2Proof.Machine
end

