-- ==== Sys2Proof/Machine/Links.lean ====
section
/-! DEFINITION. Sys2Proof/Machine/Links.lean: a link port's frames (R363 to R369), link control packets (R370 to R372), calibration (R384),
retraining and width (R385 to R388) and the port's states (R380, R382, R389). -/

namespace Sys2Proof.Machine

/-! ### Port states (R387, R389) -/

/-- STATE of a port whose lanes in service are given (R389): by its width against the declared minimum. -/
def stateOfWidth (w minW : Nat) : Nat := if w = 0 then 0 else if w = 4 then 2 else if minW ≤ w then 3 else 4

/-- A trained status that changes asks for a membership epoch boundary (R389, R392). -/
def State.requestBoundary (s : State) : State := { s with membership := { s.membership with requested := true } }

/-- The state with STATE of a port set; a port that leaves isolation gives its management queue back to the firmware (R290), and a trained
status that changes runs the topology comparison again (R409). -/
def State.setLinkState (s : State) (r p st : Nat) : State :=
  let s1 := s.setF (pgLink r p) Fld.LINK_STATE_STATE st
  let s2 := (if s.linkState r p == 6 && st != 6 then s1.setF (pgInlet r p) Fld.INLET_CTL_MGMT_OWNER 0 else s1).sendRoom r p
  if s.trained r p == s2.trained r p then s2 else s2.requestBoundary.compare

/-- LANE_STATE of the four lanes: in service, retraining or out of service (R395). -/
def State.setLaneStates (s : State) (r p lanes : Nat) : State :=
  (List.range 4).foldl (fun s l =>
    s.setF (pgLink r p + 8 * l) Fld.LANE_EQ_LANE_STATE (if bitAt lanes l then 1 else if (s.link r p).retraining.contains l then 2 else 0)) s

/-- Both ends stripe over a set of lanes from now on: the width and with it the state change, and software is told (R386, R387). -/
def State.applyLanes (s : State) (r p lanes : Nat) : State :=
  let pg := pgLink r p
  let w := popcount lanes 4
  let st := stateOfWidth w (s.minWidth r p)
  let s1 := ((s.setF pg Fld.LINK_STATE_LANES lanes).setF pg Fld.LINK_STATE_WIDTH w).setLaneStates r p lanes
  let s2 := if s.linkState r p == 5 && st != 0 then s1 else s1.setLinkState r p st
  let s3 := if st = 4 then s2.contain pg 1 else if st = 0 then s2.contain pg 5 else s2
  s3.pend (0x48 + r)

/-- A port goes down with a cause (R382). -/
def State.portDown (s : State) (r p reason : Nat) : State :=
  (((s.setLinkState r p 0).setF (pgLink r p) Fld.LINK_STATE_REASON reason).contain (pgLink r p) 5).modLink r p fun l => { l with step := 0 }

/-- A port is isolated: the region contains the fault and software is told (R389, R433). -/
def State.isolatePort (s : State) (r p : Nat) : State :=
  ((s.setLinkState r p 6).contain (pgRegion r) 6).pend (0x48 + r)

/-! ### Lengths of packets (R366) -/

/-- Length of a packet of class 0 or 3 without an envelope, from its first bytes. -/
def plainLength (cls : Nat) (bs : Bytes) : Nat :=
  if cls = 0 then
    match field bs 0 1 with
    | 0x10 => 64 | 0x11 => 64 | 0x12 => 32 + (if bits (field bs 0 8) 27 26 = 1 then 528 else 1024)
    | 0x13 => 32 | 0x14 => 32 | 0x15 => 32 | _ => 64
  else min 256 (32 * (field bs 1 1 + 1))

/-- Length of a packet of class 0 or 3 from the bytes that have come; an envelope's inner packet follows its 64 bytes (R370). -/
def packetLength (cls : Nat) (bs : Bytes) : Nat :=
  if field bs 0 1 = 0x2F then
    (if bs.length ≤ 64 then 65 else 64 + plainLength (bits (field bs 0 8) 9 8) (bs.drop 64))
  else plainLength cls bs

/-- Bytes of a stream from its count header (R122, R366): rows, or the entries whose rows a second stream brings under the same
header. -/
def streamLength (cls : Nat) (hdr : Bytes) (prev : Option (Bytes × Bool)) : Nat × Bool :=
  let entry := cls == 2 && prev != some (hdr, true)
  (64 + hdCount hdr * (if entry then hdEntryBytes hdr else hdRowBytes hdr), entry)

/-! ### Inlet: flushes and the drain (R289, R292) -/

/-- A flush that was asked for takes effect when no packet is partly written (R292). -/
def State.tryFlush (s : State) (r p : Nat) : State :=
  match (s.inlet r p).flush with
  | none => s
  | some f =>
    if (s.inlet r p).part ≠ 0 then s
    else (s.flushInlet r p f.1 none |> fun t => match f.2 with
      | none => t
      | some c => (s.flushInlet r p (f.1 &&& 9) none).flushInlet r p (f.1 &&& 6) (some c)).modInlet r p fun i => { i with flush := none }

/-- A write of INLET_FLUSH; a second one before the first takes effect merges into it (R292). -/
def State.writeFlush (s : State) (r p w : Nat) : State :=
  let mask := bits w 3 0
  if mask = 0 then s
  else
    let old := match (s.inlet r p).flush with | none => 0 | some f => f.1
    (s.modInlet r p fun i => { i with flush := some (Nat.lor old mask, if bitAt w 4 then some (bits w 11 8) else none) }).tryFlush r p

/-- INLET_FLUSH (R292). -/
def execInletFlush (r : RegionId) (p : PortId) (w : W64) (s : State) : Host.Outcome State Fault Refusal :=
  .next (s.whereAnswers (pgInlet r.val p.val) fun s => s.writeFlush r.val p.val w.toNat)

/-- Whether a context has a landing ring in region r for the member at a port: it is open with LANDING_BYTES, and r is the member's
gateway (R137). -/
def State.hasRing (s : State) (r p c : Nat) : Bool :=
  match s.peerOf r p with
  | none => false
  | some m => (s.ctx c).state != 0 && recLanding (s.ctx c).record != 0 && (s.gatewayTo m).map (·.1) == some r

/-- A packet of class 1 or 2 is written into the landing ring of its context: it goes on with the ring's open stream of its class, or
begins one (R138). -/
def State.landPacket (s : State) (r p : Nat) (k : Packet) : State :=
  let m := (s.peerOf r p).getD 1024
  let mine (l : Landing) : Bool := l.ctx == k.ctx && l.member == m && l.cls == k.cls
  let ring := (s.region r).landing
  let prev := ((ring.filter mine).getLast?).map fun l => (l.bytes.take 64, l.entry)
  let add (l : Landing) : Landing :=
    let n := (streamLength l.cls (l.bytes.take 64) none).1
    let total := if l.entry || l.cls == 1 then n else 64 + hdCount l.bytes * hdRowBytes l.bytes
    let bs := l.bytes ++ k.bytes
    { l with bytes := bs, complete := decide (total ≤ bs.length) || decide (k.bytes.length < 4096) }
  let ring1 := match (ring.zipIdx).find? fun e => mine e.1 && !e.1.complete with
    | some e => ring.modify e.2 add
    | none =>
      let t := streamLength k.cls k.bytes prev
      ring ++ [⟨k.ctx, m, k.cls, k.bytes, t.2, decide (t.1 ≤ k.bytes.length) || decide (k.bytes.length < 4096), false⟩]
  s.modRegion r fun g => { g with landing := ring1 }

/-- What the drain does with a packet (R289). -/
def State.consumePacket (s : State) (r p : Nat) (k : Packet) : State :=
  match k.cls with
  | 0 => s.classZero k.bytes
  | 3 => s.modInlet r p fun i => { i with mgmt := i.mgmt ++ [k.bytes] }
  | _ =>
    if s.hasRing r p k.ctx then (s.landPacket r p k).runs.foldl (fun s x => s.settleLink x.cmd.seq r p) (s.landPacket r p k)
    else s.bumpF (pgInlet r p) Fld.FLUSH_DROP_COUNT 1

/-- The committed packet of a class that came first. -/
def Inlet.earliest (i : Inlet) (cls : Nat) : Option (Nat × Packet) :=
  ((i.bank0.packets ++ i.bank1.packets).filter fun e => e.2.cls == cls).foldl (fun m e => match m with
    | none => some e
    | some b => if e.1 < b.1 then some e else some b) none

/-- Whether the consumer of a packet can take it: management needs room for it in its queue (R289). -/
def Inlet.takes (i : Inlet) (k : Packet) : Bool := k.cls != 3 || decide (i.mgmtBytes + k.bytes.length ≤ 4096)

/-- The packet that the drain takes next: the first of its class, of the highest class whose first packet can be taken (R33, R289). -/
def Inlet.drainNext (i : Inlet) : Option (Nat × Packet) :=
  (List.range 4).findSome? fun c => (i.earliest c).bind fun e => if i.takes e.2 then some e else none

/-- INLET_DRAIN (R289). -/
def State.drain (s : State) (r p : Nat) : State :=
  match (s.inlet r p).drainNext with
  | none => s
  | some e => (s.removePacket r p e).consumePacket r p e.2

/-- INLET_DRAIN (R289). -/
def execInletDrain (r : RegionId) (p : PortId) (s : State) : Host.Outcome State Fault Refusal := .next (s.drain r.val p.val)

/-! ### The management queue (R290) -/

/-- A write of INLET_CTL: MGMT_OWNER is set only while the port is isolated. -/
def State.writeMgmtOwner (s : State) (r p w : Nat) : State :=
  if bitAt w 0 && s.linkState r p != 6 then s else s.setF (pgInlet r p) Fld.INLET_CTL_MGMT_OWNER (bits w 0 0)

/-- MGMT_OWNER_WRITE (R290). -/
def execMgmtOwnerWrite (r : RegionId) (p : PortId) (w : W64) (s : State) : Host.Outcome State Fault Refusal :=
  .next (s.whereAnswers (pgInlet r.val p.val) fun s => s.writeMgmtOwner r.val p.val w.toNat)

/-- The word that a read of MGMT_READ returns, and the state after it (R290): the reader consumes a word of the oldest packet. -/
def State.readMgmt (s : State) (r p : Nat) (software : Bool) : Nat × State :=
  let i := s.inlet r p
  if s.getF (pgInlet r p) Fld.INLET_CTL_MGMT_OWNER != flag software then (0, s)
  else match i.mgmt with
    | [] => (0, s)
    | k :: t =>
      let n := i.mgmtWord
      let last := decide (k.length ≤ 4 * (n + 1))
      (2 ^ 63 + flag (n == 0) * 2 ^ 62 + flag last * 2 ^ 61 + n * 2 ^ 32 + field k (4 * n) 4,
        s.modInlet r p fun i => if last then { i with mgmt := t, mgmtWord := 0 } else { i with mgmtWord := n + 1 })

/-- MGMT_READ (R290): a control-port read is answered through the region. -/
def execMgmtRead (r : RegionId) (p : PortId) (software : Bool) (s : State) : Host.Outcome State Fault Refusal :=
  let ok := !software || s.pageAnswers (pgInlet r.val p.val)
  let (w, s1) := if ok then s.readMgmt r.val p.val software else (0, s)
  .next (if software then { s1 with answers := s1.answers ++ [(r, 0#6, !ok, BitVec.ofNat 64 w)] } else s1)

/-! ### Link control packets (R368, R370 to R372) -/

/-- Whether a link control packet has its layout's length and zeros in its reserved bytes, given as (offset, length) (R371). -/
def layoutOk (pkt : Bytes) (reserved : List (Nat × Nat)) : Bool :=
  pkt.length == 32 && field pkt 1 1 == 0 && reserved.all fun z => zeroAt pkt z.1 z.2

/-- A link control packet that R371 discards. -/
def State.dropControl (s : State) (r p : Nat) : State := s.bumpF (pgInlet r p) Fld.FLUSH_DROP_COUNT 1

/-- SPACE: the transmitter's view of the other end's room (R372). -/
def State.takeSpace (s : State) (r p : Nat) (pkt : Bytes) : State :=
  if layoutOk pkt [(14, 2), (24, 8)] then
    s.modLink r p fun l => { l with space := some (field pkt 4 4, field pkt 8 4, field pkt 12 2, field pkt 16 4, field pkt 20 4) }
  else s.dropControl r p

/-- SPACE (R372). -/
def execSpace (r : RegionId) (p : PortId) (pkt : Bytes) (s : State) : Host.Outcome State Fault Refusal :=
  if packetFits pkt then .next (if field pkt 0 1 == 0x20 then s.takeSpace r.val p.val pkt else s) else .fault .malformed

/-- The SPACE that a port sends (R372). -/
def State.spacePacket (s : State) (r p : Nat) : Bytes :=
  let i := s.inlet r p
  let l := s.link r p
  build 32 [(0, 1, 0x20), (2, 2, l.spaceSeq), (4, 4, i.fillRoom), (8, 4, i.nextRoom), (12, 2, 4096 - i.mgmtBytes), (16, 4, l.taken),
    (20, 4, l.mgmtTaken)]

/-- SPACE_SEND (R368): a port that is trained or in HOLD sends SPACE. -/
def execSpaceSend (r : RegionId) (p : PortId) (s : State) : Host.Outcome State Fault Refusal :=
  .next (if s.trained r.val p.val || s.linkState r.val p.val == 5 then
    (s.queuePacket r.val p.val 3 0 (s.spacePacket r.val p.val)).modLink r.val p.val fun l => { l with spaceSeq := (l.spaceSeq + 1) % 65536 }
  else s)

/-- Two engines met with one member ID (R390): the one with the higher UID keeps to itself until an engine reset. -/
def State.duplicateId (s : State) (uid : Nat) : State :=
  if s.getF pgMembership Fld.MEMB_UID_UID ≤ uid then s
  else
    let s1 := (s.setF pgMembership Fld.MEMB_STATE_DUP_ID 1).contain pgMembership 0
    let s2 := (s.live.flatMap fun r => (List.range 4).map fun p => (r, p)).foldl (fun s q =>
      if s.peerOf q.1 q.2 == some s.self then s.isolatePort q.1 q.2 else s) s1
    { s2 with membership := { s2.membership with
      members := [s.self], gateways := [], routes := [], adjacency := [], phase := 0, proposal := none, reachable := [], seen := [] } }

/-- IDENT: the peer's name (R372, R382, R390). -/
def State.takeIdent (s : State) (r p : Nat) (pkt : Bytes) : State :=
  if layoutOk pkt [(2, 2), (20, 12)] then
    let m := bits (field pkt 4 2) 9 0
    let uid := field pkt 8 8
    let pg := pgLink r p
    let s1 := (((s.setF pg Fld.LINK_PEER_MEMBER m).setF pg Fld.LINK_PEER_REGION (bits (field pkt 6 1) 2 0)).setF pg Fld.LINK_PEER_PORT
      (bits (field pkt 7 1) 1 0)).setF pg Fld.LINK_PEER_VALID 1
    if m = s.self then (if uid = s.getF pgMembership Fld.MEMB_UID_UID then s1.portDown r p 5 else s1.duplicateId uid) else s1
  else s.dropControl r p

/-- IDENT (R372). -/
def execIdent (r : RegionId) (p : PortId) (pkt : Bytes) (s : State) : Host.Outcome State Fault Refusal :=
  if packetFits pkt then .next (if field pkt 0 1 == 0x21 then s.takeIdent r.val p.val pkt else s) else .fault .malformed

/-! ### Width (R385 to R388) -/

/-- A WIDTH or WIDTH_ACK packet (R372). -/
def widthPacket (kind lanes seq switch member region port : Nat) : Bytes :=
  build 32 [(0, 1, kind), (4, 1, lanes), (5, 1, seq), (6, 2, switch), (8, 2, member), (10, 1, region + 8 * port)]

/-- This end proposes the lanes to stay in service; the switch frame lies 32 frames behind the one that carries the packet, or
behind the next where that one is not yet known (R386). -/
def State.proposeWidth (s : State) (r p lanes : Nat) : State :=
  let l := s.link r p
  let sw := (l.nextSeq + 32) % 4096
  (s.modLink r p fun l => { l with width := some ⟨lanes, sw, true, false⟩, widthSeq := (l.widthSeq + 1) % 256 }).queuePacket r p 3 0
    (widthPacket 0x22 lanes ((l.widthSeq + 1) % 256) sw s.self r p)

/-- Whether frame a has been passed when frame b comes next. -/
def seqPassed (a b : Nat) : Bool := decide (2048 ≤ (a + 4096 - b) % 4096)

/-- WIDTH: accepted unless its frame is past; of two proposals that meet, the one from the lower end stands with the lanes that both
leave in service (R386, R388). -/
def State.takeWidth (s : State) (r p : Nat) (pkt : Bytes) : State :=
  if !layoutOk pkt [(2, 2), (11, 21)] then s.dropControl r p
  else
    let l := s.link r p
    let lanes := bits (field pkt 4 1) 3 0
    let sw := field pkt 6 2 % 4096
    let member := bits (field pkt 8 2) 9 0
    let place := field pkt 10 1
    if seqPassed sw l.expect then s
    else
      let mine := match l.width with | none => none | some w => if w.own && !w.agreed then some w else none
      let lower := decide (s.self * 32 + r * 4 + p < member * 32 + bits place 2 0 * 4 + bits place 4 3)
      match mine with
      | some w =>
        if lower then s
        else
          let both := Nat.land w.lanes lanes
          (s.modLink r p fun l => { l with width := some ⟨both, sw, false, true⟩ }).queuePacket r p 3 0
            (widthPacket 0x23 both (field pkt 5 1) sw member (bits place 2 0) (bits place 4 3))
      | none =>
        (s.modLink r p fun l => { l with width := some ⟨lanes, sw, false, true⟩ }).queuePacket r p 3 0
          (widthPacket 0x23 lanes (field pkt 5 1) sw member (bits place 2 0) (bits place 4 3))

/-- WIDTH (R386). -/
def execWidth (r : RegionId) (p : PortId) (pkt : Bytes) (s : State) : Host.Outcome State Fault Refusal :=
  if packetFits pkt then .next (if field pkt 0 1 == 0x22 then s.takeWidth r.val p.val pkt else s) else .fault .malformed

/-- WIDTH_ACK: the other end has accepted this end's proposal, with the lanes as resolved (R386, R388). -/
def State.takeWidthAck (s : State) (r p : Nat) (pkt : Bytes) : State :=
  if !layoutOk pkt [(2, 2), (11, 21)] then s.dropControl r p
  else
    let l := s.link r p
    match l.width with
    | none => s
    | some w =>
      if w.own && field pkt 5 1 == l.widthSeq then
        s.modLink r p fun l => { l with width := some { w with lanes := bits (field pkt 4 1) 3 0, agreed := true } }
      else s

/-- WIDTH_ACK (R386). -/
def execWidthAck (r : RegionId) (p : PortId) (pkt : Bytes) (s : State) : Host.Outcome State Fault Refusal :=
  if packetFits pkt then .next (if field pkt 0 1 == 0x23 then s.takeWidthAck r.val p.val pkt else s) else .fault .malformed

/-- WIDTH_SWITCH (R386): at the named frame both ends stripe over the new lanes; a proposal without an answer is sent again with a new
frame number. -/
def State.widthSwitch (s : State) (r p : Nat) : State :=
  match (s.link r p).width with
  | none => s
  | some w =>
    if w.agreed then (s.modLink r p fun l => { l with width := none }).applyLanes r p w.lanes
    else s.proposeWidth r p w.lanes

/-- WIDTH_SWITCH (R386). -/
def execWidthSwitch (r : RegionId) (p : PortId) (s : State) : Host.Outcome State Fault Refusal := .next (s.widthSwitch r.val p.val)

/-- PROBE: a request is answered at once; a reply in training step 5 is one of eight measurements of LINK_PAD (R372). -/
def State.takeProbe (s : State) (r p : Nat) (pkt : Bytes) (now : Nat) : State :=
  if !layoutOk pkt [(2, 2), (5, 3), (28, 4)] then s.dropControl r p
  else if !bitAt (field pkt 4 1) 0 then
    s.queuePacket r p 3 0 (build 32 [(0, 1, 0x24), (4, 1, 1), (8, 8, now), (16, 8, field pkt 8 8)])
  else if (s.link r p).step = 5 ∧ (s.link r p).probes < 8 then
    let trip := now - field pkt 16 8 - field pkt 24 4
    let old := if (s.link r p).probes = 0 ∧ (s.link r p).full then 0 else s.getF (pgLink r p) Fld.LINK_CFG_LINK_PAD
    (s.setF (pgLink r p) Fld.LINK_CFG_LINK_PAD (max old (min trip 511))).modLink r p fun l => { l with probes := l.probes + 1 }
  else s

/-- PROBE (R372); now is the link island's cycle count. -/
def execProbe (r : RegionId) (p : PortId) (pkt : Bytes) (now : W64) (s : State) : Host.Outcome State Fault Refusal :=
  if packetFits pkt then .next (if field pkt 0 1 == 0x24 then s.takeProbe r.val p.val pkt now.toNat else s) else .fault .malformed

/-- The lowest trained port whose peer is a member. -/
def State.portTo (s : State) (m : Nat) : Option (Nat × Nat) := s.trainedPorts.find? fun q => s.peerOf q.1 q.2 == some m

/-- This engine's link neighbours, ascending (R391). -/
def State.linkNeighbours (s : State) : List Nat :=
  (List.range 1024).filter fun m => m != s.self && (s.trainedPorts.any fun q => s.peerOf q.1 q.2 == some m)

/-- A link between two members, the lower first. -/
def linkPair (a b : Nat) : Nat × Nat := (min a b, max a b)

/-- Every link that this engine knows of: its own, and those that ANNOUNCEs list. -/
def State.knownPairs (s : State) : List (Nat × Nat) :=
  (s.linkNeighbours.map (linkPair s.self) ++ s.membership.seen.flatMap fun e => e.2.2.2.2.map (linkPair e.1)).eraseDups

/-- Distances in hops from a member over links, so many rounds (R393). -/
def hopTable (pairs : List (Nat × Nat)) (t : Tab Nat) : Nat → Tab Nat
  | 0 => t
  | n + 1 =>
    let t1 := pairs.foldl (fun (u : Tab Nat) e =>
      match t.get? e.1, t.get? e.2 with
      | some d, none => u.set e.2 (d + 1)
      | none, some d => u.set e.1 (d + 1)
      | _, _ => u) t
    if t1.length = t.length then t else hopTable pairs t1 n

/-- The next hop from a member among its neighbours: the shortest route, then the lower member (R393). -/
def nextHop (pairs : List (Nat × Nat)) (self dest : Nat) : Option Nat :=
  let t := hopTable pairs [(dest, 0)] pairs.length
  let ns := (pairs.filterMap fun e => if e.1 = self then some e.2 else if e.2 = self then some e.1 else none).filter fun n => (t.get? n).isSome
  ns.foldl (fun m n => match m with
    | none => some n
    | some b => if t.getD n 0 < t.getD b 0 ∨ (t.getD n 0 = t.getD b 0 ∧ n < b) then some n else some b) none

/-- The port toward a member by the links that this engine knows of, for what the epoch's tables do not cover (R370, R391). -/
def State.widePort (s : State) (m : Nat) : Option (Nat × Nat) :=
  (s.portTo m).orElse fun _ => (nextHop s.knownPairs s.self m).bind s.portTo

/-- RELAY (R370): an envelope for this member is opened, another goes on by the route table with one hop more. -/
def State.relay (s : State) (r p : Nat) (pkt : Bytes) : State :=
  let w := field pkt 0 8
  let cls := bits w 9 8
  let dest := bits w 19 10
  let hops := bits w 35 30
  if pkt.length ≤ 64 ∨ bits w 63 36 ≠ 0 ∨ !zeroAt pkt 8 56 then s.dropControl r p
  else if dest = s.self then s.commitPacket r p ⟨cls, 0, pkt.drop 64⟩
  else if hops = 63 then s.bumpF (pgLink r p) Fld.RETRY_COUNT_RELAY_DROP 1
  else
    let on := relayEnvelope cls dest (bits w 29 20) (hops + 1) (pkt.drop 64)
    match ((s.gatewayTo dest).orElse fun _ => (s.membership.routes.get? dest).bind s.gatewayTo).orElse fun _ => s.widePort dest with
    | some q => s.queuePacket q.1 q.2 cls 0 on
    | none => s

/-- RELAY (R370). -/
def execRelay (r : RegionId) (p : PortId) (pkt : Bytes) (s : State) : Host.Outcome State Fault Refusal :=
  if packetFits pkt then .next (if field pkt 0 1 == 0x2F then s.relay r.val p.val pkt else s) else .fault .malformed

/-- A link control packet that a frame brought (R368); a PROBE's times come with its own row. -/
def State.controlPacket (s : State) (r p : Nat) (pkt : Bytes) : State :=
  match field pkt 0 1 with
  | 0x20 => s.takeSpace r p pkt
  | 0x21 => s.takeIdent r p pkt
  | 0x22 => s.takeWidth r p pkt
  | 0x23 => s.takeWidthAck r p pkt
  | 0x24 => s
  | _ => s.dropControl r p

/-! ### Frames (R365 to R369) -/

/-- A flit as a frame carries it: class, context, START and its four units. -/
structure Flit where
  cls : Nat
  ctx : Nat
  start : Bool
  units : List Bytes
  deriving DecidableEq, Repr

/-- The 60 flits of a frame (R365). -/
def flitsOf (f : FrameIn) : List Flit :=
  let c := f.control.toNat % 2 ^ 420
  let data := fit 15360 f.data
  (List.range 60).map fun i =>
    let h := bits c (7 * i + 6) (7 * i)
    ⟨bits h 6 5, bits h 3 0, bitAt h 4, (List.range 4).map fun j => (data.drop (256 * i + 64 * j)).take 64⟩

/-- The CRC of a frame (R365): control bits [479:452] and [419:0], taken as one number of 448 bits, then the data (log 21). -/
def frameCrc (f : FrameIn) : Nat :=
  let c := f.control.toNat
  crc32c (leBytes 56 (bits c 479 452 * 2 ^ 420 + c % 2 ^ 420) ++ fit 15360 f.data)

/-- One unit arrives: it goes on with the packet that is arriving, or begins one; the packet that it completes (R366). -/
def Link.takeUnit (l : Link) (fl : Flit) (first : Bool) (u : Bytes) : Link × Option Packet :=
  let going := match l.partly with
    | some (k, n) => if k.cls == fl.cls && k.ctx == fl.ctx && !(first && fl.start) then some (k, n) else none
    | none => none
  match going with
  | some (k, n) =>
    let bs := k.bytes ++ u
    let need := if fl.cls = 1 ∨ fl.cls = 2 then n else packetLength fl.cls bs
    if need ≤ bs.length then ({ l with partly := none }, some { k with bytes := bs.take need })
    else ({ l with partly := some ({ k with bytes := bs }, need) }, none)
  | none =>
    let key := 16 * fl.cls + fl.ctx
    if fl.cls = 1 ∨ fl.cls = 2 then
      let (left, hdr, ent) := l.streams.getD key (0, [], false)
      if allZero u && (left == 0 || !(first && fl.start)) then ({ l with partly := none }, none)
      else
        let t := streamLength fl.cls u (if hdr.isEmpty then none else some (hdr, ent))
        let total := if left = 0 then t.1 else left
        let need := min 4096 total
        let l1 := { l with mark := l.streams, streams := l.streams.set key (total - need, if left = 0 then u else hdr, if left = 0 then t.2 else ent) }
        if need ≤ 64 then ({ l1 with partly := none }, some ⟨fl.cls, fl.ctx, u.take need⟩)
        else ({ l1 with partly := some (⟨fl.cls, fl.ctx, u⟩, need) }, none)
    else if field u 0 1 = 0 then ({ l with partly := none }, none)
    else
      let need := packetLength fl.cls u
      if need ≤ 64 then ({ l with partly := none }, some ⟨fl.cls, fl.ctx, u.take need⟩)
      else ({ l with mark := l.streams, partly := some (⟨fl.cls, fl.ctx, u⟩, need) }, none)

/-- The packets that the units of flits complete, in order, and the port after them. -/
def Link.takeFlits (l : Link) (fs : List Flit) : Link × List Packet :=
  fs.foldl (fun acc fl => (fl.units.zipIdx).foldl (fun (a : Link × List Packet) u =>
    let b := a.1.takeUnit fl (u.2 == 0) u.1
    (b.1, match b.2 with | none => a.2 | some k => a.2 ++ [k])) acc) (l, [])

/-- Whether a packet is the link island's own: an envelope or link control (R368, R370). -/
def Packet.isControl (k : Packet) : Bool :=
  (field k.bytes 0 1 == 0x2F && (k.cls == 0 || k.cls == 3)) || (k.cls == 3 && decide (0x20 ≤ field k.bytes 0 1 ∧ field k.bytes 0 1 < 0x30))

/-- Whether a packet is written into the inlet: none of the link island's own, and in HOLD none of class 1 or 2 (R368, R389). -/
def State.enters (s : State) (r p : Nat) (k : Packet) : Bool := !k.isControl && !(s.linkState r p == 5 && (k.cls == 1 || k.cls == 2))

/-- A packet that has begun and is not whole stands at the filling bank's write offset from its first word on (R288). -/
def State.writePart (s : State) (r p : Nat) : State :=
  match (s.link r p).partly with
  | none => s.modInlet r p fun i => { i with part := 0 }
  | some (k, n) => s.modInlet r p fun i => if s.enters r p k then { i.begun (64 * ceilDiv n 64) with part := packetRoom k } else { i with part := 0 }

/-- A frame that is not taken rewinds every packet that it touches and that has not committed: the one that is partly written, which goes
back to its first byte, and those that it carries; each counts in CRC_DROP (R287, R367; log 66). -/
def State.rewind (s : State) (r p : Nat) (f : FrameIn) : State :=
  let l := s.link r p
  let x := if bits f.control.toNat 454 453 = 0 then l.takeFlits (flitsOf f) else (l, [])
  let n := ((x.2 ++ ((x.1.partly.map (·.1)).toList)).filter (s.enters r p)).length
  let s1 := if n = 0 then s else s.bumpF (pgInlet r p) Fld.CRC_DROP_COUNT n
  let s2 := if bits f.control.toNat 454 453 ≠ 0 ∨ l.partly.isNone then s1
    else (s1.modLink r p fun l => { l with partly := none, streams := l.mark }).modInlet r p fun i => { i with part := 0 }
  (s2.modLink r p fun l => { l with nakOwed := true }).tryFlush r p

/-- A packet that has arrived whole: link control is consumed by the link island, the rest commits in the inlet; in HOLD packets of
class 1 and 2 are dropped (R287, R368, R389). -/
def State.arrive (s : State) (r p : Nat) (k : Packet) : State :=
  if field k.bytes 0 1 = 0x2F ∧ (k.cls = 0 ∨ k.cls = 3) then
    (s.relay r p k.bytes).modLink r p fun l => if k.cls = 0 then { l with taken := (l.taken + packetRoom k) % 2 ^ 32 } else l
  else if k.cls = 3 ∧ 0x20 ≤ field k.bytes 0 1 ∧ field k.bytes 0 1 < 0x30 then s.controlPacket r p k.bytes
  else if s.linkState r p = 5 ∧ (k.cls = 1 ∨ k.cls = 2) then s.bumpF (pgInlet r p) Fld.FLUSH_DROP_COUNT 1
  else (s.commitPacket r p k).modLink r p fun l =>
    if k.cls = 3 then { l with mgmtTaken := (l.mgmtTaken + packetRoom k) % 2 ^ 32 } else { l with taken := (l.taken + packetRoom k) % 2 ^ 32 }

/-- ACK_SEQ and NAK of a good frame (R367): acknowledged frames leave the transmitter, a NAK asks for the rest again. -/
def Link.takeAck (l : Link) (ack : Nat) (nak : Bool) : Link :=
  let kept := match l.frames.findIdx? fun t => t.seq == ack with | none => l.frames | some i => l.frames.drop (i + 1)
  { l with frames := kept, resend := if nak then (kept.head?).map (·.seq) else
      (match l.resend with | none => none | some q => if kept.any fun t => t.seq == q then some q else none) }

/-- FRAME_RECEIVE (R365 to R367, R375). -/
def State.receiveFrame (s : State) (r p : Nat) (f : FrameIn) : State :=
  let pg := pgLink r p
  let c := f.control.toNat
  let st := s.linkState r p
  if st = 0 ∨ st = 6 then s
  else
    let s0 := (s.bumpF pg Fld.FEC_COUNT_CORRECTED f.corrected.toNat).bumpF pg Fld.FEC_COUNT_UNCORRECTABLE f.uncorrectable.toNat
    let s1 := if f.late then (s0.bumpF pg Fld.RETRY_COUNT_PAD_MISS 1).contain pg 2 else s0
    if frameCrc f ≠ bits c 451 420 then
      (s1.contain (pgInlet r p) 0).rewind r p f
    else
      let s2 := (s1.count pg 0x41 1).modLink r p fun l => l.takeAck (bits c 467 456) (bitAt c 455)
      if bits c 454 453 ≠ 0 ∨ st = 1 ∧ (s.link r p).step < 5 then s2
      else if bits c 479 468 ≠ (s2.link r p).expect then
        if seqPassed (bits c 479 468) (s2.link r p).expect then s2.modLink r p fun l => { l with nakOwed := true } else s2.rewind r p f
      else
        let x := (s2.link r p).takeFlits (flitsOf f)
        let s3 := s2.modLink r p fun _ => { x.1 with expect := (x.1.expect + 1) % 4096, nakOwed := false }
        ((x.2.foldl (fun s k => s.arrive r p k) s3).writePart r p).tryFlush r p

/-- FRAME_RECEIVE (R367). -/
def execFrameReceive (r : RegionId) (p : PortId) (f : FrameIn) (s : State) : Host.Outcome State Fault Refusal :=
  if frameFits f.data then .next (s.receiveFrame r.val p.val f) else .fault .malformed

/-- Order in which classes are served, link control before management (R33, R369). -/
def serviceOrder (k : Packet) : Nat :=
  if k.cls = 3 then (if 0x20 ≤ field k.bytes 0 1 ∧ field k.bytes 0 1 < 0x30 then 3 else 4) else k.cls

/-- Whether the latest SPACE holds a packet (R372); link control takes no inlet space. -/
def Link.admits (l : Link) (k : Packet) : Bool :=
  if serviceOrder k = 3 then true
  else match l.space with
    | none => false
    | some (fill, next, room, taken, mgmt) =>
      let n := packetRoom k
      if k.cls = 3 then decide ((l.mgmtSent + 2 ^ 32 - mgmt) % 2 ^ 32 + n ≤ room)
      else
        let fly := (l.sent + 2 ^ 32 - taken) % 2 ^ 32
        decide (fly + n ≤ fill) || (decide (fly ≤ fill) && decide (n ≤ next))

/-- The packet that a transmitter takes next: the first of its class, of the first class in service order that SPACE admits (R369). -/
def Link.choose (l : Link) (hold : Bool) : Option Packet :=
  (List.range 5).findSome? fun o =>
    if hold && o != 3 then none
    else (l.queue.find? fun k => serviceOrder k == o).bind fun k => if l.admits k then some k else none

/-- Units used of a frame after a packet: a change of class or context begins a new flit (R366). -/
def unitsAfter (used : Nat) (last : Option (Nat × Nat)) (k : Packet) : Nat :=
  (if last == some (k.cls, k.ctx) then used else 4 * ceilDiv used 4) + packetRoom k / 64

/-- Packets that fill one frame of 240 units, and the port after them. -/
def Link.fillFrame (hold : Bool) : Nat → Nat → Option (Nat × Nat) → Link → List Packet → Link × List Packet
  | 0, _, _, l, acc => (l, acc)
  | fuel + 1, used, last, l, acc =>
    match l.choose hold with
    | none => (l, acc)
    | some k =>
      if 240 < unitsAfter used last k then (l, acc)
      else
        let n := packetRoom k
        let l1 := { l with queue := l.queue.erase k }
        let l2 := if serviceOrder k = 3 then l1
          else if k.cls = 3 then { l1 with mgmtSent := (l1.mgmtSent + n) % 2 ^ 32 } else { l1 with sent := (l1.sent + n) % 2 ^ 32 }
        Link.fillFrame hold fuel (unitsAfter used last k) (some (k.cls, k.ctx)) l2 (acc ++ [k])

/-- A WIDTH of this end leaves in frame q: its switch frame lies at least 32 frames ahead (R386). -/
def Link.stampWidth (l : Link) (q : Nat) (k : Packet) : Link × Packet :=
  if k.cls = 3 ∧ field k.bytes 0 1 = 0x22 then
    let sw := (q + 32) % 4096
    ({ l with width := l.width.map fun w => if w.own && !w.agreed then { w with switch := sw } else w },
     { k with bytes := putField k.bytes 6 2 sw })
  else (l, k)

/-- A calibration frame leaves (R384). -/
def State.sendCalibration (s : State) (r p : Nat) : State :=
  (s.bumpF (pgLink r p) Fld.CAL_STATE_CAL_FRAMES 1).count (pgLink r p) 0x40 1

/-- FRAME_SEND (R367, R369, R384): one frame slot. A frame that was asked for again goes first; with 32 frames unacknowledged, or
nothing to send, an IDLE frame goes, which takes no number; a stolen slot goes to calibration. -/
def State.sendFrame (s : State) (r p : Nat) : State :=
  let pg := pgLink r p
  let st := s.linkState r p
  if !(s.trained r p || st == 5 || (st == 1 && decide (5 ≤ (s.link r p).step))) then s
  else
    let stealing := s.getF pg Fld.CAL_STATE_STEALING == 1
    let s0 := s.modLink r p fun l => { l with steal := if stealing then l.steal + 1 else 0 }
    let l := s0.link r p
    if stealing && decide (65536 ≤ l.steal) then (s0.sendCalibration r p).modLink r p fun l => { l with steal := 0, nakOwed := false }
    else
      let s1 := (s0.count pg 0x40 1).modLink r p fun l => { l with nakOwed := false }
      match l.resend with
      | some q =>
        let later := (l.frames.dropWhile fun t => t.seq != q).drop 1
        (s1.bumpF pg Fld.RETRY_COUNT_RESENT 1).modLink r p fun l => { l with resend := (later.head?).map (·.seq) }
      | none =>
        if 32 ≤ l.frames.length then s1
        else
          let (l1, ks) := Link.fillFrame (st == 5 || st == 1) 240 0 none (s1.link r p) []
          if ks.isEmpty then s1
          else
            let (l2, ks2) := ks.foldl (fun (a : Link × List Packet) k => let b := a.1.stampWidth l1.nextSeq k; (b.1, a.2 ++ [b.2])) (l1, [])
            (s1.modLink r p fun _ => { l2 with nextSeq := (l2.nextSeq + 1) % 4096, frames := l2.frames ++ [⟨l1.nextSeq, ks2⟩] }).sendRoom r p

/-- FRAME_SEND (R369). -/
def execFrameSend (r : RegionId) (p : PortId) (s : State) : Host.Outcome State Fault Refusal := .next (s.sendFrame r.val p.val)

/-! ### Calibration and retraining (R384 to R386) -/

/-- The next lane of the scan among those in service, from one on. -/
def scanLane (lanes from_ : Nat) : Nat := (((List.range 4).map fun i => (from_ + i) % 4).find? (bitAt lanes)).getD (from_ % 4)

/-- CALIBRATION_FRAME (R384): in a gap of classes 0 to 2 a calibration frame leaves, which ends stealing; the eye scan of the next lane
in service advances to its margin. -/
def State.calibrate (s : State) (r p margin : Nat) : State :=
  let pg := pgLink r p
  let l := s.link r p
  if !s.trained r p || l.queue.any (fun k => decide (k.cls < 3)) then s
  else
    let lane := scanLane (s.getF pg Fld.LINK_STATE_LANES) l.nextScan
    ((((s.sendCalibration r p).setF pg Fld.CAL_STATE_STEALING 0).setF (pg + 8 * lane) Fld.LANE_EQ_MARGIN margin)).modLink r p fun l =>
      { l with nextScan := (lane + 1) % 4, steal := 0 }

/-- CALIBRATION_FRAME (R384). -/
def execCalibrationFrame (r : RegionId) (p : PortId) (margin : Byte) (s : State) : Host.Outcome State Fault Refusal :=
  .next (s.calibrate r.val p.val margin.toNat)

/-- CALIBRATION_STARVED (R34, R384): one calibration frame leaves at once, and stealing begins. -/
def State.starve (s : State) (r p : Nat) : State :=
  let pg := pgLink r p
  if !s.trained r p || s.getF pg Fld.CAL_STATE_STEALING == 1 then s
  else ((((s.contain pg 0).pend (0x48 + r)).sendCalibration r p).setF pg Fld.CAL_STATE_STEALING 1).modLink r p fun l => { l with steal := 0 }

/-- CALIBRATION_STARVED (R384). -/
def execCalibrationStarved (r : RegionId) (p : PortId) (s : State) : Host.Outcome State Fault Refusal := .next (s.starve r.val p.val)

/-- The lanes that a port keeps or is to keep: those of a change under way, else those in service. -/
def State.keptLanes (s : State) (r p : Nat) : Nat :=
  match (s.link r p).width with | some w => w.lanes | none => s.getF (pgLink r p) Fld.LINK_STATE_LANES

/-- A lane leaves service for retraining (R385, R386, R388): the lanes that stay are proposed; without one the port is down. -/
def State.laneRetrain (s : State) (r p lane : Nat) (cause : RetrainCause) : State :=
  let pg := pgLink r p
  let kept := s.keptLanes r p
  let due := match cause with
    | .margin => decide (s.getF (pg + 8 * lane) Fld.LANE_EQ_MARGIN < s.getF pg Fld.LINK_CFG_MARGIN_MIN)
    | _ => true
  if !s.trained r p || !bitAt kept lane || !due then s
  else
    let s1 := (s.contain pg 3).pend (0x48 + r)
    let s2 := if cause = .lockLoss then s1.contain pg 4 else s1
    let s3 := s2.modLink r p fun l => { l with retraining := l.retraining ++ [lane] }
    if kept - 2 ^ lane = 0 then (s3.modLink r p fun l => { l with width := none }).applyLanes r p 0 else s3.proposeWidth r p (kept - 2 ^ lane)

/-- LANE_RETRAIN (R385). -/
def execLaneRetrain (r : RegionId) (p : PortId) (lane : Fin 4) (cause : RetrainCause) (s : State) : Host.Outcome State Fault Refusal :=
  .next (s.laneRetrain r.val p.val lane.val cause)

/-- A lane's retraining ends (R386): a second WIDTH restores it, or after two failures it stays out of service; a port without a lane
left is down with RETRAIN_FAIL (R382). -/
def State.laneDone (s : State) (r p lane : Nat) (pass : Bool) : State :=
  let l := s.link r p
  if !l.retraining.contains lane then s
  else
    let s0 := s.pend (0x48 + r)
    let drop (s : State) (n : Nat) : State :=
      s.modLink r p fun l => { l with retraining := l.retraining.filter (· != lane), failures := l.failures.set lane n }
    if pass then
      let s1 := drop s0 0
      let lanes := Nat.lor (s.keptLanes r p) (2 ^ lane)
      if s.trained r p || s.linkState r p == 5 then s1.proposeWidth r p lanes else s1.applyLanes r p lanes
    else
      let n := l.failures.getD lane 0 + 1
      if n < 2 then s0.modLink r p fun l => { l with failures := l.failures.set lane n }
      else
        let s1 := (drop s0 0).setF (pgLink r p + 8 * lane) Fld.LANE_EQ_LANE_STATE 0
        if s.keptLanes r p = 0 ∧ l.retraining.length = 1 then s1.portDown r p 4 else s1

/-- LANE_RETRAIN_DONE (R386). -/
def execLaneRetrainDone (r : RegionId) (p : PortId) (lane : Fin 4) (pass : Bool) (s : State) : Host.Outcome State Fault Refusal :=
  .next (s.laneDone r.val p.val lane.val pass)

/-! ### Training (R380, R382) -/

/-- A port begins to train: everything of the link starts afresh. -/
def State.beginTraining (s : State) (r p : Nat) (full : Bool) : State :=
  let s1 := ((s.modLink r p fun l => { Link.reset with step := 1, full := full, queue := l.queue, heldFrom := l.heldFrom }).modInlet r p fun i =>
    { i with part := 0 }).setLinkState r p 1
  (s1.setF (pgLink r p) Fld.LINK_STATE_REASON 0).setF (pgLink r p) Fld.LINK_PEER_VALID 0

/-- The first packets of training step 5: IDENT, SPACE and eight PROBE requests; the link island's cycle counts in them are free
(R372, R380; log 7). -/
def State.introduce (s : State) (r p : Nat) : State :=
  let ident := build 32 [(0, 1, 0x21), (4, 2, s.self), (6, 1, r), (7, 1, p + 16 * s.getF (pgLink r p) Fld.LINK_STATE_LANES),
    (8, 8, s.getF pgMembership Fld.MEMB_UID_UID), (16, 4, s.membership.epoch)]
  let s1 := (s.queuePacket r p 3 0 ident).queuePacket r p 3 0 (s.spacePacket r p)
  let s2 := (List.range 8).foldl (fun (s : State) i =>
    s.queuePacket r p 3 0 (build 32 [(0, 1, 0x24), (8, 8, (Config.freeBits (s.freeCtr + i)).toNat)])) s1
  { s2 with freeCtr := s.freeCtr + 8 }

/-- The step of a port that trains moves on. -/
def State.toStep (s : State) (r p n : Nat) : State := s.modLink r p fun l => { l with step := n }

/-- LANE_EQ as a step leaves it. -/
def State.setLaneEq (s : State) (r p : Nat) (eq : List W64) : State :=
  ((List.range 4).zip eq).foldl (fun s e => s.setReg (pgLink r p + 0x100 + 8 * e.1) e.2.toNat) s

/-- LINK_TRAIN_STEP (R380): saved settings that fail step 3 or 6 send the port back to step 2 in full; after step 6 it is in service with
the lanes that pass, or down with its cause. -/
def State.trainStep (s : State) (r p : Nat) (res : LinkTrainResult) : State :=
  let l := s.link r p
  let lanes := res.lanes.toNat
  if s.linkState r p ≠ 1 then s
  else
    let s1 := s.setLaneEq r p res.eq
    match l.step with
    | 1 => if lanes = 0 then s.portDown r p 1 else if !res.boreno then s.portDown r p 2 else s.toStep r p 2
    | 2 => s1.toStep r p 3
    | 3 => if res.savedBad && !l.full then s1.modLink r p fun l => { l with full := true, step := 2 } else s1.toStep r p 4
    | 4 => if lanes = 0 then s1.portDown r p 3 else ((s1.setF (pgLink r p) Fld.LINK_STATE_LANES lanes).introduce r p).modLink r p fun l => { l with step := 5, probes := 0 }
    | 5 =>
      let pad := if l.full then res.pad.toNat else max (s.getF (pgLink r p) Fld.LINK_CFG_LINK_PAD) res.pad.toNat
      (s1.setF (pgLink r p) Fld.LINK_CFG_LINK_PAD pad).toStep r p 6
    | 6 =>
      if res.savedBad && !l.full then s1.modLink r p fun l => { l with full := true, step := 2 }
      else if lanes = 0 then s1.portDown r p 3
      else (s1.toStep r p 0).applyLanes r p lanes
    | _ => s

/-- LINK_TRAIN_STEP (R380). -/
def execLinkTrainStep (r : RegionId) (p : PortId) (res : LinkTrainResult) (s : State) : Host.Outcome State Fault Refusal :=
  if lanesFit res then .next (s.trainStep r.val p.val res) else .fault .malformed

end Sys2Proof.Machine
end

