-- ==== Sys2Proof/Machine/Edges.lean ====
section
/-! DEFINITION. Sys2Proof/Machine/Edges.lean: a die-to-die edge: flits and their retry (R377), transfers that arrive or are forwarded
(R132 to R135, R148, R378), isolation (R147, R379) and training (R381). -/

namespace Sys2Proof.Machine

/-! ### Flits -/

/-- The fields of a flit's control word (R377). -/
def ftCrc (w : Nat) : Nat := bits w 63 32
def ftSeq (w : Nat) : Nat := bits w 31 20
def ftAck (w : Nat) : Nat := bits w 19 8
def ftDest (w : Nat) : Nat := bits w 6 4
def ftCls (w : Nat) : Nat := bits w 2 1

/-- ACK and NAK of a good flit: acknowledged flits leave, and a NAK sends the rest again, each resend with its time. -/
def State.takeEdgeAck (s : State) (r e w : Nat) : State :=
  let kept := match (s.edge r e).kept.findIdx? fun f => f.1 == ftAck w with
    | none => (s.edge r e).kept
    | some i => (s.edge r e).kept.drop (i + 1)
  if bitAt w 7 then
    let now := s.time
    let again := List.replicate kept.length now
    ((s.modEdge r e fun d =>
      { d with kept := kept, resends := (d.resends.filter fun t => decide (now < t + 1000000)) ++ again }).bumpF (pgEdge r e)
        Fld.EDGE_COUNT_RESENT kept.length).count (pgEdge r e) 0x40 kept.length
  else s.modEdge r e fun d => { d with kept := kept }

/-- The fields of a prologue flit (log 21). -/
def prSeq (b : Bytes) : W32 := BitVec.ofNat 32 (field b 0 4)
def prSrc (b : Bytes) : Nat := field b 4 1 % 8
def prView (b : Bytes) : Nat := field b 7 1
def prDesc (b : Bytes) : Nat := field b 8 1
def prCount (b : Bytes) : Nat := field b 12 4
def prItem (b : Bytes) : Nat := field b 16 4

/-- Whether a command is running in region r (R148). -/
def State.runsHere (s : State) (seq : W32) (r : Nat) : Bool :=
  match s.run? seq with | none => false | some x => x.started && (x.regions.get? r).isSome

/-- A prologue opens a transfer in its region; its send is the one with the same place among the sends of its source (R133, R378). -/
def State.openTransfer (s : State) (r e cls : Nat) (b : Bytes) : State :=
  let s1 := s.modEdge r e fun d => { d with opening := (cls, b, 0) :: d.opening }
  let seq := prSeq b
  if !s.runsHere seq r then s1
  else
    let k := ((s.region r).transfers.filter fun t => t.seq == seq && t.src == prSrc b && t.desc == prDesc b).length
    let sends := match (s.run? seq).bind fun x => x.regions.get? (prSrc b) with | none => [] | some g => g.sends
    let send := ((sends.filter fun q => q.1 == r && q.2.1 == prDesc b).map fun q => (q.2.2.1, q.2.2.2)).getD k ((s.region r).tc, false)
    let t : Transfer := ⟨seq, prSrc b, prDesc b, bits (prView b) 4 4, bitAt (prView b) 5, prCount b, prItem b, send.1, 0, [], 0, false, false, send.2⟩
    s1.modRegion r fun g => { g with transfers := g.transfers ++ [t] }

/-- Items of a transfer that n bytes behind the prologue hold whole. -/
def itemsIn (b : Bytes) (n : Nat) : Nat := if prItem b = 0 then 0 else min (prCount b) ((n - 64) / prItem b)

/-- Data of the transfer that is arriving in a class: it goes on there; the items of a command that has completed are discarded and
counted (R148). -/
def State.landFlit (s : State) (r e cls : Nat) (data : Bytes) : State :=
  match (s.edge r e).opening.findIdx? fun o => o.1 == cls with
  | none => s
  | some i =>
    let (_, b, n) := (s.edge r e).opening.getD i (0, [], 0)
    let total := 64 + prCount b * prItem b
    let n1 := min total (n + 256)
    let s1 := s.modEdge r e fun d =>
      { d with opening := if n1 = total then d.opening.eraseIdx i else d.opening.set i (cls, b, n1) }
    let seq := prSeq b
    if s.runsHere seq r then
      let mine (t : Transfer) : Bool :=
        t.seq == seq && t.src == prSrc b && t.desc == prDesc b && decide (t.bytes.length < total) && !t.cut
      match (s.region r).transfers.findIdx? mine with
      | none => s1
      | some j =>
        ((s1.modRegion r fun g =>
          { g with transfers := g.transfers.modify j fun t => { t with bytes := t.bytes ++ (fit 256 data).take (n1 - n) } }).landTransfer r j).settleRecv seq r
    else
      let lost := itemsIn b n1 - itemsIn b n
      if lost = 0 then s1
      else
        let s2 := (s1.bumpF (pgDispatch r) Fld.DISCARD_COUNT lost).contain (pgDispatch r) 1
        ((s2.setF (pgDispatch r) Fld.LAST_DISCARD_VALID 1).setF (pgDispatch r) Fld.LAST_DISCARD_SOURCE_REGION (prSrc b)).setF (pgDispatch r)
          Fld.LAST_DISCARD_COMMAND_SEQ seq.toNat

/-- A flit that is in order: it goes on to another region (R134), or it belongs to this one. -/
def State.takeFlit (s : State) (r e w : Nat) (data : Bytes) : State :=
  if ftDest w ≠ r then
    match s.path r (ftDest w) with
    | [] => s
    | (_, f) :: _ => s.sendFlit r f (ftDest w) (flag (bitAt w 3)) (ftCls w) data
  else if bitAt w 3 then s.openTransfer r e (ftCls w) (fit 256 data)
  else s.landFlit r e (ftCls w) data

/-- EDGE_FLIT_RECEIVE (R377). -/
def State.receiveFlit (s : State) (r e : Nat) (ctl : Nat) (data : Bytes) : State :=
  let pg := pgEdge r e
  if !s.edgeUp r e then s
  else if crc32c (leBytes 4 (ctl % 2 ^ 32) ++ fit 256 data) ≠ ftCrc ctl then
    ((s.bumpF pg Fld.EDGE_COUNT_CRC_FAIL 1).contain pg 3).modEdge r e fun d => { d with nakOwed := true }
  else
    let s1 := (s.count pg 0x41 1).takeEdgeAck r e ctl
    if !bitAt ctl 0 then s1
    else if ftSeq ctl ≠ (s.edge r e).expect then s1.modEdge r e fun d => { d with nakOwed := true }
    else (s1.modEdge r e fun d => { d with expect := (d.expect + 1) % 4096, nakOwed := false }).takeFlit r e ctl data

/-- EDGE_FLIT_RECEIVE (R377). -/
def execEdgeFlitReceive (r : RegionId) (e : EdgeId) (ctl : W64) (data : Bytes) (s : State) : Host.Outcome State Fault Refusal :=
  if flitFits data then .next (s.receiveFlit r.val e.val ctl.toNat data) else .fault .malformed

/-! ### Isolation (R147, R379) -/

/-- Every receive that waits goes on as far as it can, in every running set and region. -/
def State.settleAll (s : State) : State :=
  s.runs.foldl (fun s x => x.regions.foldl (fun s e => s.settleRecv x.cmd.seq e.1) s) s

/-- The transfers whose path crosses an edge in either direction and that are not whole are cut off. -/
def State.cutTransfers (s : State) (r e : Nat) : State :=
  (List.range 8).foldl (fun s d =>
    s.modRegion d fun g =>
      { g with transfers := g.transfers.map fun t =>
          let p := s.path t.src d
          if (p.contains (r, e) || p.contains (s.edgeBack r e)) && decide (t.bytes.length < 64 + t.count * t.itemBytes) then { t with cut := true }
          else t }) s

/-- EDGE_ISOLATE (R379): more than RETRY_LIMIT resends in 1 ms, or a lost clock. What has been released by then has landed (R147). -/
def State.isolateEdge (s : State) (r e : Nat) (clockLoss : Bool) : State :=
  let pg := pgEdge r e
  let many := decide (s.getF pg Fld.EDGE_CFG_RETRY_LIMIT < ((s.edge r e).resends.filter fun t => decide (s.time < t + 1000000)).length)
  if !s.edgeUp r e || !(clockLoss || many) then s
  else
    let s0 := (List.range 8).foldl (fun s d => s.landReleased d) s
    let s1 := ((s0.setF pg Fld.EDGE_STATE_STATE 6).contain pg 0).modEdge r e fun _ => { Edge.reset with retraining := true }
    let s2 := if clockLoss then s1.contain pg 2 else s1
    ((((s2.contain (pgRegion r) 6).pend (0x48 + r)).compare).cutTransfers r e).settleAll

/-- EDGE_ISOLATE (R379). -/
def execEdgeIsolate (r : RegionId) (e : EdgeId) (clockLoss : Bool) (s : State) : Host.Outcome State Fault Refusal :=
  .next (s.isolateEdge r.val e.val clockLoss)

/-- EDGE_RETRAIN_DONE (R379): an edge that passes returns at the next command boundary. -/
def execEdgeRetrainDone (r : RegionId) (e : EdgeId) (pass : Bool) (s : State) : Host.Outcome State Fault Refusal :=
  .next (if (s.edge r.val e.val).retraining && pass then
    (s.modEdge r.val e.val fun d => { d with retraining := false, retrained := true }).returnEdges else s)

/-! ### Training (R381) -/

/-- An edge begins to train. -/
def State.beginEdge (s : State) (r e : Nat) (full : Bool) : State :=
  (s.setF (pgEdge r e) Fld.EDGE_STATE_STATE 1).modEdge r e fun _ => { Edge.reset with step := 1, full := full }

/-- The budget that a measured latency declares: one eighth more, in multiples of 16 tc, within the range of R57 (R402). -/
def declaredBudget (lo hi measured : Nat) : Nat := min hi (max lo (16 * ceilDiv (ceilDiv (9 * measured) 8) 16))

/-- EDGE_TRAIN_STEP (R381): after step 5 the edge is UP, DEGRADED or DOWN by its modules; a cold start declares the measured latency, a
fast one keeps the larger of it and the saved budget (R402). -/
def State.edgeStep (s : State) (r e : Nat) (res : EdgeTrainResult) : State :=
  let pg := pgEdge r e
  let m0 := res.mod0.toNat
  let m1 := res.mod1.toNat
  let d := s.edge r e
  if s.getF pg Fld.EDGE_STATE_STATE ≠ 1 then s
  else
    let s1 := ((s.setF pg Fld.EDGE_STATE_MOD0_WIDTH m0).setF pg Fld.EDGE_STATE_MOD1_WIDTH m1).setF pg Fld.EDGE_STATE_REPAIRED res.repaired.toNat
    let s2 := if d.step = 4 then (s1.setF pg Fld.EDGE_STATE_PEER_REGION res.peer.val).setF pg Fld.EDGE_STATE_PEER_VALID 1 else s1
    if d.step < 5 then s2.modEdge r e fun d => { d with step := d.step + 1 }
    else
      let st := edgeStateOf m0 m1
      let measured := res.latency.toNat
      let lat := if d.full then declaredBudget 64 256 measured else min 256 (max (s.latEdge r e) measured)
      let s3 := { s2 with bringUp := { s2.bringUp with latEdge := s2.bringUp.latEdge.set (4 * r + e) lat } }
      let s4 := ((s3.setF pg Fld.EDGE_CFG_LAT_EDGE lat).setF pg Fld.EDGE_STATE_STATE st).modEdge r e fun _ => Edge.reset
      if st = 3 then s4.contain pg 1 else s4

/-- EDGE_TRAIN_STEP (R381). -/
def execEdgeTrainStep (r : RegionId) (e : EdgeId) (res : EdgeTrainResult) (s : State) : Host.Outcome State Fault Refusal :=
  .next (s.edgeStep r.val e.val res)

end Sys2Proof.Machine
end

