-- ==== Sys2Proof/Machine/Membership.lean ====
section
/-! DEFINITION. Sys2Proof/Machine/Membership.lean: announcements (R390, R391), the epoch boundary (R373, R392 to R394) and link credit
(R137, R374). -/

namespace Sys2Proof.Machine

/-! ### Sending and checking management packets -/

/-- A membership packet to a member: on a port of its own, or in an envelope (R370). -/
def State.sendWide (s : State) (m : Nat) (bs : Bytes) : State :=
  match s.portTo m with
  | some q => s.queuePacket q.1 q.2 3 0 bs
  | none => match s.widePort m with
    | some q => s.queuePacket q.1 q.2 3 0 (relayEnvelope 3 m s.self 0 bs)
    | none => s

/-- Whether a management packet has a length and zeros in its reserved bytes (R371). -/
def mgmtOk (pkt : Bytes) (len : Nat) (reserved : List (Nat × Nat)) : Bool :=
  pkt.length == len && field pkt 1 1 + 1 == len / 32 && reserved.all fun z => zeroAt pkt z.1 z.2

/-- A management packet that arrives: taken out of the queue, and discarded when its layout does not hold. -/
def State.mgmtArrives (s : State) (r p : Nat) (pkt : Bytes) (ok : Bool) (f : State → State) : State :=
  let s1 := s.takeMgmt r p pkt
  if ok then f s1 else s1.dropControl r p

/-! ### Announcements (R391) -/

/-- The packet of this engine's announcement. -/
def State.announcePacket (s : State) : Bytes :=
  let ns := s.linkNeighbours.take 32
  let len := 32 + 32 * ceilDiv (2 * ns.length) 32
  fit len (build 32 [(0, 1, 0x30), (1, 1, len / 32 - 1), (2, 2, ns.length), (4, 2, s.self), (8, 8, s.getF pgMembership Fld.MEMB_UID_UID),
    (16, 4, s.membership.epoch), (20, 4, s.membership.annSeq)] ++ ns.flatMap (leBytes 2 ·))

/-- ANNOUNCE_SEND (R391). -/
def execAnnounceSend (s : State) : Host.Outcome State Fault Refusal :=
  let s1 := { s with membership := { s.membership with annSeq := (s.membership.annSeq + 1) % 2 ^ 32 } }
  .next (s1.trainedPorts.foldl (fun t q => t.queuePacket q.1 q.2 3 0 s1.announcePacket) s1)

/-- Whether the layout of an ANNOUNCE holds. -/
def announceOk (pkt : Bytes) : Bool :=
  decide (field pkt 2 2 ≤ 32) && mgmtOk pkt (32 + 32 * ceilDiv (2 * field pkt 2 2) 32) [(6, 2), (24, 8)]

/-- An ANNOUNCE that is new of its origin: the origin is reachable, and it goes on by the other trained ports (R391). -/
def State.takeAnnounce (s : State) (r p : Nat) (pkt : Bytes) : State :=
  let o := field pkt 4 2 % 1024
  let seq := field pkt 20 4
  let m := s.membership
  let fresh := match m.seen.get? o with | none => true | some e => e.1 != field pkt 8 8 || (e.2.2.1 != seq && !decide (2 ^ 31 ≤ (seq + 2 ^ 32 - e.2.2.1) % 2 ^ 32))
  if s.getF pgMembership Fld.MEMB_STATE_DUP_ID = 1 then s
  else if o = s.self then (if field pkt 8 8 = s.getF pgMembership Fld.MEMB_UID_UID then s else s.duplicateId (field pkt 8 8))
  else if !fresh then s
  else
    let ns := (words (pkt.drop 32) 2 (field pkt 2 2)).map (· % 1024)
    let s1 := { s with membership := { m with
      seen := m.seen.set o (field pkt 8 8, field pkt 16 4, seq, ns),
      reachable := if m.reachable.contains o then m.reachable else m.reachable ++ [o] } }
    (s1.trainedPorts.filter fun q => q != (r, p)).foldl (fun t q => t.queuePacket q.1 q.2 3 0 pkt) s1

/-- ANNOUNCE (R391). -/
def execAnnounce (r : RegionId) (p : PortId) (pkt : Bytes) (s : State) : Host.Outcome State Fault Refusal :=
  if packetFits pkt then
    .next (if field pkt 0 1 == 0x30 then s.mgmtArrives r.val p.val pkt (announceOk pkt) fun t => t.takeAnnounce r.val p.val pkt else s)
  else .fault .malformed

/-- MEMBER_UNREACHABLE (R391): 1 ms without an announcement. -/
def execMemberUnreachable (m : MemberId) (s : State) : Host.Outcome State Fault Refusal :=
  .next { s with membership := { s.membership with
    reachable := s.membership.reachable.filter (· != m.toNat), seen := s.membership.seen.erase (· == m.toNat) } }

/-! ### The boundary (R392 to R394) -/

/-- Every member that this engine can reach, itself among them, ascending. -/
def State.component (s : State) : List Nat := (List.range 1024).filter fun m => m == s.self || s.membership.reachable.contains m
/-- The coordinator, as this engine sees it: the lowest (R391). -/
def State.coordinator (s : State) : Nat := s.component.headD s.self

/-- The payloads of a proposal (R373): the member bitmap, then up to 56 adjacency pairs a fragment. -/
def proposalParts (members : List Nat) (pairs : List (Nat × Nat)) : List Bytes :=
  let ps := pairs.map fun e => leBytes 4 (e.1 + e.2 * 2 ^ 16)
  leBytes 128 (maskOf members) :: (List.range (ceilDiv ps.length 56)).map fun i => fit 224 ((ps.drop (56 * i)).take 56).flatten

/-- Insert a pair in ascending order. -/
def insertLink (e : Nat × Nat) : List (Nat × Nat) → List (Nat × Nat)
  | [] => [e]
  | f :: t => if e.1 < f.1 ∨ (e.1 = f.1 ∧ e.2 ≤ f.2) then e :: f :: t else f :: insertLink e t

/-- The members and pairs that a proposal carries. -/
def Proposal.members (p : Proposal) : List Nat := (List.range 1024).filter (bitAt (leNat (p.parts.getD 0 [])))
def Proposal.pairs (p : Proposal) : List (Nat × Nat) :=
  ((p.parts.filter fun e => e.1 != 0).flatMap fun e => words e.2 4 56).filterMap fun w =>
    if w = 0 then none else some (w % 1024, bits w 25 16)
/-- Whether every fragment of a proposal has come and its CRC matches (R373). -/
def Proposal.whole (p : Proposal) : Bool :=
  p.frags != 0 && p.parts.length == p.frags && crc64 (p.parts.flatMap (·.2)) == p.crc

/-- An ACCEPT or HOLDING (R373). -/
def State.replyPacket (s : State) (kind : Nat) (p : Proposal) (flying : Nat) : Bytes :=
  build 32 [(0, 1, kind), (4, 2, s.self), (6, 2, p.coordinator), (8, 4, p.seq), (12, 4, s.membership.epoch), (16, 8, p.crc),
    (24, 2, if kind = 0x33 then flying else 0)]

/-- Whether a call of a set has been aborted: the set ends at the boundary that the abort asks for (R228). -/
def State.cutShort (s : State) (x : Run) : Bool := s.groups.any fun e => e.2.calls.any fun k => k.run == some x.cmd.seq && k.phase == 3

/-- Cross-member commands in flight (R392): sets that run or wait for their epoch, and calls whose packets may move; what a failure has
aborted is none of them, as it completes at the boundary (R228). -/
def State.flying (s : State) : Nat :=
  (s.runs.filter fun x => s.crosses x.cmd && !s.cutShort x).length +
  (s.groups.flatMap fun e => e.2.calls.filter fun k => k.run.isNone && (k.phase == 1 || k.phase == 2) && decide (1 < e.2.live.length)).length

/-! #### Installing an epoch (R393) -/

/-- The LANDING packet of a gateway region (R374). -/
def State.landingPacket (s : State) (r : Nat) : Bytes :=
  let cs := (List.range 16).filter fun c => (s.ctx c).state != 0 && recLanding (s.ctx c).record != 0
  let len := 32 + 32 * ceilDiv (8 * cs.length) 32
  fit len (build 32 [(0, 1, 0x35), (1, 1, len / 32 - 1), (2, 2, cs.length), (4, 2, s.self), (6, 1, r), (8, 4, s.membership.epoch)] ++
    cs.flatMap fun c => leBytes 4 c ++ leBytes 4 (recLanding (s.ctx c).record))

/-- COMMIT takes effect, in the order of R393; a context that waits for the boundary closes (R335). -/
def State.installEpoch (s : State) (epoch : Nat) (members : List Nat) (pairs : List (Nat × Nat)) : State :=
  let gws : Tab (Nat × Nat) := members.foldl (fun t m => if m = s.self then t else match s.portTo m with | none => t | some q => t.set m q) []
  let routes : Tab Nat := members.foldl (fun t m =>
    if m = s.self ∨ (gws.get? m).isSome then t else match nextHop pairs s.self m with | none => t | some n => t.set m n) []
  let s1 := { s with membership := { s.membership with
    epoch := epoch, members := members, phase := 0, proposal := none, accepts := [], holdings := [], adjacency := pairs, gateways := gws,
    routes := routes, credit := [] } }
  let s2 := gws.foldl (fun t e => t.queuePacket e.2.1 e.2.2 3 0 (s1.landingPacket e.2.1)) s1
  let s3 := (List.range 64).foldl (fun t g => t.groupBoundary g) s2
  let s4 := (List.range 16).foldl (fun t c => if (t.ctx c).closing then t.closeCtx c else t) s3
  ((s4.pend 0x54).bumpF pgMembership Fld.BOUNDARY_COUNT_COUNT 1).settleIdle

/-- The coordinator commits once every listed member has accepted: 1 above the largest epoch in any ACCEPT (R392). -/
def State.tryCommit (s : State) : State :=
  match s.membership.proposal with
  | none => s
  | some p =>
    let m := s.membership
    if p.coordinator = s.self ∧ p.whole ∧ p.members.all fun k => (m.accepts.get? k).isSome then
      let epoch := (m.accepts.map (·.2)).foldl max 0 + 1
      let pkt := build 32 [(0, 1, 0x34), (6, 2, s.self), (8, 4, p.seq), (12, 4, epoch), (16, 8, p.crc)]
      ((p.members.filter (· != s.self)).foldl (fun t k => t.sendWide k pkt) s).installEpoch epoch p.members p.pairs
    else s

/-- Nothing in flight crosses members: ACCEPT goes to the coordinator (R392). -/
def State.tryAccept (s : State) : State :=
  match s.membership.proposal with
  | none => s
  | some p =>
    if s.membership.phase ≠ 1 ∨ s.flying ≠ 0 then s
    else
      let s1 := { s with membership := { s.membership with phase := 2 } }
      if p.coordinator = s.self then
        { s1 with membership := { s1.membership with accepts := s1.membership.accepts.set s.self s.membership.epoch } }.tryCommit
      else s1.sendWide p.coordinator (s.replyPacket 0x32 p 0)

/-- The coordinator proposes a member list (R392); its own part is PROPOSED at once. -/
def State.proposeMembers (s : State) (members : List Nat) : State :=
  let m := s.membership
  let pairs := ((s.knownPairs.filter fun e => members.contains e.1 && members.contains e.2).foldr insertLink []).eraseDups
  let parts := proposalParts members pairs
  let base := (m.seen.map fun e => e.2.2.1).foldl max m.epoch
  let crc := crc64 parts.flatten
  let seq := (m.proposalSeq + 1) % 2 ^ 32
  let tab : Tab Bytes := (parts.zipIdx).map fun e => (e.2, e.1)
  let s1 := { s with membership := { m with
    phase := 1, proposal := some ⟨s.self, seq, base, parts.length, crc, tab⟩, requested := false, accepts := [], holdings := [], proposalSeq := seq } }
  let pkt (i : Nat) (b : Bytes) : Bytes :=
    build 32 [(0, 1, 0x31), (1, 1, (32 + b.length) / 32 - 1), (2, 2, i), (4, 2, parts.length), (6, 2, s.self), (8, 4, seq), (12, 4, base),
      (16, 8, crc)] ++ b
  let s2 := (members.filter (· != s.self)).foldl (fun t k => (parts.zipIdx).foldl (fun (t : State) e => t.sendWide k (pkt e.2 e.1)) t) s1
  s2.tryAccept

/-- BOUNDARY_START (R392): the coordinator starts a boundary where one was asked for or the reachable set has changed. -/
def execBoundaryStart (s : State) : Host.Outcome State Fault Refusal :=
  let m := s.membership
  .next (if m.phase == 0 && s.coordinator == s.self && s.getF pgMembership Fld.MEMB_STATE_DUP_ID == 0 &&
      (m.requested || s.component != m.members) then s.proposeMembers s.component else s)

/-- Whether the layout of a fragment holds: 128 bytes of bitmap, or up to 56 pairs. -/
def proposeOk (pkt : Bytes) : Bool :=
  decide (33 ≤ pkt.length ∧ pkt.length ≤ 256) && pkt.length % 32 == 0 && mgmtOk pkt pkt.length [(24, 8)] &&
  decide (field pkt 2 2 < field pkt 4 2) && (field pkt 2 2 != 0 || pkt.length == 160)

/-- A fragment of a proposal; of two coordinators the lower is followed (R373, R392, R394). An engine whose member ID another holds takes part
in none (R390). -/
def State.takePropose (s : State) (pkt : Bytes) : State :=
  let m := s.membership
  let c := field pkt 6 2 % 1024
  let seq := field pkt 8 4
  let crc := field pkt 16 8
  let part := pkt.drop 32
  let fresh : Proposal := ⟨c, seq, field pkt 12 4, field pkt 4 2, crc, [(field pkt 2 2, part)]⟩
  let next : Option Proposal := match m.proposal with
    | none => some fresh
    | some p =>
      if p.coordinator < c then none
      else if p.coordinator = c ∧ p.seq = seq ∧ p.crc = crc then some { p with parts := p.parts.set (field pkt 2 2) part }
      else if p.coordinator = c ∧ 2 ^ 31 ≤ (seq + 2 ^ 32 - p.seq) % 2 ^ 32 then none
      else some fresh
  match next with
  | none => s
  | some q =>
    if s.getF pgMembership Fld.MEMB_STATE_DUP_ID = 1 then s else
    let same := match m.proposal with | none => false | some p => p.coordinator == c && p.seq == seq && p.crc == crc
    let s1 := { s with membership := { m with proposal := some q, phase := if same then m.phase else 0 } }
    if q.whole && q.members.contains s.self && s1.membership.phase == 0 then
      { s1 with membership := { s1.membership with phase := 1, requested := false } }.tryAccept
    else s1

/-- PROPOSE (R392). -/
def execPropose (r : RegionId) (p : PortId) (pkt : Bytes) (s : State) : Host.Outcome State Fault Refusal :=
  if packetFits pkt then
    .next (if field pkt 0 1 == 0x31 then s.mgmtArrives r.val p.val pkt (proposeOk pkt) fun t => t.takePropose pkt else s)
  else .fault .malformed

/-- Whether a reply or COMMIT is of the proposal that stands here (R373). -/
def State.ofProposal (s : State) (pkt : Bytes) : Bool :=
  match s.membership.proposal with
  | none => false
  | some p => p.coordinator == field pkt 6 2 % 1024 && p.seq == field pkt 8 4 && p.crc == field pkt 16 8

/-- ACCEPT at the coordinator (R392). -/
def State.takeAccept (s : State) (pkt : Bytes) : State :=
  if s.ofProposal pkt && field pkt 6 2 % 1024 == s.self then
    { s with membership := { s.membership with accepts := s.membership.accepts.set (field pkt 4 2 % 1024) (field pkt 12 4) } }.tryCommit
  else s

/-- ACCEPT (R392). -/
def execAccept (r : RegionId) (p : PortId) (pkt : Bytes) (s : State) : Host.Outcome State Fault Refusal :=
  if packetFits pkt then
    .next (if field pkt 0 1 == 0x32 then s.mgmtArrives r.val p.val pkt (mgmtOk pkt 32 [(2, 2), (24, 8)]) fun t => t.takeAccept pkt else s)
  else .fault .malformed

/-- HOLDING at the coordinator (R392). -/
def State.takeHolding (s : State) (pkt : Bytes) : State :=
  if s.ofProposal pkt && field pkt 6 2 % 1024 == s.self then
    { s with membership := { s.membership with holdings := s.membership.holdings.set (field pkt 4 2 % 1024) (field pkt 24 2) } }
  else s

/-- HOLDING (R392). -/
def execHolding (r : RegionId) (p : PortId) (pkt : Bytes) (s : State) : Host.Outcome State Fault Refusal :=
  if packetFits pkt then
    .next (if field pkt 0 1 == 0x33 then s.mgmtArrives r.val p.val pkt (mgmtOk pkt 32 [(2, 2), (26, 6)]) fun t => t.takeHolding pkt else s)
  else .fault .malformed

/-- HOLDING_SEND (R392): a member that waits says so; one with nothing in flight any more accepts. -/
def execHoldingSend (s : State) : Host.Outcome State Fault Refusal :=
  .next (match s.membership.proposal with
    | none => s
    | some p =>
      if s.membership.phase ≠ 1 then s
      else if s.flying = 0 then s.tryAccept
      else if p.coordinator = s.self then s else s.sendWide p.coordinator (s.replyPacket 0x33 p s.flying))

/-- COMMIT (R393). -/
def State.takeCommit (s : State) (pkt : Bytes) : State :=
  match s.membership.proposal with
  | none => s
  | some p => if s.ofProposal pkt && s.membership.phase == 2 then s.installEpoch (field pkt 12 4) p.members p.pairs else s

/-- COMMIT (R393). -/
def execCommit (r : RegionId) (p : PortId) (pkt : Bytes) (s : State) : Host.Outcome State Fault Refusal :=
  if packetFits pkt then
    .next (if field pkt 0 1 == 0x34 then s.mgmtArrives r.val p.val pkt (mgmtOk pkt 32 [(2, 4), (24, 8)]) fun t => t.takeCommit pkt else s)
  else .fault .malformed

/-- MEMBERSHIP_WATCHDOG (R394): the coordinator drops a member that has not accepted and proposes again; a member without a COMMIT from
its coordinator returns to the old epoch. -/
def State.memberWatchdog (s : State) (m : Nat) : State :=
  match s.membership.proposal with
  | none => s
  | some p =>
    if s.membership.phase = 0 then s
    else if p.coordinator = s.self then
      if p.members.contains m && m != s.self && (s.membership.accepts.get? m).isNone then
        (s.contain pgMembership 1).proposeMembers (p.members.filter (· != m))
      else s
    else if m = p.coordinator ∧ s.membership.phase = 2 then
      let s1 := s.contain pgMembership 1
      { s1 with membership := { s1.membership with phase := 0, proposal := none } }
    else s

/-- MEMBERSHIP_WATCHDOG (R394). -/
def execMembershipWatchdog (m : MemberId) (s : State) : Host.Outcome State Fault Refusal := .next (s.memberWatchdog m.toNat)

/-! ### Link credit (R137, R374) -/

/-- Key of the credit toward a peer context. -/
def creditKey (member ctx : Nat) : Nat := 1024 * ctx + member

/-- LANDING: the credit toward each context named is the size of its ring. -/
def State.takeLanding (s : State) (pkt : Bytes) : State :=
  if field pkt 8 4 ≠ s.membership.epoch % 2 ^ 32 then s
  else
    let m := field pkt 4 2 % 1024
    { s with membership := { s.membership with credit := (List.range (field pkt 2 2)).foldl (fun t i =>
        let n := field pkt (36 + 8 * i) 4
        t.set (creditKey m (field pkt (32 + 8 * i) 4 % 16)) (n, n)) s.membership.credit } }

/-- LANDING (R374). -/
def execLanding (r : RegionId) (p : PortId) (pkt : Bytes) (s : State) : Host.Outcome State Fault Refusal :=
  if packetFits pkt then
    .next (if field pkt 0 1 == 0x35 then s.mgmtArrives r.val p.val pkt
      (decide (field pkt 2 2 ≤ 16) && mgmtOk pkt (32 + 32 * ceilDiv (8 * field pkt 2 2) 32) [(7, 1), (12, 20)]) fun t => t.takeLanding pkt else s)
  else .fault .malformed

/-- CREDIT_RETURN: credit comes back, never above the announced size. -/
def State.takeCredit (s : State) (pkt : Bytes) : State :=
  if field pkt 8 4 ≠ s.membership.epoch % 2 ^ 32 then s
  else
    let key := creditKey (field pkt 4 2 % 1024) (field pkt 6 1 % 16)
    { s with membership := { s.membership with
        credit := s.membership.credit.update key (0, 0) fun a => (min a.2 (a.1 + field pkt 12 4), a.2) } }

/-- CREDIT_RETURN (R374). -/
def execCreditReturn (r : RegionId) (p : PortId) (pkt : Bytes) (s : State) : Host.Outcome State Fault Refusal :=
  if packetFits pkt then
    .next (if field pkt 0 1 == 0x36 then s.mgmtArrives r.val p.val pkt (mgmtOk pkt 32 [(2, 2), (16, 16)]) fun t => t.takeCredit pkt else s)
  else .fault .malformed

end Sys2Proof.Machine
end

