-- ==== Sys2Proof/Machine/HandOver.lean ====
section
/-! DEFINITION. Sys2Proof/Machine/HandOver.lean: NET_MOVE (R141), the basin operations B_ALLOC, B_HAND, B_RELEASE and B_REFDEC (R142 to
R145, R279 to R284), and the expert-work queue (R144, R459). -/

namespace Sys2Proof.Machine

/-! ### NET_MOVE (R141) -/

/-- Local expert of a slot in region r: none where its copy resides elsewhere (R113, R141). -/
def localExpert (t : Bytes) (r w : Nat) : Option Nat :=
  if slExpert w < plE t ∧ slCopy w < plCopies t (slExpert w) ∧ residesAt t r w then some (cpLocal (slPlace t w)) else none

/-- The entries that a NET_MOVE takes: position and bytes, in position order. -/
def State.moveEntries (s : State) (x : Op) : List (Nat × Bytes) :=
  (x.takes.zipIdx).flatMap fun e =>
    let (off, _, _) := s.dirAt x x.o.desc e.2
    (List.range e.1.1).map fun i =>
      ((off - x.dirBytes) / max x.entryBytes 1 + i, s.getAt x x.o.desc (off + x.entryBytes * i) x.entryBytes)

/-- A NET_MOVE whose manifest is one that a SORT of the image wrote copies the weights of the entries that no operation has sent, since it
reads them first (R121). -/
def State.fillWeights (s : State) (x : Op) : State :=
  match x.findOp (fun o => o.cell 6) 1 x.o.desc with
  | none => s
  | some sort => (x.takes.zipIdx).foldl (fun s e => (s.takeEntries x sort.desc e.2 (x.already e.2) (e.1.1 - x.already e.2)).1) s

/-- A hand-over while it is being packed: the lists of each local expert, and the next slot ordinal. -/
structure Packing where
  handles : List (List Nat)
  sigma : List (List Nat)
  next : Nat
  deriving DecidableEq, Repr

/-- An entry's row basin is appended to the list of each local expert in its slots (R141, R150). -/
def Packing.add (p : Packing) (t : Bytes) (r : Nat) (e : Bytes) (h : Nat) : Packing :=
  let q := ((meSlotsOf e).zipIdx).foldl (fun (q : Packing) w =>
    match localExpert t r w.1 with
    | none => q
    | some l => { q with handles := q.handles.modify l (· ++ [h]), sigma := q.sigma.modify l (· ++ [p.next + w.2]) }) p
  { q with next := p.next + meSlots e }

/-- Allocate a basin of POOL 0 for each request of the list, with its count; none when the pool runs out, with the state that
keeps what was allocated (R141, R279). -/
def State.allocAll (s : State) (c r : Nat) : List (Nat × Nat) → State × Option (List Nat)
  | [] => (s, some [])
  | (q, n) :: t =>
    match s.allocBasin c 0 r q n false with
    | none => (s, none)
    | some (h, s1) => match s1.allocAll c r t with | (s2, hs) => (s2, hs.map (h :: ·))

/-- Whether the entries and the rows that a NET_MOVE reads lie in its tensors (R268). -/
def State.moveFits (s : State) (x : Op) : Bool :=
  decide (x.n = 0 ∨ x.dirBytes ≤ dsSpan (x.d 0)) && (s.moveEntries x).all fun e =>
    decide (x.dirBytes + x.entryBytes * (e.1 + 1) ≤ dsSpan (x.d 0)) && (s.tensorPlace x (x.o.desc + 1) 0 (up64 (rtRowBytes x.vRt)) e.1).isSome

/-- NET_MOVE. -/
def State.netMove (s : State) (x : Op) : State :=
  if !s.moveFits x then s.haltOp x stBoundsFault else
  let s := s.fillWeights x
  let t := x.vTable
  let N := plN t x.r
  let es := s.moveEntries x
  let rowBytes := rtRowBytes x.vRt
  let locals := es.flatMap fun e => (meSlotsOf e.2).map (localExpert t x.r)
  let counts := (List.range N).map fun l => (locals.filter fun v => v == some l).length
  if locals.any (·.isNone) then s.stopAtItem x 0 stRecordFault
  else if counts.any fun n => decide (capLane (x.g.image.cap x.o.cap) < n) then s.stopAtItem x 0 stCapacityFault
  else
    let lists := (counts.filter (· != 0)).map fun n => (4 * n, 1)
    match s.allocAll x.c x.r (lists ++ es.map fun e => (rowBytes, meSlots e.2)) with
    | (s1, none) => (s1.exhausted x.r).stopAtItem x 0 stBasinExhausted
    | (s1, some hs) =>
      let rows := hs.drop lists.length
      let listOf := (counts.foldl (fun (acc : List Nat × List Nat) n =>
        if n = 0 then (acc.1 ++ [0], acc.2) else (acc.1 ++ [acc.2.headD 0], acc.2.drop 1)) ([], hs)).1
      let p := (es.zip rows).foldl (fun (p : Packing) e => p.add t x.r e.1.2 e.2) ⟨List.replicate N [], List.replicate N [], 0⟩
      let w := x.cmd.windows
      let s2 := (es.zip rows).foldl (fun s e =>
        let row := ((s.tensorPlace x (x.o.desc + 1) 0 (up64 rowBytes) e.1.1).bind fun a => s.readCtx w x.r a rowBytes).getD (zeros rowBytes)
        (s.basinWrite w x.c e.2 0 row).getD s) s1
      let s3 := (listOf.zip p.handles).foldl (fun s e =>
        if e.1 = 0 then s else (s.basinWrite w x.c e.1 0 (e.2.flatMap (leBytes 4 ·))).getD s) s2
      let ho : HandOver := ⟨x.vRouter, listOf, counts, p.sigma, rowBytes, x.receivedPass x.o.desc, x.step, dsElem (x.d 1) - 1⟩
      (s3.modRR x.seq x.r fun g => { g with handOvers := g.handOvers.set (x.o.cnt + 1) ho }).runOp x x.n [(x.o.cnt + 1, counts)]

/-- NET_MOVE (R54, R141). -/
def execNetMove (run : W32) (r : RegionId) (s : State) : Host.Outcome State Fault Refusal :=
  .next (s.plateOp run r.val (isNet 1) State.netMove)

/-! ### B_ALLOC, B_RELEASE, B_REFDEC (R282, R283) -/

/-- Whether an operation is the basin slot's with an opcode. -/
def isBasin (op : Nat) (o : SlotOp) : Bool := o.slot == 8 && o.op == op

/-- Allocations from number k on, n of them, with the number of the one that failed. -/
def State.allocEach (s : State) (x : Op) : Nat → Nat → State × Option Nat
  | _, 0 => (s, none)
  | k, n + 1 =>
    match s.allocBasin x.c x.o.pool x.r (basinSize x.o.size) 1 false with
    | none => (s.exhausted x.r, some k)
    | some (h, s1) => ((s1.writeCtx x.cmd.windows x.r (dsAddr (x.d 0) k) (leBytes 4 h)).getD s1).allocEach x (k + 1) n

/-- B_ALLOC. -/
def State.bAlloc (s : State) (x : Op) : State :=
  if dsCount (x.d 0) < x.n then s.haltOp x stBoundsFault
  else match s.allocEach x 0 x.n with
    | (s1, none) => s1.runOp x x.n []
    | (s1, some k) => s1.stopAtItem x k stBasinExhausted

/-- B_ALLOC (R282). -/
def execBAlloc (run : W32) (r : RegionId) (s : State) : Host.Outcome State Fault Refusal :=
  .next (s.plateOp run r.val (isBasin 1) State.bAlloc)

/-- Handles one after another, each freed or decremented; the number of the one that is unusable (R283). -/
def State.freeEach (s : State) (x : Op) (whole : Bool) : Nat → List Nat → State × Option Nat
  | _, [] => (s, none)
  | k, h :: hs =>
    if handleUsable (s.ctx x.c) x.r h then
      (s.modCtx x.c fun c => if whole then freeBasin c h else decBasin c h).freeEach x whole (k + 1) hs
    else (s, some k)

/-- Handles 0 to n − 1 of the tensor at DESC. -/
def State.handlesOf (s : State) (x : Op) : List Nat :=
  (List.range x.n).map fun k => leNat ((s.readCtx x.cmd.windows x.r (dsAddr (x.d 0) k) 4).getD [])

/-- A free of the handles of a tensor. -/
def State.freeTensor (s : State) (x : Op) (whole : Bool) : State :=
  if dsCount (x.d 0) < x.n then s.haltOp x stBoundsFault
  else match s.freeEach x whole 0 (s.handlesOf x) with
    | (s1, none) => s1.runOp x x.n []
    | (s1, some k) => s1.stopAtItem x k stBoundsFault

/-- B_RELEASE (R283). -/
def execBRelease (run : W32) (r : RegionId) (s : State) : Host.Outcome State Fault Refusal :=
  .next (s.plateOp run r.val (isBasin 3) fun s x => s.freeTensor x true)

/-- The lists of a hand-over, in ascending local expert: every handle decremented, then the list basin released (R145). -/
def State.freeLists (s : State) (x : Op) : Nat → List (Nat × Nat) → State × Option Nat
  | _, [] => (s, none)
  | k, (list, n) :: t =>
    let hs := words ((s.basinRead x.cmd.windows x.c list 0 (4 * n)).getD []) 4 n
    match s.freeEach x false k hs with
    | (s1, some i) => (s1, some i)
    | (s1, none) => (if list = 0 then s1 else s1.modCtx x.c fun c => freeBasin c list).freeLists x (k + n) t

/-- B_REFDEC: the lists of a NET_MOVE, or the handles of a tensor. -/
def State.bRefdec (s : State) (x : Op) : State :=
  if x.g.image.handRelease x.o then
    match x.g.handOvers.get? x.o.cnt with
    | none => s.runOp x x.n []
    | some ho =>
      match s.freeLists x 0 (ho.listHandles.zip (x.takes.map (·.1))) with
      | (s1, none) => s1.runOp x x.n []
      | (s1, some k) => s1.stopAtItem x k stBoundsFault
  else s.freeTensor x false

/-- B_REFDEC (R145, R283). -/
def execBRefdec (run : W32) (r : RegionId) (s : State) : Host.Outcome State Fault Refusal :=
  .next (s.plateOp run r.val (isBasin 4) State.bRefdec)

/-! ### B_HAND and the expert-work queue (R142 to R144, R459) -/

/-- The expert and the copy that a local expert of region r is. -/
def localCopy (t : Bytes) (r l : Nat) : Nat × Nat :=
  ((List.range (plE t)).findSome? fun e => ((List.range (plCopies t e)).find? fun c =>
    let a := plCopy t e c
    cpMember a == plSelf t && cpRegion a == r && cpLocal a == l).map fun c => (e, c)).getD (0, 0)

/-- WORK_ID of a descriptor (R143). -/
def workId (seq : W32) (pass l : Nat) : Nat := seq.toNat % 2 ^ 21 * 2 ^ 11 + pass * 2 ^ 10 + l

/-- The expert work descriptor of local expert l (R143). -/
def State.descriptor (s : State) (x : Op) (ho : HandOver) (t : Bytes) (l : Nat) : BitVec 512 :=
  let n := ho.counts.getD l 0
  let (e, c) := localCopy t x.r l
  BitVec.ofNat 512
    (2 + flag (n == 0) * 2 ^ 12 + ho.pass * 2 ^ 13 + x.c * 2 ^ 14 + ho.router * 2 ^ 18 + l * 2 ^ 25 + c * 2 ^ 35 + e * 2 ^ 38 +
      ho.step * 2 ^ 48 +
     (n + ho.elemType % 16 * 2 ^ 24 + ho.rowBytes * 2 ^ 32) * 2 ^ 64 +
     ((if n = 0 then 0 else ho.listHandles.getD l 0) + workId x.seq ho.pass l * 2 ^ 32) * 2 ^ 128 +
     (s.membership.epoch % 2 ^ 32 + x.seq.toNat * 2 ^ 32) * 2 ^ 192)

/-- Entries of the expert-work queue (R144). -/
def workQueueSize : Nat := 2048

/-- HIGH_WATER follows the queue. -/
def State.highWater (s : State) (r : Nat) : State :=
  s.noteF (pgWork r) Fld.WP_QUEUE_HIGH_WATER (max (s.getF (pgWork r) Fld.WP_QUEUE_HIGH_WATER)
    (min (s.region r).workQueue.length workQueueSize))

/-- B_HAND: one descriptor per lane, one per tc; those that meet a full queue are held, and the region stalls until the licensee
takes one (R144). -/
def State.bHand (s : State) (x : Op) : State :=
  match x.g.handOvers.get? x.o.cnt with
  | none => s.runOp x 0 []
  | some ho =>
    let t := x.table ho.router
    let n := x.g.image.lanesOf x.o.cnt
    let ds := (List.range n).map (s.descriptor x ho t)
    let works : Tab Work := (List.range n).foldl (fun w l =>
      w.set (workId x.seq ho.pass l) ⟨x.o.cnt, l, ho.counts.getD l 0, x.t + 2 + l, 0, 0, []⟩) x.g.works
    let q := (s.region x.r).workQueue ++ ds
    let s1 := (s.modRR x.seq x.r fun g => { g with works := works }).modRegion x.r fun g => { g with workQueue := q }
    let s2 := s1.highWater x.r
    if q.length ≤ workQueueSize then s2.runOp x 0 []
    else
      ((s2.contain (pgWork x.r) 0).modRegion x.r fun g => { g with heldFrom := some s.time }).startOp x none []

/-- B_HAND (R142). -/
def execBHand (run : W32) (r : RegionId) (s : State) : Host.Outcome State Fault Refusal :=
  .next (s.plateOp run r.val (isBasin 2) State.bHand)

/-- The licensee takes the oldest descriptor (R443). Where a B_HAND holds one, the region has stalled for it: the held descriptor enters
the queue that late, and with the last one the operation comes to its end (R144, R459). -/
def State.descriptorTaken (s : State) (r : Nat) : State :=
  let g := s.region r
  if g.workQueue.isEmpty then s
  else
    let s1 := (s.modRegion r fun g => { g with workQueue := g.workQueue.drop 1 }).bumpF (pgWork r) Fld.WP_COUNT_DESCRIPTORS 1
    match g.heldFrom, s.runs.findSome? fun x => (x.regions.get? r).bind fun g => (g.waitingRecv 10).map fun b => (x, g, b) with
    | some t, some (x, gr, b) =>
      let held := g.workQueue.length - workQueueSize
      let o := gr.opOf b
      let n := gr.image.lanesOf o.cnt
      let plan (gr : RegionRun) : Nat :=
        (((gr.works.map (·.2)).find? fun w => w.reg == o.cnt && w.local_ == n - held).map (·.left)).getD (b.issue + 2)
      let s2 := (s1.stallFrom r (plan gr) (s.tcSince t) false).modRegion r fun g => { g with heldFrom := if held ≤ 1 then none else some s.time }
      if 1 < held then s2
      else s2.modRR x.cmd.seq r fun gr =>
        { gr with busy := gr.busy.map fun c => if c.unit == 10 then { c with ends := some (plan gr + 1) } else c }
    | _, _ => s1

/-- EW_DESCRIPTOR_TAKEN (R459). -/
def execEwDescriptorTaken (r : RegionId) (s : State) : Host.Outcome State Fault Refusal := .next (s.descriptorTaken r.val)

end Sys2Proof.Machine
end

