-- ==== Sys2Proof/Machine/Combine.lean ====
section
/-! DEFINITION. Sys2Proof/Machine/Combine.lean: COMBINE's modes TERM, PACKAGE and FINAL (R153 to R167) and expert-output tiles (R149 to
R152, R157, R457). -/

namespace Sys2Proof.Machine

/-! ### Parts and sums (R153) -/

/-- Insert a part by its lowest rank. -/
def insertPart (p : Nat × List Fp) : List (Nat × List Fp) → List (Nat × List Fp)
  | [] => [p]
  | q :: t => if p.1 ≤ q.1 then p :: q :: t else q :: insertPart p t

/-- The sum of parts in ascending lowest rank, from +0 (R153). -/
def sumParts (W : Nat) (ps : List (Nat × List Fp)) : List Fp :=
  (ps.foldr insertPart []).foldl (fun acc p => (acc.zip p.2).map fun e => fadd e.1 e.2) (List.replicate W Fp.zero)

/-- Lowest set bit of a mask. -/
def lowestRank (m : Nat) : Nat := ((List.range 16).find? (bitAt m)).getD 16

/-- W FP32 or BF16 elements of bytes. -/
def elems (t W : Nat) (bs : Bytes) : List Fp := (words bs (if t = 1 then 2 else 4) W).map (ofElem t)

/-- W of the operation's router. -/
def Op.W (x : Op) : Nat := combineW x.cmd.list x.o.router
/-- Element type of expert outputs: FP32 or BF16 (R149). -/
def Op.outType (x : Op) : Nat := if combineElem x.cmd.list x.o.router = 1 then 0 else 1
/-- RBy (R150). -/
def landRoom (list : Bytes) (ρ : Nat) : Nat := up64 (combineW list ρ * if combineElem list ρ = 1 then 4 else 2)

/-! ### TERM (R154, R156, R157) -/

/-- Whether an operation is a COMBINE of group g in a mode. -/
def isCombine (g : CellGroupId) (mode : Nat) (o : SlotOp) : Bool := isCellOp g 8 o && o.cMode == mode

/-- The region term of an entry whose first slot has ordinal σ (R154). -/
def State.regionTerm (s : State) (x : Op) (e : Bytes) (σ : Nat) : List Fp :=
  let room := landRoom x.cmd.list x.o.router
  let es := if x.outType = 0 then 4 else 2
  sumParts x.W ((meSlotsOf e).zipIdx.map fun w =>
    let y := elems x.outType x.W (s.getAt x (x.o.desc + 1) ((σ + w.2) * room) (x.W * es))
    (w.2, y.map fun v => fmul (ofF32 (slWeight w.1)) v))

/-- The terms of a TERM's entries are written at their positions (R156). -/
def State.writeTerms (s : State) (x : Op) : State :=
  ((s.moveEntries x).foldl (fun (acc : State × Nat) e =>
    let T := acc.1.regionTerm x e.2 acc.2
    (acc.1.putAt x (x.o.desc + 2) (e.1 * x.termRoom) (T.flatMap fun v => leBytes 4 (toF32 v)), acc.2 + meSlots e.2)) (s, 0)).1

/-- The descriptors of a TERM's hand-over. -/
def Op.worksOf (x : Op) : List Work :=
  match x.g.handOvers.get? (x.o.cnt + 1) with
  | none => []
  | some ho => (x.g.works.filter fun e => e.2.reg == x.o.cnt + 1 && bits e.1 10 10 == ho.pass).map (·.2)

/-- A TERM whose rows have all committed: it starts at max(t_issue, t_rel + 1) (R157). -/
def State.termEnd (s : State) (x : Op) : Option Nat :=
  let ws := x.worksOf.filter fun w => w.count != 0
  if x.o.cSrc = 1 then some (x.t + s.opTime x x.n)
  else if ws.all fun w => w.done.length == w.count then
    some ((ws.map fun w => s.rowRelease x.r w (w.count - 1) + 1).foldl max x.t + s.opTime x x.n)
  else none

/-- Whether a TERM's tensors hold what it reads and writes (R150, R268). -/
def State.termFits (s : State) (x : Op) : Bool :=
  let room := landRoom x.cmd.list x.o.router
  let cap := x.g.image.cap x.o.cap
  let ne := min (capTotal cap) (x.g.image.lanesOf x.o.cnt * capLane cap)
  let slots := rtK x.rt * ne
  let need := match (x.g.image.ops.find? fun e => e.2.isNetMove && e.2.cnt == x.o.cnt).map (·.2) with
    | none => slots
    | some m => min (plN (x.table x.o.router) x.r * capLane (x.g.image.cap m.cap)) slots
  let last := ((s.moveEntries x).map fun e => e.1 + 1).foldl max 0
  decide (room * need ≤ dsSpan (x.d 1)) && decide (x.termRoom * last ≤ dsSpan (x.d 2)) &&
  decide (last = 0 ∨ x.dirBytes + x.entryBytes * last ≤ dsSpan (x.d 0))

/-- TERM. -/
def State.combineTerm (s : State) (x : Op) : State :=
  if !s.termFits x then s.haltOp x stBoundsFault
  else match s.termEnd x with
    | some e => (s.writeTerms x).startOp x (some e) []
    | none => s.startOp x none []

/-- COMBINE, TERM (R155). -/
def execCombineTerm (run : W32) (r : RegionId) (g : CellGroupId) (s : State) : Host.Outcome State Fault Refusal :=
  .next (s.plateOp run r.val (isCombine g 0) State.combineTerm)

/-- The TERMs of a region's part that wait for rows go on when their rows are there. -/
def State.settleTerms (s : State) (seq : W32) (r : Nat) : State :=
  match s.run? seq with
  | none => s
  | some run =>
    match run.regions.get? r with
    | none => s
    | some g =>
      (g.busy.filter fun b => b.ends.isNone && (g.opOf b).isTerm).foldl (fun s b =>
        let x := RegionRun.asOp run r g b
        match s.termEnd x with
        | none => s
        | some e => (s.writeTerms x).modRR seq r fun g =>
            { g with busy := g.busy.map fun c => if c.unit == b.unit then { c with ends := some e } else c }) s

/-! ### PACKAGE (R154, R156) -/

/-- The entries of a link-received manifest, in position order. -/
def State.linkEntries (s : State) (x : Op) : List Bytes :=
  (List.range (plM x.vTable)).flatMap fun m =>
    let (off, count, _) := s.dirAt x x.o.desc (8 + m)
    (List.range count).map fun i => s.getAt x x.o.desc (off + x.entryBytes * i) x.entryBytes

/-- The package term of entry q: the region terms of its split, by their lowest ranks, rounded once to BF16 (R154). -/
def State.packageTerm (s : State) (x : Op) (es : List Bytes) (q : Nat) : List Fp :=
  let t := x.vTable
  let parts := s.live.filterMap fun g =>
    (splitEntry t g x.entryBytes (es.getD q [])).map fun e =>
      let i := ((es.take q).filter fun f => (splitEntry t g x.entryBytes f).isSome).length
      (lowestRank (meMask e), elems 0 x.W (s.getAt x (x.o.desc + 1) ((x.returnBase (x.o.desc + 1) g + i) * x.termRoom) (4 * x.W)))
  sumParts x.W parts

/-- Whether the entries of a lane lie in a manifest (R268). -/
def State.laneFits (s : State) (x : Op) (e lane : Nat) : Bool :=
  let (off, count, _) := s.dirAt x e lane
  count == 0 || decide (off + x.entryBytes * count ≤ dsSpan (descAt x.cmd.list e))

/-- Whether PACKAGE's entries, their region terms and its terms lie in its tensors (R268). -/
def State.packageFits (s : State) (x : Op) : Bool :=
  decide (x.dirBytes ≤ dsSpan (x.d 0)) && ((List.range (plM x.vTable)).all fun m => s.laneFits x x.o.desc (8 + m)) &&
  (let es := (s.linkEntries x).take x.n
   decide (es.length * x.packageRoom ≤ dsSpan (x.d 2)) && s.live.all fun g =>
     let n := (es.filter fun e => (splitEntry x.vTable g x.entryBytes e).isSome).length
     n == 0 || decide ((x.returnBase (x.o.desc + 1) g + n) * x.termRoom ≤ dsRoom (x.d 1)))

/-- PACKAGE. -/
def State.combinePackage (s : State) (x : Op) : State :=
  if x.n ≠ 0 ∧ !s.packageFits x then s.haltOp x stBoundsFault
  else
    let es := (s.linkEntries x).take x.n
    let s1 := (List.range es.length).foldl (fun s q =>
      s.putAt x (x.o.desc + 2) (q * x.packageRoom) ((s.packageTerm x es q).flatMap fun v => leBytes 2 (toBfWord v))) s
    s1.runOp x x.n []

/-- COMBINE, PACKAGE (R155). -/
def execCombinePackage (run : W32) (r : RegionId) (g : CellGroupId) (s : State) : Host.Outcome State Fault Refusal :=
  .next (s.plateOp run r.val (isCombine g 1) State.combinePackage)

/-! ### The FP8 epilogue (R163 to R165) -/

/-- Elements of a row in an output type, with the scale byte of an FP8 one. -/
def outBytes (t : Nat) (xs : List Fp) (c : Nat) : Bytes :=
  match t with
  | 0 => xs.flatMap fun v => leBytes 4 (toF32 v)
  | 1 => xs.flatMap fun v => leBytes 2 (toBfWord v)
  | _ => xs.flatMap fun v => leBytes 1 (toFp8 t (unscale v c))

/-- Address of element t of a scale or meter tensor, distributed or not (R163, R275). -/
def State.columnAddr (s : State) (x : Op) (i t : Nat) : Nat :=
  let d := x.d i
  if dsDistributed d then (rowAddr x.cmd s.self x.r (x.o.desc + i) t).getD 0 else dsAddr d t

/-- Whether a scale or meter tensor has an element of the region's own for each output row from lo to hi (R163, R268, R274). -/
def State.columnHolds (s : State) (x : Op) (i lo hi : Nat) : Bool :=
  let d := x.d i
  if dsDistributed d then
    decide (hi < dsRows d) && (List.range (hi + 1 - lo)).all fun k => (rowAddr x.cmd s.self x.r (x.o.desc + i) (lo + k)).isSome
  else decide (hi < dsCount d)

/-- Whether an output tensor has a row of the region's own for each token from lo to hi, and the tensors of scales and meters beside it an
element (R160, R182, R268, R274). -/
def State.outputHolds (s : State) (x : Op) (i : Nat) (columns : List Nat) (lo hi : Nat) : Bool :=
  let d := x.d i
  let b := dsTokenBase d
  decide (b ≤ lo) && decide (hi - b < dsRows d) &&
  (!dsDistributed d || (List.range (hi + 1 - lo)).all fun k => (rowAddr x.cmd s.self x.r (x.o.desc + i) (lo - b + k)).isSome) &&
  columns.all fun c => s.columnHolds x c (lo - b) (hi - b)

/-- The scale byte of a lagged row: from the meter and the margin, or LAG_INIT_SCALE where the meter is unset (R165). -/
def State.laggedScale (s : State) (x : Op) (fmt : Nat) (meter : Nat) : Nat :=
  let m := ofF32 meter
  if m.isNan || m.sign || m.isZero || !m.isFinite then min (s.getF (pgCombine x.r) Fld.TILE_CFG_LAG_INIT_SCALE) 0xFE
  else scaleByte fmt (fmul m (.fin false (8 + x.o.cMargin) (-3)))

/-- A finished row goes to output row t by the operation's epilogue: FINAL's entries stand at DESC + 5 to DESC + 7 (R160, R163 to
R165); it enters the digest (R244). -/
def State.writeFinal (s : State) (x : Op) (token t : Nat) (xs : List Fp) : State :=
  let ty := epilogueType x.o
  let w := x.cmd.windows
  let at_ := (rowAddr x.cmd s.self x.r (x.o.desc + 5) t).getD 0
  let maxX := maxFinite xs
  let meterAt := s.columnAddr x 7 t
  let c := match x.o.cEpilogue with
    | 2 => scaleByte ty maxX
    | 3 => s.laggedScale x ty (leNat ((s.readCtx w x.r meterAt 4).getD []))
    | _ => 0
  let bs := outBytes ty xs c
  let overruns_ := if x.o.cEpilogue = 3 then (xs.filter fun v => overruns ty v c).length else 0
  let s1 := s.scatterRow w x.r (x.d 5) at_ bs
  let s2 := if ty < 2 then s1 else (s1.writeCtx w x.r (s.columnAddr x 6 t) (leBytes 1 c)).getD s1
  let s3 := if x.o.cEpilogue = 3 then (s2.writeCtx w x.r meterAt (leBytes 4 (toF32 maxX))).getD s2 else s2
  let s4 := if overruns_ = 0 then s3 else (s3.bumpF (pgCombine x.r) Fld.OVERRUN_COUNT_COUNT overruns_).modRR x.seq x.r fun g =>
    { g with flags := setFlag g.flags flScaleOverrun }
  s4.modDigest x x.o.router fun d => { d with rows := d.rows.set token (bs ++ if ty < 2 then [] else leBytes 1 c) }

/-! ### FINAL (R160, R161) -/

/-- A cursor of FINAL: which pass and lane it walks, where its entries begin, how many are left. -/
structure Cursor where
  /-- Entry of the list: the manifest, and the return tensor behind it. -/
  manifest : Nat
  lane : Nat
  /-- Index of the next entry. -/
  next : Nat
  left : Nat
  deriving DecidableEq, Repr

/-- The cursors of FINAL: every lane of each pass it reads. -/
def State.cursors (s : State) (x : Op) : List Cursor :=
  ([x.o.desc + 1] ++ if x.o.cSpill = 1 then [x.o.desc + 3] else []).flatMap fun m =>
    (List.range (8 + plM x.vTable)).map fun l =>
      let (off, count, _) := s.dirAt x m l
      ⟨m, l, (off - x.dirBytes) / max x.entryBytes 1, count⟩

/-- The entry that a cursor stands on. -/
def State.under (s : State) (x : Op) (c : Cursor) : Bytes := s.getAt x c.manifest (x.dirBytes + x.entryBytes * c.next) x.entryBytes

/-- The value of the term that a cursor's entry stands for: FP32 from an own lane, BF16 from a member's (R154, R159). -/
def State.termOf (s : State) (x : Op) (c : Cursor) : List Fp :=
  let own := decide (c.lane < 8)
  let bf := !own
  let room := if own then x.termRoom else x.packageRoom
  elems (if bf then 1 else 0) x.W (s.getAt x (c.manifest + 1) (c.next * room) (x.W * if bf then 2 else 4))

/-- One record: the cursors after it and its combined row; none where a cursor stands on a lower TOKEN (R161). -/
def State.combineRecord (s : State) (x : Op) (cs : List Cursor) (token : Nat) : Option (List Cursor × List Fp) :=
  let seen := cs.map fun c => (c, if c.left = 0 then none else some (s.under x c))
  if seen.any fun e => match e.2 with | none => false | some b => decide (meToken b < token) then none
  else
    let here := seen.map fun e => match e.2 with | none => (e.1, none) | some b => (e.1, if meToken b = token then some b else none)
    let parts := here.filterMap fun e => e.2.map fun b => (lowestRank (meMask b), s.termOf x e.1)
    some (here.map fun e => if e.2.isSome then { e.1 with next := e.1.next + 1, left := e.1.left - 1 } else e.1, sumParts x.W parts)

/-- The rows of one batch: the cursors after it and each record's token with its row; none where the manifest does not match. -/
def State.combineBatch (s : State) (x : Op) (cs : List Cursor) : List Bytes → Option (List Cursor × List (Nat × List Fp))
  | [] => some (cs, [])
  | r :: rs =>
    if recValid r then
      match s.combineRecord x cs (recToken r) with
      | none => none
      | some (cs1, row) => (s.combineBatch x cs1 rs).map fun p => (p.1, (recToken r, row) :: p.2)
    else s.combineBatch x cs rs

/-- Batches from number i on, n of them; the number of the one that does not match its manifest. -/
def State.combineBatches (s : State) (x : Op) (cs : List Cursor) : Nat → Nat → State × Option Nat
  | _, 0 => (s, none)
  | i, n + 1 =>
    let rs := (List.range 128).map fun j => s.recordAt x x.o.desc (rtK x.rt) (128 * i + j)
    match s.combineBatch x cs rs with
    | none => (s, some i)
    | some (cs1, rows) =>
      let s1 := rows.foldl (fun (s : State) e => s.writeFinal x e.1 (e.1 - dsTokenBase (x.d 5)) e.2) s
      s1.combineBatches x cs1 (i + 1) n

/-- Whether FINAL's output takes its records, by the first and the last of them (R160). -/
def State.finalFits (s : State) (x : Op) : Bool :=
  let rs := ((List.range (128 * x.n)).map (s.recordAt x x.o.desc (rtK x.rt))).filter recValid
  match rs.map recToken with
  | [] => true
  | a :: l =>
    s.outputHolds x 5 ((if 2 ≤ x.o.cEpilogue then [6] else []) ++ if x.o.cEpilogue = 3 then [7] else []) (min a (l.getLastD a))
      (max a (l.getLastD a))

/-- Whether the entries that FINAL's cursors walk lie in their manifests, and the terms in the return tensors (R268). -/
def State.cursorsFit (s : State) (x : Op) : Bool :=
  (s.cursors x).all fun c =>
    decide (x.dirBytes ≤ dsSpan (descAt x.cmd.list c.manifest)) && (c.left == 0 ||
      (decide (x.dirBytes + x.entryBytes * (c.next + c.left) ≤ dsSpan (descAt x.cmd.list c.manifest)) &&
        decide ((c.next + c.left) * (if c.lane < 8 then x.termRoom else x.packageRoom) ≤ dsRoom (descAt x.cmd.list (c.manifest + 1)))))

/-- Items of a batch of FINAL (R156). -/
def Op.batchItems (x : Op) : Nat := if x.o.cEpilogue = 2 then rtK x.rt + 2 else rtK x.rt

/-- The cycle in which item i of a COMBINE begins (R475). -/
def State.combineItemAt (x : Op) (i : Nat) : Nat := x.t + 8 + i * ceilDiv x.W 16

/-- FINAL. -/
def State.combineFinal (s : State) (x : Op) : State :=
  if dsSpan (x.d 0) < recordSize (rtK x.rt) * (128 * x.n) ∨ !s.finalFits x ∨ (x.n ≠ 0 ∧ !s.cursorsFit x) then s.haltOp x stBoundsFault
  else match s.combineBatches x (s.cursors x) 0 x.n with
    | (s1, none) => s1.runOp x x.n []
    | (s1, some i) => s1.startOp x (some (State.combineItemAt x (i * x.batchItems))) [] (some stRecordFault)

/-- COMBINE, FINAL (R155). -/
def execCombineFinal (run : W32) (r : RegionId) (g : CellGroupId) (s : State) : Host.Outcome State Fault Refusal :=
  .next (s.plateOp run r.val (isCombine g 2) State.combineFinal)

/-! ### Expert-output tiles (R149 to R152, R457) -/

/-- A tile that R152 discards and whose tag names the running command. -/
def State.strayTile (s : State) (seq : W32) (r : Nat) : State :=
  ((s.bumpF (pgCombine r) Fld.STRAY_COUNT_COUNT 1).contain (pgCombine r) 1).modRR seq r fun g => { g with flags := setFlag g.flags flStrayTile }

/-- Row j of a tile lands at its slot ordinal and commits; beyond the landing tensor it is dropped (R150). -/
def State.landTileRow (s : State) (run : Run) (r wid entry room : Nat) (sigma : List Nat) (row0 j : Nat) (units : Bytes)
    (bad : List Nat) : State :=
  let d := descAt run.cmd.list entry
  let off := sigma.getD (row0 + j) 0 * room
  let bs := (units.drop (j * room)).take room
  if bs.length < room then s
  else if dsSpan d < off + room then s.bumpF (pgCombine r) Fld.STRAY_COUNT_COUNT 1
  else
    let s1 := (s.writeCtx run.cmd.windows r (dsBase d + off) bs).getD s
    let marks := (bad.filter fun u => decide (j * room ≤ 64 * u) && decide (64 * u < (j + 1) * room)).map (· - j * room / 64)
    let s2 := (s1.markBad run.cmd.windows r (dsBase d + off) marks).bumpF (pgTile r) Fld.TP_COUNT_OUT_ROWS 1
    s2.modRR run.cmd.seq r fun g => { g with works := g.works.map fun e => if e.1 = wid then (e.1, { e.2 with done := e.2.done ++ [row0 + j] }) else e }

/-- TILE_TIMEOUT (R151): the plate halts; a TERM that waits on the rows is its operation, else no operation raised it (R62). -/
def State.tileTimeout (s : State) (seq : W32) (r : Nat) : State :=
  match (s.run? seq).bind fun x => x.regions.get? r with
  | none => s
  | some g =>
    match s.tileDeadline r g with
    | none => s
    | some c =>
      let s1 := (s.reach r c).contain (pgCombine r) 0
      match g.busy.find? fun b => b.ends.isNone && (g.opOf b).isTerm with
      | some b => s1.stopOp seq r b (g.opOf b) stTileTimeout (max b.issue c)
      | none => s1.haltRegion seq r stTileTimeout c

/-- An expert-output tile (R149 to R152); one that comes when a row's timeout has passed finds the plate halted (R242). -/
def State.outputTile (s : State) (r tag : Nat) (units : Bytes) (par : TilePar) : State :=
  let wid := bits tag 63 32
  let row0 := bits tag 31 16
  let rows := bits tag 15 8 + 1
  match s.runs.find? fun x => x.started && x.cmd.seq.toNat % 2 ^ 21 == wid / 2 ^ 11 && (x.regions.get? r).isSome with
  | none => s.bumpF (pgCombine r) Fld.STRAY_COUNT_COUNT 1
  | some run =>
    let g := run.regions.get? r
    match (g.bind fun g => g.works.get? wid), (g.bind fun g => (g.works.get? wid).bind fun w => g.handOvers.get? w.reg) with
    | some w, some ho =>
      let list := run.cmd.list
      let entry := (combineEntry list ho.router).getD 0
      if (g.bind (s.tileDeadline r)).any fun c => decide (c < (s.region r).tc) then s.tileTimeout run.cmd.seq r
      else if w.count = 0 ∨ w.count < row0 + rows ∨ (List.range rows).any (fun j => w.done.contains (row0 + j)) ∨
          bits tag 7 4 ≠ combineElem list ho.router then s.strayTile run.cmd.seq r
      else
        let room := landRoom list ho.router
        let s1 := (List.range rows).foldl (fun (s : State) j =>
          s.landTileRow run r wid entry room (ho.sigma.getD w.local_ []) row0 j units par.badUnits) s
        (s1.modRegion r fun q => { q with beats := tileBeats q.beats units.length rows }).settleTerms run.cmd.seq r
    | _, _ => s.strayTile run.cmd.seq r

/-- EXPERT_OUTPUT_TILE (R457): a tag with bad parity or of KIND 2 to 15 discards the tile. -/
def execExpertOutputTile (r : RegionId) (tag : W64) (units : Bytes) (par : TilePar) (s : State) : Host.Outcome State Fault Refusal :=
  if tileFits units then
    .next (if !s.live.contains r.val then s
      else if par.tagBad || decide (2 ≤ tag.toNat % 16) then s.badTag r.val
      else if tag.toNat % 16 = 0 then s.outputTile r.val tag.toNat units par
      else s)
  else .fault .malformed

/-- TILE_TIMEOUT (R151). -/
def execTileTimeout (run : W32) (r : RegionId) (s : State) : Host.Outcome State Fault Refusal := .next (s.tileTimeout run r.val)

end Sys2Proof.Machine
end

