-- ==== Sys2Proof/Machine/Reprint.lean ====
section
/-! DEFINITION. Sys2Proof/Machine/Reprint.lean: DELTA in both modes (R169 to R189): the test that lets a token skip a router, and the
prints. -/

namespace Sys2Proof.Machine

/-! ### Prints (R172, R173) -/

/-- A print's ledger, 64 bits, with its fields. -/
def lgStep (l : Nat) : Nat := bits l 63 48
def lgAge (l : Nat) : Nat := bits l 47 40
def lgLiveN (l : Nat) : Nat := bits l 39 35
def lgValid (l : Nat) : Bool := bitAt l 34
def lgRouter (l : Nat) : Nat := bits l 33 27
def lgPosition (l : Nat) : Nat := bits l 23 0

/-- Expert i of a print's CACHED list. -/
def cachedExpert (p : Bytes) (i : Nat) : Nat := bits (field p 8 20) (10 * i + 9) (10 * i)

/-- The experts that a print has cached. -/
def cachedExperts (p : Bytes) : List Nat := (List.range (lgLiveN (field p 0 8))).map (cachedExpert p)

/-- H values of a print from elements at offset off with scales behind them (R173). -/
def mxValues (p : Bytes) (off H : Nat) : List Fp :=
  (List.range H).map fun h => mxValue (field p (off + H + h / 32) 1) (field p (off + h) 1)

/-- Elements and then scales of H values (R173). -/
def mxBytes (xs : List Fp) : Bytes :=
  let bs := (List.range (xs.length / 32)).map fun b => mxBlock ((xs.drop (32 * b)).take 32)
  (bs.flatMap fun b => b.2.flatMap fun q => leBytes 1 q) ++ bs.flatMap fun b => leBytes 1 b.1

/-- Where the negative of a print begins. -/
def negOff (H : Nat) : Nat := 64 + 33 * H / 32

/-! ### TEST (R176 to R179) -/

/-- Whether an operation is a DELTA of group g in mode m. -/
def isDelta (g : CellGroupId) (m : Nat) (o : SlotOp) : Bool := isCellOp g 3 o && bits o.imm 1 0 == m

/-- The threshold of a slot in a step (R171). -/
def Op.threshold (x : Op) (sl : SeqSlot) : Fp :=
  let i := min ((x.step + 2 ^ 16 - sl.joinStep) % 2 ^ 16) 63
  ofF32 (((x.run.schedules.getD sl.schedule []).getD i 0).toNat)

/-- num and den of a token's input against its reference (R177). -/
def deltaOf (xs rs : List Fp) : Fp × Fp :=
  (sum16 ((xs.zip rs).map fun p => let d := fsub p.1 p.2; fmul d d), sum16 (rs.map fun r => fmul r r))

/-- What the test finds of a loaded token with a print: it skips, it was refused by AGE alone, its ledger names another place (R178). -/
structure SkipTest where
  skips : Bool
  aged : Bool
  mismatch : Bool
  deriving DecidableEq, Repr

/-- The decision of R178 on a print. -/
def Op.verdict (x : Op) (sl : SeqSlot) (pos : Nat) (p : Bytes) (xs : List Fp) : SkipTest :=
  let l := field p 0 8
  let here := lgRouter l == x.o.router && lgPosition l == pos
  let chained := lgValid l && here && lgStep l == (x.step + 2 ^ 16 - 1) % 2 ^ 16
  let young := decide (lgAge l < sl.maxAge)
  let nd := deltaOf xs (mxValues p 64 (rtH x.rt))
  let close := nd.1.lt (fmul (x.threshold sl) nd.2) && !(nd.2 == Fp.zero)
  { skips := chained && young && (bitAt sl.layerSkip.toNat x.o.router || close),
    aged := chained && !young, mismatch := lgValid l && !here }

/-- The ledger that TEST leaves (R179). -/
def Op.testedLedger (x : Op) (pos l : Nat) (skips : Bool) : Nat :=
  let l1 := putBits (putBits (putBits l 63 48 x.step) 33 27 x.o.router) 23 0 pos
  if skips then putBits l1 47 40 (lgAge l + 1) else l1

/-- Row k of the row tensor, widened to FP32 (R177). -/
def State.widened (s : State) (x : Op) (k : Nat) : List Fp :=
  let xs := rowElems (dsElem (x.d 0)) ((s.rowRead x.cmd x.r x.o.desc k).getD [])
  if dsElem (x.d 0) = 1 then xs else xs.map fun q => fmul q (dsScaleOf (x.d 0))

/-- Token k of the load: its print is tested and renewed; whether it skips, with the experts that its print has cached. -/
def State.testToken (s : State) (x : Op) (k token : Nat) : State × Option (List Nat) :=
  match x.run.printSlot x.o.router token with
  | none => (s, none)
  | some (sl, pos) =>
    let ps := rtPrintBytes x.rt
    let p := s.getAt x (x.o.desc + 1) (k * ps) ps
    let xs := s.widened x k
    let v := x.verdict sl pos p xs
    let s1 := s.putAt x (x.o.desc + 1) (k * ps) (leBytes 8 (x.testedLedger pos (field p 0 8) v.skips))
    let s2 := s1.putAt x (x.o.desc + 1) (k * ps + 64) (mxBytes xs)
    let s3 := s2.bumpF (pgReprint x.r) Fld.REJECT_COUNT_AGED (flag v.aged)
    let s4 := (s3.bumpF (pgReprint x.r) Fld.REJECT_COUNT_MISMATCH (flag v.mismatch)).bumpF (pgReprint x.r) Fld.SKIP_COUNT_COUNT (flag v.skips)
    (s4, if v.skips then some (cachedExperts p) else none)

/-- All loaded tokens are tested, in ascending position. -/
def State.testTokens (s : State) (x : Op) : Nat → List Nat → State × List (Option (List Nat))
  | _, [] => (s, [])
  | k, t :: ts =>
    let a := s.testToken x k t
    let b := a.1.testTokens x (k + 1) ts
    (b.1, a.2 :: b.2)

/-- The rows that stay move to the front, with their token indices (R179). -/
def State.compactRows (s : State) (x : Op) (keep : List (Nat × Nat)) : State :=
  let rows := keep.map fun e => (s.rowRead x.cmd x.r x.o.desc e.1).getD []
  ((keep.zip rows).zipIdx).foldl (fun (s : State) e =>
    ((s.rowWrite x.cmd x.r x.o.desc e.2 e.1.2).getD s).setRowToken x.cmd x.r x.o.desc e.2 e.1.1.2) s

/-- TILE_ROWS of a TEST. -/
def SlotOp.tileRows (o : SlotOp) : Nat := match bits o.imm 3 2 with | 0 => 128 | 1 => 64 | _ => 32

/-- DELTA in mode TEST (R176 to R180). -/
def State.deltaTest (s : State) (x : Op) : State :=
  if dsSpan (x.d 2) < 16 * x.n ∨ dsSpan (x.d 1) < 128 * x.n * rtPrintBytes x.rt then s.haltOp x stBoundsFault
  else
    let base := x.key x.o.desc
    let tokens := (s.columnTokens x x.o.desc (128 * x.n)).filterMap id
    let (s1, found) := s.testTokens x 0 tokens
    let skips := found.map Option.isSome
    let keep := (tokens.zipIdx.filter fun e => !skips.getD e.2 false).map fun e => (e.2, e.1)
    let map := maskOf ((List.range tokens.length).filter fun k => skips.getD k false)
    let s2 := (s1.putAt x (x.o.desc + 2) 0 (leBytes (16 * x.n) map)).compactRows x keep
    let s3 := s2.modRR x.seq x.r fun g =>
      { g with valid := g.valid.set base keep.length, loadedTokens := g.loadedTokens.set base tokens, skipped := g.skipped + (tokens.length - keep.length) }
    let cached := found.flatMap fun e => e.getD []
    let ghost := if x.o.dGhost then
        [(x.o.dst + 1, (List.range (rtE x.rt)).map fun e => ((cached.filter fun c => c == e).length) % 2 ^ 24)] else []
    s3.runOp x x.n ([(x.o.dst, x.g.withLane x.o.dst 0 (ceilDiv keep.length x.o.tileRows))] ++ ghost)

/-- DELTA_TEST (R176). -/
def execDeltaTest (run : W32) (r : RegionId) (g : CellGroupId) (s : State) : Host.Outcome State Fault Refusal :=
  .next (s.plateOp run r.val (isDelta g 0) State.deltaTest)

/-! ### PRINT (R181, R182) -/

/-- The tokens that a PRINT walks: those of the rows that the latest TEST of its print buffer found (R183). -/
def Op.printed (x : Op) : List Nat :=
  match (x.g.image.ops.filter fun e =>
      decide (e.1 ≤ x.g.bundle) && e.2.isTest && e.2.router == x.o.router && x.same (e.2.desc + 1) x.o.desc).getLast? with
  | none => []
  | some t => (x.g.loadedTokens.getD (x.key t.2.desc) []).take (128 * x.n)

/-- Address of the output row of a token. -/
def State.outputAt (s : State) (x : Op) (token : Nat) : Nat :=
  (rowAddr x.cmd s.self x.r (x.o.desc + 3) (token - dsTokenBase (x.d 3))).getD 0

/-- The output row of a token, widened to FP32 (R181). -/
def State.outputRow (s : State) (x : Op) (token : Nat) : List Fp :=
  let ty := x.o.dOutForm
  let es := if ty = 0 then 4 else if ty = 1 then 2 else 1
  let xs := (words (s.gatherRow x.cmd.windows x.r (x.d 3) (s.outputAt x token)) es (rtH x.rt)).map (ofElem ty)
  if ty < 2 then xs
  else
    let c := leNat ((s.readCtx x.cmd.windows x.r (s.columnAddr x 4 (token - dsTokenBase (x.d 3))) 1).getD [])
    xs.map fun v => match v with | .fin n m e => finish32 n m (e + ((c : Int) - 127)) | w => w

/-- A computed token with a print: its output row becomes the negative, its live experts the cached list (R181). -/
def State.printToken (s : State) (x : Op) (k token : Nat) (record : Bytes) : State :=
  match x.run.printSlot x.o.router token with
  | none => s
  | some _ =>
    let ps := rtPrintBytes x.rt
    let l := leNat (s.getAt x x.o.desc (k * ps) 8)
    let es := (((List.range (rtK x.rt)).map (recEntry record)).filter enLive).map enExpert
    let cached := (es.zipIdx).foldl (fun acc e => acc + e.1 * 2 ^ (10 * e.2)) 0
    let s1 := s.putAt x x.o.desc (k * ps) (leBytes 8 (putBits (putBits (putBits l 47 40 0) 39 35 es.length) 34 34 1) ++ leBytes 20 cached)
    s1.putAt x x.o.desc (k * ps + negOff (rtH x.rt)) (mxBytes (s.outputRow x token))

/-- A skipped token: its output row is written from its negative (R182) and enters the digest (R185). -/
def State.reprintToken (s : State) (x : Op) (k token : Nat) : State :=
  let ps := rtPrintBytes x.rt
  let H := rtH x.rt
  let ty := x.o.dOutForm
  let xs := mxValues (s.getAt x x.o.desc (k * ps) ps) (negOff H) H
  let c := if ty < 2 then 0 else scaleByte ty (maxFinite xs)
  let bs := outBytes ty xs c
  let s1 := s.scatterRow x.cmd.windows x.r (x.d 3) (s.outputAt x token) bs
  let s2 := if ty < 2 then s1
    else (s1.writeCtx x.cmd.windows x.r (s.columnAddr x 4 (token - dsTokenBase (x.d 3))) (leBytes 1 c)).getD s1
  s2.modDigest x x.o.router fun d => { d with rows := d.rows.set token (bs ++ if ty < 2 then [] else leBytes 1 c) }

/-- The loaded positions in ascending order; i is the next record of the records tensor. -/
def State.printTokens (s : State) (x : Op) : Nat → Nat → List Nat → State
  | _, _, [] => s
  | k, i, t :: ts =>
    if bitAt (leNat (s.getAt x (x.o.desc + 1) (k / 8) 1)) (k % 8) then (s.reprintToken x k t).printTokens x (k + 1) i ts
    else (s.printToken x k t (s.recordAt x (x.o.desc + 2) (rtK x.rt) i)).printTokens x (k + 1) (i + 1) ts

/-- Whether the first and the last loaded token lie in the output tensor (R182), and what PRINT reads in the print buffer, the skip map
and the records tensor (R268). -/
def State.printFits (s : State) (x : Op) (tokens : List Nat) : Bool :=
  let n := tokens.length
  let skipped (k : Nat) : Bool := bitAt (leNat (s.getAt x (x.o.desc + 1) (k / 8) 1)) (k % 8)
  decide (n * rtPrintBytes x.rt ≤ dsSpan (x.d 0)) && decide (ceilDiv n 8 ≤ dsSpan (x.d 1)) &&
  decide (((List.range n).filter fun k => !skipped k).length * recordSize (rtK x.rt) ≤ dsSpan (x.d 2)) &&
  match tokens with
  | [] => true
  | a :: l => s.outputHolds x 3 (if 2 ≤ x.o.dOutForm then [4] else []) (min a (l.getLastD a)) (max a (l.getLastD a))

/-- DELTA in mode PRINT (R181, R182). -/
def State.deltaPrint (s : State) (x : Op) : State :=
  let tokens := x.printed
  if !s.printFits x tokens then s.haltOp x stBoundsFault
  else (s.printTokens x 0 0 tokens).runOp x x.n []

/-- DELTA_PRINT (R176). -/
def execDeltaPrint (run : W32) (r : RegionId) (g : CellGroupId) (s : State) : Host.Outcome State Fault Refusal :=
  .next (s.plateOp run r.val (isDelta g 1) State.deltaPrint)

/-! ### QUANT (R53) -/

/-- QUANT (R53): it runs for its batches. The manual names neither its format nor its scales, so what stands afterwards in the n × 128
rows of width W of the tensor at DESC is free, but equal for equal inputs (R232; log 7). -/
def State.quant (s : State) (x : Op) : State :=
  let t := dsElem (x.d 0)
  let len := min (dsSpan (x.d 0)) (128 * x.n * x.W * elemBytes t)
  let old := s.getAt x x.o.desc 0 len
  (s.putAt x x.o.desc 0 ((List.range len).map (Config.quantByte old t x.W))).runOp x x.n []

/-- QUANT (R53). -/
def execQuant (run : W32) (r : RegionId) (g : CellGroupId) (s : State) : Host.Outcome State Fault Refusal :=
  .next (s.plateOp run r.val (isCellOp g 9) State.quant)

end Sys2Proof.Machine
end

