-- ==== Sys2Proof/Machine/Resets.lean ====
section
/-! DEFINITION. Sys2Proof/Machine/Resets.lean: engine and region resets (R409 to R416), fencing, self-test results (R90, R91,
R403, R406) and the saved-settings record (R401, R402). -/

namespace Sys2Proof.Machine

/-! ### Engine reset -/

/-- A region after an engine reset: nothing is kept but the wrapper, which no reset of R410 resets (R467). -/
def Region.cold (g : Region) : Region := { Region.reset with wrapper := g.wrapper }

/-- The parameters of a region's regulator buckets stay in force over its own reset, and every bucket is full again (R309, R320). -/
def Region.regulators (g : Region) : Region :=
  { g with buckets := g.rates.map fun e => (e.1, bits e.2.toNat 39 20 * 65536) }

/-- Every region as an engine reset leaves it. -/
def State.coldRegions (s : State) : State := { s with regions := s.regions.map fun e => (e.1, e.2.cold) }

/-- Everything outside the regions as an engine reset leaves it. -/
def State.blank (s : State) : State :=
  { State.reset with
    stepping := s.stepping, strap := s.strap, fabric := s.fabric, freeCtr := s.freeCtr, pending := s.pending, regions := s.regions,
    power := { s.power with safelight := false, switch := none, holdRunning := false } }

/-- Everything that the engine holds is lost (R410). What lies outside stays: the silicon, the host's memory, the supply and thermal
inputs, a hold of R421, and the commands that wait. A region whose wrapper is still in a test instruction stays out of function
(R468). -/
def State.cleared (s : State) : State :=
  s.regions.foldl (fun t e =>
    if s.getF (pgTest e.1) Fld.WRAPPER_STATE_FUNCTIONAL == 0 && e.2.wrapper.wir != 0 then
      t.setF (pgTest e.1) Fld.WRAPPER_STATE_FUNCTIONAL 0 else t) s.coldRegions.blank

/-- An engine reset (R410, R450): the ROM step begins in every region, unless a power hold holds the reset (R421). -/
def State.engineReset (s : State) : State := if s.power.held then s.cleared else s.cleared.setBringState 1

/-- RESET_N (R450). -/
def execResetN (s : State) : Host.Outcome State Fault Refusal := .next s.engineReset

/-- ENGINE_RESET (R410): a write of BRINGUP_CTL.ENGINE_RESET. -/
def execEngineReset (s : State) : Host.Outcome State Fault Refusal := .next (s.whereAnswers pgBringup State.engineReset)

/-! ### The records (R398 to R401) -/

/-- Fabric address of the record area (R398). -/
def State.recordBase (s : State) : Nat := s.getF pgBringup Fld.BRINGUP_CTL_RECORD_BASE * 0x10000

/-- NEXT_EDGE of region a toward d in a record. -/
def topoNext (t : Bytes) (a d : Nat) : Nat := field t (0x40 + 128 * a + 0xC + d) 1
/-- Whether the path that a record describes from a to d reaches d within so many edges. -/
def topoReaches (t : Bytes) (d : Nat) : Nat → Nat → Bool
  | 0, a => a == d
  | fuel + 1, a =>
    if a = d then true
    else
      let e := topoNext t a d
      let b := field t (0x40 + 128 * a + 8 + e) 1
      decide (e ≤ 3) && bitAt b 3 && topoReaches t d fuel (b % 8)

/-- The grade record is valid (R399). -/
def gradeOk (g : Bytes) : Bool := crc64 (g.drop 8) == field g 0 8 && decide (field g 0x10 1 ≤ 2)

/-- The topology record is valid beside the grade record: CRC, UID, and every path it describes reaches its end in at most three edges
(R399, R400). -/
def topoOk (g t : Bytes) : Bool :=
  crc64 (t.drop 8) == field t 0 8 && field t 8 8 == field g 8 8 &&
  (topoPlaced t).all fun a => (List.range 8).all fun d => topoNext t a d == 0xFF || (a != d && topoReaches t d 3 a)

/-- LENGTH of a saved-settings slot (R401). -/
def savedLength : Nat := 16448

/-- A saved-settings slot is valid for an engine with these records (R401). -/
def State.slotOk (s : State) (g t b : Bytes) : Bool :=
  field b 0x1C 4 == savedLength && crc64 ((b.take savedLength).drop 8) == field b 0 8 && field b 0x10 8 == field g 8 8 &&
  field b 0x18 1 == s.stepping.toNat && field b 0x19 1 == field g 0x10 1 && field b 0x1A 1 == field t 0x12 1

/-- The slot in use (R401): the valid one with the higher GENERATION, A when equal; none when neither is valid. -/
def State.pickSlot (s : State) (g t : Bytes) : Nat × Bytes :=
  let a := s.fabric.read (s.recordBase + 0x1000) savedLength
  let b := s.fabric.read (s.recordBase + 0x8000) savedLength
  match s.slotOk g t a, s.slotOk g t b with
  | false, false => (0, [])
  | true, false => (1, a)
  | false, true => (2, b)
  | true, true => if field a 8 8 < field b 8 8 then (2, b) else (1, a)

/-- The grade and topology records at RECORD_BASE. -/
def State.readRecords (s : State) : Bytes × Bytes := (s.fabric.read s.recordBase 64, s.fabric.read (s.recordBase + 0x40) 1088)

/-- A field of region r's block of the saved record in use (R401). -/
def State.saved (s : State) (r off n : Nat) : Nat := field s.bringUp.saved (0x40 + 2048 * r + off) n
/-- A saved record is in use: a fast start. -/
def State.fast (s : State) : Bool := s.bringUp.slot != 0

/-- The saved slot is chosen, and with it the budgets and the fenced clusters that it carries. -/
def State.takeSlot (s : State) (g t : Bytes) : State :=
  let (n, b) := s.pickSlot g t
  let s1 := { s with bringUp := { s.bringUp with slot := n, saved := b, generation := field b 8 8 } }
  s1.setF pgBringup Fld.BRINGUP_STATE_SAVED_SLOT n

/-- What a fast start takes over from region r's saved block: budgets and fenced clusters. -/
def State.takeSaved (s : State) (r : Nat) : State :=
  if !s.fast then s
  else { s with bringUp := { s.bringUp with
    latMem := s.bringUp.latMem.set r (s.saved r 0 2),
    latEdge := (List.range 4).foldl (fun t e => t.set (4 * r + e) (s.saved r (2 + 2 * e) 2)) s.bringUp.latEdge,
    fencedRt := s.bringUp.fencedRt.set r (s.saved r 0x12 2) } }

/-- The registers of region r whose reset value comes from the topology record or from the saved settings (R93, R395, R396, R438,
R442). -/
def State.loadDeclared (s : State) (r : Nat) : State :=
  let fl := s.topo r 0 1
  let s1 := (((((s.setF (pgArray r) Fld.EXT_CFG_EXT_PRESENT (bits fl 0 0)).setF (pgArray r) Fld.EXT_CFG_EXT_NONDET (bits fl 1 1)).setF
    (pgTile r) Fld.TP_BUDGET_LAT_EXT (s.latExt r)).setF (pgTile r) Fld.TP_BUDGET_EXP_ROW (s.expRow r)).setF
    (pgTile r) Fld.TP_BUDGET_EXP_BASE (s.expBase r)).setF (pgRegion r) Fld.LAT_MEM (s.latMem r)
  (List.range 4).foldl (fun t p =>
    (t.setF (pgLink r p) Fld.LINK_STATE_MIN_WIDTH (s.minWidth r p)).setF (pgEdge r p) Fld.EDGE_CFG_LAT_EDGE (s.latEdge r p)) s1

/-- Lane settings and link budgets of region r from the saved record (R380, R401). -/
def State.loadLanes (s : State) (r : Nat) : State :=
  if !s.fast then s
  else (List.range 4).foldl (fun t p =>
    (List.range 4).foldl (fun t l => t.setReg (pgLink r p + 0x100 + 8 * l) (s.saved r (0x20 + 8 * (4 * p + l)) 8))
      (t.setF (pgLink r p) Fld.LINK_CFG_LINK_PAD (s.saved r (0xA + 2 * p) 2))) s

/-! ### Self-test (R90, R91, R403, R406) -/

/-- Cell resets that a wider action of the cluster or the region overrides are abandoned, and the cluster records it (R24, R413). -/
def State.abandonCells (s : State) (r c : Nat) : State :=
  if (s.cluster r c).resetting.isEmpty then s else s.contain (pgCluster r c) 6

/-- Cluster resets that a reset of their region overrides are abandoned, and the region records it once (R24, R413). -/
def State.abandonClusters (s : State) (r : Nat) : State :=
  let s1 := (List.range 16).foldl (fun s c => s.abandonCells r c) s
  if (List.range 16).any fun c => (s.cluster r c).state == 1 then s1.contain (pgRegion r) 9 else s1

/-- The state with a cluster fenced. -/
def State.fenceOne (s : State) (r c : Nat) : State :=
  (s.abandonCells r c).modCluster r c fun u => { u with state := 2, resetting := [], mapping := none }

/-- LAT_mem of region r after a measurement (R402). -/
def State.measureMem (s : State) (r measured : Nat) : State :=
  let lat := if s.fast then min 1024 (max (s.latMem r) measured) else declaredBudget 256 1024 measured
  { s with bringUp := { s.bringUp with latMem := s.bringUp.latMem.set r lat } }

/-- The Memory step of region r: slices beyond repair fence their clusters, rows repaired are counted, the read latency is measured. -/
def State.memoryTest (s : State) (r : Nat) (t : RegionTest) : State :=
  let s1 := (setIndices t.badSlices.toNat 16).foldl (fun s c => s.fenceOne r c) s
  (s1.measureMem r t.latMem.toNat).setF (pgBringup + 8 * r) Fld.REGION_HEALTH_STORE_REPAIRS t.repairs.toNat

/-- Failed columns, ascending. -/
def failedColumns (t : RegionTest) : List Nat := (List.range 258).filter fun c => t.badColumns.any fun b => b.toNat == c

/-- WIDTH and HALF of the array, and the columns it bypasses (R90, R91). What SPARES_USED and BYPASS show of a degraded array the rules do
not say: at WIDTH 1 the failed column of the half that works, at WIDTH 2 none (log 117). -/
def columnsOf (bad : List Nat) : Nat × Nat × List Nat :=
  let a := bad.filter fun c => decide (c ≤ 128)
  let b := bad.filter fun c => decide (129 ≤ c)
  if bad.length ≤ 2 then (0, 0, bad)
  else if a.length ≤ 1 then (1, 0, a)
  else if b.length ≤ 1 then (1, 1, b)
  else (2, 0, [])

/-- The columns of region r's array as the test leaves them (R90 to R93). -/
def State.columnTest (s : State) (r : Nat) (t : RegionTest) : State :=
  let (width, half, by_) := columnsOf (failedColumns t)
  let pg := pgArray r
  let s1 := ((((s.setF pg Fld.ARRAY_STATE_WIDTH width).setF pg Fld.ARRAY_STATE_HALF half).setF pg Fld.ARRAY_STATE_SPARES_USED by_.length).setF pg
    Fld.COLUMN_MAP_BYPASS_0 (by_.getD 0 0x1FF)).setF pg Fld.COLUMN_MAP_BYPASS_1 (by_.getD 1 0x1FF)
  if width = 0 then s1 else s1.contain pg 1

/-- Give spares to logical cells, in order: the first spare that is in service and not mapped (R406, R414); none when they run out. -/
def ClusterUnit.assign (u : ClusterUnit) : List Nat → Option ClusterUnit
  | [] => some u
  | k :: t =>
    if u.spare0.isNone && !u.fencedCells.contains 32 then { u with spare0 := some k }.assign t
    else if u.spare1.isNone && !u.fencedCells.contains 33 then { u with spare1 := some k }.assign t
    else none

/-- The logical cell that physical cell k serves (R439, R440). -/
def ClusterUnit.serves (u : ClusterUnit) (k : Nat) : Option Nat :=
  if k < 32 then (if u.spare0 == some k || u.spare1 == some k then none else some k)
  else if k = 32 then u.spare0 else u.spare1

/-- Cells taken out of service: what they served needs a spare. Beyond the spares there is none (R414). -/
def ClusterUnit.replace (u : ClusterUnit) (bad : List Nat) : Option ClusterUnit :=
  let lost := bad.filterMap u.serves
  { u with
    fencedCells := u.fencedCells ++ bad.filter (fun k => !u.fencedCells.contains k),
    spare0 := if bad.contains 32 then none else u.spare0,
    spare1 := if bad.contains 33 then none else u.spare1 }.assign lost

/-- The spare map that a saved record gives a cluster (R401). -/
def State.savedSpares (s : State) (r c : Nat) : ClusterUnit :=
  let w := s.saved r (0x3E4 + 4 * c) 4
  let a := if s.fast && bitAt w 5 then some (bits w 4 0) else none
  let b := if s.fast && bitAt w 13 then some (bits w 12 8) else none
  { ClusterUnit.reset with spare0 := a, spare1 := b, fencedCells := a.toList ++ b.toList }

/-- The state with a cell's microcode result recorded (R406): chunks sent again, and a cell that still misses one. -/
def State.ucodeResult (s : State) (r : Nat) (u : UcodeResult) : State :=
  let pg := pgCell r u.cluster.val u.cell.val
  let s1 := (s.bumpF pgBringup Fld.MICROCODE_RESENT u.resent.toNat).setF pg Fld.CELL_STATE_MISSING u.missing.toNat
  if u.missing = 0 then s1
  else (((s1.bumpF pgBringup Fld.MICROCODE_FENCED 1).escalate pg 4 0).record (pgCluster r u.cluster.val) 4 false).contain pgBringup 0

/-- The cells of a cluster that a self-test takes out of service: those that fail and those without the whole microcode. -/
def testedBad (t : RegionTest) (c : Nat) : List Nat :=
  ((t.badCells.filter fun b => b.1.val == c).map (·.2.val) ++
    (t.ucode.filter fun u => u.cluster.val == c && u.missing != 0).map (·.cell.val)).eraseDups

/-- The cells of region r as the Compute step leaves them: failed ones replaced by spares, clusters beyond their spares or fenced by the
saved record left out (R403, R406, R415). -/
def State.cellTest (s : State) (r : Nat) (t : RegionTest) : State :=
  let out := s.bringUp.fencedRt.getD r 0
  let s1 := t.ucode.foldl (fun s u => s.ucodeResult r u) s
  (List.range 16).foldl (fun s c =>
    if (s.cluster r c).state == 2 then s
    else if bitAt out c then s.fenceOne r c
    else match (s.savedSpares r c).replace (testedBad t c) with
      | none => s.fenceOne r c
      | some u => s.modCluster r c fun _ => u) s1

/-- GEOMETRY_SIG as bring-up or a region reset fixes it (R236). -/
def State.fixGeometry (s : State) (r : Nat) : State :=
  let w := s.getF (pgArray r) Fld.ARRAY_STATE_WIDTH
  let h := if w = 1 then s.getF (pgArray r) Fld.ARRAY_STATE_HALF else 0
  s.setF (pgRegion r) Fld.GEOMETRY_GEOMETRY_SIG (h * 2 ^ 19 + w * 2 ^ 17 + s.clusterMask r)

/-! ### The saved-settings record (R401, R402) -/

/-- SPARES of a cluster (R401, R439). -/
def spareWord (u : ClusterUnit) : Nat :=
  (match u.spare0 with | none => 0 | some k => 32 + k) + (match u.spare1 with | none => 0 | some k => 0x2000 + 256 * k)

/-- LANE of a lane: LANE_EQ bits [63:28] and [2]. -/
def laneWord (w : Nat) : Nat := bits w 63 28 * 2 ^ 28 + bits w 2 2 * 4

/-- Region r's block of the record. What training and repair left in EDGE_LANES, STORE_REPAIR and STAGE_REPAIR is free from index i on
(log 7). -/
def State.savedBlock (s : State) (r i : Nat) : Bytes :=
  let lanes := (List.range 16).flatMap fun n => leBytes 8 (laneWord (s.reg (pgLink r (n / 4) + 0x100 + 8 * (n % 4))))
  leBytes 2 (s.latMem r) ++ (List.range 4).flatMap (fun e => leBytes 2 (s.latEdge r e)) ++
  (List.range 4).flatMap (fun p => leBytes 2 (s.getF (pgLink r p) Fld.LINK_CFG_LINK_PAD)) ++
  leBytes 2 (s.bringUp.fencedRt.getD r 0) ++ zeros 12 ++ lanes ++ freeBytes i 832 ++
  leBytes 4 (s.getF (pgArray r) Fld.COLUMN_MAP_BYPASS_0 + 512 * s.getF (pgArray r) Fld.COLUMN_MAP_BYPASS_1) ++
  (List.range 16).flatMap (fun c => leBytes 4 (spareWord (s.cluster r c))) ++ zeros 988

/-- The record of the engine as it stands, with a GENERATION. A region that is not live keeps what the record in use had of it. -/
def State.savedRecord (s : State) (gen : Nat) : Bytes :=
  let body := leBytes 8 gen ++ leBytes 8 (s.getF pgMembership Fld.MEMB_UID_UID) ++ leBytes 1 s.stepping.toNat ++
    leBytes 1 s.bringUp.grade ++ leBytes 1 (field s.bringUp.topology 0x12 1) ++ zeros 1 ++ leBytes 4 savedLength ++ zeros 32 ++
    (List.range 8).flatMap fun r =>
      if (s.region r).health == 1 then s.savedBlock r (s.freeCtr + 104 * r)
      else fit 2048 ((s.bringUp.saved.drop (0x40 + 2048 * r)).take 2048)
  leBytes 8 (crc64 body) ++ body

/-- A saved-settings record is written into the slot that was not used, A when none was; source 0x56 becomes pending (R402). -/
def State.writeSaved (s : State) (bad : Bool) : State :=
  let at_ := s.recordBase + (if s.bringUp.slot = 1 then 0x8000 else 0x1000)
  let gen := if s.fast then s.bringUp.generation + 1 else 1
  let s0 := ((s.setF pgBringup Fld.BRINGUP_STATE_SAVED_WRITTEN (flag (!bad))).setF pgBringup Fld.BRINGUP_STATE_SAVED_FAIL (flag bad)).pend 0x56
  if bad then s0.contain pgEngine 4
  else { (s0.fabricWrite at_ (s.savedRecord gen)) with freeCtr := s.freeCtr + 832 }

/-! ### A region leaves service (R408, R411, R416) -/

/-- Every port isolated, so that software can read its management queue (R408). -/
def State.isolateAll (s : State) : State :=
  s.regions.foldl (fun s e => if e.2.rom then (List.range 4).foldl (fun s p => s.setLinkState e.1 p 6) s else s) s

/-- A set of region r ends as the region stops (R411): its part halts in the next tc and runs nothing more; a set that has not started
never starts. -/
def State.stopSet (s : State) (r code : Nat) (x : Run) : State :=
  let h (i : Nat) : Halt := ⟨if i = r then code else stRegionHalted, 0, if i = r then 0 else 1, s.tcNow⟩
  let s1 := s.modRun x.cmd.seq fun x =>
    { x with started := true, regions := x.regions.map fun e =>
        if e.1 = r then (e.1, { (e.2.addHalt { h e.1 with bundle := e.2.lastBundle }) with busy := [], todo := [], ended := none })
        else if x.started then e else (e.1, e.2.addHalt (h e.1)) }
  (s1.spread x.cmd.seq).finishRun x.cmd.seq

/-- A slot whose join or leave has been given up (R18): free again, or occupied as before. -/
def SeqSlot.unmoved (x : SeqSlot) : SeqSlot := if x.state = 1 then SeqSlot.free else if x.state = 3 then { x with state := 2 } else x

/-- The copies that use region r's memory ports end with a status (R411). -/
def State.stopCopies (s : State) (r code : Nat) : State :=
  let mine (k : Copying) : Bool := copyRegion k.cmd.raw == r
  (s.dropCopies mine).ends ((s.copies.filter mine).map fun k => { k.end_ code s.tcNow with region := r })

/-- A command in progress on a lost leader ends with REGION_FENCED (R18): sets, calls, and commands that wait to take or to report their
effect. -/
def State.dropWork (s : State) : State :=
  let drop (e : Ended) : Ended :=
    { e with status := stRegionFenced, halted := false, region := 0, index := 0, proofs := [], loads := [], burned := [], result := zeros 24 }
  let sets := s.runs.map fun x => drop (s.endedOf x)
  let calls := s.groups.flatMap fun g => g.2.calls.filterMap fun k => k.cmd.map fun m => drop (plainEnd m 0 0 0 (some k.issue) 0 [])
  let copies := s.copies.map fun k => drop (k.end_ stRegionFenced s.tcNow)
  let waits := (s.deferred.map fun d => drop d.2) ++
    s.ctxs.flatMap fun c => c.2.seqWait.map fun m => drop (plainEnd m 0 0 0 (some s.tcNow) 0 [])
  let s1 := (s.runs.foldl (fun t x => (t.returnCredit x).dropCalls x.cmd.seq) s).dropCopies fun _ => true
  let s2 := s1.ends ((sets ++ calls ++ copies ++ waits).foldr s1.insertByFlight [])
  { s2 with
    runs := [], deferred := [], slots := s2.slots.map fun e => (e.1, e.2.unmoved),
    groups := s2.groups.map fun g => (g.1, { g.2 with calls := g.2.calls.map fun k => { k with cmd := none } }),
    ctxs := s2.ctxs.map fun c => (c.1, { c.2 with seqWait := [] }) }

/-- What runs on region r ends: all of the engine's work where r leads (R18), else the sets that have a part there and the copies on its
ports (R411). -/
def State.stopRegion (s : State) (r code : Nat) : State :=
  if r = s.leader then s.dropWork else (s.runsIn r).foldl (fun s x => s.stopSet r code x) (s.stopCopies r code)

/-- A latched set whose geometry no longer holds fails step 5 of R329 (R411, R416). -/
def State.recheckHeld (s : State) : State :=
  (List.range 64).foldl (fun s i =>
    match ((s.ctx (i / 4)).heads.get? (i % 4)).bind (·.cmd) with
    | none => s
    | some m =>
      if !isSetOp (cmdOp m.raw) then s
      else match (byRegion (s.cmdImages m)).find? fun im => !s.live.contains im.region.val || im.geometrySig != s.geometrySig im.region.val with
        | none =>
          if s.live.any fun r => !(s.cmdImages m).any fun im => im.region.val == r then s.settle m (.fail stGeometryMismatch 0 0) else s
        | some im => s.settle m (.fail stGeometryMismatch 0 im.region.val)) s

/-- The registers that a region reset leaves (R410, R467): of a link port its training and its peer, of an edge its modules and peer, and
the wrapper's. -/
def keptAcross (a : Nat) : Bool :=
  let p := a % 0x1000000 / 0x1000
  let off := a % 0x1000
  (decide (0x10 ≤ p ∧ p < 0x14) && (off == 0x80 || off == 0x88 || decide (0x100 ≤ off ∧ off < 0x120))) ||
  (decide (0x18 ≤ p ∧ p < 0x1C) && off == 0x80) || (p == 0x1C && off == 0x80)

/-- Registers of region r's window at their reset values (R14), but those kept. -/
def State.reloadRegion (s : State) (r : Nat) : State :=
  let pads := (List.range 4).map fun p => s.getF (pgLink r p) Fld.LINK_CFG_LINK_PAD
  let s1 := s.resetRegs fun a => decide (a / 0x1000000 = r) && decide (a < 0x8000000) && !keptAcross a
  (List.range 4).foldl (fun t p => t.setF (pgLink r p) Fld.LINK_CFG_LINK_PAD (pads.getD p 0)) s1

/-- Items in region r that a reset discards (R410): queued and kept transmit frames and packets, and transactions in flight. -/
def State.inFlightOf (s : State) (r : Nat) : Nat :=
  ((s.region r).links.map fun l => l.2.queue.length + l.2.frames.length).sum + ((s.region r).memPorts.map fun m => m.2.txs.length).sum

/-- A port in service enters HOLD with its lanes still trained, everything queued discarded (R389, R410); any other trains (R403). -/
def State.holdPort (s : State) (r p : Nat) : State :=
  let s1 := s.modLink r p fun _ => Link.reset
  if s.trained r p then s1.setLinkState r p 5 else s1.beginTraining r p (!s.fast)

/-- An edge in service enters HOLD at both ends (R389, R410); any other that the record places toward a live region trains (R403). -/
def State.holdEdge (s : State) (r e : Nat) : State :=
  let b := s.edgeBack r e
  if s.edgeUp r e then ((s.setF (pgEdge r e) Fld.EDGE_STATE_STATE 5).setF (pgEdge b.1 b.2) Fld.EDGE_STATE_STATE 5).modEdge b.1 b.2 fun _ => Edge.reset
  else if bitAt (s.topo r (8 + e) 1) 3 && s.live.contains b.1 then
    let s1 := s.beginEdge r e (!s.fast)
    if s.edgeUp b.1 b.2 then s1 else s1.beginEdge b.1 b.2 (!s.fast)
  else s

/-- Some port or edge of region r still trains. -/
def State.training (s : State) (r : Nat) : Bool :=
  (List.range 4).any fun p => s.linkState r p == 1 || s.getF (pgEdge r p) Fld.EDGE_STATE_STATE == 1

/-- A region's memories and units as a reset leaves them: undefined where the rules say so (log 3), and the credit of its memory ports,
which only RESET_N takes away (R455). -/
def Region.inReset (g : Region) : Region :=
  { g.cold with
    health := 2, tc := g.tc, rates := g.rates, buckets := g.regulators.buckets,
    memPorts := g.memPorts.map fun m => (m.1, { MemPort.reset with rdCredit := m.2.rdCredit, wrCredit := m.2.wrCredit }) }

/-- Both tags of region r are cleared in every context's staging banks; ACTIVE stays (R412). -/
def State.clearTags (s : State) (r : Nat) : State :=
  { s with ctxs := s.ctxs.map fun c =>
      (c.1, { c.2 with banks := c.2.banks.map fun b => if b.1 / 2 = r then (b.1, { b.2 with tag := none }) else b }) }

/-- A region reset begins (R410 to R413). In an engine of one region, or where it leaves no live region, it is an engine reset; a region
that already resets is left alone. A fenced region may be reset too. -/
def State.regionReset (s : State) (r : Nat) : State :=
  let h := (s.region r).health
  if h ≠ 1 ∧ h ≠ 3 then s
  else if s.placedRegions.length ≤ 1 || (s.live.filter (· != r)).isEmpty then s.engineReset
  else
    let s1 := (((s.abandonClusters r).stopRegion r stRegionHalted).count pgEngine 3 (s.inFlightOf r)).modRegion r Region.inReset
    (List.range 4).foldl (fun s i => (s.holdEdge r i).holdPort r i) ((s1.reloadRegion r).clearTags r)

/-- A write of BRINGUP_CTL.REGION_RESET after bring-up: the regions of the mask, ascending. -/
def State.regionResets (s : State) (mask : Nat) : State :=
  (setIndices mask 8).foldl (fun s r => if s.bringState < 10 then s else s.regionReset r) s

/-- REGION_RESET (R410): a write of BRINGUP_CTL.REGION_RESET. -/
def execRegionReset (mask : Byte) (s : State) : Host.Outcome State Fault Refusal :=
  .next (s.whereAnswers pgBringup fun s => s.regionResets mask.toNat)

/-- The engine fences region r (R416): it is live no more, its ports and edges are down, what is known of its
clusters stays on record (R428), and the comparison decides the engine's state.
Without a live region the engine resets (R410). -/
def State.fenceRegion (s : State) (r : Nat) : State :=
  let s1 := (s.stopRegion r stRegionFenced).modRegion r fun g => { g.cold with health := 3, tc := g.tc, clusters := g.clusters }
  let s2 := (List.range 4).foldl (fun s p => (s.setLinkState r p 0).setF (pgEdge r p) Fld.EDGE_STATE_STATE 0) s1
  let s3 := s2.contain pgEngine 1
  if s3.live.isEmpty && !s3.regions.any (fun e => e.2.health == 2) then s3.engineReset else s3.compare.recheckHeld

/-- The fault of a region's own unit that the region cannot contain: the ENGINE page receives it, and the region resets (R21, R414). -/
def State.regionEscalates (s : State) (r i : Nat) : State := (s.escalate (pgRegion r) i 0).regionReset r

/-- A fault that a unit of region r detects (R414, R433, R435): the region network and the management core reset the region; a single-bit
error is corrected and counted on its page; the others are recorded on their pages and contained there (log 103). -/
def State.unitFault (s : State) (r : Nat) (f : RegionFault) : State :=
  if !s.live.contains r then s
  else match f with
    | .network => s.regionEscalates r 7
    | .mgmt => s.regionEscalates r 8
    | .tank => s.contain (pgCombine r) 2
    | .prints => s.contain (pgReprint r) 0
    | .bitmap => s.contain (pgBasin r) 2
    | .landingTable => s.contain (pgDispatch r) 2
    | .memPort m => s.contain (pgMem r m.val) 2
    | .inletBank p => s.contain (pgInlet r p.val) 1
    | .corrected p => if regionPageKind p.toNat = 0 then s else s.count (regionPage r p.toNat) 4 1

/-- REGION_UNIT_FAULT (R414). -/
def execRegionUnitFault (r : RegionId) (f : RegionFault) (s : State) : Host.Outcome State Fault Refusal :=
  .next (s.unitFault r.val f)

/-! ### The end of a region reset (R402, R409, R411, R412) -/

/-- A port leaves HOLD on the lanes it kept, through the exchange of training step 5 (R403). -/
def State.unholdPort (s : State) (r p : Nat) : State :=
  if s.linkState r p = 5 then
    let s1 := s.setLinkState r p (stateOfWidth (s.getF (pgLink r p) Fld.LINK_STATE_WIDTH) (s.minWidth r p))
    if s1.trained r p then s1.introduce r p else s1
  else s

/-- An edge leaves HOLD at both ends, unless the region at the other end still resets (R413). -/
def State.unholdEdge (s : State) (r e : Nat) : State :=
  let b := s.edgeBack r e
  let width (q f : Nat) : Nat := edgeStateOf (s.getF (pgEdge q f) Fld.EDGE_STATE_MOD0_WIDTH) (s.getF (pgEdge q f) Fld.EDGE_STATE_MOD1_WIDTH)
  if s.getF (pgEdge r e) Fld.EDGE_STATE_STATE = 5 ∧ (s.region b.1).health ≠ 2 then
    (s.setF (pgEdge r e) Fld.EDGE_STATE_STATE (width r e)).setF (pgEdge b.1 b.2) Fld.EDGE_STATE_STATE (width b.1 b.2)
  else s

/-- A region that passes its reset: tested, in service again with the leader's cycle count, its settings saved. -/
def State.regionBack (s : State) (r : Nat) (t : RegionTest) (bad : Bool) : State :=
  let (g, tp) := s.readRecords
  let s0 := (s.takeSlot g tp).modRegion r fun g => { g with rom := true, clocks := true, tc := max g.tc s.tcNow }
  let s1 := ((((s0.memoryTest r t).columnTest r t).cellTest r t).loadDeclared r).fixGeometry r
  if t.badStaging || decide (s1.liveClusters r < s1.topo r 1 1) then s1.fenceRegion r
  else
    let s2 := s1.modRegion r fun g => { g with health := 1 }
    let s3 := (List.range 4).foldl (fun s i => (s.unholdEdge r i).unholdPort r i) s2
    let s4 := (s3.count (pgRegion r) 5 1).bumpF pgBringup Fld.RESET_COUNT_REGION 1
    (((s4.writeSaved bad).compare.recheckHeld))

/-- REGION_RESET_END (R402, R409 to R412): the region is live again or, when the reset fails, fenced; calls in progress see its data again,
and held commands go on. While a port or an edge
trains, its Lanes or Edges step has not ended (log 6). A record that is invalid now leaves the engine NOT_READY (R403). -/
def State.endRegionReset (s : State) (r : Nat) (pass : Bool) (t : RegionTest) (ms : Nat) (bad : Bool) : State :=
  if (s.region r).health ≠ 2 ∨ s.bringState < 10 ∨ s.training r then s
  else
    let s0 := s.setF pgBringup Fld.BRINGUP_STATE_ELAPSED_MS ms
    let (g, tp) := s0.readRecords
    let s1 :=
      if !pass then s0.fenceRegion r
      else if !gradeOk g || !topoOk g tp then
        ((s0.fenceRegion r).showDiffs [(0, 0, false)]).notReady.contain pgEngine 3
      else s0.regionBack r t bad
    ((List.range 64).foldl (fun s g => s.advanceCall g) s1).settleIdle

/-- REGION_RESET_END (R412). -/
def execRegionResetEnd (r : RegionId) (pass : Bool) (res : RegionTest) (elapsedMs : BitVec 16) (writeFail : Bool) (s : State) :
    Host.Outcome State Fault Refusal :=
  .next (s.endRegionReset r.val pass res elapsedMs.toNat writeFail)

/-! ### The leader (R17, R18) -/

/-- The lowest of a list of regions. -/
def lowest (l : List Nat) : Option Nat := l.head?

/-- LEADER_CHANGE (R18, R361): the lowest live region leads; it takes over the interrupt controller and resumes issue. -/
def State.changeLeader (s : State) : State :=
  if s.led || !s.ready && s.bringState != 12 then s
  else match lowest s.live with
    | none => s
    | some r => ((s.setF pgBringup Fld.BRINGUP_STATE_LEADER r).takeOverIntr).contain pgEngine 7

/-- LEADER_CHANGE (R18). -/
def execLeaderChange (s : State) : Host.Outcome State Fault Refusal := .next s.changeLeader

end Sys2Proof.Machine
end

