-- ==== Sys2Proof/Machine/Power.lean ====
section
/-! DEFINITION. Sys2Proof/Machine/Power.lean: supply and thermal inputs (R418 to R420, R463, R464), safelight (R418, R419), power-fail
(R421, R422) and the power estimate (R417). -/

namespace Sys2Proof.Machine

/-! ### Inputs and causes -/

/-- THERM_CFG.SAFE. -/
def State.thermSafe (s : State) : Nat := s.getF pgPower Fld.THERM_CFG_SAFE
/-- The temperature that the engine takes: the latest strobed value, or SAFE while strobes are missing (R464). -/
def State.thermNow (s : State) : Nat := if s.power.strobeLost then s.thermSafe else s.power.therm
/-- The supply cause of R418: the supply is not MAIN; code 3 is taken as TRANSFER (R463). -/
def State.causeSupply (s : State) : Bool := s.power.supply != 0
/-- The thermal cause of R418. -/
def State.causeThermal (s : State) : Bool := decide (s.thermSafe ≤ s.thermNow)
/-- Both causes are absent in the sense of R419. -/
def State.calm (s : State) : Bool := !s.causeSupply && decide (s.thermNow + 5 < s.thermSafe)

/-- The switch cycle named in tc (R418): the first multiple of 1,024 at least 2,048 tc later. -/
def switchCycle (tc : Nat) : Nat := 1024 * ceilDiv (tc + 2048) 1024

/-- The state with the power inputs' part changed. -/
def State.modPower (s : State) (f : Power → Power) : State := { s with power := f s.power }

/-- The leader samples the inputs (R418, R419, R422): a cause names the switch into safelight unless one is named or in force, and
breaks the hold; with both absent in safelight the hold runs. -/
def State.samplePower (s : State) : State :=
  if s.power.held || decide (s.bringState < 2) then s
  else if (s.causeSupply || s.causeThermal) && !s.power.safelight && s.power.switch.isNone then
    s.modPower fun p => { p with switch := some (switchCycle s.tcNow, true), holdRunning := false }
  else s.modPower fun p => { p with holdRunning := p.safelight && p.switch.isNone && s.calm }

/-- SUPPLY_STATE_CHANGE (R418, R463): the synchronised supply state. -/
def execSupplyStateChange (v : BitVec 2) (s : State) : Host.Outcome State Fault Refusal :=
  .next (s.modPower fun p => { p with supply := v.toNat }).samplePower

/-! ### Power-fail (R421, R422) -/

/-- The commands that have completed get their contact-sheet entries and completions; nothing else is written, and a copy in flight gets
none. -/
def State.flushDone (s : State) : State :=
  if s.led then
    (List.range (s.ended.length + s.deferred.length + s.copies.length)).foldl (fun s _ => s.complete) (s.dropCopies fun k => decide (s.tcNow < k.due))
  else s

/-- Power-fail or a thermal trip (R421): finished completions are written, then the engine holds an engine reset. -/
def State.powerDown (s : State) (trip : Bool) : State :=
  let note (s : State) : State := s.modPower fun p => { p with powerFail := p.powerFail || !trip, held := true }
  if s.power.held then note s
  else (note ((s.contain pgEngine (if trip then 6 else 5)).flushDone)).engineReset

/-- POWER_FAIL (R421). -/
def execPowerFail (s : State) : Host.Outcome State Fault Refusal := .next (s.powerDown false)

/-- POWER_FAIL_HOLD_EXIT (R421): PWR_FAIL_N is high and the temperature has stayed below TRIP − 10 °C for 100 ms; bring-up starts again
from the ROM step. -/
def execPowerFailHoldExit (s : State) : Host.Outcome State Fault Refusal :=
  .next (if s.power.held && decide (s.thermNow + 10 < s.getF pgPower Fld.THERM_CFG_TRIP) then
    (s.modPower fun p => { p with held := false, powerFail := false }).engineReset else s)

/-! ### Temperature (R420, R464) -/

/-- The temperature moves from one value to the one now taken (R420): source 0x53 at an upward crossing of WARN or SAFE and a downward
one of SAFE − 5; at TRIP the engine acts as on power-fail; else the leader samples. -/
def State.thermMoved (s : State) (old : Nat) : State :=
  let new := s.thermNow
  let safe := s.thermSafe
  let up (x : Nat) : Bool := decide (old < x) && decide (x ≤ new)
  let crossed := up (s.getF pgPower Fld.THERM_CFG_WARN) || up safe || (decide (safe ≤ old + 5) && decide (new + 5 < safe))
  if s.power.held then s
  else
    let s1 := if crossed then s.pend 0x53 else s
    if s.getF pgPower Fld.THERM_CFG_TRIP ≤ new then s1.powerDown true else s1.samplePower

/-- THERM_STROBE (R464). -/
def execThermStrobe (t : Byte) (s : State) : Host.Outcome State Fault Refusal :=
  .next ((s.modPower fun p => { p with therm := t.toNat, strobeLost := false }).thermMoved s.thermNow)

/-- THERM_STROBE_LOST (R464): no strobe for 10 ms. -/
def execThermStrobeLost (s : State) : Host.Outcome State Fault Refusal :=
  .next ((s.modPower fun p => { p with strobeLost := true }).thermMoved s.thermNow)

/-! ### Safelight (R418, R419) -/

/-- What is in flight as the timeline clock changes: sets, calls, and commands that have issued and not completed all run in part of
safelight (R418). -/
def State.markLit (s : State) : State :=
  let lit (e : Ended) : Ended := if e.issued.isSome then { e with flags := setFlag e.flags flSafelight } else e
  { s with
    runs := s.runs.map fun x => { x with safelight := true }, copies := s.copies.map fun k => { k with lit := true },
    groups := s.groups.map fun g => (g.1, { g.2 with calls := g.2.calls.map fun k => { k with lit := true } }),
    ended := s.ended.map lit, deferred := s.deferred.map fun d => (d.1, lit d.2) }

/-- SAFELIGHT_SWITCH (R418, R419): at the start of tc S every timeline changes its clock; a cause that has come back meanwhile names the
next switch. -/
def State.safelightSwitch (s : State) : State :=
  match s.power.switch with
  | none => s
  | some (tc, enter) =>
    let s1 := (s.reach s.leader tc).markLit.modPower fun p => { p with safelight := enter, switch := none }
    let s3 := { s1 with phase := s1.phase * s1.tcPerRef / s.tcPerRef }.pend 0x52
    (if enter then s3.bumpF pgPower Fld.SAFE_COUNT_ENTRIES 1 else s3).samplePower

/-- SAFELIGHT_SWITCH (R418). -/
def execSafelightSwitch (s : State) : Host.Outcome State Fault Refusal := .next s.safelightSwitch

/-- SAFELIGHT_HOLD_EXPIRY (R419): both causes have stayed absent; the switch back is named by the procedure of R418. -/
def execSafelightHoldExpiry (s : State) : Host.Outcome State Fault Refusal :=
  .next (if s.power.holdRunning then
    s.modPower fun p => { p with switch := some (switchCycle s.tcNow, false), holdRunning := false } else s)

/-! ### The estimate (R417) -/

/-- POWER_EST_UPDATE (R417, R424). -/
def execPowerEstUpdate (r : RegionId) (tenthWatts : BitVec 16) (s : State) : Host.Outcome State Fault Refusal :=
  let pg := pgPower + 8 * r.val
  let v := tenthWatts.toNat
  .next (if (s.region r.val).health = 0 then s
    else (s.setF pg Fld.POWER_EST_NOW v).noteF pg Fld.POWER_EST_PEAK (max (s.getF pg Fld.POWER_EST_PEAK) v))

end Sys2Proof.Machine
end

