-- ==== Sys2Proof/Machine/Bringup.lean ====
section
/-! DEFINITION. Sys2Proof/Machine/Bringup.lean: the bring-up sequence from the ROM step to its outcome (R398 to R408). -/

namespace Sys2Proof.Machine

/-- Regions that still take part in bring-up, ascending (R403). -/
def State.takingPart (s : State) : List Nat := (List.range 8).filter fun r => (s.region r).health == 2

/-- A region that fails a step of bring-up is fenced (R403). -/
def State.bench (s : State) (r : Nat) : State := (s.modRegion r fun g => { g with health := 3, clocks := false }).contain pgEngine 1

/-- The lowest of regions leads, unless the leader is among them (R17, R18, R405). -/
def State.elect (s : State) (l : List Nat) : State :=
  match lowest l with
  | none => s
  | some r => if l.contains s.leader then s else s.setF pgBringup Fld.BRINGUP_STATE_LEADER r

/-- Milliseconds pass in which nothing else runs: TIME and the cycle counters go on (R447, R449; log 5). -/
def State.passMs (s : State) (ms : Nat) : State := s.pass (ms * 100000 * s.tcPerRef)

/-- A step of bring-up ended so many milliseconds after it began: ELAPSED_MS counts from GO (R398, R423). -/
def State.tookMs (s : State) (ms : Nat) : State :=
  let n := s.bringUp.elapsed + ms
  ({ s with bringUp := { s.bringUp with elapsed := n } }.passMs ms).setF pgBringup Fld.BRINGUP_STATE_ELAPSED_MS (min n 0xFFFF)

/-- GO (R398): from WAIT_RECORDS only. -/
def State.go (s : State) : State :=
  if s.bringState = 2 then { s with bringUp := { s.bringUp with elapsed := 0 } }.setBringState 3 else s

/-- GO (R398). -/
def execGo (s : State) : Host.Outcome State Fault Refusal := .next (s.whereAnswers pgBringup State.go)

/-- The test of region r. -/
def testOf (res : BringupResult) (r : Nat) : RegionTest := res.tests.getD r ⟨0, false, 0, [], [], [], 0⟩

/-- The ROM step ends: the lowest region that passes leads; a region in a wrapper test does not pass (R405, R468). Without one the engine
goes no further. -/
def State.romStep (s : State) (res : BringupResult) : State :=
  let ok := (List.range 8).filter fun r => bitAt res.pass.toNat r && s.getF (pgTest r) Fld.WRAPPER_STATE_FUNCTIONAL == 1
  match lowest ok with
  | none => s
  | some l =>
    let s1 := ok.foldl (fun s r => s.modRegion r fun g => { g with rom := true, health := 2 }) s
    ((s1.setF pgBringup Fld.BRINGUP_STATE_LEADER l).setBringState 2).samplePower

/-- The Records step ends: invalid or unread records give NOT_READY and every region halts (R403, R408, R466); else the engine takes its
grade, its member ID and UID, its regions and the saved settings (R15, R390, R399 to R401). -/
def State.recordsStep (s : State) (res : BringupResult) : State :=
  let (g, t) := s.readRecords
  if !bitAt res.pass.toNat s.leader || !gradeOk g || !topoOk g t then
    ((s.showDiffs [(0, 0, false)]).notReady.contain pgEngine 3).isolateAll
  else
    let s1 := { s with bringUp := { s.bringUp with grade := field g 0x10 1, topology := t } }
    let s2 := (s1.setF pgMembership Fld.MEMB_STATE_SELF (field t 0x10 2 % 1024)).setF pgMembership Fld.MEMB_UID_UID (field t 8 8)
    let s3 := (List.range 8).foldl (fun s r =>
      if (s.region r).rom && s.placedRegions.contains r then (s.takeSaved r).loadDeclared r
      else s.modRegion r fun g => { g with health := 0 }) (s2.takeSlot g t)
    (s3.elect s3.takingPart).setBringState 4

/-- The Clocks step ends: a region whose network or PLLs fail is fenced; the others' windows answer (R403, R405). -/
def State.clocksStep (s : State) (res : BringupResult) : State :=
  s.takingPart.foldl (fun s r => if bitAt res.pass.toNat r then s.modRegion r fun g => { g with clocks := true } else s.bench r) s

/-- The Memory step ends, and the edges begin to train (R403). -/
def State.memoryStep (s : State) (res : BringupResult) : State :=
  let s1 := s.takingPart.foldl (fun s r => if (testOf res r).badStaging then s.bench r else (s.memoryTest r (testOf res r)).loadDeclared r) s
  s1.takingPart.foldl (fun s r =>
    (List.range 4).foldl (fun s e => if bitAt (s.topo r (8 + e) 1) 3 then s.beginEdge r e (!s.fast) else s) s) s1

/-- The Edges step ends, and the ports begin to train, from saved settings where there are any (R403). -/
def State.edgesStep (s : State) : State :=
  s.takingPart.foldl (fun s r => (List.range 4).foldl (fun s p => s.beginTraining r p (!s.fast)) (s.loadLanes r)) s

/-- The Compute step ends: columns and cells tested, microcode loaded, spares mapped (R403). -/
def State.computeStep (s : State) (res : BringupResult) : State :=
  s.takingPart.foldl (fun s r => (s.columnTest r (testOf res r)).cellTest r (testOf res r)) s

/-- At READY or READY_DEGRADED (R402, R405): context 0 is open, COMMAND_SEQ starts at 1, the membership is epoch 0 with the engine alone,
and the saved settings are written. -/
def State.openEngine (s : State) (bad : Bool) : State :=
  ({ s with nextSeq := 1, membership := { s.membership with epoch := 0, members := [s.self] } }.openSupervisor).writeSaved bad

/-- The Topology step ends (R407, R408): regions with too few clusters are fenced, the others are live with equal cycle counts. -/
def State.topologyStep (s : State) (bad : Bool) : State :=
  let tc := (s.takingPart.map fun r => (s.region r).tc).foldl max 0
  let s1 := s.takingPart.foldl (fun s r =>
    if s.liveClusters r < s.topo r 1 1 then s.bench r
    else (s.modRegion r fun g => { g with health := 1, tc := tc }).fixGeometry r) s
  let s2 := s1.elect s1.live
  let ds := s2.topologyDiffs
  let s3 := s2.showDiffs ds
  if verdictOf ds = 12 ∨ s2.live = [] then s3.notReady.isolateAll else (s3.setBringState (verdictOf ds)).openEngine bad

/-- A step of bring-up ends (R403); one in which a port or an edge still trains has not ended (log 6). -/
def State.bringupStep (s : State) (res : BringupResult) : State :=
  let next (s : State) (n : Nat) : State := (s.elect s.takingPart).setBringState n
  let ms := res.elapsedMs.toNat
  match s.bringState with
  | 1 => (s.passMs ms).romStep res
  | 3 => (s.tookMs ms).recordsStep res
  | 4 => next ((s.tookMs ms).clocksStep res) 5
  | 5 => next ((s.tookMs ms).memoryStep res) 6
  | 6 => if s.takingPart.any s.training then s else next ((s.tookMs ms).edgesStep) 7
  | 7 => if s.takingPart.any s.training then s else next (s.tookMs ms) 8
  | 8 => next ((s.tookMs ms).computeStep res) 9
  | 9 => (s.tookMs ms).topologyStep res.writeFail
  | _ => s

/-- BRINGUP_STEP (R403). -/
def execBringupStep (res : BringupResult) (s : State) : Host.Outcome State Fault Refusal :=
  if testsFit res then .next (s.bringupStep res) else .fault .malformed

end Sys2Proof.Machine
end

