-- ==== Sys2Proof/Machine/ConfluenceOps.lean ====
section
/-! DEFINITION. Sys2Proof/Machine/ConfluenceOps.lean: the confluence slot of a plate (R64, R65): CF_ARM, CF_LOCAL, CF_GLOBAL, CF_WAIT and
their timeout. Each region's k-th CF_ARM on a group joins the k-th call that its set makes there. -/

namespace Sys2Proof.Machine

/-- Whether an operation is the confluence slot's with an opcode. -/
def isConfluence (op : Nat) (o : SlotOp) : Bool := o.slot == 9 && o.op == op

/-- The tc in which another region's halt reaches an operation that it shares (R62). -/
def Op.sharedHalt (x : Op) : Option Nat :=
  x.run.regions.findSome? fun e => if e.1 == x.r then none else e.2.halt.map fun (h : Halt) => max h.tc x.t

/-- The call that a set's operation on a group takes part in. -/
def State.fusedCall (s : State) (x : Op) : Option Call := (s.group x.o.group).calls.find? fun k => k.run == some x.seq

/-- Change the first call of a set on a group. -/
def modFused (seq : W32) (f : Call → Call) : List Call → List Call
  | [] => []
  | k :: t => if k.run == some seq then f k :: t else k :: modFused seq f t

/-- The data operations of the call that a CF_ARM begins: those on its group between it and the group's next CF_ARM, or all where it has
none there. -/
def Op.callData (x : Op) : List SlotOp :=
  let ours := x.g.image.ops.filter fun e => e.2.slot == 9 && e.2.group == x.o.group
  let after := (ours.filter fun e => decide (x.g.bundle < e.1)).takeWhile fun e => e.2.op != 1
  let data (l : List Placed) : List SlotOp := (l.map (·.2)).filter fun o => o.op == 2 || o.op == 3
  if (data after).isEmpty then data ours else data after

/-- A new call of a set, as its data operations describe it (R65, R206): S and FORMAT of the first, and the trees of its CF_GLOBALs. -/
def Op.newFused (x : Op) : Call :=
  let mine := x.callData
  let trees := ((mine.filter fun o => o.op == 3).map fun o => if o.tree = 0 then 3 else o.tree).foldl Nat.lor 0
  let size := match mine with | [] => 0 | o :: _ => cfBytes x.cmd.list o / 4096
  let format := match mine with | [] => x.o.cfFormat | o :: _ => o.cfFormat
  newCall none (some x.seq) size format (2 ^ x.r) trees x.t

/-- The calls of a group with a set's region joined: the first of the set's calls that it has not joined, or a new one. -/
def joinCall (x : Op) : List Call → List Call
  | [] => [x.newFused]
  | k :: t => if k.run == some x.seq && !bitAt k.destMask x.r then { k with destMask := k.destMask + 2 ^ x.r } :: t else k :: joinCall x t

/-- CF_ARM (R65, R220): within this engine it lasts 2,400 tc; across packages until both trees have given their verdict. -/
def State.cfArm (s : State) (x : Op) : State :=
  match x.sharedHalt with
  | some tc => s.haltAt x stRegionHalted tc
  | none =>
    let g := x.o.group
    let s1 := s.modGroup g fun y => { y with calls := joinCall x y.calls }
    if (s.group g).live.length ≤ 1 then (s1.armCall g).startOp x (some (x.t + 2400)) []
    else s1.startOp x none [] none (some x.deadline)

/-- CF_ARM (R65). -/
def execCfArm (run : W32) (r : RegionId) (s : State) : Host.Outcome State Fault Refusal :=
  .next (s.plateOp run r.val (isConfluence 1) State.cfArm)

/-- The CF_LOCALs of a set that wait for one another get their end: 8 + 13 × S / 4,096 from their issue (R65). -/
def State.endLocals (s : State) (seq : W32) : State :=
  match s.run? seq with
  | none => s
  | some x => x.regions.foldl (fun s e =>
      s.modRR seq e.1 fun g =>
        { g with busy := g.busy.map fun b =>
            if b.unit == 11 && b.opcode == 2 && b.ends.isNone then
              { b with ends := some (b.issue + 8 + 13 * (cfBytes x.cmd.list (g.opOf b) / 4096)) }
            else b }) s

/-- CF_LOCAL (R65, R212): once every region of the set is in it, L is formed and written to every destination; a call without a
CF_GLOBAL is done. -/
def State.cfLocal (s : State) (x : Op) : State :=
  match x.sharedHalt with
  | some tc => s.haltAt x stRegionHalted tc
  | none =>
    let g := x.o.group
    let s1 := s.startOp x none []
    if s1.together x.seq g 2 0 then
      match s1.fusedCall x with
      | none => s1.endLocals x.seq
      | some k =>
        let (s2, l) := s1.sumLocal k 2
        let vs := l.map fun v => ofF32 v.toNat
        let s3 := s2.writeDests k 2 0 vs
        let odd := k.trees == 0 && vs.any fun v => !v.isFinite
        let s4 := s3.modGroup g fun y => { y with calls := modFused x.seq (fun k => { k with local_ := l, nonfinite := k.nonfinite || odd }) y.calls }
        let s5 := s4.endLocals x.seq
        if k.trees = 0 then s5.finishCall g stSuccess 0 else s5
    else s1

/-- CF_LOCAL (R65). -/
def execCfLocal (run : W32) (r : RegionId) (s : State) : Host.Outcome State Fault Refusal :=
  .next (s.plateOp run r.val (isConfluence 2) State.cfLocal)

/-- CF_GLOBAL (R65, R215): once every region of the set is in it, the call's data moves; alone, every destination gets L. -/
def State.cfGlobal (s : State) (x : Op) : State :=
  let g := x.o.group
  let s1 := s.startOp x none [] none (some x.deadline)
  match s1.fusedCall x with
  | none => s1
  | some k =>
    if 1 < (s.group g).live.length then s1.advanceCall g
    else if k.local_.isEmpty then s1
    else if (List.range 2).any fun t => bitAt k.trees t && s1.together x.seq g 3 t then
      let half := k.count / 2
      let vs := k.local_.map fun v => ofF32 v.toNat
      let take (s : State) (t : Nat) : State :=
        if bitAt k.trees t && s1.together x.seq g 3 t then s.writeDests k 3 (t * half) ((vs.drop (t * half)).take half) else s
      let done := (List.range 2).foldl (fun (d : Tab Nat) t => if bitAt k.trees t && s1.together x.seq g 3 t then d.set t k.slabs else d) k.done
      let odd := vs.any fun v => !v.isFinite
      let k1 : Call := { k with done := done, nonfinite := k.nonfinite || odd }
      let s2 := ((take (take s1 0) 1)).modGroup g fun y => { y with calls := modFused x.seq (fun _ => k1) y.calls }
      if k1.complete then s2.finishCall g stSuccess 0 else s2.endGlobals g k1
    else s1

/-- CF_GLOBAL (R65). -/
def execCfGlobal (run : W32) (r : RegionId) (s : State) : Host.Outcome State Fault Refusal :=
  .next (s.plateOp run r.val (isConfluence 3) State.cfGlobal)

/-- CF_WAIT (R65): it issues once the confluence unit is free. -/
def execCfWait (run : W32) (r : RegionId) (s : State) : Host.Outcome State Fault Refusal :=
  .next (s.plateOp run r.val (isConfluence 4) fun s x => s.runOp x 0 [])

/-- CONFLUENCE_TIMEOUT (R65): an open confluence operation reaches its TIMEOUT. -/
def State.cfTimeout (s : State) (seq : W32) (r : Nat) : State :=
  match s.run? seq with
  | none => s
  | some run =>
    match run.regions.get? r with
    | none => s
    | some g =>
      match g.busy.find? fun b => b.unit == 11 && b.ends.isNone && (b.opcode == 1 || b.opcode == 3) with
      | none => s
      | some b =>
        let o := g.opOf b
        s.silence seq r o.group b (b.issue + o.timeout * 1024)

/-- CONFLUENCE_TIMEOUT (R65). -/
def execConfluenceTimeout (run : W32) (r : RegionId) (s : State) : Host.Outcome State Fault Refusal := .next (s.cfTimeout run r.val)

end Sys2Proof.Machine
end

