-- ==== Sys2Proof/Machine/Units.lean ====
section
/-! DEFINITION. Sys2Proof/Machine/Units.lean: faults of cells and slices, cell and cluster resets, sparing and fencing (R21 to R24,
R410 to R415, R433, R439, R440). -/

namespace Sys2Proof.Machine

/-! ### What a cell or cluster reset halts (R411) -/

/-- The plates of region r that run an operation on cluster c's cell group halt with REGION_HALTED. -/
def State.haltGroup (s : State) (r c : Nat) : State :=
  (s.runsIn r).foldl (fun s x =>
    match x.regions.get? r with
    | none => s
    | some g => if g.busy.any fun b => b.unit == c / 4 + 1 then s.haltRegion x.cmd.seq r stRegionHalted (s.region r).tc else s) s

/-- A cluster reset begins (R410, R413): narrower resets in it are abandoned and recorded (R24). -/
def State.clusterReset (s : State) (r c : Nat) : State :=
  ((s.haltGroup r c).abandonCells r c).modCluster r c fun u => { u with state := 1, resetting := [] }

/-- A cluster that its spares cannot save (R414, R415): the region fences it by a region reset. -/
def State.fenceCluster (s : State) (r c : Nat) : State :=
  let out := s.bringUp.fencedRt.getD r 0
  let s1 := { s with bringUp := { s.bringUp with fencedRt := s.bringUp.fencedRt.set r (setFlag out c) } }
  ((s1.fenceOne r c).contain (pgRegion r) 5).regionReset r

/-! ### Cells -/

/-- ERR_STATUS bit of a cell fault (R433). -/
def cellBit : CellFaultKind → Nat
  | .regParity => 0 | .queueParity => 1 | .bufUncorr => 2 | .ucodeStore => 3 | .bufCorrected => 4

/-- A cell reset begins (R410). -/
def State.cellReset (s : State) (r c k : Nat) : State :=
  (s.haltGroup r c).modCluster r c fun u => { u with resetting := u.resetting ++ [k], lastFault := u.lastFault.set k s.time }

/-- The cell is beyond reset (R414): a spare is mapped in by a cluster reset, the cell is fenced; beyond the spares the cluster escalates.
A mapped spare's mapping takes effect with the reset. -/
def State.replaceCell (s : State) (r c k : Nat) : State :=
  match (s.cluster r c).replace [k] with
  | none => ((s.modCluster r c fun u => { u with fencedCells := u.fencedCells ++ [k] }).escalate (pgCluster r c) 5 3).fenceCluster r c
  | some u =>
    let s1 := (s.modCluster r c fun v => { u with lastFault := v.lastFault.set k s.time, mapping := v.serves k }).record (pgCluster r c) 4 false
    (if ((s.cluster r c).serves k).isSome then s1.record (pgCluster r c) 3 false else s1).clusterReset r c

/-- CELL_FAULT (R414): the cell reports to its cluster, one tc later; the first action is a cell reset, the next, for the same cell again
within 1 s or for its microcode store, a spare. A cell that resets or is out of service reports nothing. A single-bit error is corrected and
counted (R21, R435). -/
def State.cellFault (s : State) (r c k : Nat) (kind : CellFaultKind) : State :=
  let u := s.cluster r c
  if !s.live.contains r || u.state != 0 || u.resetting.contains k || u.fencedCells.contains k then s
  else if kind == .bufCorrected then s.count (pgCell r c k) 4 1
  else
    let pg := pgCell r c k
    let i := cellBit kind
    let s1 := ((s.record pg i false).pass 1).escalate pg i 0
    let again := match u.lastFault.get? k with | none => false | some t => decide (s.time < t + 1000000000)
    if again || kind == .ucodeStore then s1.replaceCell r c k else s1.cellReset r c k

/-- CELL_FAULT (R414). -/
def execCellFault (r : RegionId) (c : ClusterId) (k : CellId) (kind : CellFaultKind) (s : State) : Host.Outcome State Fault Refusal :=
  .next (s.cellFault r.val c.val k.val kind)

/-- The registers of a page at their reset values (R14). -/
def State.reloadPage (s : State) (pg : Nat) : State := s.resetRegs fun a => decide (pg ≤ a ∧ a < pg + 0x1000)

/-- CELL_RESET_END (R410): the cell's page is reloaded, and RESET_DONE counts at the cell and its cluster. -/
def State.cellResetEnd (s : State) (r c k : Nat) : State :=
  if (s.cluster r c).resetting.contains k then
    let s1 := (s.modCluster r c fun u => { u with resetting := u.resetting.filter (· != k) }).reloadPage (pgCell r c k)
    ((s1.count (pgCell r c k) 5 1).count (pgCluster r c) 5 1).bumpF pgBringup Fld.RESET_COUNT_CELL 1
  else s

/-- CELL_RESET_END (R410). -/
def execCellResetEnd (r : RegionId) (c : ClusterId) (k : CellId) (s : State) : Host.Outcome State Fault Refusal :=
  .next (s.cellResetEnd r.val c.val k.val)

/-- CLUSTER_RESET_END (R406, R410, R414): the cluster's pages are reloaded, its microcode is loaded anew, and a spare that was to be
mapped serves. A cell that lacks a chunk is fenced, and a spare with the whole image replaces it. -/
def State.clusterResetEnd (s : State) (r c : Nat) (ucode : List UcodeResult) : State :=
  let u := s.cluster r c
  if u.state ≠ 1 then s
  else
    let mine := ucode.filter fun m => m.cluster.val == c
    let bad := (mine.filter fun m => m.missing != 0).map (·.cell.val)
    let s1 := (List.range 34).foldl (fun s k => s.reloadPage (pgCell r c k)) (s.reloadPage (pgCluster r c))
    let s2 := s1.modCluster r c fun u => { u with state := 0, resetting := [] }
    let s3 := (mine.foldl (fun s m => s.ucodeResult r m) s2).bumpF pgBringup Fld.RESET_COUNT_CLUSTER 1
    let s4 := s3.count (pgCluster r c) 5 1
    let s5 := if u.mapping.isSome then s4.count (pgCluster r c) 0x41 1 else s4
    match ({ u with state := 0, resetting := [], mapping := none }).replace bad with
    | none => (s5.escalate (pgCluster r c) 5 3).fenceCluster r c
    | some v => (s5.modCluster r c fun _ => v).count (pgCluster r c) 0x41 (bad.filterMap u.serves).length

/-- CLUSTER_RESET_END (R410). -/
def execClusterResetEnd (r : RegionId) (c : ClusterId) (ucode : List UcodeResult) (s : State) : Host.Outcome State Fault Refusal :=
  .next (s.clusterResetEnd r.val c.val ucode)

/-! ### Slices -/

/-- The context whose share holds a granule of region store (R299). -/
def State.ownerOf (s : State) (granule : Nat) : Option Nat :=
  (s.ctxs.find? fun e => match e.2.share with | none => false | some b => decide (b.1 ≤ granule) && decide (granule < b.1 + b.2)).map (·.1)

/-- SLICE_FAULT (R317, R414, R439): a first uncorrectable error in a 64 KiB block tears down the context that owns the address, or is the
firmware's own fault in granule 0; a second one in the block fences the cluster. Cluster c's slice is bytes 4 MiB × c on of the region
store. -/
def State.sliceFault (s : State) (r c off : Nat) : State :=
  let u := s.cluster r c
  if !s.live.contains r || u.state == 2 then s
  else
    let pg := pgCluster r c
    let s1 := (s.note (pg + 0x98) (2 ^ 63)).setReg (pg + 0x98) (2 ^ 63 + off)
    if u.blocks.contains (off / 65536) then (s1.escalate pg 1 3).fenceCluster r c
    else
      let s2 := (s1.contain pg 1).modCluster r c fun u => { u with blocks := u.blocks ++ [off / 65536] }
      let granule := 2 * c + off / 0x200000
      if granule = 0 then s2.regionEscalates r 8
      else match s.ownerOf granule with
        | none => s2
        | some x => s2.startTeardown x stContextFault false

/-- A cluster detects a fault of its own (R21, R410, R414): an uncorrectable error of its slice; a single-bit one, which it corrects and
counts; parity of its network, for which its region resets it. -/
def State.clusterFault (s : State) (r c : Nat) (f : SliceFault) : State :=
  match f with
  | .uncorrectable offset => s.sliceFault r c offset.toNat
  | .corrected => if s.live.contains r && (s.cluster r c).state != 2 then s.count (pgCluster r c) 4 1 else s
  | .network => if s.live.contains r && (s.cluster r c).state == 0 then (s.contain (pgCluster r c) 2).clusterReset r c else s

/-- SLICE_FAULT (R414). -/
def execSliceFault (r : RegionId) (c : ClusterId) (f : SliceFault) (s : State) : Host.Outcome State Fault Refusal :=
  .next (s.clusterFault r.val c.val f)

end Sys2Proof.Machine
end

