-- ==== Sys2Proof/Machine/Wrapper.lean ====
section
/-! DEFINITION. Sys2Proof/Machine/Wrapper.lean: the IEEE 1500 wrapper (R467 to R469) and the viewfinder (R470 to R473). -/

namespace Sys2Proof.Machine

/-- The state with region r's wrapper changed. -/
def State.modWrapper (s : State) (r : Nat) (f : Wrapper → Wrapper) : State :=
  s.modRegion r fun g => { g with wrapper := f g.wrapper }

/-- An update of WIR (R468): in a permitted bring-up state the instruction is in force, and clears FUNCTIONAL where the table
says; otherwise WS_BYPASS is loaded. -/
def State.loadWir (s : State) (r code : Nat) (permitted : Bool) : State :=
  let c := if permitted then code else 0
  let s1 := s.modWrapper r fun w => { w with wir := BitVec.ofNat 8 c }
  if c = 0 ∨ c = 0x20 ∨ c = 0x21 then s1 else s1.setF (pgTest r) Fld.WRAPPER_STATE_FUNCTIONAL 0

/-- RESET or NOT_READY (R468). -/
def State.testable (s : State) : Bool := s.bringState == 0 || s.bringState == 12

/-- WRSTN_RESET (R467): WRSTN low loads WS_BYPASS. -/
def execWrstnReset (r : RegionId) (s : State) : Host.Outcome State Fault Refusal := .next (s.loadWir r.val 0 true)

/-- WS_BYPASS (R468): the wrapper is transparent; its data register is WBY. -/
def execWsBypass (r : RegionId) (s : State) : Host.Outcome State Fault Refusal := .next (s.loadWir r.val 0 true)

/-- WS_EXTEST (R468, R469): boundary outputs are driven from WBR, which takes the bits shifted in. -/
def execWsExtest (r : RegionId) (bits : Bytes) (s : State) : Host.Outcome State Fault Refusal :=
  if bits.length ≤ 1024 then
    .next (if s.testable then (s.loadWir r.val 1 true).modWrapper r.val fun w => { w with wbr := bits }
      else s.loadWir r.val 1 false)
  else .fault .malformed

/-- WS_INTEST (R468, R469): the region's boundary inputs are driven from WBR. -/
def execWsIntest (r : RegionId) (bits : Bytes) (s : State) : Host.Outcome State Fault Refusal :=
  if bits.length ≤ 1024 then
    .next (if s.testable then (s.loadWir r.val 2 true).modWrapper r.val fun w => { w with wbr := bits }
      else s.loadWir r.val 2 false)
  else .fault .malformed

/-- WS_CLAMP (R468): outputs are held at the values last in WBR. -/
def execWsClamp (r : RegionId) (s : State) : Host.Outcome State Fault Refusal := .next (s.loadWir r.val 3 s.testable)

/-- WS_SAFE (R468): every VALID and READY output, IRQ and WAKE at 0, CP_RSP_ERR at 1. -/
def execWsSafe (r : RegionId) (s : State) : Host.Outcome State Fault Refusal := .next (s.loadWir r.val 4 s.testable)

/-- SCAN (R468): in RESET only; the internal chains take the bits shifted in. -/
def execScan (r : RegionId) (bits : Bytes) (s : State) : Host.Outcome State Fault Refusal :=
  if bits.length ≤ 1024 then
    .next (if s.bringState == 0 then (s.loadWir r.val 0x10 true).modWrapper r.val fun w => { w with scan := bits }
      else s.loadWir r.val 0x10 false)
  else .fault .malformed

/-- MBIST (R468): runs the memory self-test; the status word reports slices and staging passed, and done. -/
def execMbist (r : RegionId) (slices : BitVec 16) (staging : Bool) (s : State) : Host.Outcome State Fault Refusal :=
  .next (if s.testable then
    (s.loadWir r.val 0x11 true).modWrapper r.val fun w =>
      { w with dr := BitVec.ofNat 80 (2 ^ 63 + flag staging * 2 ^ 16 + slices.toNat) }
    else s.loadWir r.val 0x11 false)

/-- STATE_READ (R468): captures BRINGUP_STATE. -/
def execStateRead (r : RegionId) (s : State) : Host.Outcome State Fault Refusal :=
  .next ((s.loadWir r.val 0x21 true).modWrapper r.val fun w =>
    { w with dr := BitVec.ofNat 80 (putBits (s.reg (pgBringup + 0x80)) 31 24 s.liveMask) })

/-- A write of VF_TRIG (R472, R473): EVENT and MODE are stored, FIRED is W1C; MODE 1 arms the trigger, any other mode disarms it, from
the next tc on. -/
def State.writeVfTrig (s : State) (r w : Nat) : State :=
  ((s.note (pgView r + 0xA0) 0).writePlain (pgView r + 0xA0) w).setF (pgView r) Fld.VF_TRIG_ARMED (flag (bits w 17 16 == 1))

/-- VF_TRIG_WRITE (R472, R473). -/
def execVfTrigWrite (r : RegionId) (w : W64) (s : State) : Host.Outcome State Fault Refusal :=
  .next (s.whereAnswers (pgView r.val) fun s => s.writeVfTrig r.val w.toNat)

/-- A write of VF_CHAN[i] (R470, R473), from the next tc on. -/
def State.writeVfChan (s : State) (r i w : Nat) : State :=
  (s.note (pgView r + 0x80 + 8 * i) 0).writePlain (pgView r + 0x80 + 8 * i) w

/-- The value that a source code observes in region r (R471). Codes whose value is one of the plate's own moments observe
the state as it stands between steps. -/
def State.vfSource (s : State) (r code : Nat) : Nat :=
  let g := s.region r
  let run := (s.runs.filter fun x => x.started).findSome? fun x => x.regions.get? r
  match code with
  | 0x1000 => match run with | none => 0 | some x => 0x8000 + x.lastBundle % 0x8000
  | 0x2000 => match run with | none => 0 | some x => maskOf (x.busy.map (·.unit))
  | 0x6000 => g.workQueue.length % 2 ^ 16
  | 0x7000 => g.beats % 2 ^ 16
  | 0x8000 => min g.stall 0xFFFF
  | 0xA000 => g.tc % 2 ^ 16
  | _ =>
    if 0x3000 ≤ code ∧ code < 0x3040 then
      match run with | none => 0 | some x => (x.cnt.getD (code - 0x3000) []).sum % 2 ^ 16
    else if 0x4000 ≤ code ∧ code < 0x4008 then (s.memPort r (code - 0x4000)).txs.length % 2 ^ 16
    else if 0x5000 ≤ code ∧ code < 0x5004 then
      (s.inlet r (code - 0x5000)).occupancy % 2 ^ 16
    else if 0x9000 ≤ code ∧ code < 0x9004 then
      s.getF (pgLink r (code - 0x9000)) Fld.LINK_STATE_LANES * 0x1000 + s.getF (pgLink r (code - 0x9000)) Fld.LINK_STATE_STATE
    else 0

/-- Channel i of region r's viewfinder. -/
def State.vfChannel (s : State) (r i : Nat) : VfChannel := (s.region r).view.channels.getD i VfChannel.reset

/-- The state with a channel of region r's viewfinder changed. -/
def State.modVf (s : State) (r i : Nat) (f : VfChannel → VfChannel) : State :=
  s.modRegion r fun g => { g with view := { g.view with channels := g.view.channels.update i VfChannel.reset f } }

/-- Push a sample of a channel (R470): into a queue of 256, or lost with CAPTURE_OVERRUN and GAP on the next one. -/
def State.vfPush (s : State) (r i v : Nat) : State :=
  let ch := s.vfChannel r i
  if 256 ≤ ch.queue.length then (s.modVf r i fun ch => { ch with gap := true, value := v, mark := false }).contain (pgView r) 0
  else
    let sample := flag ch.mark * 2 ^ 30 + flag ch.gap * 2 ^ 29 + 2 ^ 28 + min (max ch.age 1) 4095 * 2 ^ 16 + v % 2 ^ 16
    s.modVf r i fun ch => ⟨ch.queue ++ [BitVec.ofNat 32 sample], v, 0, false, false, ch.out⟩

/-- VF_CHAN[i] of region r as it is in force (R473). -/
def State.vfChan (s : State) (r i : Nat) : Nat := s.inForce (pgView r + 8 * i + Fld.VF_CHAN_ENABLE.off)

/-- Whether an armed trigger holds region r's channels (R472, R473). -/
def State.vfArmed (s : State) (r : Nat) : Bool := bitAt (s.inForce (pgView r + Fld.VF_TRIG_ARMED.off)) 18

/-- VF_FORCED_PUSH (R470, R472): 4,095 tc after its last push an enabled channel that no armed trigger holds pushes its source's value. -/
def execVfForcedPush (r : RegionId) (ch : Fin 4) (s : State) : Host.Outcome State Fault Refusal :=
  let w := s.vfChan r.val ch.val
  if bitAt w 16 && !s.vfArmed r.val then
    .next ((s.modVf r.val ch.val fun x => { x with age := 4095 }).vfPush r.val ch.val (s.vfSource r.val (bits w 15 0)))
  else .next s

/-- One tc of channel i of region r (R470, R472): an enabled channel samples its source, and pushes the sample where the trigger marks the
tc, or, while no armed trigger holds it, where it differs from the previous one or 4,095 tc have passed since the last push. -/
def State.vfSampleOne (s : State) (r i : Nat) : State :=
  let w := s.vfChan r i
  if !bitAt w 16 then s.modVf r i fun ch => { ch with mark := false }
  else
    let v := s.vfSource r (bits w 15 0)
    let s1 := s.modVf r i fun ch => { ch with age := ch.age + 1 }
    let ch := s1.vfChannel r i
    if ch.mark || (!s.vfArmed r && (v != ch.value || decide (4095 ≤ ch.age))) then s1.vfPush r i v
    else s1.modVf r i fun ch => { ch with value := v }

/-- One tc of region r's viewfinder, in which CYCLE occurs (R435, R470, R472). -/
def State.vfSample (s : State) (r : Nat) : State := (List.range 4).foldl (fun s i => s.vfSampleOne r i) (s.vfEvent r 0x2007)

/-- One VF_CLK cycle (R470, R472): each channel's oldest queued sample drains onto VF_D, which reads 0 without one, and VF_TRIG_OUT shows
a pulse that waits. -/
def Viewfinder.drain (v : Viewfinder) : Viewfinder :=
  { channels := v.channels.map fun (e : Nat × VfChannel) => (e.1, { e.2 with queue := e.2.queue.drop 1, out := e.2.queue.headD 0 })
    trigOut := v.pulse, pulse := false }

/-- One VF_CLK cycle of region r. -/
def State.vfDrain (s : State) (r : Nat) : State := s.modRegion r fun g => { g with view := g.view.drain }

end Sys2Proof.Machine
end

