-- ==== Sys2Proof/Machine/ControlPort.lean ====
section
/-! DEFINITION. Sys2Proof/Machine/ControlPort.lean: the control port (R451 to R453): what a read of each register returns (R10 to R13, R428,
R429 and the pages' own tables), what a write does, REGISTER_WRITE, RC_READ and VF_ACCESS. -/

namespace Sys2Proof.Machine

/-- A word with the listed fields put: (field, value). -/
def fields (w : Nat) (fs : List (Fld × Nat)) : Nat := fs.foldl (fun w f => putBits w f.1.hi f.1.lo f.2) w

/-! ### Header registers -/

/-- PAGE_ID of a page (R429). -/
def State.pageId (s : State) (pg : Nat) : Nat :=
  fields 0 [(Fld.PAGE_ID_STEPPING, s.stepping.toNat), (Fld.PAGE_ID_LEVEL, kindLevel (pageKind pg)), (Fld.PAGE_ID_VERSION, 1),
    (Fld.PAGE_ID_REGION, if pg < 0x8000000 then pg / 0x1000000 else 0xFF), (Fld.PAGE_ID_INSTANCE, pageInstance pg), (Fld.PAGE_ID_KIND, pageKind pg)]

/-- PAGE_STATUS of a page (R429). -/
def State.pageStatus (s : State) (pg : Nat) : Nat :=
  let open_ := (List.range 32).any fun i => bitAt (s.getF pg Fld.ERR_STATUS_STATUS) i && !bitAt (s.getF pg Fld.ERR_MASK_MASK) i
  fields 0 [(Fld.PAGE_STATUS_FIRST_VALID, s.getF pg Fld.ERR_FIRST_VALID), (Fld.PAGE_STATUS_ERR_PENDING, flag open_),
    (Fld.PAGE_STATUS_STATE, s.pageState pg)]

/-- Rows that region a has sent to region b over edges in the sets in flight and that b has not released (R146). -/
def State.rowsCrossing (s : State) (a b : Nat) : Nat :=
  let sent := (s.runs.map fun x => match x.regions.get? a with
    | none => 0
    | some g => ((g.streams.filter fun t => t.sent && t.lane == b && g.sends.any fun e => e.1 == b && e.2.1 == t.entry).map
        fun t => t.items.length).sum).sum
  sent - (((s.region b).transfers.filter fun t => t.src == a && t.taken).map (·.count)).sum

/-- Rows that region r's link slots are sending (R146). -/
def State.rowsLinking (s : State) (r : Nat) : Nat :=
  (s.runs.map fun x => match x.regions.get? r with
    | none => 0
    | some g => ((g.busy.filter fun b => 6 ≤ b.unit && b.unit ≤ 9 && b.opcode == 1).map fun b => (b.takes.map (·.1)).sum).sum).sum

/-- The level of a gauge code of a page; 0 for a code that its kind does not list (R435). -/
def State.gauge (s : State) (pg code : Nat) : Nat :=
  let r := pg / 0x1000000
  let n := pageInstance pg
  match pageKind pg, code with
  | 0x06, 0x80 => ((List.range 8).map fun d => s.rowsCrossing r d).sum
  | 0x06, 0x81 => ((List.range 8).map fun a => s.rowsCrossing a r).sum
  | 0x06, 0x82 => s.rowsLinking r
  | 0x09, 0x80 => (s.memPort r n).txs.length
  | 0x0B, 0x80 => (s.inlet r n).occupancy
  | 0x08, 0x80 => min (s.region r).workQueue.length 2048
  | _, _ => 0

/-! ### Registers that show the state of their unit -/

/-- ACTIVITY of a context: 0 IDLE, 1 RUNNABLE, 2 BLOCKED, 3 RUNNING (R297). -/
def State.activity (s : State) (c : Nat) : Nat :=
  if s.running c then 3 else if s.ctxIdle c then 0 else if s.anyReady c then 1 else 2

/-- CTX_STATE of a context (R320). -/
def State.ctxState (s : State) (c : Nat) : Nat :=
  let x := s.ctx c
  if x.state = 0 then fields 0 [(Fld.CTX_STATE_FAULT_CODE, x.faultCode)]
  else fields 0 [(Fld.CTX_STATE_FAULT_CODE, x.faultCode), (Fld.CTX_STATE_SHARE_BASE, if x.state = 1 then (x.share.getD (0, 0)).1 else 0),
    (Fld.CTX_STATE_SHARE_G, recShareG x.record), (Fld.CTX_STATE_PARTITION, recPartition x.record), (Fld.CTX_STATE_PRIORITY, recPriority x.record),
    (Fld.CTX_STATE_ISSUE_SHARE, recIssueShare x.record), (Fld.CTX_STATE_ACTIVITY, s.activity c), (Fld.CTX_STATE_STATE, x.state)]

/-- GROUP_STATE of a group slot (R231). -/
def State.groupState (s : State) (i : Nat) : Nat :=
  let g := s.group i
  fields 0 [(Fld.GROUP_STATE_GROUP_EPOCH, g.epoch), (Fld.GROUP_STATE_STATE, g.state), (Fld.GROUP_STATE_LIVE, g.live.length),
    (Fld.GROUP_STATE_SELF_POS, if g.live.contains s.self then g.live.findIdx (· == s.self) else 0)]

/-- POOL_STATE[i] of region r for the context that BASIN_SEL selects (R294). -/
def State.poolState (s : State) (r i : Nat) : Nat :=
  let x := s.ctx (s.getF (pgBasin r) Fld.BASIN_SEL_CONTEXT)
  let n := if x.state = 0 then 0 else poolCount x (i / 6) (i % 6)
  fields 0 [(Fld.POOL_STATE_FREE, n - (allocatedOf x (i / 6) (i % 6) r).length), (Fld.POOL_STATE_TOTAL, n)]

/-- INLET_OCC (R295). -/
def Inlet.occWord (i : Inlet) : Nat :=
  let written (k : Nat) (b : InletBank) : Nat := b.used + if i.fill = k then i.part else 0
  fields 0 [(Fld.INLET_OCC_FILL_BANK, i.fill), (Fld.INLET_OCC_OCCUPANCY, i.occupancy), (Fld.INLET_OCC_BANK1_USED, written 1 i.bank1),
    (Fld.INLET_OCC_BANK0_USED, written 0 i.bank0)]

/-- CLUSTER_STATE (R439). -/
def ClusterUnit.stateWord (u : ClusterUnit) : Nat :=
  fields 0 [(Fld.CLUSTER_STATE_STATE, u.state), (Fld.CLUSTER_STATE_IN_SERVICE, maskOf ((List.range 34).filter fun k => (u.serves k).isSome))]

/-- CELL_STATE of physical cell k over its stored MISSING (R440). -/
def ClusterUnit.cellWord (u : ClusterUnit) (k stored : Nat) : Nat :=
  let role := if u.fencedCells.contains k then 3 else if k < 32 then 0 else if (u.serves k).isSome then 2 else 1
  fields stored [(Fld.CELL_STATE_LOGICAL, (u.serves k).getD 0), (Fld.CELL_STATE_UCODE_OK, flag (bits stored 24 16 == 0)), (Fld.CELL_STATE_ROLE, role)]

/-- REGION_HEALTH of region r over its stored STORE_REPAIRS (R423). -/
def State.healthWord (s : State) (r stored : Nat) : Nat :=
  let h := (s.region r).health
  let spares := ((List.range 16).map fun c => flag (s.cluster r c).spare0.isSome + flag (s.cluster r c).spare1.isSome).sum
  fields stored [(Fld.REGION_HEALTH_CLUSTERS, if h = 1 ∨ h = 3 then s.clusterMask r else 0), (Fld.REGION_HEALTH_FENCED_RT, s.bringUp.fencedRt.getD r 0),
    (Fld.REGION_HEALTH_SPARES_USED, spares), (Fld.REGION_HEALTH_STATE, h)]

/-- MEMB_STATE over its stored DUP_ID and SELF (R397). -/
def State.membState (s : State) (stored : Nat) : Nat :=
  let m := s.membership
  fields stored [(Fld.MEMB_STATE_EPOCH, m.epoch), (Fld.MEMB_STATE_PHASE, m.phase), (Fld.MEMB_STATE_COORDINATOR, flag (s.coordinator == s.self)),
    (Fld.MEMB_STATE_MEMBERS, m.members.length)]

/-- ENGINE_INFO (R447). -/
def State.engineInfo (s : State) : Nat :=
  fields 0 [(Fld.ENGINE_INFO_STEPPING, s.stepping.toNat), (Fld.ENGINE_INFO_PLACED, maskOf s.placedRegions), (Fld.ENGINE_INFO_LIVE, s.liveMask),
    (Fld.ENGINE_INFO_LEADER, s.leader), (Fld.ENGINE_INFO_GRADE, s.bringUp.grade), (Fld.ENGINE_INFO_ROM_VERSION, Config.romVersion.toNat)]

/-- REGION_INFO of region r (R438). -/
def State.regionInfo (s : State) (r : Nat) : Nat :=
  fields 0 [(Fld.REGION_INFO_LIVE_CLUSTERS, s.liveClusters r), (Fld.REGION_INFO_LEADER, flag (s.leader == r)),
    (Fld.REGION_INFO_GRADE, s.bringUp.grade), (Fld.REGION_INFO_REGION, r)]

/-- SUPPLY (R424). -/
def State.supplyWord (s : State) : Nat :=
  fields 0 [(Fld.SUPPLY_THERM, s.thermNow), (Fld.SUPPLY_CAUSE_THERMAL, flag s.causeThermal), (Fld.SUPPLY_CAUSE_SUPPLY, flag s.causeSupply),
    (Fld.SUPPLY_SAFELIGHT, flag s.power.safelight), (Fld.SUPPLY_SUPPLY_STATE, s.power.supply)]

/-- What a page's own register at an offset reads, where it shows a unit's state; the stored word w elsewhere. -/
def State.kindView (s : State) (pg off w : Nat) : Nat :=
  let r := pg / 0x1000000
  let n := pageInstance pg
  let i := (off - 0x100) / 8
  match pageKind pg, off with
  | 0x01, 0x80 => s.regionInfo r
  | 0x01, 0x90 => ((s.region r).tc + 2 + s.freeVal.toNat % 5) % 2 ^ 48
  | 0x08, 0x80 => fields w [(Fld.WP_QUEUE_OCCUPANCY, min (s.region r).workQueue.length 2048)]
  | 0x09, 0x80 => fields w [(Fld.MP_STATE_SLOTS, s.memSlots r)]
  | 0x0B, 0x98 => (s.inlet r n).occWord
  | 0x0D, 0x80 => fields w [(Fld.WRAPPER_STATE_INSTRUCTION, (s.region r).wrapper.wir.toNat)]
  | 0x0F, 0x88 => (s.cluster r n).stateWord
  | 0x0F, 0x90 => spareWord (s.cluster r n)
  | 0x10, 0x80 => (s.cluster r ((pg % 0x1000000 / 0x1000 - 0x200) / 0x40)).cellWord n w
  | 0x10, 0x88 => if (s.region r).memPorts.any fun m => !m.2.txs.isEmpty then s.freeVal.toNat % 17 else 0
  | 0x20, 0x88 => s.engineInfo
  | 0x20, 0x90 => s.time % 2 ^ 64
  | 0x20, 0x98 => Config.romCrc.toNat
  | 0x21, 0x80 => putBits w 31 24 s.liveMask
  | 0x22, 0x80 => s.supplyWord
  | 0x24, 0x80 => s.reproSig.toNat
  | 0x27, 0x80 => s.membState w
  | 0x28, 0x1C0 => flag s.wake
  | kind, _ =>
    if kind = 0x05 ∧ 0x100 ≤ off ∧ off < 0x160 then s.poolState r i
    else if kind = 0x21 ∧ 0x100 ≤ off ∧ off < 0x140 then s.healthWord i w
    else if kind = 0x23 ∧ 0x100 ≤ off ∧ off < 0x180 then s.ctxState i
    else if kind = 0x23 ∧ 0x180 ≤ off ∧ off < 0x200 then (s.ctx (i - 16)).vtime % 2 ^ 48
    else if kind = 0x25 ∧ 0x100 ≤ off ∧ off < 0x300 then s.groupState i
    else if kind = 0x27 ∧ 0x100 ≤ off ∧ off < 0x180 then maskOf ((s.membership.members.filter fun m => m / 64 == i).map (· % 64))
    else w

/-- The value of the register at an offset from E; a location without a register reads 0 (R13). -/
def State.view (s : State) (a : Nat) : Nat :=
  let pg := pageBase a
  let off := a % 0x1000
  if off = 0 then s.pageId pg
  else if off = 0x10 then s.pageStatus pg
  else match regSpec a with
    | none => 0
    | some (sp, i) =>
      let w := s.reg a
      if sp.fields.all fun f => f.acc == .wo then 0
      else if 0x40 ≤ off ∧ off < 0x80 then
        let code := bits (s.reg (pg + 0x38)) (8 * i + 7) (8 * i)
        if 0x80 ≤ code then s.gauge pg code else w
      else if off < 0x80 then w
      else s.kindView pg off w

/-! ### Reads -/

/-- Whether a read takes a free value: CELL_TX, and TC_NOW, whose request crosses 2 to 6 tc after its transfer (R453; log 7). -/
def State.readDraws (s : State) (a : Nat) : Bool :=
  (pageKind a == 0x01 && a % 0x1000 == 0x90) ||
  pageKind a == 0x10 && a % 0x1000 == 0x88 && (s.region (a / 0x1000000)).memPorts.any fun m => !m.2.txs.isEmpty

/-- A read of the register at an offset from E (R11, R12, R428): its value, and the state after it. While a cell or cluster resets its
registers read their reset values; a fenced one's hold. -/
def State.regRead (s : State) (a : Nat) : Nat × State :=
  let pg := pageBase a
  let off := a % 0x1000
  let st := s.pageState pg
  if off = 0 ∨ off = 0x10 then (s.view a, s)
  else if st = 1 then (resetWord a, s)
  else if st = 2 then (s.view a, if s.readDraws a then s.drew else s)
  else if pg = pgIntr ∧ 0x140 ≤ off ∧ off < 0x1C0 ∧ off % 8 = 0 then s.claim ((off - 0x140) / 8)
  else if pageKind pg = 0x0B ∧ off = 0xB0 then s.readMgmt (pg / 0x1000000) (pageInstance pg) true
  else (s.beforeTc a (s.view a), (if s.readDraws a then s.drew else s).readClear a)

/-! ### Writes -/

/-- A write of BRINGUP_CTL (R423): RECORD_BASE is stored; then an engine reset, or region resets and GO. -/
def State.writeBringupCtl (s : State) (a w : Nat) : State :=
  let s1 := s.writePlain a w
  if bitAt w 1 then s1.engineReset
  else
    let s2 := s1.regionResets (bits w 15 8)
    if bitAt w 0 then s2.go else s2

/-- A write of a register of the RING page of a context (R349). -/
def State.writeRingPage (s : State) (c off w : Nat) : State :=
  if off = 0xC0 then s.writeCplRing c w
  else if off = 0xC8 then s.writeCplTail c (w / 2 ^ 32)
  else if 0x80 ≤ off ∧ off < 0xC0 then
    let q := (off - 0x80) / 16
    if off % 16 = 0 then s.writeCmdRing c q w else s.doorbell c q (w / 2 ^ 32)
  else s

/-- A write of the register at an offset from E, whatever its page: registers whose write acts, then every other by its access codes. -/
def State.regWrite (s : State) (a w : Nat) : State :=
  let pg := pageBase a
  let off := a % 0x1000
  let r := pg / 0x1000000
  let n := pageInstance pg
  let kind := pageKind pg
  if off = 0x08 then s.writePageCtl pg w
  else if off = 0x28 then s.forceErrors pg w
  else if off = 0x38 then s.writeEvtSel pg w
  else if off < 0x80 then s.writePlain a w
  else if kind = 0x21 ∧ off = 0x88 then s.writeBringupCtl a w
  else if kind = 0x22 ∧ (off = 0x88 ∨ off = 0x90) then (s.writePlain a w).samplePower
  else if kind = 0x24 ∧ 0x100 ≤ off ∧ off < 0x300 ∧ off % 0x20 = 0x18 then s.writeContactTail ((off - 0x100) / 0x20) (bits w 31 0)
  else if kind = 0x28 ∧ 0xC0 ≤ off ∧ off < 0x140 ∧ off % 8 = 0 then s.writeTgtCtl ((off - 0xC0) / 8) w
  else if kind = 0x29 then s.writeRingPage n off w
  else if kind = 0x0B ∧ off = 0x80 then s.writeMgmtOwner r n w
  else if kind = 0x0B ∧ off = 0x88 then (s.writePlain a w).levelCheck r n
  else if kind = 0x0B ∧ off = 0x90 then s.writeFlush r n w
  else if kind = 0x0E ∧ off = 0xA0 then s.writeVfTrig r w
  else if kind = 0x0E ∧ 0x80 ≤ off ∧ off < 0xA0 ∧ off % 8 = 0 then s.writeVfChan r ((off - 0x80) / 8) w
  else s.writePlain a w

/-! ### The control port (R451 to R453) -/

/-- Even parity over every other signal of a request; VALID and READY are both 1 in the cycle of the transfer (R451, R452). -/
def requestParity (write : Bool) (q : CpRequest) : Bool :=
  (flag write + popcount q.addr.toNat 40 + popcount q.be.toNat 8 + popcount q.wdata.toNat 64 + popcount q.id.toNat 6) % 2 == 1

/-- The region's boundary works: no wrapper instruction takes it (R468). -/
def State.functional (s : State) (r : Nat) : Bool :=
  let w := (s.region r).wrapper.wir
  w == 0 || w == 0x20 || w == 0x21

/-- The offset from E that a request at region r's port reaches; none where it ends with an error response (R7, R9, R427, R452). -/
def State.target (s : State) (r : Nat) (q : CpRequest) : Option Nat :=
  let a := bits q.addr.toNat 27 0
  if q.be ≠ 0xFF ∨ a % 8 ≠ 0 ∨ bits q.addr.toNat 39 28 ≠ s.strap.toNat then none
  else if a < 0x8000000 ∧ a / 0x1000000 ≠ r then none
  else if !(s.region r).rom || !s.pageAnswers (pageBase a) then none
  else some a

/-- The state with a request answered. -/
def State.answer (s : State) (r : RegionId) (id : BitVec 6) (err : Bool) (data : Nat) : State :=
  { s with answers := s.answers ++ [(r, id, err, BitVec.ofNat 64 data)] }

/-- A request of the control port (R452): an error response where it reaches nothing; one whose parity fails also raises NET_PARITY; an
access to the engine group that meets a leader change is served by the new leader (R427). -/
def State.cpAccess (s : State) (r : RegionId) (write : Bool) (q : CpRequest) (f : State → Nat → Nat × State) : State :=
  if !s.functional r.val then s
  else if requestParity write q != q.par then
    (if (s.region r.val).clocks then s.contain (pgRegion r.val) 7 else s).answer r q.id true 0
  else
    let s0 := if 0x8000000 ≤ bits q.addr.toNat 27 0 then s.changeLeader else s
    match s0.target r.val q with
    | none => s0.answer r q.id true 0
    | some a => let (w, s1) := f s0 a; s1.answer r q.id false w

/-- REGISTER_WRITE (R11, R13, R428, R452). -/
def execRegisterWrite (r : RegionId) (req : CpRequest) (s : State) : Host.Outcome State Fault Refusal :=
  .next (s.cpAccess r true req fun s a => (0, if s.takesWrite a then s.regWrite a req.wdata.toNat else s))

/-- RC_READ (R11, R12, R428, R452): a read of any register; RC fields clear. -/
def execRcRead (r : RegionId) (req : CpRequest) (s : State) : Host.Outcome State Fault Refusal :=
  .next (s.cpAccess r false req State.regRead)

/-- VF_ACCESS (R468): reads or writes a register of the VIEWFINDER page; the data register is captured. -/
def execVfAccess (r : RegionId) (dr : BitVec 80) (s : State) : Host.Outcome State Fault Refusal :=
  let a := pgView r.val + bits dr.toNat 71 64 * 8
  let data := bits dr.toNat 63 0
  let s1 := s.loadWir r.val 0x20 true
  let (w, s2) := if bitAt dr.toNat 79 then (data, s1.regWrite a data) else s1.regRead a
  .next (s2.modWrapper r.val fun x => { x with dr := BitVec.ofNat 80 (putBits dr.toNat 63 0 w) })

end Sys2Proof.Machine
end

