-- ==== Sys2Proof/Machine/MemPorts.lean ====
section
/-! DEFINITION. Sys2Proof/Machine/MemPorts.lean: answers and credits on the memory ports (R146, R445, R454, R455). -/

namespace Sys2Proof.Machine

/-- The oldest request of a kind outstanding in a slot. -/
def MemPort.outstanding (m : MemPort) (write : Bool) (tag : Nat) : Option MemTx :=
  m.txs.find? fun t => t.write == write && t.sent && t.tag == tag

/-- The port without the oldest request of a kind in a slot. -/
def MemPort.freed (m : MemPort) (write : Bool) (tag : Nat) : MemPort :=
  { m with txs := m.txs.eraseP fun t => t.write == write && t.sent && t.tag == tag }

/-- Whether CHK disagrees with DATA: each bit is even parity over one 64-bit word (R454). -/
def chkBad (data chk : Nat) : Bool := (List.range 8).any fun i => bitAt chk i != evenParity (bits data (64 * i + 63) (64 * i)) 64

/-- The region isolates a memory port and escalates to the engine, which fences the region (R445). -/
def State.isolateMemPort (s : State) (r m : Nat) : State :=
  ((s.setF (pgMem r m) Fld.MP_STATE_STATE 1).escalate (pgRegion r) 6 0).fenceRegion r

/-- An error response (R445): RESP_ERROR, its counter, and after 16 within 1 ms the port's isolation. -/
def State.respError (s : State) (r m : Nat) (f : Fld) : State :=
  let times := ((s.memPort r m).errors.filter fun t => decide (s.time < t + 1000000)) ++ [s.time]
  let s1 := ((s.bumpF (pgMem r m) f 1).contain (pgMem r m) 0).modMemPort r m fun p => { p with errors := times }
  if 16 ≤ times.length then s1.isolateMemPort r m else s1

/-- The bytes of a unit that a read moves are written where they go in region store. -/
def State.landUnit (s : State) (r : Nat) (t : MemTx) (data : Bytes) : State :=
  match t.keep with
  | [] => s
  | b :: _ => s.storeWrite r (t.dest + (b : Int)).toNat ((data.drop b).take t.keep.length)

/-- The units of region store that those bytes lie in are marked uncorrectable (R445). -/
def State.poisonUnit (s : State) (r : Nat) (t : MemTx) : State :=
  let us := (t.keep.map fun (b : Nat) => (t.dest + (b : Int)).toNat / 64).eraseDups
  s.modRegion r fun g => { g with poison := g.poison ++ us.filter fun u => !g.poison.contains u }

/-- The staging bank that a failed read was to fill is marked uncorrectable (R317, R445). -/
def State.poisonBank (s : State) (t : MemTx) : State :=
  match t.bank with
  | none => s
  | some (c, k) => s.modCtx c fun x =>
    match x.banks.get? k with | none => x | some b => { x with banks := x.banks.set k { b with poison := true } }

/-- MEMORY_READ_ANSWER (R445, R454, R455): a good answer lands; one with FAIL or a bad CHK is an error response whose bytes are marked
uncorrectable; one whose TAG names no outstanding read is discarded. -/
def State.readAnswer (s : State) (r m tag data : Nat) (fail : Bool) (chk : Nat) : State :=
  if !s.live.contains r then s
  else match (s.memPort r m).outstanding false tag with
    | none => s.contain (pgMem r m) 2
    | some t =>
      let s1 := (s.modMemPort r m fun p => (p.freed false tag).fill (s.memSlots r)).landUnit r t (leBytes 64 data)
      if fail || chkBad data chk then ((s1.poisonUnit r t).poisonBank t).respError r m Fld.MP_RESP_READ_ERRORS else s1

/-- MEMORY_READ_ANSWER (R455). -/
def execMemoryReadAnswer (r : RegionId) (m : MemPortId) (tag : BitVec 10) (data : BitVec 512) (fail : Bool) (chk : Byte) (s : State) :
    Host.Outcome State Fault Refusal := .next (s.readAnswer r.val m.val tag.toNat data.toNat fail chk.toNat)

/-- MEMORY_WRITE_ANSWER (R445, R454, R455). -/
def State.writeAnswer (s : State) (r m tag : Nat) (fail : Bool) : State :=
  if !s.live.contains r then s
  else match (s.memPort r m).outstanding true tag with
    | none => s.contain (pgMem r m) 2
    | some _ =>
      let s1 := s.modMemPort r m fun p => (p.freed true tag).fill (s.memSlots r)
      if fail then s1.respError r m Fld.MP_RESP_WRITE_ERRORS else s1

/-- MEMORY_WRITE_ANSWER (R455). -/
def execMemoryWriteAnswer (r : RegionId) (m : MemPortId) (tag : BitVec 10) (fail : Bool) (s : State) : Host.Outcome State Fault Refusal :=
  .next (s.writeAnswer r.val m.val tag.toNat fail)

/-- A credit comes back: the oldest request of the path that waits for one leaves and spends it (R455). -/
def MemPort.credited (m : MemPort) (write : Bool) : MemPort :=
  match m.txs.findIdx? fun t => t.write == write && !t.sent with
  | some i => { m with txs := m.txs.modify i fun t => { t with sent := true } }
  | none => if write then { m with wrCredit := min 64 (m.wrCredit + 1) } else { m with rdCredit := min 64 (m.rdCredit + 1) }

/-- MEMORY_CREDIT (R455): the fabric never has more than 64 credits of a path with the engine. -/
def execMemoryCredit (r : RegionId) (m : MemPortId) (write : Bool) (s : State) : Host.Outcome State Fault Refusal :=
  .next (s.modMemPort r.val m.val fun p => p.credited write)

end Sys2Proof.Machine
end

