-- ==== Sys2Proof/Machine/Dispatch.lean ====
section
/-! DEFINITION. Sys2Proof/Machine/Dispatch.lean: which meaning each command has. -/

namespace Sys2Proof.Machine

/-- The effect of a command on everything but the queue. -/
def exec (i : Instr) (s : State) : Host.Outcome State Fault Refusal :=
  match i with
  | .nop c q => Sys2Proof.Machine.execNop c q s
  | .contextOpen c q => Sys2Proof.Machine.execContextOpen c q s
  | .contextClose c q => Sys2Proof.Machine.execContextClose c q s
  | .contextKill c q => Sys2Proof.Machine.execContextKill c q s
  | .shareSet c q => Sys2Proof.Machine.execShareSet c q s
  | .privilegeSet c q => Sys2Proof.Machine.execPrivilegeSet c q s
  | .windowWrite c q => Sys2Proof.Machine.execWindowWrite c q s
  | .groupDefine c q => Sys2Proof.Machine.execGroupDefine c q s
  | .groupDelete c q => Sys2Proof.Machine.execGroupDelete c q s
  | .plateLoad c q => Sys2Proof.Machine.execPlateLoad c q s
  | .plateDrop c q => Sys2Proof.Machine.execPlateDrop c q s
  | .routerWrite c q => Sys2Proof.Machine.execRouterWrite c q s
  | .contextParam c q => Sys2Proof.Machine.execContextParam c q s
  | .seqJoin c q => Sys2Proof.Machine.execSeqJoin c q s
  | .seqLeave c q => Sys2Proof.Machine.execSeqLeave c q s
  | .seqUpdate c q => Sys2Proof.Machine.execSeqUpdate c q s
  | .burnRead c q => Sys2Proof.Machine.execBurnRead c q s
  | .burnWrite c q => Sys2Proof.Machine.execBurnWrite c q s
  | .layerRun c q => Sys2Proof.Machine.execLayerRun c q s
  | .combineRun c q => Sys2Proof.Machine.execCombineRun c q s
  | .confluence c q => Sys2Proof.Machine.execConfluence c q s
  | .tensorCopy c q => Sys2Proof.Machine.execTensorCopy c q s
  | .doorbell c q tail => Sys2Proof.Machine.execDoorbell c q tail s
  | .cmdRingWrite c q w => Sys2Proof.Machine.execCmdRingWrite c q w s
  | .cplRingEnable c w => Sys2Proof.Machine.execCplRingEnable c w s
  | .cplPtrTail c tail => Sys2Proof.Machine.execCplPtrTail c tail s
  | .contactTail c tail => Sys2Proof.Machine.execContactTail c tail s
  | .issuePoint => Sys2Proof.Machine.execIssuePoint s
  | .epochStart run => Sys2Proof.Machine.execEpochStart run s
  | .operationEnd run r u => Sys2Proof.Machine.execOperationEnd run r u s
  | .setCnt run r => Sys2Proof.Machine.execSetCnt run r s
  | .loop run r => Sys2Proof.Machine.execLoop run r s
  | .waitUnits run r => Sys2Proof.Machine.execWaitUnits run r s
  | .signal run r => Sys2Proof.Machine.execSignal run r s
  | .readTime run r => Sys2Proof.Machine.execReadTime run r s
  | .readSensor run r => Sys2Proof.Machine.execReadSensor run r s
  | .proofEmit run r => Sys2Proof.Machine.execProofEmit run r s
  | .endPlate run r => Sys2Proof.Machine.execEndPlate run r s
  | .stageLoad run r bad => Sys2Proof.Machine.execStageLoad run r bad s
  | .score run r bad => Sys2Proof.Machine.execScore run r bad s
  | .scoreStore run r => Sys2Proof.Machine.execScoreStore run r s
  | .extTileIn run r => Sys2Proof.Machine.execExtTileIn run r s
  | .bankSwap run r => Sys2Proof.Machine.execBankSwap run r s
  | .rowLoad run r g => Sys2Proof.Machine.execRowLoad run r g s
  | .rowStore run r g => Sys2Proof.Machine.execRowStore run r g s
  | .deltaTest run r g => Sys2Proof.Machine.execDeltaTest run r g s
  | .deltaPrint run r g => Sys2Proof.Machine.execDeltaPrint run r g s
  | .select run r g => Sys2Proof.Machine.execSelect run r g s
  | .norm run r g => Sys2Proof.Machine.execNorm run r g s
  | .sort run r g => Sys2Proof.Machine.execSort run r g s
  | .rowSend run r g => Sys2Proof.Machine.execRowSend run r g s
  | .combineTerm run r g => Sys2Proof.Machine.execCombineTerm run r g s
  | .combinePackage run r g => Sys2Proof.Machine.execCombinePackage run r g s
  | .combineFinal run r g => Sys2Proof.Machine.execCombineFinal run r g s
  | .quant run r g => Sys2Proof.Machine.execQuant run r g s
  | .burn run r g => Sys2Proof.Machine.execBurn run r g s
  | .netMove run r => Sys2Proof.Machine.execNetMove run r s
  | .edgeSend run r => Sys2Proof.Machine.execEdgeSend run r s
  | .edgeRecv run r => Sys2Proof.Machine.execEdgeRecv run r s
  | .linkSend run r p => Sys2Proof.Machine.execLinkSend run r p s
  | .linkRecv run r p => Sys2Proof.Machine.execLinkRecv run r p s
  | .bAlloc run r => Sys2Proof.Machine.execBAlloc run r s
  | .bHand run r => Sys2Proof.Machine.execBHand run r s
  | .bRelease run r => Sys2Proof.Machine.execBRelease run r s
  | .bRefdec run r => Sys2Proof.Machine.execBRefdec run r s
  | .cfArm run r => Sys2Proof.Machine.execCfArm run r s
  | .cfLocal run r => Sys2Proof.Machine.execCfLocal run r s
  | .cfGlobal run r => Sys2Proof.Machine.execCfGlobal run r s
  | .cfWait run r => Sys2Proof.Machine.execCfWait run r s
  | .stopBathRelease r x deficit => Sys2Proof.Machine.execStopBathRelease r x deficit s
  | .linkTimeout run r p => Sys2Proof.Machine.execLinkTimeout run r p s
  | .tileTimeout run r => Sys2Proof.Machine.execTileTimeout run r s
  | .extTileTimeout run r => Sys2Proof.Machine.execExtTileTimeout run r s
  | .confluenceTimeout run r => Sys2Proof.Machine.execConfluenceTimeout run r s
  | .creditWaitTimeout c q => Sys2Proof.Machine.execCreditWaitTimeout c q s
  | .commandComplete => Sys2Proof.Machine.execCommandComplete s
  | .stepBoundary c step => Sys2Proof.Machine.execStepBoundary c step s
  | .shareApply c => Sys2Proof.Machine.execShareApply c s
  | .relocationDone => Sys2Proof.Machine.execRelocationDone s
  | .contextSaveDone c bad => Sys2Proof.Machine.execContextSaveDone c bad s
  | .contextLoadDone c bad => Sys2Proof.Machine.execContextLoadDone c bad s
  | .teardownEnd c => Sys2Proof.Machine.execTeardownEnd c s
  | .regulatorRefill r => Sys2Proof.Machine.execRegulatorRefill r s
  | .rtBudgetRefill c => Sys2Proof.Machine.execRtBudgetRefill c s
  | .regBucketWrite link part w => Sys2Proof.Machine.execRegBucketWrite link part w s
  | .callArm g => Sys2Proof.Machine.execCallArm g s
  | .armPacket r p pkt => Sys2Proof.Machine.execArmPacket r p pkt s
  | .verdictPacket r p pkt => Sys2Proof.Machine.execVerdictPacket r p pkt s
  | .dataPacket r p pkt => Sys2Proof.Machine.execDataPacket r p pkt s
  | .confluenceCredit r p pkt => Sys2Proof.Machine.execConfluenceCredit r p pkt s
  | .failPacket r p pkt => Sys2Proof.Machine.execFailPacket r p pkt s
  | .keepalivePacket r p pkt => Sys2Proof.Machine.execKeepalivePacket r p pkt s
  | .keepaliveSend g => Sys2Proof.Machine.execKeepaliveSend g s
  | .confluenceWatchdog g neighbour => Sys2Proof.Machine.execConfluenceWatchdog g neighbour s
  | .frameSend r p => Sys2Proof.Machine.execFrameSend r p s
  | .frameReceive r p f => Sys2Proof.Machine.execFrameReceive r p f s
  | .inletDrain r p => Sys2Proof.Machine.execInletDrain r p s
  | .inletFlush r p w => Sys2Proof.Machine.execInletFlush r p w s
  | .mgmtOwnerWrite r p w => Sys2Proof.Machine.execMgmtOwnerWrite r p w s
  | .mgmtRead r p software => Sys2Proof.Machine.execMgmtRead r p software s
  | .space r p pkt => Sys2Proof.Machine.execSpace r p pkt s
  | .spaceSend r p => Sys2Proof.Machine.execSpaceSend r p s
  | .ident r p pkt => Sys2Proof.Machine.execIdent r p pkt s
  | .width r p pkt => Sys2Proof.Machine.execWidth r p pkt s
  | .widthAck r p pkt => Sys2Proof.Machine.execWidthAck r p pkt s
  | .widthSwitch r p => Sys2Proof.Machine.execWidthSwitch r p s
  | .probe r p pkt now => Sys2Proof.Machine.execProbe r p pkt now s
  | .relay r p pkt => Sys2Proof.Machine.execRelay r p pkt s
  | .announce r p pkt => Sys2Proof.Machine.execAnnounce r p pkt s
  | .announceSend => Sys2Proof.Machine.execAnnounceSend s
  | .memberUnreachable m => Sys2Proof.Machine.execMemberUnreachable m s
  | .boundaryStart => Sys2Proof.Machine.execBoundaryStart s
  | .propose r p pkt => Sys2Proof.Machine.execPropose r p pkt s
  | .accept r p pkt => Sys2Proof.Machine.execAccept r p pkt s
  | .holding r p pkt => Sys2Proof.Machine.execHolding r p pkt s
  | .holdingSend => Sys2Proof.Machine.execHoldingSend s
  | .commit r p pkt => Sys2Proof.Machine.execCommit r p pkt s
  | .membershipWatchdog m => Sys2Proof.Machine.execMembershipWatchdog m s
  | .landing r p pkt => Sys2Proof.Machine.execLanding r p pkt s
  | .creditReturn r p pkt => Sys2Proof.Machine.execCreditReturn r p pkt s
  | .calibrationFrame r p margin => Sys2Proof.Machine.execCalibrationFrame r p margin s
  | .calibrationStarved r p => Sys2Proof.Machine.execCalibrationStarved r p s
  | .laneRetrain r p lane cause => Sys2Proof.Machine.execLaneRetrain r p lane cause s
  | .laneRetrainDone r p lane pass => Sys2Proof.Machine.execLaneRetrainDone r p lane pass s
  | .linkTrainStep r p res => Sys2Proof.Machine.execLinkTrainStep r p res s
  | .edgeTrainStep r e res => Sys2Proof.Machine.execEdgeTrainStep r e res s
  | .edgeFlitReceive r e ctl data => Sys2Proof.Machine.execEdgeFlitReceive r e ctl data s
  | .edgeIsolate r e clockLoss => Sys2Proof.Machine.execEdgeIsolate r e clockLoss s
  | .edgeRetrainDone r e pass => Sys2Proof.Machine.execEdgeRetrainDone r e pass s
  | .memoryReadAnswer r m tag data fail chk => Sys2Proof.Machine.execMemoryReadAnswer r m tag data fail chk s
  | .memoryWriteAnswer r m tag fail => Sys2Proof.Machine.execMemoryWriteAnswer r m tag fail s
  | .memoryCredit r m write => Sys2Proof.Machine.execMemoryCredit r m write s
  | .expertOutputTile r tag units par => Sys2Proof.Machine.execExpertOutputTile r tag units par s
  | .extScoreBlock r tag units par => Sys2Proof.Machine.execExtScoreBlock r tag units par s
  | .ewDescriptorTaken r => Sys2Proof.Machine.execEwDescriptorTaken r s
  | .erRead r handle offset units id => Sys2Proof.Machine.execErRead r handle offset units id s
  | .interruptDeliver src => Sys2Proof.Machine.execInterruptDeliver src s
  | .holdoffExpiry grp => Sys2Proof.Machine.execHoldoffExpiry grp s
  | .tgtClaim t => Sys2Proof.Machine.execTgtClaim t s
  | .tgtCtlWrite t w => Sys2Proof.Machine.execTgtCtlWrite t w s
  | .errForce page w => Sys2Proof.Machine.execErrForce page w s
  | .pageCtlClear page w => Sys2Proof.Machine.execPageCtlClear page w s
  | .evtSelWrite page w => Sys2Proof.Machine.execEvtSelWrite page w s
  | .registerWrite r req => Sys2Proof.Machine.execRegisterWrite r req s
  | .go => Sys2Proof.Machine.execGo s
  | .regionReset mask => Sys2Proof.Machine.execRegionReset mask s
  | .engineReset => Sys2Proof.Machine.execEngineReset s
  | .bringupStep res => Sys2Proof.Machine.execBringupStep res s
  | .resetN => Sys2Proof.Machine.execResetN s
  | .cellFault r c k kind => Sys2Proof.Machine.execCellFault r c k kind s
  | .sliceFault r c f => Sys2Proof.Machine.execSliceFault r c f s
  | .regionUnitFault r f => Sys2Proof.Machine.execRegionUnitFault r f s
  | .cellResetEnd r c k => Sys2Proof.Machine.execCellResetEnd r c k s
  | .clusterResetEnd r c ucode => Sys2Proof.Machine.execClusterResetEnd r c ucode s
  | .regionResetEnd r pass res elapsedMs writeFail => Sys2Proof.Machine.execRegionResetEnd r pass res elapsedMs writeFail s
  | .leaderChange => Sys2Proof.Machine.execLeaderChange s
  | .supplyStateChange v => Sys2Proof.Machine.execSupplyStateChange v s
  | .thermStrobe t => Sys2Proof.Machine.execThermStrobe t s
  | .thermStrobeLost => Sys2Proof.Machine.execThermStrobeLost s
  | .safelightSwitch => Sys2Proof.Machine.execSafelightSwitch s
  | .safelightHoldExpiry => Sys2Proof.Machine.execSafelightHoldExpiry s
  | .powerFail => Sys2Proof.Machine.execPowerFail s
  | .powerFailHoldExit => Sys2Proof.Machine.execPowerFailHoldExit s
  | .powerEstUpdate r tenthWatts => Sys2Proof.Machine.execPowerEstUpdate r tenthWatts s
  | .wrstnReset r => Sys2Proof.Machine.execWrstnReset r s
  | .wsBypass r => Sys2Proof.Machine.execWsBypass r s
  | .wsExtest r bits => Sys2Proof.Machine.execWsExtest r bits s
  | .wsIntest r bits => Sys2Proof.Machine.execWsIntest r bits s
  | .wsClamp r => Sys2Proof.Machine.execWsClamp r s
  | .wsSafe r => Sys2Proof.Machine.execWsSafe r s
  | .scan r bits => Sys2Proof.Machine.execScan r bits s
  | .mbist r slices staging => Sys2Proof.Machine.execMbist r slices staging s
  | .vfAccess r dr => Sys2Proof.Machine.execVfAccess r dr s
  | .stateRead r => Sys2Proof.Machine.execStateRead r s
  | .vfTrigWrite r w => Sys2Proof.Machine.execVfTrigWrite r w s
  | .vfForcedPush r ch => Sys2Proof.Machine.execVfForcedPush r ch s
  | .rcRead r req => Sys2Proof.Machine.execRcRead r req s

end Sys2Proof.Machine
end

