-- ==== Sys2Proof/Machine/Tick.lean ====
section
/-! DEFINITION. Sys2Proof/Machine/Tick.lean: what passes with one timeline cycle when no command waits (log 4). -/

namespace Sys2Proof.Machine

/-- What a cycle of region r shows: its viewfinder samples and, with VF_CLK at eight cycles a REFCLK cycle, drains (R449, R470). -/
def State.tickRegion (s : State) (r : Nat) : State :=
  if (s.region r).clocks then
    let s1 := s.vfSample r
    if s.phase * 8 / s.tcPerRef < (s.phase + 1) * 8 / s.tcPerRef then s1.vfDrain r else s1
  else s

/-- A region reset that waits for a command boundary starts once no set runs in its region (R92, R414). -/
def State.tickResets (s : State) : State :=
  (List.range 8).foldl (fun s r =>
    if (s.region r).resetAtBoundary && (s.runsIn r).isEmpty then
      (s.modRegion r fun g => { g with resetAtBoundary := false }).regionReset r else s) s

/-- One timeline cycle. -/
def State.tick (s : State) : State :=
  (((List.range 8).foldl (fun s r => s.tickRegion r) s).pass 1).tickResets

end Sys2Proof.Machine
end

