-- ==== Sys2Proof/Safety.lean ====
section
/-! DEFINITION. Sys2Proof/Safety.lean: the terms that statements about this machine are written in: what a command answers, which
parts of the state it leaves as they were, the form that every state keeps, and what a command of a ring needs to be taken. -/

namespace Sys2Proof.Machine

/-- A command answers a next state of which P holds. -/
def Answers (i : Instr) (s : State) (P : State → Prop) : Prop := ∃ t, exec i s = .next t ∧ P t

/-! ### Parts of the state -/

/-- The parts of the state that a frame speaks of: the fields of State, and for the regions each field of every region. -/
inductive Part where
  | stepping | strap | regs | sameTc | fabric | ctxs | events | nextSeq | runs | copies | ended | deferred | flight | slots | groups | membership
  | bringUp | power | time | phase | loading | saving | relocating | answers | freeCtr | pending
  | health | rom | clocks | tc | store | poison | buckets | rates | lastCtx | memPorts | links | inlets | edges | transfers | landing
  | workQueue | heldFrom | clusters | wrapper | view | suspects | resetAtBoundary | stall | stallEnd | erAnswers | beats
  deriving DecidableEq, Repr

/-- A part reads the same in two states; a part of the regions in every region. -/
def State.same (s t : State) : Part → Prop
  | .stepping => t.stepping = s.stepping
  | .strap => t.strap = s.strap
  | .regs => t.regs = s.regs
  | .sameTc => t.sameTc = s.sameTc
  | .fabric => t.fabric = s.fabric
  | .ctxs => t.ctxs = s.ctxs
  | .events => t.events = s.events
  | .nextSeq => t.nextSeq = s.nextSeq
  | .runs => t.runs = s.runs
  | .copies => t.copies = s.copies
  | .ended => t.ended = s.ended
  | .deferred => t.deferred = s.deferred
  | .flight => t.flight = s.flight
  | .slots => t.slots = s.slots
  | .groups => t.groups = s.groups
  | .membership => t.membership = s.membership
  | .bringUp => t.bringUp = s.bringUp
  | .power => t.power = s.power
  | .time => t.time = s.time
  | .phase => t.phase = s.phase
  | .loading => t.loading = s.loading
  | .saving => t.saving = s.saving
  | .relocating => t.relocating = s.relocating
  | .answers => t.answers = s.answers
  | .freeCtr => t.freeCtr = s.freeCtr
  | .pending => t.pending = s.pending
  | .health => ∀ r, (t.region r).health = (s.region r).health
  | .rom => ∀ r, (t.region r).rom = (s.region r).rom
  | .clocks => ∀ r, (t.region r).clocks = (s.region r).clocks
  | .tc => ∀ r, (t.region r).tc = (s.region r).tc
  | .store => ∀ r, (t.region r).store = (s.region r).store
  | .poison => ∀ r, (t.region r).poison = (s.region r).poison
  | .buckets => ∀ r, (t.region r).buckets = (s.region r).buckets
  | .rates => ∀ r, (t.region r).rates = (s.region r).rates
  | .lastCtx => ∀ r, (t.region r).lastCtx = (s.region r).lastCtx
  | .memPorts => ∀ r, (t.region r).memPorts = (s.region r).memPorts
  | .links => ∀ r, (t.region r).links = (s.region r).links
  | .inlets => ∀ r, (t.region r).inlets = (s.region r).inlets
  | .edges => ∀ r, (t.region r).edges = (s.region r).edges
  | .transfers => ∀ r, (t.region r).transfers = (s.region r).transfers
  | .landing => ∀ r, (t.region r).landing = (s.region r).landing
  | .workQueue => ∀ r, (t.region r).workQueue = (s.region r).workQueue
  | .heldFrom => ∀ r, (t.region r).heldFrom = (s.region r).heldFrom
  | .clusters => ∀ r, (t.region r).clusters = (s.region r).clusters
  | .wrapper => ∀ r, (t.region r).wrapper = (s.region r).wrapper
  | .view => ∀ r, (t.region r).view = (s.region r).view
  | .suspects => ∀ r, (t.region r).suspects = (s.region r).suspects
  | .resetAtBoundary => ∀ r, (t.region r).resetAtBoundary = (s.region r).resetAtBoundary
  | .stall => ∀ r, (t.region r).stall = (s.region r).stall
  | .stallEnd => ∀ r, (t.region r).stallEnd = (s.region r).stallEnd
  | .erAnswers => ∀ r, (t.region r).erAnswers = (s.region r).erAnswers
  | .beats => ∀ r, (t.region r).beats = (s.region r).beats

/-- Every part but the listed ones is the same in t as in s. -/
def Frame (changed : List Part) (s t : State) : Prop := ∀ p, p ∉ changed → s.same t p

/-- The registers that a test does not select read the same. -/
def RegsKept (s t : State) (changed : Nat → Prop) : Prop := ∀ a, ¬changed a → t.reg a = s.reg a

/-- A counter field counts n more, or holds at its largest value. -/
def Counts (s t : State) (page : Nat) (f : Fld) (n : Nat) : Prop :=
  t.getF page f = min (s.getF page f + n) (2 ^ (f.hi + 1 - f.lo) - 1)

/-- Of the groups only slot g may differ, and nothing else of the state. -/
def OnlyGroup (g : Nat) (s t : State) : Prop := Frame [.groups] s t ∧ ∀ d, d ≠ g → t.group d = s.group d

/-- Every byte of every region's store and of the fabric reads the same. -/
def MemoryKept (s t : State) : Prop :=
  (∀ a, t.fabric.byte a = s.fabric.byte a) ∧ ∀ r a, (t.region r).store.byte a = (s.region r).store.byte a

/-! ### The form that every state keeps -/

/-- Every table of the state lists its keys strictly rising, and every memory is canonical (log 2, log 3). -/
structure State.WF (s : State) : Prop where
  regs : s.regs.sorted
  sameTc : s.sameTc.sorted
  regions : s.regions.sorted
  ctxs : s.ctxs.sorted
  events : s.events.sorted
  slots : s.slots.sorted
  groups : s.groups.sorted
  fabric : s.fabric.wf
  stores : ∀ e ∈ s.regions, e.2.store.wf

/-! ### Commands of a ring -/

/-- The leader takes the command at the head of ring q of context c now (R305, R322, R329, R350): it has the opcode, its context is
RESIDENT and its completion ring enabled, a SERIAL order holds and so does the command's own condition. Either it was validated before and waits latched, or it is validated and
numbered now. cmd is the command as it is latched, s1 the state as validation leaves it. -/
def Takes (s : State) (c : CtxId) (q : RingId) (op : Nat) (own : State → Command → Bool) (cmd : Command) (s1 : State) : Prop :=
  ∃ h, (s.ctx c.val).heads.get? q.val = some h ∧ cmdOp h.raw = op ∧
    (s1.ctx c.val).state = 1 ∧ s1.cplEnabled c.val = true ∧ s1.serialHolds cmd = true ∧ own s1 cmd = true ∧
    ((h.cmd = some cmd ∧ s1 = s) ∨
      (h.cmd = none ∧ s.canValidate c.val q.val = true ∧ s.preCheck c.val h.raw = none ∧ s.number c.val q.val h.raw = (cmd, s1)))

/-- A command that has had its effect leaves its ring: the next entry is read, and the sender goes on after that ring (R306). -/
def Leaves (cmd : Command) (e t : State) : Prop := t = ((e.popHead cmd.ctx.val cmd.ring.val).issuedOn cmd).settleIdle

/-- The command ends with SUCCESS and its RESULT after an effect e and leaves its ring. -/
def Succeeds (cmd : Command) (e : State) (result : Bytes) (t : State) : Prop :=
  Leaves cmd (e.ends [plainEnd cmd stSuccess 0 0 (some e.tcNow) 0 (fit 24 result)]) t

/-- The command ends with a failure that changes nothing else; then it leaves its ring, and the next entry is read. -/
def Fails (cmd : Command) (s1 : State) (code index region : Nat) (t : State) : Prop :=
  t = ((s1.ends [plainEnd cmd code index region none 0 (zeros 24)]).popHead cmd.ctx.val cmd.ring.val).settleIdle

/-- The command has had its effect but for window entries, which come with its completion; it completes once something else has
happened, and leaves its ring. -/
def Waits (cmd : Command) (e : State) (a : Awaits) (entries : Option (CtxId × Nat × List Nat)) (t : State) : Prop :=
  Leaves cmd { e with
    deferred := e.deferred ++ [(a, { plainEnd cmd stSuccess 0 0 (some e.tcNow) 0 (zeros 24) with entries := entries })] } t

/-- The command leaves its ring and waits for its step boundary behind the changes that wait already (R303). -/
def Parks (cmd : Command) (e t : State) : Prop :=
  Leaves cmd (e.modCtx cmd.ctx.val fun x => { x with seqWait := x.seqWait ++ [cmd] }) t

/-- The leader validates the command at the head of ring q of context c now (R324, R329): it has the opcode, passes the checks that every
command shares, and is numbered. -/
def Validates (s : State) (c : CtxId) (q : RingId) (op : Nat) (cmd : Command) (s1 : State) : Prop :=
  ∃ h, (s.ctx c.val).heads.get? q.val = some h ∧ h.cmd = none ∧ cmdOp h.raw = op ∧ s.canValidate c.val q.val = true ∧
    s.preCheck c.val h.raw = none ∧ s.number c.val q.val h.raw = (cmd, s1)

/-- The share of context c, as a record gives it, finds room (R301): at the first granules where the shares stand, which move then no
share; where too few granules are free in all, or shares are being moved, nowhere; else where the shares have been moved, if it fits
there. A context that gets a place is RESIDENT, one that gets none SWAPPED; of the other contexts only the places change. -/
def FindsRoom (s : State) (c : Nat) (rec : Bytes) (e : State) : Prop :=
  let n := recShareG rec
  let x := e.ctx c
  let placedAt (b : Nat) : Prop := x.state = 1 ∧ x.share = some (b, n) ∧ x.windows.get? 255 = some (shareWindow b (recStoreG rec))
  let still : Prop := (∀ d, d ≠ c → e.ctx d = s.ctx d) ∧ s.same e .store
  (∀ b, s.firstFit c n = some b → placedAt b ∧ still) ∧
  (s.firstFit c n = none → (s.freeGranules c < n ∨ s.relocating = true) → x.state = 2 ∧ x.share = none ∧ still) ∧
  ((∃ b, placedAt b) ∨ (x.state = 2 ∧ x.share = none)) ∧
  (∀ d, d ≠ c → e.ctx d = { s.ctx d with
    share := (e.ctx d).share, windows := (e.ctx d).windows, heads := (e.ctx d).heads, seqWait := (e.ctx d).seqWait })

/-- The rows of the 22 commands of a ring with their opcodes (R333). -/
def ringRows (c : CtxId) (q : RingId) : List (Instr × Nat) :=
  [(.nop c q, 0x00), (.contextOpen c q, 0x01), (.contextClose c q, 0x02), (.contextKill c q, 0x03), (.shareSet c q, 0x04),
   (.privilegeSet c q, 0x05), (.windowWrite c q, 0x06), (.groupDefine c q, 0x07), (.groupDelete c q, 0x08), (.plateLoad c q, 0x10),
   (.plateDrop c q, 0x11), (.routerWrite c q, 0x12), (.contextParam c q, 0x13), (.seqJoin c q, 0x14), (.seqLeave c q, 0x15),
   (.seqUpdate c q, 0x16), (.burnRead c q, 0x17), (.burnWrite c q, 0x18), (.layerRun c q, 0x20), (.combineRun c q, 0x21),
   (.confluence c q, 0x22), (.tensorCopy c q, 0x23)]

/-- The command waits, latched, at the head of its ring (R331). -/
def Latched (c : CtxId) (q : RingId) (cmd : Command) (s1 t : State) : Prop :=
  t = (s1.modCtx c.val fun x => { x with heads := x.heads.set q.val ⟨cmd.raw, some cmd, 3⟩ }).settleIdle

/-! ### Operations of a plate -/

/-- The part of a running set in region r. -/
def State.partOf (s : State) (run : W32) (r : Nat) : Option RegionRun := (s.run? run).bind fun x => x.regions.get? r

/-- The operation that a part of a set issues next (R46, R47, R63): the set has started, the part has not ended, every unit and
register that its bundle waits for is free, and no halt or timeout comes first. x is the operation in its issue cycle, with what R50 takes of each lane. -/
def Offers (s : State) (run : W32) (r : Nat) (x : Op) : Prop :=
  ∃ (rn : Run) (g : RegionRun) (sl : Nat) (rest : List Nat) (t : Nat),
    s.run? run = some rn ∧ rn.started = true ∧ rn.regions.get? r = some g ∧ g.ended = none ∧ g.todo = sl :: rest ∧
    s.issueAt r g = some t ∧
    x = ⟨run, r, rn, { g with last := t, begun := true }, slotOp g.cur sl, t,
      if (slotOp g.cur sl).counted && !(slotOp g.cur sl).receives then
        takeLanes (g.image.takeCap (slotOp g.cur sl)) (s.countedLanes rn r g (slotOp g.cur sl)) else []⟩

/-- The state in which an operation's bundle is open. -/
def State.opened (s : State) (x : Op) : State :=
  match s.partOf x.seq x.r with | none => s | some g => s.openBundle x.seq x.r g x.t

/-- The first slot of its bundle is still to issue, and the bundle's parity is bad (R42). -/
def State.fetchesBad (s : State) (x : Op) : Bool :=
  match s.partOf x.seq x.r with | none => false | some g => g.fresh && !parityOk g.cur

/-- The operation of a slot and an opcode issues and has its own effect: the parity of its bundle holds, R50 meets no STRICT excess
and it reads no poisoned bytes. s1 is the state in which it takes effect, its bundle opened and its excess noted. -/
def Issues (s : State) (run : W32) (r slot op : Nat) (x : Op) (s1 : State) : Prop :=
  Offers s run r x ∧ x.o.slot = slot ∧ x.o.op = op ∧ s.fetchesBad x = false ∧ strictHit (x.g.image.takeCap x.o) x.takes = false ∧
    (s.opened x).readsPoison x = false ∧ s1 = (s.opened x).noteExcess x

/-- The rows of plate operations with what selects their operation. -/
def plateRows (run : W32) (r : RegionId) (g : CellGroupId) (p : PortId) : List (Instr × (SlotOp → Bool)) :=
  [(.setCnt run r, isControl 1), (.loop run r, isControl 2), (.waitUnits run r, isControl 3), (.signal run r, isControl 4),
   (.readTime run r, isControl 5), (.readSensor run r, isControl 6), (.proofEmit run r, isControl 7),
   (.stageLoad run r none, isScore 1), (.score run r none, isScore 2), (.scoreStore run r, isScore 3), (.extTileIn run r, isScore 4),
   (.bankSwap run r, isScore 5), (.rowLoad run r g, isCellOp g 1), (.rowStore run r g, isCellOp g 2), (.deltaTest run r g, isDelta g 0),
   (.deltaPrint run r g, isDelta g 1), (.select run r g, isCellOp g 4), (.norm run r g, isCellOp g 5), (.sort run r g, isCellOp g 6),
   (.rowSend run r g, isCellOp g 7), (.combineTerm run r g, isCombine g 0), (.combinePackage run r g, isCombine g 1),
   (.combineFinal run r g, isCombine g 2), (.quant run r g, isCellOp g 9), (.burn run r g, isCellOp g 0xA), (.netMove run r, isNet 1),
   (.edgeSend run r, isNet 2), (.edgeRecv run r, isNet 3), (.linkSend run r p, isLink p 1), (.linkRecv run r p, isLink p 2),
   (.bAlloc run r, isBasin 1), (.bHand run r, isBasin 2), (.bRelease run r, isBasin 3), (.bRefdec run r, isBasin 4),
   (.cfArm run r, isConfluence 1), (.cfLocal run r, isConfluence 2), (.cfGlobal run r, isConfluence 3), (.cfWait run r, isConfluence 4)]

/-- An operation has had its effect e: its slot leaves the bundle, and the plate goes on (R46). -/
def Issued (x : Op) (e t : State) : Prop := t = (e.closeSlot x.seq x.r).goOn x.seq x.r

/-- What R50 writes to the register of a SPILL entry. -/
def Op.spilled (x : Op) : List (Nat × List Nat) :=
  if x.o.counted && !x.o.cell 6 && !x.o.receives && capMode (x.g.image.cap x.o.cap) == 1 then
    [(capExcess (x.g.image.cap x.o.cap), x.excess)] else []

/-- The operation x occupies its unit from its issue until a cycle, or with none until its data has come or its deadline passes, and
then writes count registers, open ones where it is open (R46, R47, R60, R61); nothing else of s1 changes. -/
def Starts (s1 : State) (x : Op) (ends : Option Nat) (writes : List (Nat × List Nat)) (e : State) : Prop :=
  ∃ due : Option Nat, (ends.isSome → due = none) ∧ e = s1.modRR x.seq x.r fun g =>
    { g with busy := g.busy ++ [⟨x.o.unit, x.g.bundle, x.o.op, x.t, ends, writes ++ x.spilled, none, x.takes, due, s1.openOp x⟩] }

/-- The row lets the operation x take its unit, from the state s2 that its effect leaves, until a cycle or until its data has come;
then the plate goes on. -/
def Runs (i : Instr) (s : State) (x : Op) (s2 : State) (ends : Option Nat) (writes : List (Nat × List Nat)) : Prop :=
  Answers i s fun t => ∃ e, Starts s2 x ends writes e ∧ Issued x e t

/-- A check of the operation x at its issue halts the plate (R62). -/
def Halts (i : Instr) (s : State) (x : Op) (s1 : State) (code : Nat) : Prop := Answers i s fun t => Issued x (s1.haltOp x code) t

/-- Bytes of an entry of the running command's list, as a range of context addresses. -/
def Op.span (x : Op) (e off n : Nat) : Nat × Nat := (dsBase (descAt x.cmd.list e) + off, n)

/-- Of the fabric and of every region's store only bytes may differ that a window table gives region r for ranges of context addresses. -/
def MemoryKeptBut (w : Tab (BitVec 128)) (r : Nat) (ranges : List (Nat × Nat)) (s t : State) : Prop :=
  (∀ b, (∀ f ∈ ranges, ∀ ps, translate w true f.1 f.2 = some ps → ∀ p ∈ ps, p.store = false → b < p.addr ∨ p.addr + p.len ≤ b) →
    t.fabric.byte b = s.fabric.byte b) ∧
  (∀ q b, (q = r → ∀ f ∈ ranges, ∀ ps, translate w true f.1 f.2 = some ps → ∀ p ∈ ps, p.store = true →
      b < p.addr ∨ p.addr + p.len ≤ b) →
    (t.region q).store.byte b = (s.region q).store.byte b)

/-- The operation changes no part of a set but its own, and of its own only what f gives. -/
def PartBecomes (s : State) (x : Op) (f : RegionRun → RegionRun) (t : State) : Prop :=
  t.partOf x.seq x.r = (s.partOf x.seq x.r).map f ∧ ∀ run r, (run, r) ≠ (x.seq, x.r) → t.partOf run r = s.partOf run r

/-! ### What each row may change -/

/-- Every part of the state. -/
def Part.all : List Part :=
  [.stepping, .strap, .regs, .sameTc, .fabric, .ctxs, .events, .nextSeq, .runs, .copies, .ended, .deferred, .flight, .slots,
  .groups, .membership, .bringUp, .power, .time, .phase, .loading, .saving, .relocating, .answers, .freeCtr, .pending, .health,
  .rom, .clocks, .tc, .store, .poison, .buckets, .rates, .lastCtx, .memPorts, .links, .inlets, .edges, .transfers, .landing,
  .workQueue, .heldFrom, .clusters, .wrapper, .view, .suspects, .resetAtBoundary, .stall, .stallEnd, .erAnswers, .beats]

/-- Every part but the listed ones. -/
def Part.allBut (l : List Part) : List Part := Part.all.filter fun p => !l.contains p

/-- What the commit of a set's end can change: the set, its completions and what it held of groups, links and edges. -/
def Part.setEnd : List Part :=
  [.regs, .sameTc, .runs, .ended, .groups, .links, .inlets, .edges, .transfers, .landing, .view]

/-- What passing cycles can change: time, the cycles of the regions and what counts them. -/
def Part.cycles : List Part :=
  [.regs, .sameTc, .time, .phase, .tc, .view, .stall, .beats]

/-- What reading the next entry of a ring can change, a read that tears its context down among it. -/
def Part.ring : List Part :=
  [.regs, .sameTc, .fabric, .ctxs, .runs, .copies, .ended, .deferred, .groups, .loading, .saving, .freeCtr, .store, .poison,
  .memPorts, .links, .inlets, .landing, .view]

/-- The parts of the state that a row may change; every other part it leaves as it was. -/
def touches : Instr → List Part
  | .nop .. | .contextKill .. | .shareSet .. | .privilegeSet .. | .windowWrite .. | .groupDefine .. | .groupDelete .. | .plateLoad
    .. | .plateDrop .. | .routerWrite .. | .contextParam .. | .seqUpdate .. | .burnRead .. | .burnWrite .. | .layerRun .. |
    .combineRun .. | .confluence .. | .tensorCopy .. => Part.ring ++ [.nextSeq, .flight]
  | .contextOpen .. => Part.ring ++ [.events, .nextSeq, .flight]
  | .contextClose .. => Part.ring ++ [.events, .nextSeq, .flight, .slots]
  | .seqJoin .. | .seqLeave .. => Part.ring ++ [.nextSeq, .flight, .slots]
  | .doorbell .. | .cmdRingWrite .. | .creditWaitTimeout .. | .contextLoadDone .. => Part.ring
  | .cplRingEnable .. => Part.ring ++ [.events, .flight]
  | .cplPtrTail .. | .contactTail .. | .regBucketWrite .. | .mgmtOwnerWrite .. | .interruptDeliver .. | .holdoffExpiry .. |
    .tgtCtlWrite .. => [.regs]
  | .issuePoint => Part.ring ++ [.nextSeq, .flight, .relocating]
  | .epochStart .. => Part.setEnd ++ Part.cycles ++ [.membership, .buckets, .lastCtx, .stallEnd]
  | .operationEnd .. => Part.setEnd ++ Part.cycles ++ [.memPorts]
  | .setCnt .. | .loop .. | .waitUnits .. | .signal .. | .readTime .. | .readSensor .. | .proofEmit .. | .endPlate .. |
    .scoreStore .. | .extTileIn .. | .bankSwap .. | .rowLoad .. | .rowStore .. | .deltaTest .. | .deltaPrint .. | .select .. | .norm
    .. | .sort .. | .rowSend .. | .combineTerm .. | .combinePackage .. | .combineFinal .. | .quant .. | .burn .. | .netMove .. |
    .edgeSend .. | .edgeRecv .. | .linkSend .. | .linkRecv .. | .bAlloc .. | .bRelease .. | .bRefdec .. | .cfArm .. | .cfLocal .. |
    .cfGlobal .. | .cfWait .. => Part.ring ++ Part.cycles ++ [.edges, .transfers]
  | .stageLoad .. | .score .. => Part.ring ++ Part.cycles ++ [.edges, .transfers, .suspects, .resetAtBoundary]
  | .bHand .. => Part.ring ++ Part.cycles ++ [.edges, .transfers, .workQueue, .heldFrom]
  | .stopBathRelease .. => Part.cycles ++ [.fabric, .runs, .store, .poison, .transfers, .stallEnd]
  | .linkTimeout .. | .tileTimeout .. | .extTileTimeout .. => Part.setEnd ++ Part.cycles
  | .confluenceTimeout .. | .callArm .. | .armPacket .. | .verdictPacket .. | .dataPacket .. | .confluenceCredit .. => Part.setEnd
    ++ Part.cycles ++ [.fabric, .freeCtr, .store, .poison]
  | .commandComplete => Part.ring ++ Part.cycles ++ [.events, .flight]
  | .stepBoundary .. => [.regs, .sameTc, .fabric, .ctxs, .ended, .slots, .store, .poison, .view]
  | .shareApply .. => [.ctxs, .store]
  | .relocationDone => [.ctxs, .loading, .relocating, .store]
  | .contextSaveDone .. => Part.ring ++ [.relocating]
  | .teardownEnd .. => Part.ring ++ [.events, .flight, .slots]
  | .regulatorRefill .. => [.buckets, .rates]
  | .rtBudgetRefill .. => [.ctxs]
  | .failPacket .. | .confluenceWatchdog .. => [.regs, .sameTc, .fabric, .groups, .membership, .freeCtr, .store, .poison, .links,
    .inlets]
  | .keepalivePacket .. => [.regs, .sameTc, .groups, .inlets]
  | .keepaliveSend .. | .spaceSend .. => [.links]
  | .frameSend .. => Part.cycles ++ [.runs, .links, .transfers, .stallEnd]
  | .frameReceive .. | .announce .. => Part.cycles ++ [.runs, .membership, .links, .inlets, .transfers, .stallEnd]
  | .inletDrain .. => Part.setEnd ++ Part.cycles ++ [.fabric, .membership, .freeCtr, .store, .poison]
  | .inletFlush .. => [.regs, .sameTc, .inlets]
  | .mgmtRead .. => [.answers, .inlets]
  | .space .. | .width .. | .widthAck .. | .probe .. => [.regs, .sameTc, .links]
  | .ident .. | .widthSwitch .. | .laneRetrain .. | .laneRetrainDone .. => Part.cycles ++ [.runs, .membership, .links, .transfers,
    .stallEnd]
  | .relay .. => [.regs, .sameTc, .links, .inlets]
  | .announceSend => [.membership, .links]
  | .memberUnreachable .. => [.membership]
  | .boundaryStart | .propose .. | .accept .. | .holdingSend | .commit .. | .membershipWatchdog .. => Part.setEnd ++ [.ctxs,
    .events, .slots, .membership]
  | .holding .. | .landing .. | .creditReturn .. => [.regs, .sameTc, .membership, .inlets]
  | .calibrationFrame .. | .calibrationStarved .. => [.regs, .sameTc, .links, .view]
  | .linkTrainStep .. => Part.cycles ++ [.runs, .membership, .freeCtr, .links, .transfers, .stallEnd]
  | .edgeTrainStep .. => [.regs, .sameTc, .bringUp, .edges, .view]
  | .edgeFlitReceive .. | .edgeIsolate .. => Part.setEnd ++ [.fabric, .store, .poison]
  | .edgeRetrainDone .. => [.regs, .sameTc, .edges, .view]
  | .memoryReadAnswer .. | .memoryWriteAnswer .. | .registerWrite .. | .sliceFault .. | .regionResetEnd .. | .thermStrobe .. |
    .thermStrobeLost | .powerFail => Part.allBut [.stepping, .strap, .pending, .wrapper]
  | .memoryCredit .. => [.memPorts]
  | .expertOutputTile .. => Part.setEnd ++ Part.cycles ++ [.fabric, .store, .poison]
  | .extScoreBlock .. => Part.setEnd ++ Part.cycles ++ [.fabric, .store, .poison, .stallEnd]
  | .ewDescriptorTaken .. => Part.cycles ++ [.runs, .transfers, .workQueue, .heldFrom, .stallEnd]
  | .erRead .. => [.regs, .sameTc, .view, .erAnswers]
  | .tgtClaim .. => [.regs, .answers]
  | .errForce .. | .leaderChange | .vfForcedPush .. => [.regs, .sameTc, .view]
  | .pageCtlClear .. | .evtSelWrite .. | .powerEstUpdate .. => [.regs, .sameTc]
  | .go => [.regs, .sameTc, .bringUp]
  | .regionReset .. | .engineReset | .resetN | .cellFault .. | .regionUnitFault .. | .clusterResetEnd .. | .powerFailHoldExit =>
    Part.allBut [.stepping, .strap, .fabric, .freeCtr, .pending, .wrapper]
  | .bringupStep .. => Part.cycles ++ [.fabric, .ctxs, .events, .nextSeq, .runs, .membership, .bringUp, .power, .freeCtr, .health,
    .rom, .clocks, .store, .links, .inlets, .edges, .transfers, .clusters, .stallEnd]
  | .cellResetEnd .. => [.regs, .sameTc, .clusters, .view]
  | .supplyStateChange .. | .safelightHoldExpiry => [.power]
  | .safelightSwitch => Part.cycles ++ [.runs, .copies, .ended, .deferred, .groups, .power]
  | .wrstnReset .. | .wsBypass .. | .wsExtest .. | .wsIntest .. | .wsClamp .. | .wsSafe .. | .scan .. | .mbist .. | .stateRead ..
    => [.regs, .wrapper]
  | .vfAccess .. => Part.allBut [.stepping, .strap, .pending]
  | .vfTrigWrite .. => [.regs, .view]
  | .rcRead .. => [.regs, .sameTc, .answers, .freeCtr, .inlets, .view]

end Sys2Proof.Machine
end

