-- ==== Sys2Proof/Certificates/Slice0/Obligations.lean ====
section
/-! DEFINITION. Sys2Proof/Certificates/Slice0/Obligations.lean: the statements for the provers, one definition each; the docstring says
what a statement says and which rules of the manual it rests on. -/

open Sys2Proof Sys2Proof.Machine

/-- For every command c, state s and rest of a queue: the step of s with c at the front of its queue is exec of c on s with the rest of
the queue. (the row says how a block steps (its queue of waiting commands, first in, first out), R18.) -/
def Obligations.StepRunsFrontCommand : Prop :=
  ∀ (c : Instr) (s : State) (rest : List Instr), step { s with pending := c :: rest } = exec c { s with pending := rest }

/-- With an empty queue a step answers a next state in which every region whose Clocks step has ended counts one cycle and no other region
counts, TIME has moved by 10 ns where a REFCLK cycle ends, and no memory, context, running set or ended command has changed by it,
provided no region waits to be reset. That a step passes one cycle then is the model's choice (log 4). (R447, R449.) -/
def Obligations.EmptyQueueStepIsOneCycle : Prop :=
  ∀ s : State, s.pending = [] → (∀ r, (s.region r).resetAtBoundary = false) →
    ∃ t, step s = .next t ∧
      (∀ r < 8, (t.region r).tc = (s.region r).tc + (if (s.region r).clocks then 1 else 0)) ∧
      t.time = s.time + 10 * ((s.phase + 1) / s.tcPerRef) ∧ t.phase = (s.phase + 1) % s.tcPerRef ∧
      Frame [.regs, .sameTc, .tc, .time, .phase, .view, .beats, .stall] s t

/-- After reset the engine is in bring-up state 0, TIME is 0, the next COMMAND_SEQ is 1, every event reads COUNT 0 and FAULTED 0, no
context is open, no region is live and no command runs or waits; every register reads the reset value of its fields, so EVT_SEL reads the
default of its kind. (R14, R332, R403, R437, R447, R450.) -/
def Obligations.ResetLeavesSpecValues : Prop :=
  State.reset.bringState = 0 ∧ State.reset.time = 0 ∧ State.reset.nextSeq = 1 ∧ (∀ e, State.reset.event e = (0, false)) ∧
    (∀ c, (State.reset.ctx c).state = 0) ∧ State.reset.live = [] ∧ State.reset.runs = [] ∧ State.reset.ended = [] ∧
    State.reset.pending = [] ∧ (∀ a, State.reset.reg a = resetWord a % 2 ^ 64) ∧
    (∀ a, a % 0x1000 = 0x38 → resetWord a = evtSelReset (pageKind a)) ∧ (∀ a, State.reset.fabric.byte a = 0)

/-- State.reset lists every table with rising keys and every memory in canonical form. (R14, log 2, log 3.) -/
def Obligations.ResetHasCanonicalForm : Prop :=
  State.reset.WF

/-- For every state whose register file, regions, contexts, events, slots and groups list their keys strictly rising and whose fabric
memory and region stores list no zero byte and rising addresses: if a step answers a next state, that state has the same form. So equal
contents are equal data in every state that a run reaches. (R8, R260, R299, log 2, log 3.) -/
def Obligations.StepKeepsCanonicalForm : Prop :=
  ∀ s t : State, s.WF → step s = .next t → t.WF

/-- Whatever the command and the state, if exec answers a next state then the silicon stepping, the strap CP_BASE and the queue of waiting
commands are as before. (R8, R235, R448.) -/
def Obligations.NoCommandChangesSteppingOrStrap : Prop :=
  ∀ (i : Instr) (s t : State), exec i s = .next t → t.stepping = s.stepping ∧ t.strap = s.strap ∧ t.pending = s.pending

/-- exec answers a next state for every well-formed command in every state, faults with malformed for every other, and never refuses: no
command and no data end a run. (R1, R365, R366, R377, R457.) -/
def Obligations.EndsOnlyOnOperandsThatDoNotFit : Prop :=
  ∀ (i : Instr) (s : State), (wellFormed i = true → ∃ t, exec i s = .next t) ∧
    (wellFormed i = false → exec i s = .fault .malformed)

/-- A NOP that the leader takes ends with SUCCESS, RESULT 0 and INDEX 0 at validation, with the COMMAND_SEQ it was given, and it changes
nothing but its own end: the state then is that of a command leaving its ring after no effect. (R348.) -/
def Obligations.NopCompletesWithSuccess : Prop :=
  ∀ (s : State) (c : CtxId) (q : RingId) (cmd : Command) (s1 : State), Takes s c q 0x00 always cmd s1 →
    Answers (.nop c q) s fun t => Succeeds cmd s1 [] t

/-- A command that is numbered at validation gets the state's next COMMAND_SEQ, latches its context's window table and its FUSED
privilege, and joins the commands in flight at the end; the number after 0xFFFF_FFFF is 1. Nothing else changes. (R263, R331, R332.) -/
def Obligations.FreshCommandIsNumbered : Prop :=
  ∀ (s : State) (c : CtxId) (q : RingId) (raw : BitVec 512) (cmd : Command) (s1 : State), s.number c.val q.val raw = (cmd, s1) →
    cmd.seq = s.nextSeq ∧ cmd.raw = raw ∧ cmd.ctx = c ∧ cmd.ring = q ∧ cmd.windows = (s.ctx c.val).windows ∧
    (cmd.fused = true ↔ c = 0 ∨ (s.ctx c.val).fused = true) ∧ s1.flight = s.flight ++ [(c, s.nextSeq)] ∧
    s1.nextSeq = (if s.nextSeq = 0xFFFFFFFF then 1 else s.nextSeq + 1) ∧ Frame [.nextSeq, .flight] s s1

/-- For a head that the leader may validate and that fails step 1, 2 or 3 of validation, each of the 22 ring rows of its opcode ends it
with the code: COMMAND_INVALID where its header breaks the rules of step 1, else PRIVILEGE_FAULT for a supervisor command of another
context, else DEPENDENCY_FAULT where a waited event has FAULTED. Its TC_RUN and HALTED are 0 and its effect is none. (R326, R329, R331,
R333.) -/
def Obligations.InvalidCommandOnlyCompletes : Prop :=
  ∀ (s : State) (c : CtxId) (q : RingId) (h : Head) (code : Nat) (i : Instr),
    (s.ctx c.val).heads.get? q.val = some h → h.cmd = none → s.canValidate c.val q.val = true → s.preCheck c.val h.raw = some code →
    (i, cmdOp h.raw) ∈ ringRows c q →
    (Answers i s fun t => Fails (s.number c.val q.val h.raw).1 (s.number c.val q.val h.raw).2 code 0 0 t) ∧
    (headerOk c.val h.raw = false → code = stCommandInvalid) ∧
    (headerOk c.val h.raw = true → 1 ≤ cmdOp h.raw → cmdOp h.raw ≤ 8 → c ≠ 0 → code = stPrivilegeFault) ∧
    (headerOk c.val h.raw = true → (8 < cmdOp h.raw ∨ cmdOp h.raw = 0 ∨ c = 0) → code = stDependencyFault ∧ s.waitFaulted h.raw = true)

/-- A CONTEXT_OPEN of a closed context 1 to 15 whose record translates and keeps its rules ends with SUCCESS, where its record is of
normal priority whatever the admission test would say and where it is of high priority if that test lets it in; the target then holds that
record, stands where its share finds room (RESIDENT at the first granule that fits, as the shares stand or, where only their total
suffices, once they have been moved; SWAPPED where there is none), is not FUSED, holds no router, no plate set and no ring head, and has
only window 255 valid; its events are 0, its rings are disabled and its interrupt sources are clear. No running command changes, of the
other contexts only the places of their shares may, and no memory where nothing is moved. It says where CONTEXT_OPEN completes. (R262,
R297, R299, R301, R316, R326, R334, R349, R353.) -/
def Obligations.ContextOpenReplacesClosedContext : Prop :=
  ∀ (s : State) (c : CtxId) (q : RingId) (cmd : Command) (s1 : State) (rec : Bytes), Takes s c q 0x01 always cmd s1 →
    let k := cmdField cmd.raw 24 1
    1 ≤ k → k ≤ 15 → (s1.ctx k).state = 0 → s1.recordOf cmd = some rec → recordOk rec = true →
    (recPriority rec = 1 → s1.admitted k (some rec) 0 = true) →
    ∃ t, exec (.contextOpen c q) s = .next t ∧ ∃ e, Succeeds cmd e [] t ∧
      (e.ctx k).record = rec ∧ (e.ctx k).fused = false ∧ (e.ctx k).routers = [] ∧ (e.ctx k).sets = [] ∧ (e.ctx k).heads = [] ∧
      FindsRoom s1 k rec e ∧ (∀ i, i ≠ 255 → (e.ctx k).windows.get? i = none) ∧ (∀ ev, ev / 256 = k → e.event ev = (0, false)) ∧
      (∀ j < 4, e.getF (ringPage k j) Fld.CMD_RING_ENABLE = 0) ∧ e.getF (pgRing k) Fld.CPL_RING_ENABLE = 0 ∧
      (∀ src ∈ [k, 0x10 + k, 0x70 + k], e.isPending src = false ∧ e.isDelivered src = false) ∧
      Frame [.regs, .sameTc, .ctxs, .events, .store] s1 e

/-- A CONTEXT_CLOSE of an open, idle context without landing rings ends with SUCCESS and leaves it CLOSED with its events 0 and its
sequence slots free, no memory and no other context changed; with landing rings it waits for the next membership boundary. A CONTEXT_KILL
of an open context starts its teardown and waits until it has ended. It says where CONTEXT_CLOSE and CONTEXT_KILL complete. (R297, R318,
R335.) -/
def Obligations.ContextCloseAndKill : Prop :=
  (∀ (s : State) (c : CtxId) (q : RingId) (cmd : Command) (s1 : State), Takes s c q 0x02 always cmd s1 →
    let k := cmdField cmd.raw 24 1
    1 ≤ k → k ≤ 15 → (s1.ctx k).state ≠ 0 → (s1.ctx k).state ≠ 5 → (s1.ctx k).closing = false → s1.ctxIdle k = true →
    Answers (.contextClose c q) s fun t =>
      (recLanding (s1.ctx k).record = 0 → ∃ e, Succeeds cmd e [] t ∧ e.ctx k = { Ctx.closed with faultCode := (s1.ctx k).faultCode } ∧
        (∀ d, d ≠ k → e.ctx d = s1.ctx d) ∧ (∀ ev, ev / 256 = k → e.event ev = (0, false)) ∧
        (∀ i, (s1.slot i).ctx.val = k → e.slot i = SeqSlot.free) ∧ Frame [.regs, .sameTc, .ctxs, .events, .slots] s1 e) ∧
      (recLanding (s1.ctx k).record ≠ 0 → ∃ e, Waits cmd e (.boundary (Fin.ofNat 16 k)) none t ∧ (e.ctx k).closing = true ∧
        (∀ d, d ≠ k → e.ctx d = s1.ctx d) ∧ Frame [.ctxs] s1 e)) ∧
  (∀ (s : State) (c : CtxId) (q : RingId) (cmd : Command) (s1 : State), Takes s c q 0x03 always cmd s1 →
    let k := cmdField cmd.raw 24 1
    k ≤ 15 → (s1.ctx k).state ≠ 0 →
    Answers (.contextKill c q) s fun t => Waits cmd (s1.startTeardown k stContextFault false) (.teardown (Fin.ofNat 16 k)) none t)

/-- A SHARE_SET of an open context with a good record ends with SUCCESS, a record of high priority if the admission test lets it in, and
only keeps the record. SHARE_APPLY, on a context with a kept record that is idle and RESIDENT or SWAPPED, replaces its attributes and its
budget by that record, keeps nothing pending and, of a RESIDENT context, places the share anew; on any other it changes nothing. It says
where SHARE_SET and SHARE_APPLY complete. (R298, R301, R316.) -/
def Obligations.ShareSetWaitsAndApplies : Prop :=
  (∀ (s : State) (c : CtxId) (q : RingId) (cmd : Command) (s1 : State) (rec : Bytes), Takes s c q 0x04 always cmd s1 →
    let k := cmdField cmd.raw 24 1
    1 ≤ k → k ≤ 15 → (s1.ctx k).state ≠ 0 → (s1.ctx k).state ≠ 5 → s1.recordOf cmd = some rec → recordOk rec = true →
    (recPriority rec = 1 → s1.admitted k (some rec) 0 = true) →
    ∃ t, exec (.shareSet c q) s = .next t ∧ ∃ e, Succeeds cmd e [] t ∧ e.ctx k = { s1.ctx k with pendingRecord := some rec } ∧
      (∀ d, d ≠ k → e.ctx d = s1.ctx d) ∧ Frame [.ctxs] s1 e) ∧
  (∀ (s : State) (c : CtxId) (rec : Bytes), (s.ctx c.val).pendingRecord = some rec → s.ctxIdle c.val = true →
    ((s.ctx c.val).state = 1 ∨ (s.ctx c.val).state = 2) →
    ∃ t, exec (.shareApply c) s = .next t ∧ (t.ctx c.val).record = rec ∧ (t.ctx c.val).pendingRecord = none ∧
      (t.ctx c.val).budget = recRtBudget rec ∧ ((s.ctx c.val).state = 1 → FindsRoom s c.val rec t) ∧
      ((s.ctx c.val).state = 2 → (t.ctx c.val).state = 2 ∧ (t.ctx c.val).share = none ∧ (∀ d, d ≠ c.val → t.ctx d = s.ctx d) ∧
        s.same t .store) ∧ Frame [.ctxs, .store] s t) ∧
  (∀ (s : State) (c : CtxId), ((s.ctx c.val).pendingRecord = none ∨ s.ctxIdle c.val = false ∨
      ((s.ctx c.val).state ≠ 1 ∧ (s.ctx c.val).state ≠ 2)) → exec (.shareApply c) s = .next s)

/-- A PRIVILEGE_SET of an open context ends with SUCCESS; the target then holds FUSED exactly if the command gives it or the target is the
supervisor; nothing else changes. Commands already validated keep the privilege they latched. It says where PRIVILEGE_SET completes.
(R336, R64.) -/
def Obligations.PrivilegeSetReplacesFused : Prop :=
  ∀ (s : State) (c : CtxId) (q : RingId) (cmd : Command) (s1 : State), Takes s c q 0x05 always cmd s1 →
    let k := cmdField cmd.raw 24 1
    k ≤ 15 → (s1.ctx k).state ≠ 0 → (s1.ctx k).state ≠ 5 →
    Answers (.privilegeSet c q) s fun t => ∃ e, Succeeds cmd e [] t ∧
      ((e.ctx k).fused = true ↔ k = 0 ∨ cmdField cmd.raw 25 1 = 1) ∧ (e.ctx k).heads = (s1.ctx k).heads ∧
      e.ctx k = { s1.ctx k with fused := (e.ctx k).fused } ∧ (∀ d, d ≠ k → e.ctx d = s1.ctx d) ∧ Frame [.ctxs] s1 e

/-- A WINDOW_WRITE whose entries are read and all keep the window rules, in the table as the writes before it will have left it, changes
no table yet and waits for every command of the target validated before it; where one entry breaks the rules it completes with
COMMAND_INVALID and changes nothing. With its completion exactly the entries FIRST to FIRST + COUNT - 1 of the target's table are
replaced. It says where WINDOW_WRITE completes. (R262, R263.) -/
def Obligations.WindowWriteReplacesAllOrNone : Prop :=
  (∀ (s : State) (c : CtxId) (q : RingId) (cmd : Command) (s1 : State) (bs : Bytes), Takes s c q 0x06 always cmd s1 →
    let k := cmdField cmd.raw 24 1
    let first := cmdField cmd.raw 25 1
    let n := cmdField cmd.raw 26 1
    let w := windowsAfter (s1.windowsToBe k) first (words bs 16 n)
    k ≤ 15 → (s1.ctx k).state ≠ 0 → (s1.ctx k).state ≠ 5 → 1 ≤ n → first + n ≤ 255 →
    s1.readStruct cmd (cmdAddr cmd.raw) (16 * n) = some bs →
    ((∀ i < n, windowOk w (first + i) ((words bs 16 n).getD i 0) = true) →
      Answers (.windowWrite c q) s fun t =>
        Waits cmd s1 (.commands (Fin.ofNat 16 k) cmd.seq) (some (Fin.ofNat 16 k, first, words bs 16 n)) t) ∧
    ((∃ i < n, windowOk w (first + i) ((words bs 16 n).getD i 0) = false) →
      Answers (.windowWrite c q) s fun t => Fails cmd s1 stCommandInvalid 0 0 t)) ∧
  (∀ (s : State) (e : Ended) (k : CtxId) (first : Nat) (es : List Nat), e.entries = some (k, first, es) → e.status = stSuccess →
    (∀ i < es.length, ((s.putEntries e).ctx k.val).windows.get? (first + i) = some (BitVec.ofNat 128 (es.getD i 0))) ∧
    (∀ i, (i < first ∨ first + es.length ≤ i) →
      ((s.putEntries e).ctx k.val).windows.get? i = (s.ctx k.val).windows.get? i) ∧
    (∀ d, d ≠ k.val → (s.putEntries e).ctx d = s.ctx d) ∧ Frame [.ctxs] s (s.putEntries e))

/-- A GROUP_DEFINE with a good record into a slot without a call in progress or waiting, a CONFLUENCE that waits latched among them, ends
with SUCCESS: the slot is defined with the record's members, tag and seed, is FORMED in the present epoch with CALL_SEQ 0, and its live
list is the members that are in the epoch. A GROUP_DELETE of such a group leaves the slot undefined. No other slot and no other part of
the state changes. It says where GROUP_DEFINE and GROUP_DELETE complete. (R202, R203, R204.) -/
def Obligations.GroupDefineAndDelete : Prop :=
  (∀ (s : State) (c : CtxId) (q : RingId) (cmd : Command) (s1 : State) (h b : Bytes), Takes s c q 0x07 always cmd s1 →
    s1.readStruct cmd (cmdAddr cmd.raw) 64 = some h → 1 ≤ grN h → grN h ≤ 1024 →
    s1.readStruct cmd (cmdAddr cmd.raw) (64 + up64 (2 * grN h)) = some b → groupRecordOk b s1.self = true →
    s1.groupBusy (grSlot b) = false →
    Answers (.groupDefine c q) s fun t => ∃ e, Succeeds cmd e [] t ∧
      (e.group (grSlot b)).defined = true ∧ (e.group (grSlot b)).members = grMembers b ∧ (e.group (grSlot b)).callSeq = 0 ∧
      (e.group (grSlot b)).state = 1 ∧ (e.group (grSlot b)).epoch = s1.membership.epoch ∧
      (e.group (grSlot b)).tag = BitVec.ofNat 64 (field b 0 8) ∧ (e.group (grSlot b)).srSeed = BitVec.ofNat 64 (field b 0x10 8) ∧
      (e.group (grSlot b)).live = (grMembers b).filter s1.membership.members.contains ∧
      (∀ g, g ≠ grSlot b → e.group g = s1.group g) ∧ Frame [.groups] s1 e) ∧
  (∀ (s : State) (c : CtxId) (q : RingId) (cmd : Command) (s1 : State), Takes s c q 0x08 always cmd s1 → s1.groups.sorted →
    let g := cmdField cmd.raw 24 1
    g ≤ 63 → (s1.group g).defined = true → s1.groupBusy g = false →
    Answers (.groupDelete c q) s fun t => ∃ e, Succeeds cmd e [] t ∧ e.group g = Group.undefined ∧
      (∀ k, k ≠ g → e.group k = s1.group k) ∧ Frame [.groups] s1 e)

/-- A PLATE_LOAD whose images are all read, pass every check on an image, fit the plate area and pass admission ends with SUCCESS and
RESULT WCET, and its slot holds the images read with the largest WCET_DECLARED of them; every other slot is as before. A PLATE_DROP of a
slot that holds a set leaves that slot empty and every other as before; of an empty slot, or a slot beyond 15, it completes with
COMMAND_INVALID. It says where PLATE_LOAD and PLATE_DROP complete. (R41, R66, R341.) -/
def Obligations.PlateLoadAndDrop : Prop :=
  (∀ (s : State) (c : CtxId) (q : RingId) (cmd : Command) (s1 : State) (table : Bytes) (bss : List Bytes),
    Takes s c q 0x10 State.slotFree cmd s1 →
    let n := cmdField cmd.raw 25 1
    let x := s1.ctx cmd.ctx.val
    let ims := bss.map parseImage
    let wcet := ims.foldl (fun m im => max m im.wcet) 0
    cmdSet cmd.raw ≤ 15 → 1 ≤ n → n ≤ 8 → s1.readStruct cmd (cmdAddr cmd.raw) (8 * n) = some table →
    s1.readImages cmd (words table 8 n) = bss.map some →
    (∀ i < n, s1.checkImage cmd ims (fun _ => s1.worstCases x.routers none ims) i n (bss.getD i []) = none) →
    imagesFit x (cmdSet cmd.raw) ims = true → s1.admitted cmd.ctx.val none wcet = true →
    Answers (.plateLoad c q) s fun t => ∃ e, Succeeds cmd e (leBytes 8 wcet) t ∧
      (e.ctx cmd.ctx.val).sets.get? (cmdSet cmd.raw) = some (wcet, ims) ∧
      (∀ k, k ≠ cmdSet cmd.raw → (e.ctx cmd.ctx.val).sets.get? k = x.sets.get? k) ∧
      (∀ d, d ≠ cmd.ctx.val → e.ctx d = s1.ctx d) ∧ Frame [.ctxs] s1 e) ∧
  (∀ (s : State) (c : CtxId) (q : RingId) (cmd : Command) (s1 : State), Takes s c q 0x11 State.slotFree cmd s1 →
    (s1.ctx cmd.ctx.val).sets.sorted →
    cmdSet cmd.raw ≤ 15 → ((s1.ctx cmd.ctx.val).sets.get? (cmdSet cmd.raw)).isSome →
    Answers (.plateDrop c q) s fun t => ∃ e, Succeeds cmd e [] t ∧ (e.ctx cmd.ctx.val).sets.get? (cmdSet cmd.raw) = none ∧
      (∀ n, n ≠ cmdSet cmd.raw → (e.ctx cmd.ctx.val).sets.get? n = (s1.ctx cmd.ctx.val).sets.get? n) ∧
      (∀ d, d ≠ cmd.ctx.val → e.ctx d = s1.ctx d) ∧ Frame [.ctxs] s1 e) ∧
  (∀ (s : State) (c : CtxId) (q : RingId) (cmd : Command) (s1 : State), Takes s c q 0x11 State.slotFree cmd s1 →
    (15 < cmdSet cmd.raw ∨ (s1.ctx cmd.ctx.val).sets.get? (cmdSet cmd.raw) = none) →
    Answers (.plateDrop c q) s fun t => Fails cmd s1 stCommandInvalid 0 0 t)

/-- A ROUTER_WRITE whose entries are read, are all acceptable, keep distinct reprint ordinals and keep the reprint routers of occupied
slots ends with SUCCESS: entries FIRST to FIRST + COUNT - 1 of the issuing context's router table are the entries read, the others are as
before and the generation has risen by one. No memory changes. It says where ROUTER_WRITE completes. (R69, R192, R337.) -/
def Obligations.RouterWriteReplacesEntries : Prop :=
  ∀ (s : State) (c : CtxId) (q : RingId) (cmd : Command) (s1 : State) (bs : Bytes), Takes s c q 0x12 always cmd s1 →
    let k := cmd.ctx.val
    let first := cmdField cmd.raw 24 1
    let n := cmdField cmd.raw 25 1
    let es := (words bs 64 n).map (BitVec.ofNat 512 ·)
    first ≤ 127 → first + n ≤ 128 → s1.readStruct cmd (cmdAddr cmd.raw) (64 * n) = some bs →
    (∀ e ∈ es, routerOk e (recEMax (s1.ctx k).record) s1.live.length = true) →
    ordinalsApart (routersAfter (s1.ctx k).routers first es) = true →
    (∀ i < n, s1.reprintKept k (first + i) (es.getD i 0) = true) →
    ∃ t, exec (.routerWrite c q) s = .next t ∧ ∃ e, Succeeds cmd e [] t ∧
      (∀ i < n, (e.ctx k).routers.get? (first + i) = some (BitVec.ofNat 512 (field bs (64 * i) 64))) ∧
      (∀ i, (i < first ∨ first + n ≤ i) → (e.ctx k).routers.get? i = (s1.ctx k).routers.get? i) ∧
      (e.ctx k).generation = (s1.ctx k).generation + 1 ∧ (e.ctx k).windows = (s1.ctx k).windows ∧
      (∀ d, d ≠ k → e.ctx d = s1.ctx d) ∧ Frame [.ctxs, .runs, .ended] s1 e

/-- With KIND 0 and 64 acceptable values CONTEXT_PARAM replaces the schedule INDEX, with KIND 1 the seed; with an unacceptable value it
completes with ROUTER_INVALID and with another KIND with COMMAND_INVALID, and then nothing else changes. It says where CONTEXT_PARAM
completes. (R171, R338.) -/
def Obligations.ContextParamReplacesScheduleOrSeed : Prop :=
  ∀ (s : State) (c : CtxId) (q : RingId) (cmd : Command) (s1 : State), Takes s c q 0x13 always cmd s1 →
    let k := cmd.ctx.val
    let i := cmdField cmd.raw 25 1
    (∀ bs, cmdField cmd.raw 24 1 = 0 → i ≤ 7 → s1.readStruct cmd (cmdAddr cmd.raw) 256 = some bs →
      ((∀ v ∈ words bs 4 64, fp32NonNegative v = true) →
        Answers (.contextParam c q) s fun t => ∃ e, Succeeds cmd e [] t ∧
          (e.ctx k).schedules.get? i = some ((words bs 4 64).map (BitVec.ofNat 32 ·)) ∧
          (∀ j, j ≠ i → (e.ctx k).schedules.get? j = (s1.ctx k).schedules.get? j) ∧ (e.ctx k).seed = (s1.ctx k).seed ∧
          (∀ d, d ≠ k → e.ctx d = s1.ctx d) ∧ Frame [.ctxs] s1 e) ∧
      ((∃ v ∈ words bs 4 64, fp32NonNegative v = false) →
        Answers (.contextParam c q) s fun t => Fails cmd s1 stRouterInvalid 0 0 t)) ∧
    (2 ≤ cmdField cmd.raw 24 1 → Answers (.contextParam c q) s fun t => Fails cmd s1 stCommandInvalid 0 0 t) ∧
    (cmdField cmd.raw 24 1 = 1 →
      Answers (.contextParam c q) s fun t => ∃ e, Succeeds cmd e [] t ∧ e.ctx k = { s1.ctx k with seed := BitVec.ofNat 64 (cmdAddr cmd.raw) } ∧
        (∀ d, d ≠ k → e.ctx d = s1.ctx d) ∧ Frame [.ctxs] s1 e)

/-- With operands in range each of the three leaves its ring and waits behind the sequence changes of its context that wait already. A
join whose range fits in its region takes the lowest free slot of the region, which is joining from then on; where every slot that could
take it is still leaving it waits without one (log 120). A leave of a slot that its context occupies marks that slot leaving. No memory,
no other slot and no other context changes. It says where SEQ_JOIN, SEQ_LEAVE and SEQ_UPDATE complete. (R302, R303, R339.) -/
def Obligations.SequenceCommandsParkUntilTheirStep : Prop :=
  (∀ (s : State) (c : CtxId) (q : RingId) (cmd : Command) (s1 : State), Takes s c q 0x14 always cmd s1 →
    joinRegion cmd.raw ∈ s1.live → cmdField cmd.raw 25 1 ≤ 128 → cmdField cmd.raw 27 1 ≤ 7 → joinFirst cmd.raw < 2 ^ 24 →
    1 ≤ joinCount cmd.raw → joinCount cmd.raw ≤ 262144 → joinMax cmd.raw ≤ 262144 → s1.joinFits cmd.raw = true →
    (∃ i ∈ regionSlots (joinRegion cmd.raw), (s1.slot i).state ≠ 1 ∧ (s1.slot i).state ≠ 2) →
    (∀ i, s1.freeSlot (joinRegion cmd.raw) = some i →
      Answers (.seqJoin c q) s fun t => ∃ e, Parks cmd e t ∧ e.slot i = joinedSlot cmd 1 [] ∧ (∀ j, j ≠ i → e.slot j = s1.slot j) ∧
        Frame [.slots] s1 e) ∧
    (s1.freeSlot (joinRegion cmd.raw) = none → Answers (.seqJoin c q) s fun t => Parks cmd s1 t)) ∧
  (∀ (s : State) (c : CtxId) (q : RingId) (cmd : Command) (s1 : State), Takes s c q 0x15 always cmd s1 →
    let i := seqSlotOf cmd.raw
    i ≤ 511 → (s1.slot i).state = 2 → (s1.slot i).ctx = cmd.ctx →
    Answers (.seqLeave c q) s fun t => ∃ e, Parks cmd e t ∧ e.slot i = { s1.slot i with state := 3 } ∧
      (∀ j, j ≠ i → e.slot j = s1.slot j) ∧ Frame [.slots] s1 e) ∧
  (∀ (s : State) (c : CtxId) (q : RingId) (cmd : Command) (s1 : State), Takes s c q 0x16 always cmd s1 →
    let i := seqSlotOf cmd.raw
    i ≤ 511 → cmdField cmd.raw 27 1 ≤ 7 → 2 ≤ (s1.slot i).state → (s1.slot i).ctx = cmd.ctx →
    Answers (.seqUpdate c q) s fun t => Parks cmd s1 t)

/-- When every other command of the context validated before any of the waiting changes of the step has completed, and the first
routed-layer command of the step is about to issue or, where the rings carry none, no routed-layer command of the context is in flight,
STEP_BOUNDARY takes the changes of that step out of the waiting list, applies its leaves, then its updates, then its joins, each kind in
order of validation; otherwise it changes nothing. A leave frees its slot and the basins of its planes and tables; an update replaces the
slot's age limit, schedule and layer skips; each ends with SUCCESS. No running set changes. It says where STEP_BOUNDARY completes. (R174,
R302, R303, R339.) -/
def Obligations.StepBoundaryAppliesLeavesUpdatesJoins : Prop :=
  (∀ (s : State) (c : CtxId) (step : BitVec 16),
    let here := (s.ctx c.val).seqWait.filter fun m => cmdStep m.raw == step.toNat
    let kind (op : Nat) := here.filter fun m => cmdOp m.raw == op
    let s0 := s.modCtx c.val fun x => { x with seqWait := x.seqWait.filter fun m => cmdStep m.raw != step.toNat }
    (s.boundaryReady c.val step.toNat = true → Answers (.stepBoundary c step) s fun t =>
      t = (kind 0x14).foldl State.joinNow ((kind 0x16).foldl State.updateNow ((kind 0x15).foldl State.leaveNow s0)) ∧
      Frame [.regs, .sameTc, .ctxs, .slots, .ended, .store, .poison, .fabric, .view] s t) ∧
    (s.boundaryReady c.val step.toNat = false → exec (.stepBoundary c step) s = .next s)) ∧
  (∀ (s : State) (m : Command),
    let i := seqSlotOf m.raw
    (s.leaveNow m).slot i = SeqSlot.free ∧ (∀ j, j ≠ i → (s.leaveNow m).slot j = s.slot j) ∧
    (∀ h ∈ (s.slot i).planes.flatMap (·.2) ++ (s.slot i).tables,
      (s.ctx m.ctx.val).basins.sorted → ((s.leaveNow m).ctx m.ctx.val).basins.get? h = none) ∧
    (s.leaveNow m).ended = (s.endDone m []).ended) ∧
  (∀ (s : State) (m : Command),
    let i := seqSlotOf m.raw
    (s.slot i).state ≠ 0 → (s.slot i).ctx = m.ctx →
    (s.updateNow m).slot i = { s.slot i with
      maxAge := cmdField m.raw 26 1, schedule := cmdField m.raw 27 1, layerSkip := BitVec.ofNat 128 (cmdField m.raw 40 16) } ∧
    (∀ j, j ≠ i → (s.updateNow m).slot j = s.slot j) ∧
    (s.updateNow m).ended = (s.endDone m []).ended)

/-- A BURN_READ of a written router whose image translates ends with SUCCESS and stores exactly the image of the burn table, LOAD and
WINDOW at its address, in bytes that translate from it; no context changes. A BURN_WRITE of an image that keeps its rules replaces the
router's burn values, LOAD and WINDOW by those of the image and changes no memory. Each waits until no earlier command of its context on
the router is incomplete. It says where BURN_READ and BURN_WRITE complete. (R195, R197, R198.) -/
def Obligations.BurnReadAndWrite : Prop :=
  (∀ (s : State) (c : CtxId) (q : RingId) (cmd : Command) (s1 e : State) (rt : BitVec 512), s.WF → Takes s c q 0x17 balanceOwn cmd s1 →
    let ρ := cmdField cmd.raw 24 1
    (s1.ctx cmd.ctx.val).routers.get? ρ = some rt →
    s1.writeCtx cmd.windows s1.leader (cmdAddr cmd.raw) (balanceImage (s1.ctx cmd.ctx.val) ρ rt) = some e →
    s1.earlierNames cmd ρ = false ∧ (Answers (.burnRead c q) s fun t => Succeeds cmd e [] t) ∧
    Frame [.store, .poison, .fabric] s1 e ∧
    (∀ ps, translate cmd.windows true (cmdAddr cmd.raw) (64 + 8 * rtE rt) = some ps →
      (∀ a, (∀ p ∈ ps, p.store = false → a < p.addr ∨ p.addr + p.len ≤ a) → e.fabric.byte a = s1.fabric.byte a) ∧
      (∀ r a, (∀ p ∈ ps, p.store = true → r = s1.leader → a < p.addr ∨ p.addr + p.len ≤ a) →
        (e.region r).store.byte a = (s1.region r).store.byte a))) ∧
  (∀ (s : State) (c : CtxId) (q : RingId) (cmd : Command) (s1 : State) (rt : BitVec 512) (bs : Bytes), Takes s c q 0x18 balanceOwn cmd s1 →
    let ρ := cmdField cmd.raw 24 1
    let k := cmd.ctx.val
    (s1.ctx k).routers.get? ρ = some rt → s1.readStruct cmd (cmdAddr cmd.raw) (64 + 8 * rtE rt) = some bs → balanceOk bs ρ rt = true →
    Answers (.burnWrite c q) s fun t => ∃ e, Succeeds cmd e [] t ∧
      (e.ctx k).burn.get? ρ = some ((words (bs.drop 0x40) 4 (rtE rt)).map (BitVec.ofNat 32 ·)) ∧
      (e.ctx k).load.get? ρ = some (words (bs.drop (0x40 + 4 * rtE rt)) 4 (rtE rt)) ∧
      (e.ctx k).window.get? ρ = some (field bs 0xA 2) ∧
      (∀ j, j ≠ ρ → (e.ctx k).burn.get? j = (s1.ctx k).burn.get? j ∧ (e.ctx k).load.get? j = (s1.ctx k).load.get? j ∧
        (e.ctx k).window.get? j = (s1.ctx k).window.get? j) ∧
      (e.ctx k).routers = (s1.ctx k).routers ∧ (∀ d, d ≠ k → e.ctx d = s1.ctx d) ∧ Frame [.ctxs] s1 e)

/-- Each of the four commands with a claim, when the leader validates it and its own checks pass, waits at the head of its ring latched
with what those checks read (its tensor list, its owner tables and its counts), under the number and windows that validation gave it, and
nothing else changes; when a check fails it completes with that check's code, INDEX and REGION and nothing else changes. It says where
LAYER_RUN, COMBINE_RUN, CONFLUENCE and TENSOR_COPY complete. (R305, R329, R331, R342, R343, R344, R345, R346, R347.) -/
def Obligations.ClaimCommandsWaitLatched : Prop :=
  ∀ (s : State) (c : CtxId) (q : RingId) (i : Instr) (op : Nat) (chk : State → Command → Verdict) (cmd : Command) (s1 : State),
    (i, op, chk) ∈ [(Instr.layerRun c q, 0x20, State.runCheck), (.combineRun c q, 0x21, State.runCheck),
      (.confluence c q, 0x22, State.confluenceCheck), (.tensorCopy c q, 0x23, State.copyCheck)] →
    Validates s c q op cmd s1 →
    (∀ m, chk s1 cmd = .latch m → (Answers i s fun t => Latched c q m s1 t) ∧
      m.raw = cmd.raw ∧ m.seq = cmd.seq ∧ m.ctx = cmd.ctx ∧ m.ring = cmd.ring ∧ m.windows = cmd.windows ∧ m.fused = cmd.fused ∧
      ∃ n, s1.readStruct cmd (cmdAddr cmd.raw) (192 * n) = some m.list) ∧
    (∀ code k r, chk s1 cmd = .fail code k r → Answers i s fun t => Fails cmd s1 code k r t) ∧
    ((∃ m, chk s1 cmd = .latch m) ∨ ∃ code k r, chk s1 cmd = .fail code k r)

/-- On a page that answers: a DOORBELL whose TAIL is at most the ring's size beyond HEAD, of a context that is not in teardown, stores
TAIL before the leader reads the ring; a TAIL beyond the ring changes no pointer and only raises RING_ERROR. A CMD_RING write stores BASE,
ENABLE and a SIZE_LOG2 held between 4 and 16, but of an enabled ring only ENABLE. A CPL_PTR.TAIL within the ring is stored, another is
ignored; so is a CONTACT_TAIL unless it makes the sheet fuller than its size and than it was. The two tails change no other register and
nothing else. It says where DOORBELL, CMD_RING_WRITE, CPL_PTR_TAIL and CONTACT_TAIL complete. (R251, R318, R322, R349.) -/
def Obligations.RingRegistersTakeTheirWrites : Prop :=
  (∀ (s : State) (c : CtxId) (q : RingId) (tail : W32), s.pageAnswers (pgRing c.val) = true → (s.ctx c.val).state ≠ 5 →
    (sub32 tail.toNat (s.ringHead c.val q.val) ≤ s.ringSize c.val q.val → Answers (.doorbell c q tail) s fun t =>
      ∃ u, t = (u.fetch c.val q.val).settleIdle ∧ u.ringTail c.val q.val = tail.toNat ∧ u.ringHead c.val q.val = s.ringHead c.val q.val ∧
        RegsKept s u (fun a => a = ringPage c.val q.val + 0x88) ∧ Frame [.regs] s u) ∧
    (s.ringSize c.val q.val < sub32 tail.toNat (s.ringHead c.val q.val) → Answers (.doorbell c q tail) s fun t =>
      t = s.contain (pgRing c.val) 0 ∧ t.ringTail c.val q.val = s.ringTail c.val q.val)) ∧
  (∀ (s : State) (c : CtxId) (q : RingId) (w : W64), s.pageAnswers (pgRing c.val) = true →
    let a := ringPage c.val q.val + 0x80
    Answers (.cmdRingWrite c q w) s fun t => ∃ u, t = (u.fetch c.val q.val).settleIdle ∧
      (bitAt (s.reg a) 5 = false → u.reg a = bits w.toNat 63 12 * 0x1000 + bits w.toNat 5 5 * 32 + min (max (bits w.toNat 4 0) 4) 16) ∧
      (bitAt (s.reg a) 5 = true → u.reg a = s.reg a - bits (s.reg a) 5 5 * 32 + bits w.toNat 5 5 * 32) ∧
      RegsKept s u (fun b => b = a) ∧ Frame [.regs] s u) ∧
  (∀ (s : State) (c : CtxId) (tail : W32), s.pageAnswers (pgRing c.val) = true →
    Answers (.cplPtrTail c tail) s fun t =>
      t.getF (pgRing c.val) Fld.CPL_PTR_TAIL = (if s.cplSize c.val < sub32 (s.getF (pgRing c.val) Fld.CPL_PTR_HEAD) tail.toNat
        then s.getF (pgRing c.val) Fld.CPL_PTR_TAIL else tail.toNat) ∧
      t.getF (pgRing c.val) Fld.CPL_PTR_HEAD = s.getF (pgRing c.val) Fld.CPL_PTR_HEAD ∧
      RegsKept s t (fun a => a = pgRing c.val + Fld.CPL_PTR_TAIL.off) ∧ Frame [.regs] s t) ∧
  (∀ (s : State) (c : CtxId) (tail : W32), s.pageAnswers pgProof = true →
    let pg := pgProof + 0x20 * c.val
    let head := s.getF pg Fld.CONTACT_HEAD_HEAD
    let old := s.getF pg Fld.CONTACT_TAIL_TAIL
    Answers (.contactTail c tail) s fun t =>
      t.getF pg Fld.CONTACT_TAIL_TAIL = (if 2 ^ s.getF pg Fld.CONTACT_CTL_SIZE_LOG2 < sub32 head tail.toNat ∧ sub32 head old < sub32 head tail.toNat
        then old else tail.toNat) ∧
      RegsKept s t (fun a => a = pg + Fld.CONTACT_TAIL_TAIL.off) ∧ Frame [.regs] s t)

/-- For a ring of an open context that is enabled, holds an entry and has no head, outside NOT_READY: if the entry's 64 bytes translate,
the leader holds them as the head, not yet validated, HEAD has advanced by one, and nothing else has changed; if they do not, the RING
page contains the error and the context's teardown begins with BOUNDS_FAULT. In every other case reading changes nothing. (R317, R321,
R322, R408, log 14.) -/
def Obligations.LeaderReadsTheHeadOfARing : Prop :=
  ∀ (s : State) (c : CtxId) (q : RingId),
    let pg := ringPage c.val q.val
    let a := s.getF pg Fld.CMD_RING_BASE * 0x1000 + 64 * (s.ringHead c.val q.val % s.ringSize c.val q.val)
    let can := (s.ctx c.val).heads.get? q.val = none ∧ 1 ≤ (s.ctx c.val).state ∧ (s.ctx c.val).state ≤ 4 ∧
      s.getF pg Fld.CMD_RING_ENABLE = 1 ∧ s.ringLeft c.val q.val ≠ 0 ∧ s.bringState ≠ 12
    (∀ bs, can → s.readCtx (s.ctx c.val).windows s.leader a 64 = some bs →
      (∃ h, ((s.fetch c.val q.val).ctx c.val).heads.get? q.val = some h ∧ h.raw = BitVec.ofNat 512 (leNat bs) ∧ h.cmd = none) ∧
      (s.fetch c.val q.val).ringHead c.val q.val = (s.ringHead c.val q.val + 1) % 2 ^ 32 ∧
      (s.fetch c.val q.val).ringTail c.val q.val = s.ringTail c.val q.val ∧
      RegsKept s (s.fetch c.val q.val) (fun b => b = pg + Fld.CMD_PTR_HEAD.off) ∧
      (∀ d, d ≠ c.val → (s.fetch c.val q.val).ctx d = s.ctx d) ∧ Frame [.regs, .ctxs] s (s.fetch c.val q.val)) ∧
    (can → s.readCtx (s.ctx c.val).windows s.leader a 64 = none →
      s.fetch c.val q.val = (s.contain (pgRing c.val) 1).startTeardown c.val stBoundsFault false) ∧
    (¬can → s.fetch c.val q.val = s)

/-- With a leader, when the first ended command is not a plate set, nothing deferred becomes ready and no copy in flight ends before it,
its context's completion ring is enabled and the slot translates: COMMAND_COMPLETE stores the 64 completion bytes of that command, with
its TC_RUN counted from its issue, at the ring's next slot with the PHASE of the pass, and advances HEAD by one; the command is no longer
ended or in flight, its signal is applied to the event of its own context that it names and its context's completion source pends. Without
a leader nothing changes. It says where COMMAND_COMPLETE completes. (R18, R324, R325, R326, R327.) -/
def Obligations.CommandCompleteWritesCompletion : Prop :=
  (∀ (s u : State) (e : Ended) (rest : List Ended), s.WF → s.led = true → (∀ d ∈ s.deferred, s.awaited d.1 = false) →
    s.ended = e :: rest → (∀ k ∈ s.copies, e.endTc ≤ k.due) → e.isSet = false →
    let c := e.ctx.val
    let tc := match e.issued with | none => e.tcRun | some t => s.tcNow - t
    let e1 := { e with tcRun := tc, flags := if e.issued.isSome && s.power.safelight then setFlag e.flags flSafelight else e.flags }
    let s0 := { s with ended := rest }
    let head := s.getF (pgRing c) Fld.CPL_PTR_HEAD
    s.getF (pgRing c) Fld.CPL_RING_ENABLE = 1 →
    s0.writeCtx (s.ctx c).windows s.leader (s.getF (pgRing c) Fld.CPL_RING_BASE * 0x1000 + 64 * (head % s.cplSize c))
      (completionBytes e1 (!bitAt head (s.getF (pgRing c) Fld.CPL_RING_SIZE_LOG2))) = some u →
    Answers .commandComplete s fun t => t.ended = rest ∧ t.flight = s.flight.filter (fun f => f.2 != e.seq) ∧
      t.getF (pgRing c) Fld.CPL_PTR_HEAD = (head + 1) % 2 ^ 32 ∧ t.isPending c = true ∧ t.fabric = u.fabric ∧
      (∀ r, (t.region r).store = (u.region r).store) ∧
      (∀ ev, (cmdSignalEn e.raw = false ∨ ev ≠ cmdSignal e.raw ∨ ev / 256 ≠ c) → t.event ev = s.event ev) ∧
      (cmdSignalEn e.raw = true → cmdSignal e.raw / 256 = c → cmdOp e.raw ≠ 0 →
        t.event (cmdSignal e.raw) = ((s.event (cmdSignal e.raw)).1 + 1, (s.event (cmdSignal e.raw)).2 || decide (e.status ≠ 0))) ∧
      Frame [.regs, .sameTc, .ctxs, .events, .ended, .flight, .fabric, .store, .poison, .view] s t) ∧
  (∀ s : State, s.led = false → exec .commandComplete s = .next s)

/-- A CPL_RING write on a page that answers stores the ring's fields like a command ring's: of a ring that is enabled only ENABLE, else
BASE, ENABLE and a SIZE_LOG2 held between 4 and 16. With ENABLE 0 only the register changes; with ENABLE 1 the completions held for the
context are written in their order and none stays held, each as COMMAND_COMPLETE writes one. It says where CPL_RING_ENABLE completes.
(R349, R350.) -/
def Obligations.CplRingEnableWritesHeldCompletions : Prop :=
  ∀ (s : State) (c : CtxId) (w : W64), s.pageAnswers (pgRing c.val) = true →
    let a := pgRing c.val + 0xC0
    let s1 := s.setReg a (if bitAt (s.reg a) 5 then s.reg a - bits (s.reg a) 5 5 * 32 + bits w.toNat 5 5 * 32
      else bits w.toNat 63 12 * 0x1000 + bits w.toNat 5 5 * 32 + min (max (bits w.toNat 4 0) 4) 16)
    (bits w.toNat 5 5 = 0 → exec (.cplRingEnable c w) s = .next s1) ∧
    (bits w.toNat 5 5 = 1 → ∃ t, exec (.cplRingEnable c w) s = .next t ∧
      t = ((s.ctx c.val).held.foldl (fun s e => if (s.ctx c.val).state == 5 then s else s.writeCompletion e)
        (s1.modCtx c.val fun x => { x with held := [] })).settleIdle ∧
      (t.ctx c.val).held = [] ∧ ((s.ctx c.val).held = [] → (∀ b, t.reg b = s1.reg b) ∧ Frame [.regs, .ctxs] s t))

/-- When a command answers a next state, every part of the state that its row does not list is as before: every register page, memory,
context, group, running set, queue, port and unit is one of these parts, and a part of the regions is meant in every region. (R7, R46,
R58, R261, R322, R349, R355, R425.) -/
def Obligations.EveryCommandLeavesTheRestUnchanged : Prop :=
  ∀ (i : Instr) (s t : State), exec i s = .next t → Frame (touches i) s t

/-- Each lane is clamped to LANE_BOUND and taken in full while the running sum stays at or below TOTAL_BOUND; the first lane that would
pass it contributes what is left, later lanes nothing, and what a lane does not contribute is its excess. The iteration count is the sum
of the contributions, so it is at most min(TOTAL_BOUND, L x LANE_BOUND); where there is no excess every lane is taken whole. SPILL adds
the excess to the command's CAPACITY_SPILL count, DROP to its CAPACITY_DROP count, and each raises its flag. (R49, R50.) -/
def Obligations.CountedLanesAreClampedInOrder : Prop :=
  (∀ (c : W64) (lanes : List Nat),
    let takes := takeLanes c lanes
    takes.length = lanes.length ∧
    (∀ i v, lanes[i]? = some v → ∃ p, takes[i]? = some p ∧ p.1 + p.2 = v ∧
      p.1 = min (min v (capLane c)) (capTotal c - ((lanes.take i).map fun u => min u (capLane c)).sum)) ∧
    (takes.map (·.1)).sum ≤ min (capTotal c) (lanes.length * capLane c) ∧
    ((∀ v ∈ lanes, v ≤ capLane c) → lanes.sum ≤ capTotal c → takes = lanes.map fun v => (v, 0))) ∧
  (∀ (s : State) (x : Op) (g : RegionRun), s.partOf x.seq x.r = some g →
    let m := capMode (x.g.image.takeCap x.o)
    let n := x.excess.sum
    0 < n → (s.noteExcess x).partOf x.seq x.r = some
      (if m = 1 then { g with spill := g.spill + n, flags := setFlag g.flags flCapacitySpill }
       else if m = 2 then { g with drop := g.drop + n, flags := setFlag g.flags flCapacityDrop } else g))

/-- Of every row of a plate operation: where its plate offers no operation, or another one, nothing changes. Where the bundle's parity is
bad the region's page records the fault and the plate halts with BUNDLE_PARITY; where R50 leaves excess of a STRICT entry the plate halts
with CAPACITY_FAULT and the operation executes no iteration; where the operation reads bytes whose check bits mark them uncorrectable the
context's teardown with CONTEXT_FAULT begins. (R42, R47, R50, R62, R318, R445.) -/
def Obligations.PlateRowsStutterHaltOrTearDown : Prop :=
  ∀ (s : State) (run : W32) (r : RegionId) (g : CellGroupId) (p : PortId) (i : Instr) (sel : SlotOp → Bool),
    (i, sel) ∈ plateRows run r g p →
    ((∀ x, Offers s run r.val x → sel x.o = false) → exec i s = .next s) ∧
    (∀ x, Offers s run r.val x → sel x.o = true →
      (s.fetchesBad x = true → exec i s = .next (s.badBundle run r.val x.g x.t)) ∧
      (s.fetchesBad x = false → strictHit (x.g.image.takeCap x.o) x.takes = true → Halts i s x (s.opened x) stCapacityFault) ∧
      (s.fetchesBad x = false → strictHit (x.g.image.takeCap x.o) x.takes = false → (s.opened x).readsPoison x = true →
        exec i s = .next ((s.opened x).startTeardown x.c stContextFault false)))

/-- SET_CNT puts IMM[23:0] into lane 0 of DST and ends after 1 tc; READ_TIME puts bits [23:0] of the time counter in its issue cycle there
after 1 tc, READ_SENSOR a reading that the model leaves free (log 7) after 2 tc. SIGNAL asserts source IMM[7:0] of the context and lasts 1
tc. PROOF_EMIT lasts 16 tc, and when it ends the region's digest parts of the router IMM[6:0] are frozen and no other digest. The other
lanes of DST keep their values, and nothing else of the state in which the operation issues changes. It says where SET_CNT, SIGNAL,
READ_TIME, READ_SENSOR and PROOF_EMIT complete. (R46, R47, R51, R246, R352, R447.) -/
def Obligations.ControlOperationsWriteAndSignal : Prop :=
  (∀ (s : State) (run : W32) (r : RegionId) (x : Op) (s1 : State),
    (Issues s run r.val 0 1 x s1 →
      Runs (.setCnt run r) s x s1 (some (x.t + 1)) [(x.o.dst, x.g.withLane x.o.dst 0 (x.o.imm % 2 ^ 24))]) ∧
    (Issues s run r.val 0 4 x s1 → Runs (.signal run r) s x (s1.signal x.c (x.o.imm % 256)) (some (x.t + 1)) []) ∧
    (Issues s run r.val 0 5 x s1 →
      Runs (.readTime run r) s x s1 (some (x.t + 1)) [(x.o.dst, x.g.withLane x.o.dst 0 (s1.timeAt r.val x.t % 2 ^ 24))]) ∧
    (Issues s run r.val 0 6 x s1 →
      Runs (.readSensor run r) s x s1.drew (some (x.t + 2)) [(x.o.dst, x.g.withLane x.o.dst 0 (Config.freeBits s.freeCtr).toNat)]) ∧
    (Issues s run r.val 0 7 x s1 → Runs (.proofEmit run r) s x s1 (some (x.t + 16)) [])) ∧
  (∀ (g : RegionRun) (b : Busy) (e : Nat), b.unit = 12 → b.opcode = 7 → b.halts = none →
    let ρ := (g.opOf b).imm % 128
    (g.ended_ b e).digests.getD ρ Digest.empty = { g.digests.getD ρ Digest.empty with frozen := true } ∧
    ∀ k, k ≠ ρ → (g.ended_ b e).digests.get? k = g.digests.get? k)

/-- LOOP sets the passes of its body to its iteration count, and the plate goes on with the first bundle of the body, or behind it for
none; after the last bundle of a body with passes left comes its first. Under SPILL its excess waits for the end of the LOOP, which writes
it to EXCESS_CNT one tc after the last bundle (log 106). WAIT_UNITS changes nothing but that the next bundle does not issue before every
unit in IMM[12:0] is free. END waits for every unit: while one is busy nothing happens, and otherwise the part ends one tc after its
issue, or after the cycle in which the last unit becomes free. It says where LOOP, WAIT_UNITS and END complete. (R46, R47, R51.) -/
def Obligations.LoopWaitUnitsAndEnd : Prop :=
  (∀ (s : State) (run : W32) (r : RegionId) (x : Op) (s1 : State), Issues s run r.val 0 2 x s1 →
    let cap := x.g.image.cap x.o.cap
    Answers (.loop run r) s fun t => ∃ e, Issued x e t ∧ Frame [.runs] s1 e ∧
      PartBecomes s1 x (fun g => { g with
        passes := x.n,
        spills := if capMode cap = 1 then g.spills ++ [⟨g.loops.length + 1, capExcess cap, x.excess, s1.openOp x⟩] else g.spills }) e) ∧
  (∀ (g : RegionRun) (p : LoopSpill),
    g.next.spills = g.spills.filter (fun k => decide (k.depth ≤ g.next.loops.length)) ∧
    (g.spills = [p] → g.next.loops.length < p.depth →
      g.next.cnt.get? p.reg = some p.lanes ∧ g.next.ready.get? p.reg = some (g.last + 1))) ∧
  (∀ (s : State) (run : W32) (r : RegionId) (x : Op) (s1 : State), Issues s run r.val 0 3 x s1 →
    (Answers (.waitUnits run r) s fun t => Issued x s1 t) ∧
    ((s1.partOf run r.val).map (·.hold) = some (if (s.partOf run r.val).map (·.fresh) = some true then x.o.imm % 2 ^ 13 else
      ((s.partOf run r.val).map (·.hold)).getD 0))) ∧
  (∀ (g : RegionRun) (t u : Nat), g.fresh = true → g.issueAt = some t → u < 13 → bitAt g.hold u = true →
    g.free.getD u 0 ≤ t ∧ ∀ b ∈ g.busy, b.unit ≠ u) ∧
  (∀ (first last left b : Nat) (ls : List (Nat × Nat × Nat)),
    advance ((first, last, left) :: ls) b = if b ≠ last then (b + 1, (first, last, left) :: ls)
      else if 1 < left then (first, (first, last, left - 1) :: ls) else advance ls b) ∧
  (∀ (ls : List (Nat × Nat × Nat)) (b body n : Nat), 0 < body →
    enterLoop ls b body n = if n = 0 then advance ls (b + body) else (b + 1, (b + 1, b + body, n) :: ls)) ∧
  (∀ (s : State) (run : W32) (r : RegionId) (x : Op) (s1 : State), Issues s run r.val 0 0x3F x s1 →
    (x.g.busy ≠ [] → exec (.endPlate run r) s = .next s) ∧
    (x.g.busy = [] → Answers (.endPlate run r) s fun t =>
      let e := max x.t (x.g.free.foldl max 0) + 1
      Issued x ((s1.reach r.val e).modRR run r.val fun g => { g with ended := some e }) t))

/-- STAGE_LOAD fills the bank that BANK names relative to ACTIVE with the gate weights, tagged with the router, the router-table
generation and the gate scale (1 for a type without one), takes 16 tc and the bank's bytes over its memory ports, and changes no memory,
no other bank and no other context; where an uncorrectable fault of the array comes with it, its column is suspect and the plate halts
with ARRAY_FAULT, and one in the context's staging share starts the context's teardown then. BANK_SWAP inverts the region's ACTIVE bit of
the context and nothing else, in 1 tc. It says where STAGE_LOAD and BANK_SWAP complete. (R52, R73, R74, R75, R92, R317.) -/
def Obligations.StagingOperationsFillAndSwapBanks : Prop :=
  ∀ (s : State) (run : W32) (r : RegionId) (x : Op) (s1 : State),
    let act := (s1.ctx x.c).active.getD r.val 0
    (Issues s run r.val 1 1 x s1 →
      let bank := if x.o.bank = 1 then act else 1 - act
      let key := bankKey r.val bank
      (∀ bad : ArrayBad, columnFits (some bad) = true →
        Answers (.stageLoad run r (some bad)) s fun t => ∃ e, Frame [.regs, .sameTc, .view, .suspects, .resetAtBoundary] s1 e ∧
          bad.column.toNat ∈ (e.region r.val).suspects ∧
          Issued x (if bad.staging then (e.haltOp x stArrayFault).startTeardown x.c stContextFault false else e.haltOp x stArrayFault) t) ∧
      ∃ s2, Runs (.stageLoad run r none) s x s2
          (some (x.t + 16 + ceilDiv (gateBytes x.rt x.o.shape s2.live.length) (64 * x.g.image.ports 0))) [] ∧
        Frame [.regs, .sameTc, .ctxs, .memPorts, .view] s1 s2 ∧ (∀ d, d ≠ x.c → s2.ctx d = s1.ctx d) ∧
        (s2.ctx x.c).banks.get? key = some (s1.stageBank x) ∧
        (s1.stageBank x).tag = some (x.o.router, (s1.ctx x.c).generation,
          if dsElem (x.d 0) = 2 ∨ dsElem (x.d 0) = 3 then dsScale (x.d 0) else 0x3F800000) ∧
        (∀ k, k ≠ key → (s2.ctx x.c).banks.get? k = (s1.ctx x.c).banks.get? k) ∧
        (s2.ctx x.c).latest.get? r.val = some bank ∧ key ∈ (s2.ctx x.c).dirtyBanks ∧
        (s2.ctx x.c).active = (s1.ctx x.c).active) ∧
    (Issues s run r.val 1 5 x s1 → ∃ s2, Runs (.bankSwap run r) s x s2 (some (x.t + 1)) [] ∧ Frame [.ctxs] s1 s2 ∧
      (∀ d, d ≠ x.c → s2.ctx d = s1.ctx d) ∧
      s2.ctx x.c = { s1.ctx x.c with active := (s1.ctx x.c).active.set r.val (1 - act) })

/-- SCORE whose ACTIVE bank has no matching tag halts the plate with STAGE_MISS, and one whose logit tensor is too small with
BOUNDS_FAULT; otherwise, if its bank's weights arrived whole, it writes the n x P logit blocks at DESC + 1 and no other byte. SCORE_STORE
within its tensors writes the score rows of its units at DESC + 1 and no other byte and puts its unit count into lane 0 of DST.
EXT_TILE_IN whose tensor holds n x P blocks waits for them, the first of them LAT_ext after its issue, with the count of blocks in lane 0
of DST at its end, and its deadline is EXT_TIMEOUT after its issue; with no block it lasts 8 tc. It says where SCORE, SCORE_STORE and
EXT_TILE_IN complete. (R75, R79, R80, R81, R87, R88.) -/
def Obligations.ScoringOperationsWriteTheirTiles : Prop :=
  ∀ (s : State) (run : W32) (r : RegionId) (x : Op) (s1 : State), s.WF →
    let P := passesOf x.rt x.o.shape
    let bank := (s1.ctx x.c).banks.getD (bankKey r.val ((s1.ctx x.c).active.getD r.val 0)) ⟨[], none, false, 0, false⟩
    let tagged := ∃ scale, bank.tag = some (x.o.router, (s1.ctx x.c).generation, scale) ∧ bank.pair = (x.o.shape == 3)
    let groups := ceilDiv (x.n * shapeRows x.o.shape) 128
    (Issues s run r.val 1 2 x s1 →
      (¬tagged → Halts (.score run r none) s x s1 stStageMiss) ∧
      (tagged → dsSpan (x.d 1) < x.n * P * 131072 → Halts (.score run r none) s x s1 stBoundsFault) ∧
      (tagged → x.n * P * 131072 ≤ dsSpan (x.d 1) → bank.poison = false → ∃ s2, Runs (.score run r none) s x s2 (some (x.t + s2.opTime x x.n)) [] ∧
        Frame [.regs, .sameTc, .fabric, .store, .poison, .view] s1 s2 ∧
        (∀ s0, s0 = (List.range (x.n * P)).foldl (fun s u => s.putAt x (x.o.desc + 1) (131072 * u) (s.scoreBlock x bank (u / P) (u % P))) s1 →
          s2.fabric = s0.fabric ∧ ∀ q, (s2.region q).store = (s0.region q).store) ∧
        MemoryKeptBut x.cmd.windows r.val ((List.range (x.n * P)).map fun u => x.span (x.o.desc + 1) (131072 * u) 131072) s1 s2)) ∧
    (Issues s run r.val 1 3 x s1 → inOneGroup x.cmd.windows (x.d 1) = true → 270336 * (groups * P) ≤ dsSpan (x.d 1) →
      x.n * P * 131072 ≤ dsSpan (x.d 0) →
      ∃ s2, Runs (.scoreStore run r) s x s2 (some (x.t + 8 + x.n * (shapeRows x.o.shape / 2) * P))
          [(x.o.dst, x.g.withLane x.o.dst 0 (groups * P))] ∧
        Frame [.regs, .sameTc, .fabric, .store, .poison, .runs] s1 s2 ∧
        MemoryKeptBut x.cmd.windows r.val ((List.range (128 * groups)).flatMap fun k => (List.range P).map fun q =>
          x.span (x.o.desc + 1) (270336 * (k / 128 * P + q) + 2112 * (k % 128)) 2112) s1 s2) ∧
    (Issues s run r.val 1 4 x s1 →
      (dsSpan (x.d 1) < x.n * P * 131072 → Halts (.extTileIn run r) s x s1 stBoundsFault) ∧
      (x.n * P * 131072 ≤ dsSpan (x.d 1) → Answers (.extTileIn run r) s fun t => ∃ e,
        Starts s1 x (if x.n * P = 0 then some (x.t + 8) else none) [(x.o.dst, x.g.withLane x.o.dst 0 (x.n * P))] e ∧
        (x.n * P ≠ 0 → ∀ g, e.partOf run r.val = some g → ∃ b ∈ g.busy, b.unit = 0 ∧ b.due = some (x.t + s1.extWait r.val)) ∧
        Issued x (e.modRR run r.val fun g => { g with ext := ⟨0, x.t + s1.latExt r.val, x.t + s1.opTime x x.n⟩ }) t))

/-- Of token rows: a count past either tensor halts the plate with BOUNDS_FAULT; otherwise ROW_LOAD writes rows 0 to n - 1 of DESC + 1
(and their token indices where the tensor is indexed) and nothing else, notes n valid rows, and puts ceil(n/128) into lane 0 of DST;
ROW_STORE writes rows 0 to n - 1 of DESC + 1 and nothing else. A row that ROW_LOAD writes into one piece of region store reads there as
the source row. Of prints: where the count passes the rows of the PRINTS view or the print buffer, or a plane that it reaches does not
translate, the plate halts with BOUNDS_FAULT; otherwise ROW_LOAD writes prints of the buffer and nothing else, and both complete likewise.
It says where ROW_LOAD and ROW_STORE complete. (R53, R175, R258, R259, R268, R277, R478.) -/
def Obligations.RowMovesKeepToTheirRows : Prop :=
  ∀ (s : State) (run : W32) (r : RegionId) (g : CellGroupId) (x : Op) (s1 : State), s.WF →
    let w := x.cmd.windows
    let rowsOf (e : Nat) := (List.range x.n).filterMap fun i => (localRow x.cmd s1.self r.val e i).map fun a => (a.1, dsRowBytes (descAt x.cmd.list e))
    let column (e : Nat) := if dsIndexed (descAt x.cmd.list e) then (List.range x.n).map fun i =>
      (dsIndexBase (descAt x.cmd.list e) + 4 * ((localRow x.cmd s1.self r.val e i).map (·.2)).getD i, 4) else []
    let fits := x.n ≤ localRows x.cmd s1.self r.val x.o.desc ∧ x.n ≤ localRows x.cmd s1.self r.val (x.o.desc + 1)
    let rows (view : Nat) := vwRowEntry (viewAt x.cmd.list view)
    let changed : List Part := [.regs, .sameTc, .fabric, .store, .poison, .memPorts, .view]
    (Issues s run r.val (g.val + 2) 1 x s1 →
      (printMove x.cmd.list x.o = none → ¬fits → Halts (.rowLoad run r g) s x s1 stBoundsFault) ∧
      (printMove x.cmd.list x.o = none → fits → ∃ s2, Runs (.rowLoad run r g) s x s2 (some (x.t + s2.opTime x x.n))
          [(x.o.dst, x.g.withLane x.o.dst 0 (ceilDiv x.n 128))] ∧ Frame (.runs :: changed) s1 s2 ∧
        MemoryKeptBut w r.val (rowsOf (x.o.desc + 1) ++ column (x.o.desc + 1)) s1 s2 ∧
        PartBecomes s1 x (fun p => { p with
          valid := p.valid.set (x.key (x.o.desc + 1)) x.n,
          loadedTokens := p.loadedTokens.erase (· == x.key (x.o.desc + 1)) }) s2) ∧
      (∀ view buffer, printMove x.cmd.list x.o = some (view, buffer) →
        let ρ := x.g.image.printRouter x.cmd.list buffer
        let tokens := s1.columnTokens x (rows view) x.n
        (s1.printsFit x false view buffer ρ tokens = false → Halts (.rowLoad run r g) s x s1 stBoundsFault) ∧
        (s1.printsFit x false view buffer ρ tokens = true → ∃ s2, Runs (.rowLoad run r g) s x s2 (some (x.t + s2.opTime x x.n))
            [(x.o.dst, x.g.withLane x.o.dst 0 (ceilDiv x.n 128))] ∧ Frame changed s1 s2 ∧
          MemoryKeptBut w r.val ((List.range x.n).map fun i => (x.bufferAt buffer x.moved i, x.moved)) s1 s2))) ∧
    (Issues s run r.val (g.val + 2) 2 x s1 →
      (printMove x.cmd.list x.o = none → ¬fits → Halts (.rowStore run r g) s x s1 stBoundsFault) ∧
      (printMove x.cmd.list x.o = none → fits → ∃ s2, Runs (.rowStore run r g) s x s2 (some (x.t + s2.opTime x x.n)) [] ∧
        Frame changed s1 s2 ∧ MemoryKeptBut w r.val (rowsOf (x.o.desc + 1)) s1 s2) ∧
      (∀ view buffer, printMove x.cmd.list x.o = some (view, buffer) →
        let ρ := x.g.image.printRouter x.cmd.list buffer
        let tokens := s1.bufferTokens x (rows view) x.n
        (s1.printsFit x true view buffer ρ tokens = false → Halts (.rowStore run r g) s x s1 stBoundsFault) ∧
        (s1.printsFit x true view buffer ρ tokens = true → ∃ s2,
          Runs (.rowStore run r g) s x s2 (some (x.t + s2.opTime x x.n)) [] ∧ Frame changed s1 s2))) ∧
    (∀ (i : Nat) (bs : Bytes) (p : Piece) (a : Nat × Nat), s1.WF → s1.rowRead x.cmd x.r x.o.desc i = some bs →
      localRow x.cmd s1.self x.r (x.o.desc + 1) i = some a → dsRowBytes (x.d 1) = dsRowBytes (x.d 0) → dsIndexed (x.d 1) = false →
      translate w true a.1 (dsRowBytes (x.d 0)) = some [p] → p.store = true →
      ((s1.loadRow x i).region x.r).store.read p.addr (dsRowBytes (x.d 0)) = bs)

/-- SELECT whose count is no multiple of its passes halts with SELECT_PASS_FAULT, and one whose tensors are too small with BOUNDS_FAULT;
with every unit in its place it writes the records of its groups at DESC + 1 and no other byte, and puts the group count into lane 0 of
DST; a unit out of place stops the operation at that unit with SELECT_PASS_FAULT. NORM rewrites the records of its n batches at DESC and
no other byte. BURN adds the lanes of CNT, and of GHOST_CNT with GHOST, to the router's pending load counters and changes nothing else. It
says where SELECT, NORM and BURN complete. (R99, R102, R103, R190, R191, R475.) -/
def Obligations.SelectNormAndBurnKeepToTheirRecords : Prop :=
  ∀ (s : State) (run : W32) (r : RegionId) (g : CellGroupId) (x : Op) (s1 : State), s.WF →
    let w := x.cmd.windows
    let k := rtK x.rt
    (Issues s run r.val (g.val + 2) 4 x s1 →
      let p1 := max (rtPasses x.rt) 1
      let base := x.g.image.pairBase x.o
      let P := if base.isSome then 2 * p1 else p1
      let owner (q : Nat) : Nat := match base with | none => x.o.router | some b => b + q / p1
      let inPlace (u : Nat) : Bool := s1.unitOk x (u % P) (owner (u % P)) u
      let room := recordSize k * (128 * (x.n / P)) ≤ dsSpan (x.d 1) ∧ 270336 * x.n ≤ dsSpan (x.d 0)
      let records (m : Nat) := (List.range m).flatMap fun i => (List.range 128).map fun j =>
        x.span (x.o.desc + 1) (recordSize k * (128 * i + j)) (recordSize k)
      (x.n % P ≠ 0 → Halts (.select run r g) s x s1 stSelectPassFault) ∧
      (x.n % P = 0 → ¬room → Halts (.select run r g) s x s1 stBoundsFault) ∧
      (x.n % P = 0 → room → (∀ u, u < x.n → inPlace u = true) →
        ∃ s2, Runs (.select run r g) s x s2 (some (x.t + 4 + x.n * 16)) [(x.o.dst, x.g.withLane x.o.dst 0 (x.n / P))] ∧
          Frame [.fabric, .store, .poison] s1 s2 ∧ MemoryKeptBut w r.val (records (x.n / P)) s1 s2) ∧
      (∀ u, x.n % P = 0 → room → u < x.n → inPlace u = false → (∀ v, v < u → inPlace v = true) →
        Answers (.select run r g) s fun t => ∃ s2, Frame [.fabric, .store, .poison] s1 s2 ∧
          MemoryKeptBut w r.val (records (u / P)) s1 s2 ∧ Issued x (s2.stopAtItem x u stSelectPassFault) t)) ∧
    (Issues s run r.val (g.val + 2) 5 x s1 →
      (dsSpan (x.d 0) < recordSize k * (128 * x.n) → Halts (.norm run r g) s x s1 stBoundsFault) ∧
      (recordSize k * (128 * x.n) ≤ dsSpan (x.d 0) → ∃ s2, Runs (.norm run r g) s x s2 (some (x.t + s2.opTime x x.n)) [] ∧
        Frame [.regs, .sameTc, .fabric, .store, .poison, .view] s1 s2 ∧
        MemoryKeptBut w r.val ((List.range (128 * x.n)).map fun i => x.span x.o.desc (recordSize k * i) (recordSize k)) s1 s2)) ∧
    (Issues s run r.val (g.val + 2) 0xA x s1 →
      let add := addLanes (x.g.lanes x.o.cnt) (if x.o.bGhost then x.g.lanes x.o.bGhostCnt else [])
      ∃ s2, Runs (.burn run r g) s x s2 (some (x.t + 8 + x.g.image.lanesOf x.o.cnt * if x.o.bGhost then 2 else 1)) [] ∧
        Frame [.runs] s1 s2 ∧ PartBecomes s1 x (fun p => { p with
          load := p.load.set x.o.router (addLanes (p.load.getD x.o.router []) add),
          burned := if p.burned.contains x.o.router then p.burned else p.burned ++ [x.o.router] }) s2)

/-- SORT whose tensors are too small halts with BOUNDS_FAULT; the first record out of order or out of range stops it at its batch with
SORT_ORDER_FAULT or RECORD_FAULT; a spill pass whose counts differ from its excess register stops it with RECORD_FAULT, and STRICT excess
with CAPACITY_FAULT. Otherwise it writes the manifest of the selections that stay within each expert's bound at DESC + 1, marks the others
SPILLED or DROPPED in their records, reports them, and writes the lane counts to DST, the expert counts to DST + 1 and under SPILL the
excess to EXCESS_CNT; no selection is kept beyond its expert's contribution, and kept and marked ones together are all that the pass
counts. It says where SORT completes. (R107, R115, R116, R117, R118, R119, R475.) -/
def Obligations.SortAppliesCapacityAndWritesManifests : Prop :=
  (∀ (s : State) (run : W32) (r : RegionId) (g : CellGroupId) (x : Op) (s1 : State), s.WF →
    Issues s run r.val (g.val + 2) 6 x s1 →
    let k := rtK x.rt
    let E := rtE x.rt
    let t := x.table x.o.router
    let M := plM t
    let cap := x.g.image.cap x.o.cap
    let rs := validRecords ((List.range (128 * x.n)).map (s1.recordAt x x.o.desc k))
    let picks := picksOf x.o.sPass k rs
    let counts := (List.range E).map fun e => (picks.filter fun a => enExpert a.entry == e).length
    let takes := takeLanes cap counts
    let live := (splitPicks (takes.map (·.1)) (List.replicate E 0) picks).1
    let out := (splitPicks (takes.map (·.1)) (List.replicate E 0) picks).2
    let lanes := (List.range (8 + M)).map fun l => laneEntries t k x.o.sPass s1.self r.val l rs live
    let room := dirSize M + entrySize k * 128 * x.n * min k (s1.live.length + M - 1) ≤ dsSpan (x.d 1) ∧
      recordSize k * (128 * x.n) ≤ dsSpan (x.d 0)
    let stops (item code : Nat) := Answers (.sort run r g) s fun t => Issued x (s1.stopAtItem x item code) t
    (¬room → Halts (.sort run r g) s x s1 stBoundsFault) ∧
    (room → ∀ pos code, recordFault t E k none rs = some (pos, code) → stops (pos / 128) code) ∧
    (room → recordFault t E k none rs = none →
      let wrong := x.o.sPass = 1 ∧ counts ≠ (List.range E).map fun e => (x.g.cnt.getD x.o.sExcess []).getD e 0
      (wrong → stops x.n stRecordFault) ∧
      (¬wrong → strictHit cap takes = true → stops x.n stCapacityFault) ∧
      (¬wrong → strictHit cap takes = false → ∃ s2, Runs (.sort run r g) s x s2
          (some (x.t + 16 + x.g.image.lanesOf x.o.dst + x.g.image.lanesOf (x.o.dst + 1) + x.n * 2 * k))
          ([(x.o.dst, lanes.map List.length), (x.o.dst + 1, takes.map (·.1))] ++
            if capMode cap = 1 then [(capExcess cap, takes.map (·.2))] else []) ∧
        Frame [.fabric, .store, .poison, .runs] s1 s2 ∧
        MemoryKeptBut x.cmd.windows r.val
          (x.span (x.o.desc + 1) 0 (manifestBytes k x.o.sPass lanes).length ::
            out.map fun a => x.span x.o.desc (recordSize k * a.pos + 16 * (a.rank + 1)) 16) s1 s2))) ∧
  (∀ (kept seen : List Nat) (picks : List Pick),
    let live := (splitPicks kept seen picks).1
    let out := (splitPicks kept seen picks).2
    (live ++ out).Perm picks ∧ live.Sublist picks ∧
    ∀ e, e < seen.length → (live.filter fun a => enExpert a.entry == e).length ≤ kept.getD e 0 - seen.getD e 0)

/-- DELTA in mode TEST within its tensors writes the prints of the loaded tokens, the skip map, and the rows that stay at the front of the
row tensor, and nothing else; the valid rows become the tokens that do not skip, SKIPPED grows by the rest, and lane 0 of DST holds the
tiles of the rows that stay; with GHOST the register behind it counts how often each expert is cached for a skipped token. In mode PRINT
it writes prints of computed tokens and output rows of skipped ones and nothing else. A tensor too small halts either with BOUNDS_FAULT.
QUANT runs for its batches; the bytes of its tensor are free values of the model (log 7), every other byte is unchanged. It says where
DELTA_TEST, DELTA_PRINT and QUANT complete. (R53, R176, R178, R179, R181, R182.) -/
def Obligations.DeltaAndQuantKeepToTheirTensors : Prop :=
  ∀ (s : State) (run : W32) (r : RegionId) (g : CellGroupId) (x : Op) (s1 : State), s.WF →
    let w := x.cmd.windows
    let ps := rtPrintBytes x.rt
    (Issues s run r.val (g.val + 2) 3 x s1 → bits x.o.imm 1 0 = 0 →
      let room := 16 * x.n ≤ dsSpan (x.d 2) ∧ 128 * x.n * ps ≤ dsSpan (x.d 1)
      let tokens := (s1.columnTokens x x.o.desc (128 * x.n)).filterMap id
      let found := (s1.testTokens x 0 tokens).2
      let stay := (found.filter Option.isNone).length
      (¬room → Halts (.deltaTest run r g) s x s1 stBoundsFault) ∧
      (room → ∃ s2, Runs (.deltaTest run r g) s x s2 (some (x.t + 8 + x.n * ceilDiv (rtH x.rt) 16))
          ((x.o.dst, x.g.withLane x.o.dst 0 (ceilDiv stay x.o.tileRows)) :: if x.o.dGhost then
            [(x.o.dst + 1, (List.range (rtE x.rt)).map fun e => ((found.flatMap fun f => f.getD []).count e) % 2 ^ 24)] else []) ∧
        Frame [.regs, .sameTc, .fabric, .store, .poison, .runs] s1 s2 ∧ found.length = tokens.length ∧
        PartBecomes s1 x (fun p => { p with
          valid := p.valid.set (x.key x.o.desc) stay, loadedTokens := p.loadedTokens.set (x.key x.o.desc) tokens,
          skipped := p.skipped + (tokens.length - stay) }) s2 ∧
        MemoryKeptBut w r.val
          ((List.range tokens.length).flatMap (fun k => [x.span (x.o.desc + 1) (k * ps) 8,
            x.span (x.o.desc + 1) (k * ps + 64) (mxBytes (s1.widened x k)).length]) ++ x.span (x.o.desc + 2) 0 (16 * x.n) ::
           (List.range stay).flatMap fun k => match localRow x.cmd s1.self r.val x.o.desc k with
             | none => [(dsIndexBase (x.d 0) + 4 * k, 4)]
             | some a => [(a.1, dsRowBytes (x.d 0)), (dsIndexBase (x.d 0) + 4 * a.2, 4)]) s1 s2)) ∧
    (Issues s run r.val (g.val + 2) 3 x s1 → bits x.o.imm 1 0 = 1 →
      (s1.printFits x x.printed = false → Halts (.deltaPrint run r g) s x s1 stBoundsFault) ∧
      (s1.printFits x x.printed = true → ∃ s2, Runs (.deltaPrint run r g) s x s2 (some (x.t + 8 + x.n * ceilDiv (rtH x.rt) 16)) [] ∧
        Frame [.fabric, .store, .poison, .runs] s1 s2 ∧
        MemoryKeptBut w r.val (x.printed.zipIdx.flatMap fun e =>
          [x.span x.o.desc (e.2 * ps) 28, x.span x.o.desc (e.2 * ps + negOff (rtH x.rt)) (mxBytes (s1.outputRow x e.1)).length,
           (s1.columnAddr x 4 (e.1 - dsTokenBase (x.d 3)), 1)] ++
          (rowParts (x.d 3)).map fun q => (((s1.outputAt x e.1 : Int) + q.1).toNat, q.2.2)) s1 s2)) ∧
    (Issues s run r.val (g.val + 2) 9 x s1 →
      let len := min (dsSpan (x.d 0)) (128 * x.n * x.W * elemBytes (dsElem (x.d 0)))
      ∃ s2, Runs (.quant run r g) s x s2 (some (x.t + 8 + x.n * ceilDiv x.W 8)) [] ∧
        Frame [.fabric, .store, .poison] s1 s2 ∧ MemoryKeptBut w r.val [x.span x.o.desc 0 len] s1 s2)

/-- A sending operation whose reads would leave its tensors halts the plate with BOUNDS_FAULT. Otherwise EDGE_SEND numbers one prologue
flit and the flits of its header and items on the first edge of its path, and frees its unit after its own time; LINK_SEND appends its
stream's packets to the port's transmitter, and frees its unit after its own time, or, where the port is below its minimum width and its
transmit buffer full, when there is room; each notes the stream as sent. ROW_SEND receives its own stream at once: what a receive checks
halts the plate with the check's code, and otherwise the sent and the received stream are noted and the lanes that a receive answers are
written to DST at its end. Only entries of a manifest that are taken (with their weights) change in memory while entries are taken, at
their own places. It says where EDGE_SEND, LINK_SEND and ROW_SEND complete. (R54, R121, R122, R127, R131, R132, R268, R377, R387.) -/
def Obligations.SendsLeaveWithTheirStreams : Prop :=
  (∀ (s : State) (run : W32) (r : RegionId) (x : Op) (s1 : State), Issues s run r.val 6 2 x s1 →
    let q := (s1.outgoing x).2
    let bytes := q.header ++ (q.items.map (·.2)).flatten
    (s1.sendFits x = false → Halts (.edgeSend run r) s x s1 stBoundsFault) ∧
    (s1.sendFits x = true → ∃ s2 old, Runs (.edgeSend run r) s x s2 (some (x.t + s2.opTime x x.n)) [] ∧
      Frame [.regs, .sameTc, .fabric, .store, .poison, .runs, .edges, .view] s1 s2 ∧
      ((s2.partOf run r.val).map fun p => (p.sends, p.streams.map fun t => (t.sent, t.header, t.items))) =
        some (x.g.sends ++ [(x.o.region, x.o.desc, x.t, s1.openOp x)], old ++ [(true, q.header, q.items)]) ∧
      (∀ a e rest, s1.path r.val x.o.region = (a, e) :: rest →
        (s2.edge r.val e).nextSeq = ((s1.edge r.val e).nextSeq + 1 + ceilDiv bytes.length 256) % 4096 ∧
        ∀ f, f ≠ e → s2.edge r.val f = s1.edge r.val f))) ∧
  (∀ (s : State) (run : W32) (r : RegionId) (p : PortId) (x : Op) (s1 : State), Issues s run r.val 7 1 x s1 → x.o.port = p.val →
    let q := (s1.outgoing x).2
    let bytes := q.header ++ (q.items.map (·.2)).flatten
    (s1.sendFits x = false → Halts (.linkSend run r p) s x s1 stBoundsFault) ∧
    (s1.sendFits x = true → ∃ s2 old,
      Runs (.linkSend run r p) s x s2 (if s2.sendFull r.val p.val then none else some (x.t + s2.opTime x x.n)) [] ∧
      (s2.sendFull r.val p.val = true → (s2.link r.val p.val).heldFrom = some s1.time) ∧
      Frame [.regs, .sameTc, .fabric, .store, .poison, .runs, .links, .view] s1 s2 ∧
      ((s2.partOf run r.val).map fun p => p.streams.map fun t => (t.sent, t.header, t.items)) = some (old ++ [(true, q.header, q.items)]) ∧
      (s2.link r.val p.val).queue = (s1.link r.val p.val).queue ++
        (cutPackets (bytes.length / 4096 + 1) bytes).map (fun b => ⟨x.o.cls, rtPeerContext x.vRt, b⟩) ∧
      (((cutPackets (bytes.length / 4096 + 1) bytes)).flatten = bytes))) ∧
  (∀ (s : State) (run : W32) (r : RegionId) (g : CellGroupId) (x : Op) (s1 : State), Issues s run r.val (g.val + 2) 7 x s1 →
    let q := (s1.outgoing x).2
    let sent := (s1.outgoing x).1.noteSent x q
    let y : Op := { x with g := (sent.partOf x.seq x.r).getD x.g }
    let lanes := sent.recvLanes y q.header (sent.tagItems y q.header (q.items.map (·.2))) (y.g.lanes x.o.dst)
    (s1.sendFits x = false → Halts (.rowSend run r g) s x s1 stBoundsFault) ∧
    (∀ code, s1.sendFits x = true → s1.recvFault x q.header = some code → Halts (.rowSend run r g) s x s1 code) ∧
    (s1.sendFits x = true → s1.recvFault x q.header = none →
      ∃ s2 old, Runs (.rowSend run r g) s x s2 (some (x.t + s2.opTime x x.n)) [(x.o.dst, lanes)] ∧
      Frame [.regs, .sameTc, .fabric, .store, .poison, .runs, .view] s1 s2 ∧
      ((s2.partOf run r.val).map fun p => p.streams.map fun t => (t.sent, t.header)) = some (old ++ [(true, q.header), (false, q.header)]))) ∧
  (∀ (s : State) (x : Op) (rec lane i n : Nat), s.WF →
    Frame [.fabric, .store, .poison, .runs] s (s.takeEntries x rec lane i n).1 ∧ (s.takeEntries x rec lane i n).2.length = n ∧
    MemoryKeptBut x.cmd.windows x.r ((List.range n).map fun k =>
      x.span x.o.desc ((s.dirAt x x.o.desc lane).1 + x.entryBytes * (i + k)) x.entryBytes) s (s.takeEntries x rec lane i n).1)

/-- EDGE_RECV from a region that has halted halts with REGION_HALTED in the later of the halt and its issue; an EDGE_RECV or a LINK_RECV
of a ROW phase that follows no ENTRY phase halts with MANIFEST_MISMATCH; otherwise the operation occupies its unit with no end fixed. A
waiting EDGE_RECV whose transfer has come whole and passes the checks of a receive takes the transfer and ends its latency and its items'
time after the later of the two issues; a waiting LINK_RECV whose stream has come whole by its deadline ends in the tc that the region has
reached; each then writes the lanes of its register. It says where EDGE_RECV and LINK_RECV complete. (R54, R61, R62, R122, R129, R132,
R133, R138.) -/
def Obligations.ReceivesWaitForTheirStreams : Prop :=
  (∀ (s : State) (run : W32) (r : RegionId) (x : Op) (s1 : State), Issues s run r.val 6 3 x s1 →
    let halted := match x.run.regions.get? x.o.region with | none => some x.t | some g => g.halt.map fun (h : Halt) => max h.tc x.t
    let orphan := vwPhase x.view = 1 ∧ vwReturn x.view = false ∧
      ∀ t ∈ x.streams false (vwKind x.view) 0 false, t.rowed = true ∨ (vwKind x.view ≠ 4 ∧ t.lane ≠ x.o.region)
    (∀ tc, halted = some tc → Answers (.edgeRecv run r) s fun t => Issued x (s1.haltAt x stRegionHalted tc) t) ∧
    (halted = none → orphan → Halts (.edgeRecv run r) s x s1 stManifestMismatch) ∧
    (halted = none → ¬orphan → Answers (.edgeRecv run r) s fun t => ∃ e,
      Starts s1 x none [(x.o.cnt, x.g.lanes x.o.cnt)] e ∧ Issued x (e.settleRecv run r.val) t)) ∧
  (∀ (s : State) (run : W32) (r : RegionId) (p : PortId) (x : Op) (s1 : State), Issues s run r.val 7 2 x s1 → x.o.port = p.val →
    let lane := x.memberLane ((s1.peerOf r.val p.val).getD 1024)
    let orphan := vwPhase x.view = 1 ∧ vwReturn x.view = false ∧
      ∀ t ∈ x.streams false (vwKind x.view) 0 false, t.rowed = true ∨ (vwKind x.view ≠ 4 ∧ t.lane ≠ lane)
    (orphan → Halts (.linkRecv run r p) s x s1 stManifestMismatch) ∧
    (¬orphan → Answers (.linkRecv run r p) s fun t => ∃ e, Starts s1 x none [(x.o.cnt, x.g.lanes x.o.cnt)] e ∧
      Issued x (e.settleLink run r.val p.val) t)) ∧
  (∀ (s : State) (run : W32) (r : Nat) (rn : Run) (g : RegionRun) (b : Busy) (i : Nat) (m : Transfer),
    s.run? run = some rn → rn.regions.get? r = some g → g.waitingRecv 5 = some b → b.opcode = 3 →
    let x := RegionRun.asOp rn r g b
    let hdr := m.bytes.take 64
    x.o.slot = 6 → s.matching x = some (i, m) → s.recvFault x hdr = none → 64 + hdCount hdr * m.itemBytes ≤ m.bytes.length →
    (∃ p lanes, (s.settleRecv run r).partOf run r = some p ∧ ∀ c ∈ p.busy, c.unit = 5 →
      c.ends = some (max b.issue m.sent + s.opTime x (hdCount hdr)) ∧ c.writes = [(x.o.cnt, lanes)]) ∧
    (((s.settleRecv run r).region r).transfers[i]?).map (·.taken) = some true) ∧
  (∀ (s : State) (run : W32) (r p : Nat) (rn : Run) (g : RegionRun) (b : Busy) (l : Landing) (i : Nat),
    s.run? run = some rn → rn.regions.get? r = some g → g.waitingRecv (6 + p) = some b → p < 4 →
    let x := RegionRun.asOp rn r g b
    let hdr := l.bytes.take 64
    x.o.slot = 7 → ((s.region r).landing.zipIdx).find? (fun e => !e.1.mapped && e.1.ctx == x.c &&
      e.1.member == (s.peerOf r p).getD 1024 && e.1.cls == x.o.cls) = some (l, i) → s.recvFault x hdr = none →
    (∀ d, b.due = some d → b.issue ≤ d ∧ (s.region r).tc ≤ d) →
    streamBytes hdr (itemBytes x.run.routers x.cmd.list x.o.desc) ≤ l.bytes.length → 64 ≤ l.bytes.length →
    (∃ q lanes, (s.settleLink run r p).partOf run r = some q ∧ (∀ c ∈ q.busy, c.unit = 6 + p →
      c.ends = some (max b.issue (s.region r).tc) ∧ c.writes = [(x.o.cnt, lanes)]) ∧
      q.mapped = g.mapped ++ [((s.peerOf r p).getD 1024, l.bytes.length)]) ∧
    (((s.settleLink run r p).region r).landing[i]?).map (·.mapped) = some true)

/-- TERM within its tensors writes its terms at DESC + 2, at the positions of the manifest entries that it takes, at once when all rows
that it waits for have committed; it then ends no earlier than its own time after its issue, and until then it holds its unit. PACKAGE
within its tensors writes one row of 2W bytes per link-received entry at DESC + 2. FINAL within its tensors writes output rows at DESC + 5
and elements of their scale and meter tensors, and stops with RECORD_FAULT at the first batch that does not match its manifests. Each
halts with BOUNDS_FAULT where its tensors do not hold what it reads and writes. Each mode completes where they do. It says where
COMBINE_TERM, COMBINE_PACKAGE and COMBINE_FINAL complete. (R150, R155, R156, R157, R160, R161, R163, R268.) -/
def Obligations.CombineWritesTermsAndRows : Prop :=
  ∀ (s : State) (run : W32) (r : RegionId) (g : CellGroupId) (x : Op) (s1 : State), s.WF → Issues s run r.val (g.val + 2) 8 x s1 →
    let w := x.cmd.windows
    let mem : List Part := [.fabric, .store, .poison]
    (x.o.cMode = 0 →
      (s1.termFits x = false → Halts (.combineTerm run r g) s x s1 stBoundsFault) ∧
      (s1.termFits x = true → s1.termEnd x = none → Runs (.combineTerm run r g) s x s1 none []) ∧
      (∀ e, s1.termFits x = true → s1.termEnd x = some e → ∃ s2, Runs (.combineTerm run r g) s x s2 (some e) [] ∧
        x.t + s1.opTime x x.n ≤ e ∧ Frame mem s1 s2 ∧
        MemoryKeptBut w r.val ((s1.moveEntries x).map fun m => x.span (x.o.desc + 2) (m.1 * x.termRoom) (4 * x.W)) s1 s2)) ∧
    (x.o.cMode = 1 →
      let es := (s1.linkEntries x).take x.n
      (x.n ≠ 0 → s1.packageFits x = false → Halts (.combinePackage run r g) s x s1 stBoundsFault) ∧
      ((x.n = 0 ∨ s1.packageFits x = true) → ∃ s2, Runs (.combinePackage run r g) s x s2 (some (x.t + s2.opTime x x.n)) [] ∧
        Frame mem s1 s2 ∧
        MemoryKeptBut w r.val ((List.range es.length).map fun q => x.span (x.o.desc + 2) (q * x.packageRoom) (2 * x.W)) s1 s2)) ∧
    (x.o.cMode = 2 →
      let fits := recordSize (rtK x.rt) * (128 * x.n) ≤ dsSpan (x.d 0) ∧ s1.finalFits x = true ∧ (x.n = 0 ∨ s1.cursorsFit x = true)
      let batches := s1.combineBatches x (s1.cursors x) 0 x.n
      let rowsOf := (List.range (2 ^ 24)).flatMap fun t =>
        ((rowParts (x.d 5)).map fun p => (((((rowAddr x.cmd s1.self r.val (x.o.desc + 5) t).getD 0 : Nat) : Int) + p.1).toNat, p.2.2)) ++
          [(s1.columnAddr x 6 t, 1), (s1.columnAddr x 7 t, 4)]
      (¬fits → Halts (.combineFinal run r g) s x s1 stBoundsFault) ∧
      (fits → batches.2 = none → Runs (.combineFinal run r g) s x batches.1 (some (x.t + batches.1.opTime x x.n)) []) ∧
      (∀ i, fits → batches.2 = some i → Answers (.combineFinal run r g) s fun t =>
        Issued x (batches.1.startOp x (some (x.t + 8 + i * x.batchItems * ceilDiv x.W 16)) [] (some stRecordFault)) t) ∧
      Frame [.regs, .sameTc, .fabric, .store, .poison, .runs] s1 batches.1 ∧ MemoryKeptBut w r.val rowsOf s1 batches.1)

/-- NET_MOVE within its tensors stops with RECORD_FAULT on a slot whose copy is elsewhere, with CAPACITY_FAULT on a local expert over its
lane bound and with BASIN_EXHAUSTED when a pool runs out; otherwise the counts per local expert go to CNT + 1 with a hand-over of as many
basins as it asked for; outside its tensors it halts with BOUNDS_FAULT. An allocation takes the lowest free index of the smallest class of
its pool that holds it and has one. B_ALLOC, B_RELEASE and B_REFDEC of n handles take 2 + n tc, stop at the handle that cannot be had or
used, and halt when the tensor has fewer. B_HAND appends one descriptor per lane to the region's queue, and holds its unit while the queue
has more than 2,048. A decrement to 0 frees a basin. Each of the five completes: NET_MOVE where none of its four stops holds, the others
as said. It says where NET_MOVE, B_ALLOC, B_HAND, B_RELEASE and B_REFDEC complete. (R141, R142, R144, R145, R279, R282, R283.) -/
def Obligations.HandOverAllocatesAndReleasesBasins : Prop :=
  (∀ (s : State) (run : W32) (r : RegionId) (x : Op) (s1 : State), Issues s run r.val 6 1 x s1 →
    let t := x.vTable
    let f := s1.fillWeights x
    let es := f.moveEntries x
    let locals := es.flatMap fun e => (meSlotsOf e.2).map (localExpert t r.val)
    let counts := (List.range (plN t r.val)).map fun l => (locals.filter fun v => v == some l).length
    let wants := ((counts.filter (· != 0)).map fun n => (4 * n, 1)) ++ es.map fun e => (rtRowBytes x.vRt, meSlots e.2)
    let stops (e : State) (code : Nat) := Answers (.netMove run r) s fun t => Issued x (e.stopAtItem x 0 code) t
    (s1.moveFits x = false → Halts (.netMove run r) s x s1 stBoundsFault) ∧
    (s1.moveFits x = true → none ∈ locals → stops f stRecordFault) ∧
    (s1.moveFits x = true → none ∉ locals → (∃ n ∈ counts, capLane (x.g.image.cap x.o.cap) < n) → stops f stCapacityFault) ∧
    (s1.moveFits x = true → none ∉ locals → (∀ n ∈ counts, n ≤ capLane (x.g.image.cap x.o.cap)) →
      ((f.allocAll x.c r.val wants).2 = none → stops ((f.allocAll x.c r.val wants).1.exhausted r.val) stBasinExhausted) ∧
      (∀ hs, (f.allocAll x.c r.val wants).2 = some hs → ∃ s2, Runs (.netMove run r) s x s2 (some (x.t + s2.opTime x x.n)) [(x.o.cnt + 1, counts)] ∧
        Frame [.ctxs, .fabric, .store, .poison, .runs] s1 s2 ∧ (∀ d, d ≠ x.c → s2.ctx d = s1.ctx d) ∧
        (s2.ctx x.c).basins = ((f.allocAll x.c r.val wants).1.ctx x.c).basins ∧ hs.length = wants.length ∧
        ∃ ho, (s2.partOf run r.val).bind (fun p => p.handOvers.get? (x.o.cnt + 1)) = some ho ∧ ho.router = x.vRouter ∧
          ho.counts = counts ∧ ho.pass = x.receivedPass x.o.desc ∧ ho.step = x.step))) ∧
  (∀ (y : Ctx) (pool r q h : Nat), y.basins.sorted → (∀ e ∈ y.basins, e.1 < 2 ^ 32) → pool < 2 → r < 8 → (∀ k, k < 6 → poolCount y pool k ≤ 2 ^ 25) →
    pickBasin y pool r q = some h →
    hNames h = true ∧ hPool h = pool ∧ hRegion h = r ∧ q ≤ basinSize (hSize h) ∧ hIndex h < poolCount y pool (hSize h) ∧
    y.basins.get? h = none ∧ (∀ i, i < hIndex h → (y.basins.get? (mkHandle (hSize h) pool r i)).isSome = true) ∧
    ∀ k, k < hSize h → q ≤ basinSize k → ∀ i, i < poolCount y pool k → (y.basins.get? (mkHandle k pool r i)).isSome = true) ∧
  (∀ (s : State) (run : W32) (r : RegionId) (x : Op) (s1 : State) (i : Instr) (op : Nat) (f : State × Option Nat) (code : Nat),
    (i, op, f, code) ∈ [(Instr.bAlloc run r, 1, s1.allocEach x 0 x.n, stBasinExhausted),
      (.bRelease run r, 3, s1.freeEach x true 0 (s1.handlesOf x), stBoundsFault),
      (.bRefdec run r, 4, s1.freeEach x false 0 (s1.handlesOf x), stBoundsFault)] →
    s.WF → Issues s run r.val 8 op x s1 → (op = 4 → x.g.image.handRelease x.o = false) →
    (dsCount (x.d 0) < x.n → Halts i s x s1 stBoundsFault) ∧
    (x.n ≤ dsCount (x.d 0) → f.2 = none → Runs i s x f.1 (some (x.t + (2 + x.n))) []) ∧
    (∀ k, x.n ≤ dsCount (x.d 0) → f.2 = some k → Answers i s fun t => Issued x (f.1.stopAtItem x k code) t) ∧
    Frame [.regs, .sameTc, .ctxs, .fabric, .store, .poison, .view] s1 f.1 ∧ (∀ d, d ≠ x.c → f.1.ctx d = s1.ctx d) ∧
    MemoryKeptBut x.cmd.windows r.val ((List.range x.n).map fun k => (dsAddr (x.d 0) k, 4)) s1 f.1) ∧
  (∀ (s : State) (run : W32) (r : RegionId) (x : Op) (s1 : State), Issues s run r.val 8 4 x s1 → x.g.image.handRelease x.o = true →
    let lists (ho : HandOver) := s1.freeLists x 0 (ho.listHandles.zip (x.takes.map (·.1)))
    (x.g.handOvers.get? x.o.cnt = none → Runs (.bRefdec run r) s x s1 (some (x.t + (2 + x.n))) []) ∧
    ∀ ho, x.g.handOvers.get? x.o.cnt = some ho → Frame [.ctxs] s1 (lists ho).1 ∧
      ((lists ho).2 = none → Runs (.bRefdec run r) s x (lists ho).1 (some (x.t + (2 + x.n))) []) ∧
      (∀ k, (lists ho).2 = some k → Answers (.bRefdec run r) s fun t => Issued x ((lists ho).1.stopAtItem x k stBoundsFault) t)) ∧
  (∀ (y : Ctx) (h : Nat) (b : Basin), y.basins.sorted → y.basins.get? h = some b →
    (decBasin y h).basins.get? h = (if b.count ≤ 1 then none else some { b with count := b.count - 1 }) ∧
    ∀ j, j ≠ h → (decBasin y h).basins.get? j = y.basins.get? j) ∧
  (∀ (s : State) (run : W32) (r : RegionId) (x : Op) (s1 : State), Issues s run r.val 8 2 x s1 →
    let n := x.g.image.lanesOf x.o.cnt
    (x.g.handOvers.get? x.o.cnt = none → Runs (.bHand run r) s x s1 (some (x.t + (2 + n))) []) ∧
    (∀ ho, x.g.handOvers.get? x.o.cnt = some ho →
      let q := (s1.region r.val).workQueue ++ (List.range n).map (s1.descriptor x ho (x.table ho.router))
      ∃ s2, Runs (.bHand run r) s x s2 (if q.length ≤ 2048 then some (x.t + (2 + n)) else none) [] ∧
        Frame [.regs, .sameTc, .runs, .workQueue, .heldFrom, .view] s1 s2 ∧ (s2.region r.val).workQueue = q ∧
        (2048 < q.length → (s2.region r.val).heldFrom = some s1.time)))

/-- CF_ARM and CF_LOCAL of a set with a halted region halt with REGION_HALTED in the later of the halt and their issue. Otherwise CF_ARM
joins one of the set's calls on the group; in a group of one live member it ends 2,400 tc after its issue, else it waits with no end
fixed. CF_LOCAL occupies the confluence unit, and nothing else happens while a region of the set that has the operation is not in it; the
last one fixes the ends of those that wait. CF_GLOBAL occupies the unit with no end fixed; in a group of several live members the set's
call then goes on, alone nothing else happens while a region with the operation is not in it. CF_WAIT ends in its issue tc. Each of the
four completes where it issues and no region of the set has halted. It says where CF_ARM, CF_LOCAL, CF_GLOBAL and CF_WAIT complete. (R62,
R64, R65.) -/
def Obligations.ConfluenceSlotArmsAndReduces : Prop :=
  ∀ (s : State) (run : W32) (r : RegionId) (x : Op) (s1 : State),
    (Issues s run r.val 9 1 x s1 →
      (∀ tc, x.sharedHalt = some tc → Answers (.cfArm run r) s fun t => Issued x (s1.haltAt x stRegionHalted tc) t) ∧
      (x.sharedHalt = none →
        let joined := s1.modGroup x.o.group fun y => { y with calls := joinCall x y.calls }
        ((s1.group x.o.group).live.length ≤ 1 → Runs (.cfArm run r) s x (joined.armCall x.o.group) (some (x.t + 2400)) []) ∧
        (1 < (s1.group x.o.group).live.length → Runs (.cfArm run r) s x joined none []) ∧
        (∀ d, d ≠ x.o.group → joined.group d = s1.group d) ∧ Frame [.groups] s1 joined ∧
        ∃ k ∈ (joined.group x.o.group).calls, k.run = some run ∧ bitAt k.destMask r.val = true)) ∧
    (Issues s run r.val 9 2 x s1 →
      (∀ tc, x.sharedHalt = some tc → Answers (.cfLocal run r) s fun t => Issued x (s1.haltAt x stRegionHalted tc) t) ∧
      (x.sharedHalt = none → Answers (.cfLocal run r) s fun t => ∃ e, Starts s1 x none [] e ∧
        (e.together run x.o.group 2 0 = false → Issued x e t) ∧
        (e.together run x.o.group 2 0 = true → ∃ e2, Issued x e2 t ∧
          ∀ p, e2.partOf run r.val = some p → ∀ b ∈ p.busy, b.unit = 11 → b.opcode = 2 → b.ends ≠ none))) ∧
    (Issues s run r.val 9 3 x s1 → Answers (.cfGlobal run r) s fun t => ∃ e, Starts s1 x none [] e ∧
      ((∀ k ∈ (e.group x.o.group).calls, k.run ≠ some run) → Issued x e t) ∧
      ((∃ k ∈ (e.group x.o.group).calls, k.run = some run) → 1 < (s1.group x.o.group).live.length →
        Issued x (e.advanceCall x.o.group) t) ∧
      ((s1.group x.o.group).live.length ≤ 1 → e.together run x.o.group 3 0 = false → e.together run x.o.group 3 1 = false → Issued x e t)) ∧
    (Issues s run r.val 9 4 x s1 → Runs (.cfWait run r) s x s1 (some x.t) [])

/-- Before bring-up has ended, without a leader, in a held reset or in power-fail nothing happens. Otherwise the leader issues, one after
another, the offer that comes first: high PRIORITY before normal, then the lower VTIME, then the lower context; an offer is a latched head
with a claim that is ready and whose whole claim is free. A plate set that issues stands in flight, not started, with the first multiple
of 64 at least 512 tc ahead as its epoch cycle; a context that issued is charged its budget and remembers the ring. It says where
ISSUE_POINT completes. (R58, R304, R305, R306, R315, R409.) -/
def Obligations.IssuePointTakesTheBestOffer : Prop :=
  (∀ (s : State), s.bringState < 10 ∨ s.led = false ∨ s.power.held = true ∨ s.power.powerFail = true → exec .issuePoint s = .next s) ∧
  (∀ (s : State), 10 ≤ s.bringState → s.led = true → s.power.held = false → s.power.powerFail = false →
    Answers .issuePoint s fun t => t = ((((s.refuseUndefined.wrapVtime).issueLoop 64).noteBlocked).placeWaiting).settleIdle) ∧
  (∀ (s : State) (n : Nat),
    let waiting := (List.range 16).filter fun c => (s.ctx c).state == 1 && (s.offer c).isSome
    (waiting = [] → s.issueLoop (n + 1) = s) ∧
    (waiting ≠ [] → ∃ c m, c ∈ waiting ∧ (∀ d ∈ waiting, d ≠ c → s.keyLess c d = true) ∧ s.offer c = some m ∧
      s.issueLoop (n + 1) = (s.issue m).issueLoop n)) ∧
  (∀ (s : State) (c : Nat) (m : Command), s.offer c = some m →
    opClaims (cmdOp m.raw) = true ∧ s.cmdReady m = true ∧ s.claimFree m = true ∧
    ∃ q h, q < 4 ∧ (s.ctx c).heads.get? q = some h ∧ h.cmd = some m) ∧
  (∀ (s : State) (m : Command), isSetOp (cmdOp m.raw) = true →
    ∃ e x, s.issue m = e.popHead m.ctx.val m.ring.val ∧ e.runs = s.runs ++ [x] ∧ x.cmd = m ∧ x.started = false ∧
      x.issue = s.tcNow ∧ 64 ∣ x.epoch ∧ s.tcNow + 512 ≤ x.epoch ∧ x.epoch < s.tcNow + 576 ∧ Frame [.runs, .ctxs] s e ∧
      (e.ctx m.ctx.val).lastRing = m.ring.val ∧ (∀ d, d ≠ m.ctx.val → e.ctx d = s.ctx d) ∧
      (e.ctx m.ctx.val).budget = (s.ctx m.ctx.val).budget -
        if recPriority (s.ctx m.ctx.val).record = 1 then s.rtCost m else 0)

/-- For a set in flight that has not started: where the routers as latched no longer pass the checks that depend on them, where a group of
its operations has excluded this member, where a placement table is bad or a region's lanes do not fit it, the command fails and leaves
the sets in flight. Otherwise it completes: the routers, placement tables, seed and schedules are latched, and in every region of running
clocks the part begins with bundle 0 at its start cycle, with the units free and lane 0 of the counts loaded; the start is the epoch
cycle, or the region's next tc where its counter is already past it, and the part is then that much late. A set that has started, or none,
is left alone. It says where EPOCH_START completes. (R48, R58, R95, R113, R229, R330.) -/
def Obligations.EpochStartsEveryRegion : Prop :=
  (∀ (s : State) (run : W32), (∀ x, s.run? run = some x → x.started = true) → exec (.epochStart run) s = .next s) ∧
  (∀ (s : State) (run : W32) (x : Run) (code index region : Nat), s.run? run = some x → x.started = false →
    (s.latchCheck x.cmd (x.regions.map fun g => g.2.image) = some (code, index, region) ∨
      s.latchCheck x.cmd (x.regions.map fun g => g.2.image) = none ∧ index = 0 ∧ region = 0 ∧
        (s.placementsOf x.cmd (s.commandRouters x.cmd) = .error code ∨
          ∃ ts, s.placementsOf x.cmd (s.commandRouters x.cmd) = .ok ts ∧ code = stPlacementFault ∧
            ∃ g ∈ x.regions, ∃ o ∈ g.2.image.ops, lanesOk ts x.cmd.list g.2.image o.2 = false)) →
    Answers (.epochStart run) s fun t => Frame [.runs, .ended] s t ∧ t.runs = s.runs.filter (fun y => y.cmd.seq != run) ∧
      t.ended = s.ended ++ [{ plainEnd x.cmd code index region none 0 (zeros 24) with endTc := s.tcNow }]) ∧
  (∀ (s : State) (run : W32) (x : Run) (ts : Tab Bytes), s.WF → s.run? run = some x → x.started = false → x.regions.sorted →
    (∀ g ∈ x.regions, (s.region g.1).clocks = true) → s.latchCheck x.cmd (x.regions.map fun g => g.2.image) = none →
    s.placementsOf x.cmd (s.commandRouters x.cmd) = .ok ts →
    (∀ g ∈ x.regions, ∀ o ∈ g.2.image.ops, lanesOk ts x.cmd.list g.2.image o.2 = true) →
    Answers (.epochStart run) s fun t => ∃ e y, t = y.regions.foldl (fun u g => u.goOn run g.1) e ∧ e.run? run = some y ∧
      y.started = true ∧ y.placements = ts ∧ y.seed = (s.ctx x.cmd.ctx.val).seed ∧ y.schedules = (s.ctx x.cmd.ctx.val).schedules ∧
      y.routers = ((s.ctx x.cmd.ctx.val).routers.filter fun q => (s.commandRouters x.cmd).contains q.1) ∧
      Frame (Part.cycles ++ [.runs, .membership, .buckets, .lastCtx, .stallEnd]) s e ∧
      ∀ r g, x.regions.get? r = some g →
        let start := if x.epoch < (s.region r).tc then (s.region r).tc + 1 else x.epoch
        start ≤ (e.region r).tc ∧ (e.region r).lastCtx = some x.cmd.ctx.val ∧
        ∃ p, y.regions.get? r = some p ∧ p.image = g.image ∧ p.bundle = 0 ∧ p.todo = issueOrder (g.image.bundles.getD 0 0) ∧
          p.last = start ∧ p.begun = false ∧ p.free = List.replicate 13 start ∧ p.late = start - x.epoch ∧
          ∀ c, c < 8 → (p.cnt.getD c []).getD 0 0 = cntAt x.cmd.counts r c)

/-- Where a unit of a plate's part runs an operation whose end is fixed, and no bundle of its issue cycle has slots still to issue, it
ends: the unit is free in that cycle, which the region reaches where its clocks run; the registers that it writes hold their lanes, are
ready then and are open where it was, and of the transactions of the memory ports that a cell group or the scoring unit owns only writes
without their answer stay. An operation that stops at an item check halts the plate in that cycle with the check's code instead, with its
registers never ready. A unit with nothing that can end is left alone. It says where OPERATION_END completes. (R46, R47, R60, R62, R146,
R475.) -/
def Obligations.OperationEndFreesItsUnit : Prop :=
  (∀ (s : State) (run : W32) (r : RegionId) (u : UnitId),
    (∀ g b, s.partOf run r.val = some g → g.busy.find? (fun b => b.unit == u.val) = some b →
      b.ends = none ∨ g.issuing b = true) →
    exec (.operationEnd run r u) s = .next s) ∧
  (∀ (s : State) (run : W32) (r : RegionId) (u : UnitId) (g : RegionRun) (b : Busy) (e : Nat),
    s.partOf run r.val = some g → g.busy.find? (fun b => b.unit == u.val) = some b → b.ends = some e →
    g.issuing b = false → Answers (.operationEnd run r u) s fun t => ∃ e1,
      Frame (Part.cycles ++ [.runs, .memPorts]) s e1 ∧
      ((s.region r.val).clocks = true → (e1.region r.val).tc = max (s.region r.val).tc e) ∧
      (∀ p, p < 8 → u.val ≤ 4 → bits g.image.portMap.toNat (4 * p + 3) (4 * p) = u.val →
        ∀ tx ∈ (e1.memPort r.val p).txs, tx.write = true) ∧
      (∀ q p, q ≠ r.val → e1.memPort q p = s.memPort q p) ∧
      (∀ run' q, (run', q) ≠ (run, r.val) → e1.partOf run' q = s.partOf run' q) ∧
      (b.halts = none → t = e1.goOn run r.val) ∧
      (b.halts = none → ¬(b.unit = 12 ∧ b.opcode = 7) → e1.partOf run r.val = some (b.writes.foldl
        (fun p w => { p with
          cnt := p.cnt.set w.1 w.2, ready := p.ready.set w.1 e, opened := p.opened.filter (· != w.1) ++ if b.open_ then [w.1] else [] })
        { g with busy := g.busy.filter (fun c => c.unit != u.val), free := g.free.set u.val e })) ∧
      (∀ code, b.halts = some code → t = ((e1.haltOne run r.val ⟨code, b.bundle, (g.opOf b).slot, e⟩).spread run).goOn run r.val ∧
        e1.partOf run r.val = some { g with busy := g.busy.filter (fun c => c.unit != u.val), free := g.free.set u.val e }))

/-- LINK_TIMEOUT halts a waiting LINK_RECV at its deadline, with new lanes in its register; TILE_TIMEOUT halts a plate with a row that has
not committed at the earliest such row's timeout, a TERM that waits for rows as the operation where there is one; EXT_TILE_TIMEOUT halts
the set's waiting EXT_TILE_IN at its deadline; CONFLUENCE_TIMEOUT halts an open CF_ARM or CF_GLOBAL after TIMEOUT x 1,024 tc, and the
set's calls on the group are dropped; each halt carries its own code. A set that waits for link credit leaves its ring with LINK_TIMEOUT.
Each completes so, and where there is nothing of the kind it changes nothing. It says where LINK_TIMEOUT, TILE_TIMEOUT, EXT_TILE_TIMEOUT,
CONFLUENCE_TIMEOUT and CREDIT_WAIT_TIMEOUT complete. (R61, R62, R65, R88, R137, R151, R242.) -/
def Obligations.TimeoutsHaltTheWaitingPlate : Prop :=
  ∀ (s : State) (run : W32) (r : RegionId) (rn : Run) (g : RegionRun), s.run? run = some rn → rn.regions.get? r.val = some g →
    (∀ (p : PortId),
      (g.waitingRecv (6 + p.val) = none → exec (.linkTimeout run r p) s = .next s) ∧
      (∀ b, g.waitingRecv (6 + p.val) = some b → Answers (.linkTimeout run r p) s fun t =>
        let x := RegionRun.asOp rn r.val g b
        let tc := b.due.getD b.issue
        ∃ e lanes, t = e.stopOp run r.val b x.o stLinkTimeout tc ∧ Frame (Part.cycles ++ [.runs]) s e ∧
          e.partOf run r.val = some { g with cnt := g.cnt.set x.recvReg lanes, ready := g.ready.set x.recvReg tc })) ∧
    ((s.tileDeadline r.val g = none → exec (.tileTimeout run r) s = .next s) ∧
      (∀ c, s.tileDeadline r.val g = some c → Answers (.tileTimeout run r) s fun t =>
        let e := (s.reach r.val c).contain (pgCombine r.val) 0
        (∀ b, g.busy.find? (fun b => b.ends.isNone && (g.opOf b).isTerm) = some b → t = e.stopOp run r.val b (g.opOf b) stTileTimeout (max b.issue c)) ∧
        (g.busy.find? (fun b => b.ends.isNone && (g.opOf b).isTerm) = none → t = e.haltRegion run r.val stTileTimeout c))) ∧
    ((s.extOp r.val = none → exec (.extTileTimeout run r) s = .next s) ∧
      (∀ y q b, s.extOp r.val = some (y, q, b) → y.cmd.seq ≠ run → exec (.extTileTimeout run r) s = .next s) ∧
      (∀ y q b, s.extOp r.val = some (y, q, b) → y.cmd.seq = run → exec (.extTileTimeout run r) s =
        .next (((s.reach r.val (b.due.getD b.issue)).contain (pgTile r.val) 2).stopOp run r.val b (q.opOf b) stExtTileTimeout
          (b.due.getD b.issue)))) ∧
    (∀ waiting, waiting = g.busy.find? (fun b => b.unit == 11 && b.ends.isNone && (b.opcode == 1 || b.opcode == 3)) →
      (waiting = none → exec (.confluenceTimeout run r) s = .next s) ∧
      (∀ b, waiting = some b → Answers (.confluenceTimeout run r) s fun t =>
        let o := g.opOf b
        let tc := b.issue + o.timeout * 1024
        ∃ e : State, t = ((e.reach r.val tc).modRR run r.val (·.stop b tc)).halt run r.val stConfluenceTimeout b.bundle 9 tc ∧
          Frame [.groups, .fabric, .store, .poison, .freeCtr] s e ∧ (b.opcode = 1 → Frame [.groups] s e) ∧
          (∀ d, d ≠ o.group → e.group d = s.group d) ∧
          (e.group o.group).calls = (s.group o.group).calls.filter fun k => k.run != some run)) ∧
    (∀ (c : CtxId) (q : RingId),
      (∀ h m, (s.ctx c.val).heads.get? q.val = some h → h.cmd = some m → isSetOp (cmdOp m.raw) = false ∨ s.credited m = true) →
        exec (.creditWaitTimeout c q) s = .next s) ∧
    (∀ (c : CtxId) (q : RingId) (h : Head) (m : Command), (s.ctx c.val).heads.get? q.val = some h → h.cmd = some m →
      isSetOp (cmdOp m.raw) = true → s.credited m = false → Answers (.creditWaitTimeout c q) s fun t => Fails m s stLinkTimeout 0 0 t)

/-- Where the crossing holds nothing, memory ports count the tc of a wait for slots. Data in time is released in its declared cycle: the
counter of a region whose clocks run reaches it, and only what passing cycles bring changes. Data late by d stalls the region from the
release cycle on, or from the cycle that the region has run to where that is later: every later end, unit and register of every part that
runs there is d tc later, a halt's own cause in that cycle excepted, the region's stall is d and ends d after it began, and its deficits
grow by d; sets that have not started stay. In each case what an edge has brought by then lands besides, and each completes so. It says
where STOP_BATH_RELEASE completes. (R26, R57, R63, R132, R146, R241, R435.) -/
def Obligations.StopBathReleasesOrStalls : Prop :=
  ∀ (s : State) (r : RegionId) (y : Crossing) (d : W32),
    let s0 := s.slotWait r.val y d.toNat
    let lands (e t : State) := t = (match y with | .edge _ => e.landReleased r.val | _ => e)
    (s0.releaseCycle r.val y = none → Answers (.stopBathRelease r y d) s (lands s0)) ∧ (d = 0 ∨ y ≠ .memory → s0 = s) ∧
    Frame [.regs, .sameTc, .view] s s0 ∧
    (∀ c, s0.releaseCycle r.val y = some c → d = 0 → Answers (.stopBathRelease r y d) s fun t => ∃ e, lands e t ∧
      Frame Part.cycles s e ∧ ((s.region r.val).clocks = true → (e.region r.val).tc = max (s.region r.val).tc c)) ∧
    (∀ c, s0.releaseCycle r.val y = some c → d ≠ 0 → Answers (.stopBathRelease r y d) s fun t => ∃ e,
      let start := max c (s.ranTo r.val)
      lands e t ∧ Frame (Part.cycles ++ [.runs, .transfers, .stallEnd]) s e ∧ (e.region r.val).stall = d.toNat ∧
      (e.region r.val).stallEnd = start + d.toNat ∧ (∀ q, q ≠ r.val → (e.region q).stallEnd = (s.region q).stallEnd) ∧
      (∃ u, Frame Part.cycles s u ∧ e.regs = (u.noteLate r.val start d.toNat).regs ∧
        Counts u (u.noteLate r.val start d.toNat) (pgRegion r.val) Fld.LATE_SUM_DEFICIT d.toNat) ∧
      (∀ run x g, s.run? run = some x → x.started = true → x.regions.get? r.val = some g → g.ended = none →
        ∃ p, e.partOf run r.val = some p ∧ p.late = g.late + d.toNat ∧
          p.free = g.free.map (fun m => if start ≤ m then m + d.toNat else m) ∧
          p.ready = g.ready.map (fun v => (v.1, if start ≤ v.2 then v.2 + d.toNat else v.2)) ∧
          p.busy.map (·.ends) = g.busy.map fun b => b.ends.map fun m =>
            if (if b.halts.isSome then start < m else start ≤ m) then m + d.toNat else m) ∧
      (∀ run x, s.run? run = some x → x.started = false → e.run? run = some x))

/-- CONTEXT_SAVE_DONE of a context that is being saved, with no claimed port, completes with its image written to its save area, and
leaves it SWAPPED without its share, banks and dirty marks; CONTEXT_LOAD_DONE of one that loads completes with it RESIDENT and, where it
has been saved, with the banks, ACTIVE and burn tables of the image; RELOCATION_DONE ends a relocation. A transfer that fails, a save area
that does not translate and an image whose CRC differs start the teardown with BOUNDS_FAULT or CONTEXT_FAULT. TEARDOWN_END of a context in
teardown completes with it CLOSED with only its fault code, its bytes of the share zero, its slots free and none of its commands in
flight, and pends its source; context 0 opens anew with the supervisor's record. In any other state each row changes nothing. How the
image lies in the save area is the model's choice (log 97). It says where RELOCATION_DONE, CONTEXT_SAVE_DONE, CONTEXT_LOAD_DONE and
TEARDOWN_END complete. (R301, R312, R313, R314, R317, R318.) -/
def Obligations.ResidencyAndTeardownMove : Prop :=
  (∀ (s : State) (c : CtxId) (bad : Option TransferFault),
    ((s.ctx c.val).state ≠ 4 ∨ s.portsIdle = false → exec (.contextSaveDone c bad) s = .next s) ∧
    ((s.ctx c.val).state ≠ 3 ∨ s.portsIdle = false → exec (.contextLoadDone c bad) s = .next s) ∧
    ((s.ctx c.val).state ≠ 5 → exec (.teardownEnd c) s = .next s)) ∧
  (∀ (s : State) (c : CtxId), (s.ctx c.val).state = 4 → s.portsIdle = true →
    (s.writeImage c.val = none → exec (.contextSaveDone c none) s = .next (s.startTeardown c.val stBoundsFault false).tryLoad) ∧
    (∀ s0, s.writeImage c.val = some s0 → Answers (.contextSaveDone c none) s fun t =>
      ∃ e : State, t = e.tryLoad ∧ Frame [.fabric, .store, .poison] s s0 ∧ Frame [.saving, .ctxs] s0 e ∧
        e.saving = s.saving.filter (fun v => v.val != c.val) ∧ (∀ d, d ≠ c.val → e.ctx d = s.ctx d) ∧
        e.ctx c.val = { s.ctx c.val with
          state := 2, share := none, saved := true, banks := [], dirtyBanks := [], dirtyBurn := [], dirtySlots := [] })) ∧
  (∀ (s : State) (c : CtxId), (s.ctx c.val).state = 3 → s.portsIdle = true →
    let becomes (x : Ctx) := Answers (.contextLoadDone c none) s fun t =>
      Frame [.loading, .ctxs] s t ∧ t.loading = none ∧ (∀ d, d ≠ c.val → t.ctx d = s.ctx d) ∧ t.ctx c.val = x
    ((s.ctx c.val).saved = false → becomes { s.ctx c.val with state := 1 }) ∧
    ((s.ctx c.val).saved = true →
      (∀ code, s.loadImage c.val = .error code → exec (.contextLoadDone c none) s = .next (s.startTeardown c.val code false) ∧
        (code = stBoundsFault ∨ code = stContextFault)) ∧
      (∀ banks active burn, s.loadImage c.val = .ok (banks, active, burn) →
        becomes { s.ctx c.val with state := 1, saved := false, banks := banks, active := active, burn := burn }))) ∧
  (∀ (s : State) (c : CtxId) (f : TransferFault), s.portsIdle = true →
    ((s.ctx c.val).state = 4 → exec (.contextSaveDone c (some f)) s = .next (s.startTeardown c.val (transferCode f) false).tryLoad) ∧
    ((s.ctx c.val).state = 3 → exec (.contextLoadDone c (some f)) s = .next (s.startTeardown c.val (transferCode f) false))) ∧
  (∀ (s : State), (s.relocating = false → exec .relocationDone s = .next s) ∧
    (s.relocating = true → Answers .relocationDone s fun t => ∃ e : State, t = e.tryLoad ∧ e.relocating = false ∧
      Frame [.relocating, .ctxs, .store] s e)) ∧
  (∀ (s : State) (c : CtxId), c.val ≠ 0 → (s.ctx c.val).state = 5 → s.WF → Answers (.teardownEnd c) s fun t => ∃ e : State, t = e.settleIdle ∧
    e.ctx c.val = { Ctx.closed with faultCode := (s.ctx c.val).faultCode } ∧
    (∀ f ∈ e.flight, f.1 ≠ c) ∧ (∀ f ∈ e.deferred, f.2.ctx ≠ c) ∧ (∀ i, (e.slot i).state ≠ 0 → (e.slot i).ctx ≠ c) ∧
    (∀ b r a, (s.ctx c.val).share = some b → r ∈ s.live → b.1 * 0x200000 ≤ a → a < (b.1 + b.2) * 0x200000 →
      (e.region r).store.byte a = 0) ∧
    bitAt (e.getF (pgIntr + 8) Fld.PENDING) (0x20 + c.val) = true) ∧
  (∀ (s : State), (s.ctx 0).state = 5 → Answers (.teardownEnd 0) s fun t => ∃ e : State, t = e.settleIdle ∧
    (e.ctx 0).record = supervisorRecord ∧ ((e.ctx 0).state = 1 ∨ (e.ctx 0).state = 2))

/-- In a live region a refill tick puts the written parameters in force and raises every bucket by RATE x 64 bytes up to DEPTH x 64 KiB;
an open high-priority context's counter becomes its RT_BUDGET; a write of REG_MEM or REG_LINK stores the register, where the SCHED page
answers, and changes no bucket. In a region that is not live, for a context that is closed or of normal priority, and where the page does
not answer, nothing changes. It says where REGULATOR_REFILL, RT_BUDGET_REFILL and REG_BUCKET_WRITE complete. (R309, R315, R320.) -/
def Obligations.BudgetsAndBucketsRefill : Prop :=
  (∀ (s : State) (r : RegionId), (r.val ∉ s.live → exec (.regulatorRefill r) s = .next s) ∧
    (r.val ∈ s.live → Answers (.regulatorRefill r) s fun t => Frame [.buckets, .rates] s t ∧
      (∀ q, q ≠ r.val → t.region q = s.region q) ∧
      ∀ i, i < 16 → (t.region r.val).rates.get? i = some (BitVec.ofNat 64 (s.reg (pgSched + 0x200 + 8 * i))) ∧
        (t.region r.val).buckets.get? i = some (min ((s.region r.val).buckets.getD i 0 + bits (s.reg (pgSched + 0x200 + 8 * i)) 19 0 * 64)
          (bits (s.reg (pgSched + 0x200 + 8 * i)) 39 20 * 65536)))) ∧
  (∀ (s : State) (c : CtxId),
    let high := (s.ctx c.val).state ≠ 0 ∧ recPriority (s.ctx c.val).record = 1
    (¬high → exec (.rtBudgetRefill c) s = .next s) ∧
    (high → Answers (.rtBudgetRefill c) s fun t => Frame [.ctxs] s t ∧ (∀ d, d ≠ c.val → t.ctx d = s.ctx d) ∧
      t.ctx c.val = { s.ctx c.val with budget := recRtBudget (s.ctx c.val).record })) ∧
  (∀ (s : State) (link : Bool) (p : Fin 8) (w : W64),
    let a := pgSched + (if link then 0x240 else 0x200) + 8 * p.val
    (s.pageAnswers pgSched = false → exec (.regBucketWrite link p w) s = .next s) ∧
    (s.pageAnswers pgSched = true → Answers (.regBucketWrite link p w) s fun t => Frame [.regs] s t ∧
      RegsKept s t (· = a) ∧ bits (t.reg a) 39 0 = bits w.toNat 39 0))

/-- Each of the six call packets that stands in an inlet leaves it; one of another KIND is not this row's and changes nothing, and one
that names neither the call in progress nor the one that arms is only counted in STALE_COUNT. Of a current call an arm packet waits for
its call, or is added to those of the arming call, whose own arm packet may then go on. A GO verdict starts a tree's half; MISMATCH on a
command's call, in the tc of an abort too, completes it with SIGNATURE_MISMATCH and advances CALL_SEQ. A data slab returns its credit and
goes up or down. CREDIT adds its slabs. A FAIL already noted only marks that one has been forwarded; the first one leaves the group
RE-FORMING, the call aborted, the group's packets out of every inlet and a boundary asked for; a further one is noted. KEEPALIVE restarts
the watchdog on its sender. CALL_ARM starts the arm of a waiting call, and alone in its group a command's call runs to its end.
KEEPALIVE_SEND only puts packets on links; CONFLUENCE_WATCHDOG acts only when the member waits on that neighbour and has not heard from it
in this tc. It says where CALL_ARM, ARM_PACKET, VERDICT_PACKET, DATA_PACKET, CONFLUENCE_CREDIT, FAIL_PACKET, KEEPALIVE_PACKET,
KEEPALIVE_SEND and CONFLUENCE_WATCHDOG complete. (R219, R220, R221, R222, R223, R224, R225, R226, R227, R228.) -/
def Obligations.CallPacketsAreCheckedAndAct : Prop :=
  (∀ (s : State) (r : RegionId) (p : PortId) (pkt : Bytes) (i : Instr) (kind : Nat), packetFits pkt = true →
    (i, kind) ∈ [(Instr.armPacket r p pkt, 0x10), (.verdictPacket r p pkt, 0x11), (.dataPacket r p pkt, 0x12),
      (.confluenceCredit r p pkt, 0x13), (.failPacket r p pkt, 0x14), (.keepalivePacket r p pkt, 0x15)] →
    let e := s.takeInlet r.val p.val pkt
    Frame [.regs, .sameTc, .inlets] s e ∧ (pkKind pkt ≠ kind → exec i s = .next s) ∧
    (pkKind pkt = kind → e.callPacket pkt = false → Answers i s fun t => Frame [.regs, .sameTc] e t ∧
      RegsKept e t (· = pgConfluence + Fld.STALE_COUNT_COUNT.off) ∧ Counts e t pgConfluence Fld.STALE_COUNT_COUNT 1)) ∧
  (∀ (s : State) (r : RegionId) (p : PortId) (pkt : Bytes), packetFits pkt = true →
    let e := s.takeInlet r.val p.val pkt
    let g := pkGroup pkt
    let x := e.group g
    let a := (pkTree pkt, pkMember pkt, bitAt (pkWord pkt) 9, pkMember2 pkt, (pkt.drop 8).take 24)
    e.callPacket pkt = true →
    (pkKind pkt = 0x10 → x.state = 1 →
      (x.calls = [] ∨ (∃ k l, x.calls = k :: l ∧ k.phase = 0) → Answers (.armPacket r p pkt) s fun t => OnlyGroup g e t ∧
        t.group g = { x with early := x.early ++ [a] }) ∧
      (∀ k l, x.calls = k :: l → k.phase ≠ 0 → Answers (.armPacket r p pkt) s fun t => ∃ e1 : State, OnlyGroup g e e1 ∧
        let again := k.arms.any fun b => b.1 == a.1 && b.2.1 == a.2.1
        e1.group g = { x with
          calls := { k with arms := if again then k.arms else k.arms ++ [a], heard := k.heard.set a.2.1 e.tcNow } :: l } ∧
        t = if again then e1 else e1.tryArm g a.1)) ∧
    (∀ k l m, x.calls = k :: l → k.phase = 1 ∨ k.phase = 2 ∨ (k.phase = 3 ∧ k.aborted = some e.tcNow) →
      pkKind pkt = 0x11 → k.verdicts.get? (pkTree pkt) = none → bitAt (pkWord pkt) 9 = true → k.cmd = some m → x.reform = false →
      Answers (.verdictPacket r p pkt) s fun t => Frame [.regs, .sameTc, .ended, .groups, .links, .view] e t ∧ (t.group g).calls = l ∧
        (t.group g).callSeq = (x.callSeq + 1) % 2 ^ 32 ∧ ∃ c, t.ended = e.ended ++ [c] ∧ c.seq = m.seq ∧ c.status = stSignatureMismatch ∧
          c.result = fit 24 (leBytes 4 x.epoch ++ leBytes 2 (pkMember2 pkt))) ∧
    (∀ k l, x.calls = k :: l → k.phase = 1 ∨ k.phase = 2 →
      (pkKind pkt = 0x11 → k.verdicts.get? (pkTree pkt) = none → bitAt (pkWord pkt) 9 = false →
        Answers (.verdictPacket r p pkt) s fun t => ∃ e1 : State, Frame [.groups, .links] e e1 ∧
          t = e1.startData g ∧ ∃ k1, (e1.group g).calls = k1 :: l ∧ k1.verdicts.get? (pkTree pkt) = some true ∧ k1.phase = k.phase) ∧
      (pkKind pkt = 0x12 → Answers (.dataPacket r p pkt) s fun t => ∃ e1 : State, Frame [.groups, .links] e e1 ∧
        e1 = (e.heard g (pkMember pkt)).sendMember (pkMember pkt) 0
          (cfControl 0x13 (pkTree pkt) (pkDir pkt) g (e.self * 2 ^ 16) x.callSeq x.epoch 1) ∧
        (pkDir pkt ≠ 0 → t = (e1.resultSlab g (pkTree pkt) (field pkt 8 4) (pkt.drop 32)).advanceCall g) ∧
        (pkDir pkt = 0 → ∃ e2 k2, t = e2.advanceCall g ∧ OnlyGroup g e1 e2 ∧ (e2.group g).calls = k2 :: l ∧ k2.up = k.up ++
          [(pkTree pkt, pkMember pkt, field pkt 8 4, (decodeSlab k.format (pkt.drop 32)).map fun v => BitVec.ofNat 32 (toF32 v))])) ∧
      (pkKind pkt = 0x13 → Answers (.confluenceCredit r p pkt) s fun t => ∃ (e1 : State) (k1 : Call), OnlyGroup g e e1 ∧
        (e1.group g).calls = k1 :: l ∧ t = (e1.flushSlabs g (pkTree pkt) (pkDir pkt) (pkMember pkt) k.waiting).advanceCall g ∧
        k1.creditOf (pkTree pkt) (pkDir pkt) (pkMember pkt) = k.creditOf (pkTree pkt) (pkDir pkt) (pkMember pkt) + field pkt 16 2 ∧
        k1.waiting = k.waiting.filter fun w => !(w.1 == pkTree pkt && w.2.1 == pkDir pkt && w.2.2.1 == pkMember pkt)) ∧
      (pkKind pkt = 0x15 → Answers (.keepalivePacket r p pkt) s fun t => OnlyGroup g e t ∧
        t.group g = { x with calls := { k with heard := k.heard.set (pkMember pkt) e.tcNow } :: l })) ∧
    (pkKind pkt = 0x14 →
      let f := (pkMember pkt, pkMember2 pkt)
      (x.fails.contains f = true → Answers (.failPacket r p pkt) s fun t => Frame [.groups, .links] e t ∧ (x.forwarded = true → t = e) ∧
        t.group g = { x with forwarded := true }) ∧
      (x.fails.contains f = false → x.state ≠ 1 → Answers (.failPacket r p pkt) s fun t => Frame [.groups, .links] e t ∧
        t.group g = { x with forwarded := true, fails := x.fails ++ [f] }) ∧
      (x.fails.contains f = false → x.state = 1 → Answers (.failPacket r p pkt) s fun t =>
        Frame [.regs, .sameTc, .fabric, .groups, .membership, .freeCtr, .store, .poison, .links, .inlets] e t ∧ (t.group g).state = 2 ∧
        (t.group g).fails = x.fails ++ [f] ∧ t.membership = { e.membership with requested := true } ∧
        (∀ k l, x.calls = k :: l → (t.group g).calls = (if k.phase = 0 then k else { k with phase := 3, aborted := some e.tcNow }) :: l ∧
          (k.phase ≠ 2 → MemoryKept e t)) ∧
        ∀ q ∈ e.live, ∀ n, n < 4 → ∀ k ∈ (t.inlet q n).bank0.packets ++ (t.inlet q n).bank1.packets,
          ¬(k.2.cls = 0 ∧ 0x10 ≤ pkKind k.2.bytes ∧ pkKind k.2.bytes ≤ 0x15 ∧ pkGroup k.2.bytes = g)))) ∧
  (∀ (s : State) (g tree : Nat) (k : Call) (l : List Call), (s.group g).calls = k :: l → k.phase = 1 ∨ k.phase = 2 →
    let x := s.group g
    (armed x k tree s.self = false → s.tryArm g tree = s) ∧
    (armed x k tree s.self = true → k.verdicts.get? tree = none → ∀ p, parentOf x.live tree s.self = some p →
      let diff := firstDiffOf x k tree s.self
      s.tryArm g tree = s.sendMember p 0 (armBytes 0x10 tree diff.isNone g s.self (diff.getD 0) (callSignature x k)))) ∧
  (∀ (s : State) (g : GroupId),
    let x := s.group g.val
    let starts (k : Call) := k.phase = 0 ∧ x.reform = false ∧ x.state = 1 ∧
      ((match k.run.bind s.run? with | none => k.run.isNone | some y => (y.confluers g.val 1).all (bitAt k.destMask)) = true)
    (x.calls = [] → exec (.callArm g) s = .next s) ∧
    (∀ k l, x.calls = k :: l →
      (¬starts k → exec (.callArm g) s = .next s) ∧
      (starts k → 1 < x.live.length → Answers (.callArm g) s fun t => ∃ e : State, t = (e.tryArm g.val 0).tryArm g.val 1 ∧
        OnlyGroup g.val s e ∧ e.group g.val = { x with early := [], calls := { k with phase := 1, arms := x.early } :: l }) ∧
      (starts k → x.live.length ≤ 1 → k.run ≠ none → Answers (.callArm g) s fun t => OnlyGroup g.val s t ∧
        t.group g.val = { x with early := [], calls := { k with phase := 2, arms := x.early } :: l }) ∧
      (∀ m, starts k → x.live.length ≤ 1 → k.run = none → k.cmd = some m → Answers (.callArm g) s fun t =>
        (∃ e : State, Frame [.fabric, .groups, .freeCtr, .store, .poison] s e ∧
          t = (e.reach s.leader (k.issue + 2408 + 13 * k.sizeBlocks)).finishCall g.val stSuccess 0) ∧ (t.group g.val).calls = l ∧
        (t.group g.val).callSeq = (x.callSeq + 1) % 2 ^ 32 ∧ ∃ c, t.ended = s.ended ++ [c] ∧ c.seq = m.seq ∧ c.status = stSuccess))) ∧
  (∀ (s : State) (g : GroupId),
    (((List.range 2).any fun t => (childrenOf (s.group g.val).live t s.self).any fun c => s.waitsOn g.val t c) = false →
      exec (.keepaliveSend g) s = .next s) ∧
    Answers (.keepaliveSend g) s fun t => Frame [.links] s t ∧ ∀ r p, (s.link r p).queue <+: (t.link r p).queue) ∧
  (∀ (s : State) (g : GroupId) (m : MemberId),
    let due := ((List.range 2).any fun t => s.waitsOn g.val t m.toNat) = true ∧ ∀ k ∈ (s.group g.val).calls.head?, k.heard.get? m.toNat ≠ some s.tcNow
    (¬due → exec (.confluenceWatchdog g m) s = .next s) ∧
    (due → (s.group g.val).state = 1 → Answers (.confluenceWatchdog g m) s fun t =>
      Frame [.regs, .sameTc, .fabric, .groups, .membership, .freeCtr, .store, .poison, .links, .inlets] s t ∧ (t.group g.val).state = 2 ∧
      (t.group g.val).fails = (s.group g.val).fails ++ [(m.toNat, s.self)] ∧ t.membership = { s.membership with requested := true } ∧
      ∀ k, k ∈ (s.group g.val).calls.head? → ∃ k1, (t.group g.val).calls.head? = some k1 ∧ k1.phase = if k.phase = 0 then 0 else 3))

/-- FRAME_SEND of a port that sends nothing changes nothing; otherwise it changes of the links only that port's, and either no new frame
is kept, or one numbered next with packets taken from the queue, when no resend is due, no slot is stolen and fewer than 32 frames are
unacknowledged. FRAME_RECEIVE with a bad CRC, or of a good DATA frame beyond the next one expected, rewinds: of a DATA frame the packet
that is partly received goes back to its first byte, each packet of the frame that enters the inlet counts in CRC_DROP, and a NAK is owed;
a good frame takes its acknowledgement, and the next one expected lets its packets arrive. INLET_DRAIN takes the earliest packet of the
highest class that has one, management only with room in its queue. INLET_FLUSH with none waiting discards at a packet boundary the
packets of the chosen classes and context, each counted. MGMT_OWNER is set only on an isolated port. MGMT_READ consumes a word of the
oldest packet for the selected reader alone. LANDING sets credit toward each context named; CREDIT_RETURN adds to it, never above the
announced size; both act only in their epoch. It says where FRAME_SEND, FRAME_RECEIVE, INLET_DRAIN, INLET_FLUSH, MGMT_OWNER_WRITE,
MGMT_READ, LANDING and CREDIT_RETURN complete. (R33, R287, R289, R290, R292, R365, R367, R369, R374, R384.) -/
def Obligations.FramesAndInletsKeepTheirPackets : Prop :=
  (∀ (s : State) (r : RegionId) (p : PortId),
    let st := s.linkState r.val p.val
    let l := s.link r.val p.val
    let sends := s.trained r.val p.val = true ∨ st = 5 ∨ (st = 1 ∧ 5 ≤ l.step)
    let stolen := s.getF (pgLink r.val p.val) Fld.CAL_STATE_STEALING = 1 ∧ 65536 ≤ l.steal + 1
    (¬sends → exec (.frameSend r p) s = .next s) ∧
    (sends → Answers (.frameSend r p) s fun t => Frame (Part.cycles ++ [.runs, .links, .transfers, .stallEnd]) s t ∧
      (∀ q n, (q, n) ≠ (r.val, p.val) → t.link q n = s.link q n) ∧
      let m := t.link r.val p.val
      (m.frames = l.frames ∧ m.nextSeq = l.nextSeq ∧ m.queue = l.queue) ∨
      (l.resend = none ∧ ¬stolen ∧ l.frames.length < 32 ∧ ∃ ks, ks ≠ [] ∧ m.frames = l.frames ++ [⟨l.nextSeq, ks⟩] ∧
        m.nextSeq = (l.nextSeq + 1) % 4096 ∧ m.queue.length + ks.length = l.queue.length ∧ ∀ k ∈ m.queue, k ∈ l.queue))) ∧
  (∀ (s : State) (r : RegionId) (p : PortId) (f : FrameIn),
    let c := f.control.toNat
    let l := s.link r.val p.val
    let x := if bits c 454 453 = 0 then l.takeFlits (flitsOf f) else (l, [])
    let t := s.rewind r.val p.val f
    Frame [.regs, .sameTc, .links, .inlets] s t ∧
      t.link r.val p.val = (if bits c 454 453 = 0 ∧ l.partly ≠ none then { l with partly := none, streams := l.mark, nakOwed := true }
        else { l with nakOwed := true }) ∧
      Counts s t (pgInlet r.val p.val) Fld.CRC_DROP_COUNT ((x.2 ++ (x.1.partly.map (·.1)).toList).filter (s.enters r.val p.val)).length) ∧
  (∀ (s : State) (r : RegionId) (p : PortId) (f : FrameIn), frameFits f.data = true →
    let st := s.linkState r.val p.val
    let c := f.control.toNat
    let l := s.link r.val p.val
    let acked := l.takeAck (bits c 467 456) (bitAt c 455)
    let good := st ≠ 0 ∧ st ≠ 6 ∧ frameCrc f = bits c 451 420
    let data := bits c 454 453 = 0 ∧ (st ≠ 1 ∨ 5 ≤ l.step)
    let i := Instr.frameReceive r p f
    (st = 0 ∨ st = 6 → exec i s = .next s) ∧
    (st ≠ 0 → st ≠ 6 → frameCrc f ≠ bits c 451 420 → Answers i s fun t => ∃ e : State, t = e.rewind r.val p.val f ∧
      Frame [.regs, .sameTc, .view] s e) ∧
    (good → ¬data → Answers i s fun t => Frame [.regs, .sameTc, .links, .view] s t ∧ t.link r.val p.val = acked) ∧
    (good → data → bits c 479 468 ≠ l.expect → Answers i s fun t => ∃ e : State,
      Frame [.regs, .sameTc, .links, .view] s e ∧ e.link r.val p.val = acked ∧
      (seqPassed (bits c 479 468) l.expect = false → t = e.rewind r.val p.val f) ∧
      (seqPassed (bits c 479 468) l.expect = true → t = e.modLink r.val p.val fun l => { l with nakOwed := true })) ∧
    (good → data → bits c 479 468 = l.expect → Answers i s fun t => ∃ e : State,
      let x := acked.takeFlits (flitsOf f)
      Frame [.regs, .sameTc, .links, .view] s e ∧ e.link r.val p.val = { x.1 with expect := (l.expect + 1) % 4096, nakOwed := false } ∧
      t = ((x.2.foldl (fun (u : State) k => u.arrive r.val p.val k) e).writePart r.val p.val).tryFlush r.val p.val)) ∧
  (∀ (s : State) (r : RegionId) (p : PortId),
    let all := (s.inlet r.val p.val).bank0.packets ++ (s.inlet r.val p.val).bank1.packets
    ((s.inlet r.val p.val).drainNext = none → exec (.inletDrain r p) s = .next s) ∧
    (∀ m, (s.inlet r.val p.val).drainNext = some m →
      let e := s.removePacket r.val p.val m
      let i := Instr.inletDrain r p
      m ∈ all ∧ (∀ n ∈ all, m.2.cls < n.2.cls ∨ (m.2.cls = n.2.cls ∧ m.1 ≤ n.1)) ∧
      (m.2.cls = 3 → (s.inlet r.val p.val).mgmtBytes + m.2.bytes.length ≤ 4096) ∧
      Frame [.regs, .sameTc, .inlets] s e ∧ m ∉ (e.inlet r.val p.val).bank0.packets ++ (e.inlet r.val p.val).bank1.packets ∧
      (m.2.cls = 0 → exec i s = .next (e.classZero m.2.bytes)) ∧
      (m.2.cls = 3 → Answers i s fun t => Frame [.inlets] e t ∧
        (t.inlet r.val p.val).mgmt = (s.inlet r.val p.val).mgmt ++ [m.2.bytes]) ∧
      (m.2.cls ≠ 0 → m.2.cls ≠ 3 → s.hasRing r.val p.val m.2.ctx = false → Answers i s fun t => Frame [.regs, .sameTc] e t ∧
        Counts e t (pgInlet r.val p.val) Fld.FLUSH_DROP_COUNT 1) ∧
      (m.2.cls ≠ 0 → m.2.cls ≠ 3 → s.hasRing r.val p.val m.2.ctx = true → Answers i s fun t => ∃ e1 : State, Frame [.landing] e e1 ∧
        ((e1.region r.val).landing.map fun n => n.bytes.length).sum =
          ((s.region r.val).landing.map fun n => n.bytes.length).sum + m.2.bytes.length ∧
        t = e1.runs.foldl (fun u x => u.settleLink x.cmd.seq r.val p.val) e1))) ∧
  (∀ (s : State) (r : RegionId) (p : PortId) (w : W64),
    let i := Instr.inletFlush r p w
    let n := s.inlet r.val p.val
    let mask := bits w.toNat 3 0
    let goes (k : Nat × Packet) : Bool := bitAt mask k.2.cls &&
      (!bitAt w.toNat 4 || k.2.cls == 0 || k.2.cls == 3 || k.2.ctx == bits w.toNat 11 8)
    (s.pageAnswers (pgInlet r.val p.val) = false ∨ mask = 0 → exec i s = .next s) ∧
    (s.pageAnswers (pgInlet r.val p.val) = true → mask ≠ 0 → n.flush = none →
      (n.part ≠ 0 → Answers i s fun t => Frame [.inlets] s t ∧
        t.inlet r.val p.val = { n with flush := some (mask, if bitAt w.toNat 4 then some (bits w.toNat 11 8) else none) }) ∧
      (n.part = 0 → Answers i s fun t => Frame [.regs, .sameTc, .inlets] s t ∧ (t.inlet r.val p.val).flush = none ∧
        (t.inlet r.val p.val).bank0.packets = n.bank0.packets.filter (fun k => !goes k) ∧
        (t.inlet r.val p.val).bank1.packets = n.bank1.packets.filter (fun k => !goes k) ∧
        Counts s t (pgInlet r.val p.val) Fld.FLUSH_DROP_COUNT ((n.bank0.packets ++ n.bank1.packets).filter goes).length))) ∧
  (∀ (s : State) (r : RegionId) (p : PortId) (w : W64),
    let pg := pgInlet r.val p.val
    let takes := s.pageAnswers pg = true ∧ (bitAt w.toNat 0 = true → s.linkState r.val p.val = 6)
    (¬takes → exec (.mgmtOwnerWrite r p w) s = .next s) ∧
    (takes → Answers (.mgmtOwnerWrite r p w) s fun t => Frame [.regs] s t ∧ RegsKept s t (· = pg + Fld.INLET_CTL_MGMT_OWNER.off) ∧
      t.getF pg Fld.INLET_CTL_MGMT_OWNER = bits w.toNat 0 0)) ∧
  (∀ (s : State) (r : RegionId) (p : PortId) (software : Bool),
    let i := Instr.mgmtRead r p software
    let n := s.inlet r.val p.val
    let reach := software = false ∨ s.pageAnswers (pgInlet r.val p.val) = true
    let reads := reach ∧ s.getF (pgInlet r.val p.val) Fld.INLET_CTL_MGMT_OWNER = flag software
    let shows (t : State) (bad : Bool) (w : Nat) :=
      t.answers = if software then s.answers ++ [(r, 0#6, bad, BitVec.ofNat 64 w)] else s.answers
    (¬reach → Answers i s fun t => Frame [.answers] s t ∧ shows t true 0) ∧
    (reach → ¬reads ∨ n.mgmt = [] → Answers i s fun t => Frame [.answers] s t ∧ shows t false 0) ∧
    (∀ k l, reads → n.mgmt = k :: l → Answers i s fun t => Frame [.answers, .inlets] s t ∧
      let last := k.length ≤ 4 * (n.mgmtWord + 1)
      (last → t.inlet r.val p.val = { n with mgmt := l, mgmtWord := 0 }) ∧
      (¬last → t.inlet r.val p.val = { n with mgmtWord := n.mgmtWord + 1 }) ∧
      shows t false (2 ^ 63 + flag (n.mgmtWord == 0) * 2 ^ 62 + flag (decide last) * 2 ^ 61 + n.mgmtWord * 2 ^ 32 +
        field k (4 * n.mgmtWord) 4))) ∧
  (∀ (s : State) (r : RegionId) (p : PortId) (pkt : Bytes), packetFits pkt = true →
    let e := s.takeMgmt r.val p.val pkt
    let mine := field pkt 8 4 = s.membership.epoch % 2 ^ 32
    let m := field pkt 4 2 % 1024
    Frame [.inlets] s e ∧
    (field pkt 0 1 ≠ 0x35 → exec (.landing r p pkt) s = .next s) ∧ (field pkt 0 1 ≠ 0x36 → exec (.creditReturn r p pkt) s = .next s) ∧
    (field pkt 0 1 = 0x35 → field pkt 2 2 ≤ 16 ∧ mgmtOk pkt (32 + 32 * ceilDiv (8 * field pkt 2 2) 32) [(7, 1), (12, 20)] = true →
      (¬mine → exec (.landing r p pkt) s = .next e) ∧
      (mine → Answers (.landing r p pkt) s fun t => Frame [.membership] e t ∧
        (∀ c, (∀ k, k < field pkt 2 2 → creditKey m (field pkt (32 + 8 * k) 4 % 16) ≠ c) →
          t.membership.credit.get? c = s.membership.credit.get? c) ∧
        ∀ k, k < field pkt 2 2 → (∀ j, k < j → j < field pkt 2 2 → field pkt (32 + 8 * j) 4 % 16 ≠ field pkt (32 + 8 * k) 4 % 16) →
          t.membership.credit.get? (creditKey m (field pkt (32 + 8 * k) 4 % 16)) =
            some (field pkt (36 + 8 * k) 4, field pkt (36 + 8 * k) 4))) ∧
    (field pkt 0 1 = 0x36 → mgmtOk pkt 32 [(2, 2), (16, 16)] = true →
      (¬mine → exec (.creditReturn r p pkt) s = .next e) ∧
      (mine → Answers (.creditReturn r p pkt) s fun t => Frame [.membership] e t ∧
        let key := creditKey m (field pkt 6 1 % 16)
        let a := (s.membership.credit.get? key).getD (0, 0)
        t.membership.credit.get? key = some (min a.2 (a.1 + field pkt 12 4), a.2) ∧
        ∀ c, c ≠ key → t.membership.credit.get? c = s.membership.credit.get? c)))

/-- A link control packet of another KIND changes nothing; one with a bad layout is counted in FLUSH_DROP. SPACE is kept as the latest;
SPACE_SEND queues one from a trained or holding port. IDENT names the peer; this engine's own name with its own UID takes the port down
with reason 5. A PROBE request is answered, a reply in training step 5 raises LINK_PAD. RELAY opens an envelope for this member, drops one
with 63 hops, and forwards others. WIDTH and WIDTH_ACK agree on lanes, the lower proposer standing; WIDTH_SWITCH applies the agreed lanes,
or proposes again. LANE_RETRAIN proposes the lanes that stay; LANE_RETRAIN_DONE restores the lane, or takes it out after two failures.
Calibration counts its frames, keeps the margin and starts or ends stealing. LINK_TRAIN_STEP goes through the six steps, back to step 2 in
full when saved settings fail, to a state by its width, or down with its reason. Where a row does not apply, it changes nothing. It says
where SPACE, SPACE_SEND, IDENT, WIDTH, WIDTH_ACK, WIDTH_SWITCH, PROBE, RELAY, CALIBRATION_FRAME, CALIBRATION_STARVED, LANE_RETRAIN,
LANE_RETRAIN_DONE and LINK_TRAIN_STEP complete. (R34, R368, R370, R371, R372, R380, R382, R384, R385, R386, R388, R389.) -/
def Obligations.LinkControlKeepsWidthAndTraining : Prop :=
  (∀ (s : State) (r : RegionId) (p : PortId) (pkt : Bytes) (now : W64) (i : Instr) (kind : Nat) (zs : List (Nat × Nat)), packetFits pkt = true →
    (i, kind, zs) ∈ [(Instr.space r p pkt, 0x20, [(14, 2), (24, 8)]), (.ident r p pkt, 0x21, [(2, 2), (20, 12)]),
      (.width r p pkt, 0x22, [(2, 2), (11, 21)]), (.widthAck r p pkt, 0x23, [(2, 2), (11, 21)]),
      (.probe r p pkt now, 0x24, [(2, 2), (5, 3), (28, 4)])] →
    (field pkt 0 1 ≠ kind → exec i s = .next s) ∧
    (field pkt 0 1 = kind → layoutOk pkt zs = false → Answers i s fun t => Frame [.regs, .sameTc] s t ∧
      RegsKept s t (· = pgInlet r.val p.val + Fld.FLUSH_DROP_COUNT.off) ∧ Counts s t (pgInlet r.val p.val) Fld.FLUSH_DROP_COUNT 1)) ∧
  (∀ (s : State) (r : RegionId) (p : PortId) (pkt : Bytes) (now : W64), packetFits pkt = true →
    let pg := pgLink r.val p.val
    let l := s.link r.val p.val
    let only (t : State) (m : Link) := Frame [.links] s t ∧ t.link r.val p.val = m ∧ ∀ q n, (q, n) ≠ (r.val, p.val) → t.link q n = s.link q n
    let lanes := bits (field pkt 4 1) 3 0
    let sw := field pkt 6 2 % 4096
    let member := bits (field pkt 8 2) 9 0
    let place := field pkt 10 1
    let ack (n : Nat) : Packet := ⟨3, 0, widthPacket 0x23 n (field pkt 5 1) sw member (bits place 2 0) (bits place 4 3)⟩
    (field pkt 0 1 = 0x20 → layoutOk pkt [(14, 2), (24, 8)] = true → Answers (.space r p pkt) s fun t => only t { l with
      space := some (field pkt 4 4, field pkt 8 4, field pkt 12 2, field pkt 16 4, field pkt 20 4) }) ∧
    (field pkt 0 1 = 0x21 → layoutOk pkt [(2, 2), (20, 12)] = true →
      (bits (field pkt 4 2) 9 0 ≠ s.self → Answers (.ident r p pkt) s fun t => Frame [.regs] s t ∧
        t.peerOf r.val p.val = some (bits (field pkt 4 2) 9 0)) ∧
      (bits (field pkt 4 2) 9 0 = s.self → field pkt 8 8 = s.getF pgMembership Fld.MEMB_UID_UID → Answers (.ident r p pkt) s fun t =>
        t.linkState r.val p.val = 0 ∧ t.getF pg Fld.LINK_STATE_REASON = 5) ∧
      (bits (field pkt 4 2) 9 0 = s.self → s.getF pgMembership Fld.MEMB_UID_UID < field pkt 8 8 → Answers (.ident r p pkt) s fun t =>
        Frame [.regs] s t) ∧
      (bits (field pkt 4 2) 9 0 = s.self → field pkt 8 8 < s.getF pgMembership Fld.MEMB_UID_UID → Answers (.ident r p pkt) s fun t =>
        t.getF pgMembership Fld.MEMB_STATE_DUP_ID = 1 ∧ t.membership.members = [s.self] ∧ t.membership.gateways = [])) ∧
    (field pkt 0 1 = 0x22 → layoutOk pkt [(2, 2), (11, 21)] = true →
      let mine := ∃ w, l.width = some w ∧ w.own = true ∧ w.agreed = false
      let lower := s.self * 32 + r.val * 4 + p.val < member * 32 + bits place 2 0 * 4 + bits place 4 3
      (seqPassed sw l.expect = true → exec (.width r p pkt) s = .next s) ∧
      (seqPassed sw l.expect = false → ¬mine → Answers (.width r p pkt) s fun t =>
        only t { l with width := some ⟨lanes, sw, false, true⟩, queue := l.queue ++ [ack lanes] }) ∧
      (seqPassed sw l.expect = false → mine → lower → exec (.width r p pkt) s = .next s) ∧
      (∀ w, seqPassed sw l.expect = false → mine → ¬lower → l.width = some w → Answers (.width r p pkt) s fun t =>
        only t { l with width := some ⟨Nat.land w.lanes lanes, sw, false, true⟩, queue := l.queue ++ [ack (Nat.land w.lanes lanes)] })) ∧
    (field pkt 0 1 = 0x23 → layoutOk pkt [(2, 2), (11, 21)] = true →
      let ours := ∃ w, l.width = some w ∧ w.own = true ∧ field pkt 5 1 = l.widthSeq
      (¬ours → exec (.widthAck r p pkt) s = .next s) ∧
      (∀ w, ours → l.width = some w → Answers (.widthAck r p pkt) s fun t =>
        only t { l with width := some { w with lanes := lanes, agreed := true } })) ∧
    (field pkt 0 1 = 0x24 → layoutOk pkt [(2, 2), (5, 3), (28, 4)] = true →
      let request := bitAt (field pkt 4 1) 0 = false
      let measures := l.step = 5 ∧ l.probes < 8
      (request → Answers (.probe r p pkt now) s fun t => only t { l with
        queue := l.queue ++ [⟨3, 0, build 32 [(0, 1, 0x24), (4, 1, 1), (8, 8, now.toNat), (16, 8, field pkt 8 8)]⟩] }) ∧
      (¬request → ¬measures → exec (.probe r p pkt now) s = .next s) ∧
      (¬request → measures → Answers (.probe r p pkt now) s fun t => Frame [.regs, .links] s t ∧
        t.link r.val p.val = { l with probes := l.probes + 1 } ∧ RegsKept s t (· = pg + Fld.LINK_CFG_LINK_PAD.off) ∧
        t.getF pg Fld.LINK_CFG_LINK_PAD = max (if l.probes = 0 ∧ l.full = true then 0 else s.getF pg Fld.LINK_CFG_LINK_PAD)
          (min (now.toNat - field pkt 16 8 - field pkt 24 4) 511))) ∧
    (field pkt 0 1 ≠ 0x2F → exec (.relay r p pkt) s = .next s) ∧
    (field pkt 0 1 = 0x2F →
      let w := field pkt 0 8
      let bad := pkt.length ≤ 64 ∨ bits w 63 36 ≠ 0 ∨ zeroAt pkt 8 56 = false
      (bad → Answers (.relay r p pkt) s fun t => Frame [.regs, .sameTc] s t ∧ Counts s t (pgInlet r.val p.val) Fld.FLUSH_DROP_COUNT 1) ∧
      (¬bad → bits w 19 10 = s.self → exec (.relay r p pkt) s = .next (s.commitPacket r.val p.val ⟨bits w 9 8, 0, pkt.drop 64⟩)) ∧
      (¬bad → bits w 19 10 ≠ s.self → bits w 35 30 = 63 → Answers (.relay r p pkt) s fun t => Frame [.regs, .sameTc] s t ∧
        Counts s t pg Fld.RETRY_COUNT_RELAY_DROP 1) ∧
      (∀ q n, ¬bad → bits w 19 10 ≠ s.self → bits w 35 30 ≠ 63 → s.gatewayTo (bits w 19 10) = some (q, n) →
        Answers (.relay r p pkt) s fun t => Frame [.links] s t ∧ (t.link q n).queue = (s.link q n).queue ++
          [⟨bits w 9 8, 0, relayEnvelope (bits w 9 8) (bits w 19 10) (bits w 29 20) (bits w 35 30 + 1) (pkt.drop 64)⟩]) ∧
      (¬bad → bits w 19 10 ≠ s.self → bits w 35 30 ≠ 63 → Answers (.relay r p pkt) s fun t => Frame [.links] s t))) ∧
  (∀ (s : State) (r : RegionId) (p : PortId),
    let pg := pgLink r.val p.val
    let l := s.link r.val p.val
    let tells (t : State) := bitAt (t.getF (pgIntr + 8) Fld.PENDING) (8 + r.val) = true
    let proposes (t : State) (n : Nat) := (t.link r.val p.val).width = some ⟨n, (l.nextSeq + 32) % 4096, true, false⟩ ∧
      ∃ k, (t.link r.val p.val).queue = l.queue ++ [k] ∧ k.cls = 3
    (s.trained r.val p.val = false → s.linkState r.val p.val ≠ 5 → exec (.spaceSend r p) s = .next s) ∧
    (s.trained r.val p.val = true ∨ s.linkState r.val p.val = 5 → Answers (.spaceSend r p) s fun t => Frame [.links] s t ∧
      t.link r.val p.val = { l with queue := l.queue ++ [⟨3, 0, s.spacePacket r.val p.val⟩], spaceSeq := (l.spaceSeq + 1) % 65536 }) ∧
    (l.width = none → exec (.widthSwitch r p) s = .next s) ∧
    (∀ w, l.width = some w → w.agreed = false → Answers (.widthSwitch r p) s fun t => Frame [.links] s t ∧ proposes t w.lanes) ∧
    (∀ w, l.width = some w → w.agreed = true → Answers (.widthSwitch r p) s fun t => (t.link r.val p.val).width = none ∧
      t.getF pg Fld.LINK_STATE_LANES = bits w.lanes 3 0 ∧ t.getF pg Fld.LINK_STATE_WIDTH = popcount w.lanes 4 ∧
      (s.linkState r.val p.val ≠ 5 ∨ popcount w.lanes 4 = 0 →
        t.linkState r.val p.val = stateOfWidth (popcount w.lanes 4) (s.minWidth r.val p.val)) ∧ tells t) ∧
    (∀ margin : Byte, let gap := s.trained r.val p.val = true ∧ ∀ k ∈ l.queue, 3 ≤ k.cls
      let lane := scanLane (s.getF pg Fld.LINK_STATE_LANES) l.nextScan
      (¬gap → exec (.calibrationFrame r p margin) s = .next s) ∧
      (gap → Answers (.calibrationFrame r p margin) s fun t => Frame [.regs, .sameTc, .links, .view] s t ∧
        Counts s t pg Fld.CAL_STATE_CAL_FRAMES 1 ∧ t.getF pg Fld.CAL_STATE_STEALING = 0 ∧
        t.getF (pg + 8 * lane) Fld.LANE_EQ_MARGIN = margin.toNat ∧ t.link r.val p.val = { l with nextScan := (lane + 1) % 4, steal := 0 })) ∧
    (let starves := s.trained r.val p.val = true ∧ s.getF pg Fld.CAL_STATE_STEALING ≠ 1;
      (¬starves → exec (.calibrationStarved r p) s = .next s) ∧
      (starves → Answers (.calibrationStarved r p) s fun t => Frame [.regs, .sameTc, .links, .view] s t ∧ Counts s t pg Fld.CAL_STATE_CAL_FRAMES 1 ∧
        t.getF pg Fld.CAL_STATE_STEALING = 1 ∧ tells t)) ∧
    (∀ (lane : Fin 4) (cause : RetrainCause),
      let kept := s.keptLanes r.val p.val
      let due := s.trained r.val p.val = true ∧ bitAt kept lane.val = true ∧
        (cause = .margin → s.getF (pg + 8 * lane.val) Fld.LANE_EQ_MARGIN < s.getF pg Fld.LINK_CFG_MARGIN_MIN)
      (¬due → exec (.laneRetrain r p lane cause) s = .next s) ∧
      (due → kept ≠ 2 ^ lane.val → Answers (.laneRetrain r p lane cause) s fun t => proposes t (kept - 2 ^ lane.val) ∧
        (t.link r.val p.val).retraining = l.retraining ++ [lane.val] ∧ tells t) ∧
      (due → kept = 2 ^ lane.val → Answers (.laneRetrain r p lane cause) s fun t => t.linkState r.val p.val = 0 ∧
        t.getF pg Fld.LINK_STATE_LANES = 0 ∧ (t.link r.val p.val).retraining = l.retraining ++ [lane.val] ∧ tells t)) ∧
    (∀ (lane : Fin 4) (pass : Bool),
      let going := lane.val ∈ l.retraining
      let failed := l.failures.getD lane.val 0
      (¬going → exec (.laneRetrainDone r p lane pass) s = .next s) ∧
      (going → pass = true → s.trained r.val p.val = true ∨ s.linkState r.val p.val = 5 → Answers (.laneRetrainDone r p lane pass) s fun t =>
        proposes t (Nat.lor (s.keptLanes r.val p.val) (2 ^ lane.val)) ∧
        (t.link r.val p.val).retraining = l.retraining.filter (· != lane.val)) ∧
      (going → pass = true → s.trained r.val p.val = false → s.linkState r.val p.val ≠ 5 → Answers (.laneRetrainDone r p lane pass) s fun t =>
        t.getF pg Fld.LINK_STATE_LANES = bits (Nat.lor (s.keptLanes r.val p.val) (2 ^ lane.val)) 3 0) ∧
      (going → pass = false → failed = 0 → Answers (.laneRetrainDone r p lane pass) s fun t => Frame [.regs, .sameTc, .links] s t ∧
        t.link r.val p.val = { l with failures := l.failures.set lane.val 1 } ∧ tells t) ∧
      (going → pass = false → failed ≠ 0 → Answers (.laneRetrainDone r p lane pass) s fun t =>
        (t.link r.val p.val).retraining = l.retraining.filter (· != lane.val) ∧
        (s.keptLanes r.val p.val = 0 → l.retraining.length = 1 → t.linkState r.val p.val = 0 ∧ t.getF pg Fld.LINK_STATE_REASON = 4)))) ∧
  (∀ (s : State) (r : RegionId) (p : PortId) (res : LinkTrainResult), lanesFit res = true →
    let pg := pgLink r.val p.val
    let l := s.link r.val p.val
    let i := Instr.linkTrainStep r p res
    let trains := s.linkState r.val p.val = 1
    let down (n : Nat) := Answers i s fun t => t.linkState r.val p.val = 0 ∧ t.getF pg Fld.LINK_STATE_REASON = n ∧ (t.link r.val p.val).step = 0
    let goes (n : Nat) := Answers i s fun t => Frame [.regs, .links] s t ∧ t.link r.val p.val = { l with step := n } ∧
      ∀ k (h : k < res.eq.length), k < 4 → n ≠ 2 → t.reg (pg + 0x100 + 8 * k) = (res.eq[k]).toNat
    let again := Answers i s fun t => Frame [.regs, .links] s t ∧ t.link r.val p.val = { l with full := true, step := 2 }
    let bad := res.savedBad = true ∧ l.full = false
    (¬trains → exec i s = .next s) ∧
    (trains → l.step = 1 → (res.lanes = 0 → down 1) ∧ (res.lanes ≠ 0 → res.boreno = false → down 2) ∧
      (res.lanes ≠ 0 → res.boreno = true → goes 2)) ∧
    (trains → l.step = 2 → goes 3) ∧ (trains → l.step = 3 → (bad → again) ∧ (¬bad → goes 4)) ∧
    (trains → l.step = 4 → (res.lanes = 0 → down 3) ∧ (res.lanes ≠ 0 → Answers i s fun t => Frame [.regs, .links, .freeCtr] s t ∧
      t.getF pg Fld.LINK_STATE_LANES = res.lanes.toNat ∧ t.freeCtr = s.freeCtr + 8 ∧
      ∃ ks, ks.length = 10 ∧ t.link r.val p.val = { l with queue := l.queue ++ ks, step := 5, probes := 0 })) ∧
    (trains → l.step = 5 → goes 6 ∧ Answers i s fun t => t.getF pg Fld.LINK_CFG_LINK_PAD =
      if l.full then res.pad.toNat else max (s.getF pg Fld.LINK_CFG_LINK_PAD) res.pad.toNat) ∧
    (trains → l.step = 6 → (bad → again) ∧ (¬bad → res.lanes = 0 → down 3) ∧ (¬bad → res.lanes ≠ 0 → Answers i s fun t =>
      (t.link r.val p.val).step = 0 ∧ t.getF pg Fld.LINK_STATE_LANES = res.lanes.toNat ∧
      t.linkState r.val p.val = stateOfWidth (popcount res.lanes.toNat 4) (s.minWidth r.val p.val))))

/-- A flit of an edge that is not up changes nothing; a bad CRC is counted and owes a NAK; a good one out of order owes a NAK; the next
one expected advances the edge and goes on: to another region's edge, into a new transfer, or into the open one. EDGE_ISOLATE isolates the
edge on a lost clock or too many resends, after what has been released has landed, and cuts transfers that are not whole;
EDGE_RETRAIN_DONE and EDGE_TRAIN_STEP bring an edge back or through its steps. A memory read's good answer lands its bytes and frees its
slot; an error response is counted, marks the bytes and the bank that it was for and, below 16 in 1 ms, isolates nothing; an answer
without a request is an ERR_STATUS bit. MEMORY_CREDIT lets the oldest waiting request leave or adds a credit up to 64. An output tile of
the running set commits its rows while no row's timeout has passed; one of no set is counted. An external block in order commits no sooner
than its release and the next is released a block time later; another halts the plate with EXT_TILE_ORDER, and one past the deadline finds
it halted. EW_DESCRIPTOR_TAKEN takes the oldest descriptor; ER_READ answers units of a basin, or an error with zero data. It says where
EDGE_TRAIN_STEP, EDGE_FLIT_RECEIVE, EDGE_ISOLATE, EDGE_RETRAIN_DONE, MEMORY_READ_ANSWER, MEMORY_WRITE_ANSWER, MEMORY_CREDIT,
EXPERT_OUTPUT_TILE, EXT_SCORE_BLOCK, EW_DESCRIPTOR_TAKEN and ER_READ complete. (R87, R88, R134, R150, R285, R377, R379, R381, R445, R455,
R457, R459.) -/
def Obligations.EdgesAndMemoryPortsTakeAnswers : Prop :=
  (∀ (s : State) (r : RegionId) (e : EdgeId) (ctl : W64) (data : Bytes), flitFits data = true →
    let i := Instr.edgeFlitReceive r e ctl data
    let d := s.edge r.val e.val
    let w := ctl.toNat
    let good := s.edgeUp r.val e.val = true ∧ crc32c (leBytes 4 (w % 2 ^ 32) ++ fit 256 data) = ftCrc w
    (s.edgeUp r.val e.val = false → exec i s = .next s) ∧
    (s.edgeUp r.val e.val = true → ¬good → Answers i s fun t => Frame [.regs, .sameTc, .edges, .view] s t ∧
      t.edge r.val e.val = { d with nakOwed := true } ∧ Counts s t (pgEdge r.val e.val) Fld.EDGE_COUNT_CRC_FAIL 1) ∧
    (good → bitAt w 0 = false → Answers i s fun t => Frame [.regs, .sameTc, .edges, .view] s t ∧ (t.edge r.val e.val).expect = d.expect) ∧
    (good → bitAt w 0 = true → ftSeq w ≠ d.expect → Answers i s fun t => Frame [.regs, .sameTc, .edges, .view] s t ∧
      (t.edge r.val e.val).expect = d.expect ∧ (t.edge r.val e.val).nakOwed = true) ∧
    (good → bitAt w 0 = true → ftSeq w = d.expect → Answers i s fun t => ∃ u : State, Frame [.regs, .sameTc, .edges, .view] s u ∧
      (u.edge r.val e.val).expect = (d.expect + 1) % 4096 ∧ (u.edge r.val e.val).nakOwed = false ∧
      (ftDest w ≠ r.val → Frame [.regs, .sameTc, .edges, .view] u t) ∧
      (ftDest w = r.val → bitAt w 3 = true → Frame [.edges, .transfers] u t ∧ ∃ n, (t.edge r.val e.val).opening =
        (ftCls w, fit 256 data, n) :: (u.edge r.val e.val).opening) ∧
      (ftDest w = r.val → bitAt w 3 = false → t = u.landFlit r.val e.val (ftCls w) data))) ∧
  (∀ (s : State) (r : RegionId) (e : EdgeId) (clockLoss : Bool),
    let many := s.getF (pgEdge r.val e.val) Fld.EDGE_CFG_RETRY_LIMIT <
      ((s.edge r.val e.val).resends.filter fun t => decide (s.time < t + 1000000)).length
    let due := s.edgeUp r.val e.val = true ∧ (clockLoss = true ∨ many)
    (¬due → exec (.edgeIsolate r e clockLoss) s = .next s) ∧
    let s0 := (List.range 8).foldl (fun v q => v.landReleased q) s
    (due → Answers (.edgeIsolate r e clockLoss) s fun t => ∃ u : State, t = u.settleAll ∧
      Frame [.fabric, .store, .poison, .transfers] s s0 ∧ Frame [.regs, .sameTc, .edges, .transfers, .view] s0 u ∧
      u.getF (pgEdge r.val e.val) Fld.EDGE_STATE_STATE = 6 ∧ u.edge r.val e.val = { Edge.reset with retraining := true } ∧
      ∀ (q k : Nat) (x y : Transfer), (s0.region q).transfers[k]? = some x → (u.region q).transfers[k]? = some y →
        y = x ∨ (y = { x with cut := true } ∧ x.bytes.length < 64 + x.count * x.itemBytes))) ∧
  (∀ (s : State) (r : RegionId) (e : EdgeId) (pass : Bool) (res : EdgeTrainResult),
    let d := s.edge r.val e.val
    let pg := pgEdge r.val e.val
    let i := Instr.edgeTrainStep r e res
    let trains := s.getF pg Fld.EDGE_STATE_STATE = 1
    let lat := if d.full then declaredBudget 64 256 res.latency.toNat else min 256 (max (s.latEdge r.val e.val) res.latency.toNat)
    (d.retraining = false ∨ pass = false → exec (.edgeRetrainDone r e pass) s = .next s) ∧
    (d.retraining = true → pass = true → Answers (.edgeRetrainDone r e pass) s fun t => ∃ u : State, t = u.returnEdges ∧ Frame [.edges] s u ∧
      u.edge r.val e.val = { d with retraining := false, retrained := true }) ∧
    (¬trains → exec i s = .next s) ∧
    (trains → d.step < 5 → Answers i s fun t => Frame [.regs, .edges] s t ∧ t.edge r.val e.val = { d with step := d.step + 1 } ∧
      (d.step = 4 → t.getF pg Fld.EDGE_STATE_PEER_VALID = 1 ∧ t.getF pg Fld.EDGE_STATE_PEER_REGION = res.peer.val)) ∧
    (trains → 5 ≤ d.step → Answers i s fun t => Frame [.regs, .sameTc, .edges, .bringUp, .view] s t ∧ t.edge r.val e.val = Edge.reset ∧
      t.getF pg Fld.EDGE_STATE_STATE = edgeStateOf res.mod0.toNat res.mod1.toNat ∧ t.latEdge r.val e.val = lat ∧
      t.getF pg Fld.EDGE_CFG_LAT_EDGE = lat % 512)) ∧
  (∀ (s : State) (r : RegionId) (m : MemPortId) (tag : BitVec 10) (data : BitVec 512) (fail : Bool) (chk : Byte), s.WF →
    let i := Instr.memoryReadAnswer r m tag data fail chk
    let j := Instr.memoryWriteAnswer r m tag fail
    let p := s.memPort r.val m.val
    let recent := ((p.errors.filter fun t => decide (s.time < t + 1000000)) ++ [s.time]).length
    let slots := s.memSlots r.val
    let stray (t : State) := Frame [.regs, .sameTc, .view] s t ∧ bitAt (t.getF (pgMem r.val m.val) Fld.ERR_STATUS_STATUS) 2 = true
    (r.val ∉ s.live → exec i s = .next s ∧ exec j s = .next s) ∧
    (r.val ∈ s.live → p.outstanding false tag.toNat = none → Answers i s stray) ∧
    (r.val ∈ s.live → p.outstanding true tag.toNat = none → Answers j s stray) ∧
    (∀ x, r.val ∈ s.live → p.outstanding false tag.toNat = some x →
      (fail = false → chkBad data.toNat chk.toNat = false → Answers i s fun t => Frame [.memPorts, .store, .poison] s t ∧
        t.memPort r.val m.val = (p.freed false tag.toNat).fill slots ∧ (∀ q, q ≠ r.val → (t.region q).store = (s.region q).store) ∧
        (∀ b k, x.keep.head? = some b → k < x.keep.length → b + k < 64 →
          (t.region r.val).store.byte ((x.dest + (b : Int)).toNat + k) = (leBytes 64 data.toNat).getD (b + k) 0) ∧
        ∀ a, (∀ b, x.keep.head? = some b → a < (x.dest + (b : Int)).toNat ∨ (x.dest + (b : Int)).toNat + x.keep.length ≤ a) →
          (t.region r.val).store.byte a = (s.region r.val).store.byte a) ∧
      (fail = true ∨ chkBad data.toNat chk.toNat = true → recent < 16 → Answers i s fun t =>
        Frame [.regs, .sameTc, .memPorts, .ctxs, .store, .poison, .view] s t ∧
        (t.memPort r.val m.val).txs = ((p.freed false tag.toNat).fill slots).txs ∧
        Counts s t (pgMem r.val m.val) Fld.MP_RESP_READ_ERRORS 1 ∧
        (∀ c k b, x.bank = some (c, k) → (s.ctx c).banks.get? k = some b → (t.ctx c).banks.get? k = some { b with poison := true }) ∧
        ∀ b ∈ x.keep, (x.dest + (b : Int)).toNat / 64 ∈ (t.region r.val).poison)) ∧
    (∀ x, r.val ∈ s.live → p.outstanding true tag.toNat = some x →
      (fail = false → Answers j s fun t => Frame [.memPorts] s t ∧ t.memPort r.val m.val = (p.freed true tag.toNat).fill slots) ∧
      (fail = true → recent < 16 → Answers j s fun t => Frame [.regs, .sameTc, .memPorts, .view] s t ∧
        (t.memPort r.val m.val).txs = ((p.freed true tag.toNat).fill slots).txs ∧ Counts s t (pgMem r.val m.val) Fld.MP_RESP_WRITE_ERRORS 1)) ∧
    (∀ write : Bool, Answers (.memoryCredit r m write) s fun t => Frame [.memPorts] s t ∧
      let u := t.memPort r.val m.val
      ((∀ x ∈ p.txs, x.write = write → x.sent = true) → u = if write then { p with wrCredit := min 64 (p.wrCredit + 1) }
        else { p with rdCredit := min 64 (p.rdCredit + 1) }) ∧
      (∀ x, p.txs.find? (fun x => x.write == write && !x.sent) = some x → u.rdCredit = p.rdCredit ∧ u.wrCredit = p.wrCredit ∧
        u.txs.length = p.txs.length ∧ { x with sent := true } ∈ u.txs))) ∧
  (∀ (s : State) (r : RegionId) (tag : W64) (units : Bytes) (par : TilePar), s.WF → tileFits units = true →
    let i := Instr.expertOutputTile r tag units par
    let j := Instr.extScoreBlock r tag units par
    let w := tag.toNat
    let wid := bits w 63 32
    let row0 := bits w 31 16
    let rows := bits w 15 8 + 1
    let sets := s.runs.find? fun x => x.started && x.cmd.seq.toNat % 2 ^ 21 == wid / 2 ^ 11 && (x.regions.get? r.val).isSome
    let bad (t : State) := Frame [.regs, .sameTc, .view] s t ∧ bitAt (t.getF (pgTile r.val) Fld.ERR_STATUS_STATUS) 0 = true ∧
      Counts s t (pgCombine r.val) Fld.STRAY_COUNT_COUNT 1
    (r.val ∉ s.live → exec i s = .next s ∧ exec j s = .next s) ∧
    (r.val ∈ s.live → par.tagBad = true ∨ 2 ≤ w % 16 → Answers i s bad) ∧ (r.val ∈ s.live → par.tagBad = true ∨ 2 ≤ w % 16 → Answers j s bad) ∧
    (par.tagBad = false → w % 16 = 1 → exec i s = .next s) ∧ (par.tagBad = false → w % 16 = 0 → exec j s = .next s) ∧
    (r.val ∈ s.live → par.tagBad = false → w % 16 = 0 → sets = none → Answers i s fun t => Frame [.regs, .sameTc] s t ∧
      Counts s t (pgCombine r.val) Fld.STRAY_COUNT_COUNT 1) ∧
    (∀ x g k ho, r.val ∈ s.live → par.tagBad = false → w % 16 = 0 → sets = some x → s.run? x.cmd.seq = some x →
      x.regions.get? r.val = some g → g.works.get? wid = some k → g.handOvers.get? k.reg = some ho →
      let list := x.cmd.list
      let room := landRoom list ho.router
      let d := descAt list ((combineEntry list ho.router).getD 0)
      let off (n : Nat) := (ho.sigma.getD k.local_ []).getD (row0 + n) 0 * room
      (∀ c, s.tileDeadline r.val g = some c → (s.region r.val).tc ≤ c) → row0 + rows ≤ k.count → (∀ n, n < rows → row0 + n ∉ k.done) → bits w 7 4 = combineElem list ho.router →
      rows * room ≤ units.length → (∀ n, n < rows → off n + room ≤ dsSpan d) →
      Answers i s fun t => ∃ u : State, t = u.settleTerms x.cmd.seq r.val ∧ Frame [.regs, .sameTc, .fabric, .runs, .store, .poison, .beats] s u ∧
        ((u.partOf x.cmd.seq r.val).bind fun p => p.works.get? wid) = some { k with done := k.done ++ (List.range rows).map (row0 + ·) } ∧
        MemoryKeptBut x.cmd.windows r.val ((List.range rows).map fun n => (dsBase d + off n, room)) s u) ∧
    (r.val ∈ s.live → par.tagBad = false → w % 16 = 1 → s.extOp r.val = none → exec j s = .next s) ∧
    (∀ x g b, r.val ∈ s.live → par.tagBad = false → w % 16 = 1 → s.extOp r.val = some (x, g, b) →
      let o := RegionRun.asOp x r.val g b
      let P := max (passesOf o.rt o.o.shape) 1
      let q := g.ext.blocks % P
      let next := w = extTag (g.ext.blocks / P) q (o.o.router + q / max (rtPasses o.rt) 1) ∧ units.length = 1024 * shapeRows o.o.shape
      let tc := max b.issue (s.region r.val).tc
      let c := max tc g.ext.release
      let by_ (n : Nat) := ∀ d, b.due = some d → n ≤ d
      (next → by_ c → s.run? x.cmd.seq = some x → Answers j s fun t =>
        Frame (Part.cycles ++ [.fabric, .runs, .store, .poison, .transfers, .stallEnd]) s t ∧
        (t.partOf x.cmd.seq r.val).map (·.ext.blocks) = some (g.ext.blocks + 1) ∧
        (t.partOf x.cmd.seq r.val).map (·.ext.release) = some (c + blockTime o.o.shape) ∧
        Counts s t (pgTile r.val) Fld.TP_COUNT_EXT_BLOCKS 1 ∧
        MemoryKeptBut x.cmd.windows r.val [o.span (o.o.desc + 1) (logitBlock * g.ext.blocks) units.length] s t) ∧
      (¬next → by_ tc → Answers j s fun t => t = (s.contain (pgTile r.val) 1).stopOp x.cmd.seq r.val b o.o stExtTileOrder tc) ∧
      (¬by_ tc ∨ next ∧ ¬by_ c → Answers j s fun t => t = s.extLate x.cmd.seq r.val g b))) ∧
  (∀ (s : State) (r : RegionId) (h : W32) (off : BitVec 12) (n : BitVec 6) (id : BitVec 6),
    let q := (s.region r.val).workQueue
    let count := 64 * (n.toNat + 1)
    let i := Instr.erRead r h off n id
    (q = [] → exec (.ewDescriptorTaken r) s = .next s) ∧
    (q ≠ [] → Answers (.ewDescriptorTaken r) s fun t => Frame (Part.cycles ++ [.runs, .transfers, .workQueue, .heldFrom, .stallEnd]) s t ∧
      (t.region r.val).workQueue = q.drop 1 ∧ ((s.region r.val).heldFrom = none → Frame [.regs, .sameTc, .workQueue] s t)) ∧
    (∀ c bs, s.handleOwner r.val h.toNat = some c → 64 * off.toNat + count ≤ basinSize (hSize h.toNat) →
      s.basinRead (s.ctx c).windows c h.toNat (64 * off.toNat) count = some bs → Answers i s fun t => Frame [.regs, .sameTc, .erAnswers] s t ∧
        (t.region r.val).erAnswers = (s.region r.val).erAnswers ++ [(id.toNat, false, bs)] ∧ Counts s t (pgWork r.val) Fld.WP_COUNT_READS 1) ∧
    (s.handleOwner r.val h.toNat = none ∨ basinSize (hSize h.toNat) < 64 * off.toNat + count → Answers i s fun t =>
      Frame [.regs, .sameTc, .erAnswers, .view] s t ∧ (t.region r.val).erAnswers = (s.region r.val).erAnswers ++ [(id.toNat, true, zeros 64)] ∧
      Counts s t (pgBasin r.val) Fld.BAD_HANDLE_COUNT 1))

/-- A membership packet of another KIND changes nothing; one with a bad layout is counted in FLUSH_DROP. A fresh ANNOUNCE makes its origin
reachable and goes on by the other ports; ANNOUNCE_SEND puts one announcement with the next sequence number on every trained port;
MEMBER_UNREACHABLE forgets a member. BOUNDARY_START of the lowest member, where one was asked for or the reachable set has changed,
proposes that set. An engine whose member ID another holds takes no proposal; one of a higher coordinator than that followed is ignored;
fragments of the one followed are kept; a whole
one that names this member is PROPOSED here. A member accepts only once nothing in flight crosses members. ACCEPT and HOLDING act only at
the proposal's coordinator and for its proposal. Once every listed member has accepted, the coordinator installs the epoch 1 above the
largest accepted; COMMIT installs its epoch at a member that has accepted. The watchdog makes a coordinator propose without the silent
member, and an acceptor return to the old epoch. It says where ANNOUNCE, ANNOUNCE_SEND, MEMBER_UNREACHABLE, BOUNDARY_START, PROPOSE,
ACCEPT, HOLDING, HOLDING_SEND, COMMIT and MEMBERSHIP_WATCHDOG complete. (R371, R373, R391, R392, R393, R394.) -/
def Obligations.MembershipBoundaryAgreesAndCommits : Prop :=
  (∀ (s : State) (r : RegionId) (p : PortId) (pkt : Bytes) (i : Instr) (kind : Nat) (ok : Bool), packetFits pkt = true →
    (i, kind, ok) ∈ [(Instr.announce r p pkt, 0x30, announceOk pkt), (.propose r p pkt, 0x31, proposeOk pkt),
      (.accept r p pkt, 0x32, mgmtOk pkt 32 [(2, 2), (24, 8)]), (.holding r p pkt, 0x33, mgmtOk pkt 32 [(2, 2), (26, 6)]),
      (.commit r p pkt, 0x34, mgmtOk pkt 32 [(2, 4), (24, 8)])] →
    (field pkt 0 1 ≠ kind → exec i s = .next s) ∧
    (field pkt 0 1 = kind → ok = false → Answers i s fun t => Frame [.regs, .sameTc, .inlets] s t ∧
      Counts s t (pgInlet r.val p.val) Fld.FLUSH_DROP_COUNT 1)) ∧
  (∀ (s : State) (r : RegionId) (p : PortId) (pkt : Bytes), packetFits pkt = true →
    let e := s.takeMgmt r.val p.val pkt
    let m := s.membership
    let o := field pkt 4 2 % 1024
    let c := field pkt 6 2 % 1024
    let seq := field pkt 20 4
    let part := pkt.drop 32
    let got : Proposal := ⟨c, field pkt 8 4, field pkt 12 4, field pkt 4 2, field pkt 16 8, [(field pkt 2 2, part)]⟩
    Frame [.inlets] s e ∧
    (field pkt 0 1 = 0x30 → announceOk pkt = true → s.getF pgMembership Fld.MEMB_STATE_DUP_ID ≠ 1 → o ≠ s.self →
      (m.seen.get? o = none ∨ (∃ x, m.seen.get? o = some x ∧ x.1 ≠ field pkt 8 8) → Answers (.announce r p pkt) s fun t =>
        Frame [.membership, .links] e t ∧ o ∈ t.membership.reachable ∧ (∀ k ∈ m.reachable, k ∈ t.membership.reachable) ∧
        (∀ q n, s.trained q n = true → q ∈ s.live → n < 4 → (q, n) ≠ (r.val, p.val) →
          (t.link q n).queue = (s.link q n).queue ++ [⟨3, 0, pkt⟩]) ∧ (t.link r.val p.val).queue = (s.link r.val p.val).queue) ∧
      (∀ x, m.seen.get? o = some x → x.1 = field pkt 8 8 → x.2.2.1 = seq → exec (.announce r p pkt) s = .next e)) ∧
    (field pkt 0 1 = 0x31 → proposeOk pkt = true → s.getF pgMembership Fld.MEMB_STATE_DUP_ID = 1 → exec (.propose r p pkt) s = .next e) ∧
    (field pkt 0 1 = 0x31 → proposeOk pkt = true → s.getF pgMembership Fld.MEMB_STATE_DUP_ID ≠ 1 →
      (∀ x, m.proposal = some x → x.coordinator < c → exec (.propose r p pkt) s = .next e) ∧
      (m.proposal = none → field pkt 4 2 ≠ 1 → Answers (.propose r p pkt) s fun t => Frame [.membership] e t ∧
        t.membership = { m with proposal := some got, phase := 0 }) ∧
      (m.proposal = none → field pkt 4 2 = 1 → crc64 part = field pkt 16 8 → bitAt (leNat part) s.self = true → s.self < 1024 →
        Answers (.propose r p pkt) s fun t => ∃ u : State, t = u.tryAccept ∧ Frame [.membership] e u ∧
          u.membership = { m with proposal := some got, phase := 1, requested := false }) ∧
      (∀ x, m.proposal = some x → x.coordinator = c → x.seq = field pkt 8 4 → x.crc = field pkt 16 8 →
        let y : Proposal := { x with parts := x.parts.set (field pkt 2 2) part }
        y.whole = false → Answers (.propose r p pkt) s fun t => Frame [.membership] e t ∧ t.membership = { m with proposal := some y })) ∧
    (field pkt 0 1 = 0x32 → mgmtOk pkt 32 [(2, 2), (24, 8)] = true →
      let here := s.ofProposal pkt = true ∧ c = s.self
      (¬here → exec (.accept r p pkt) s = .next e) ∧
      (here → Answers (.accept r p pkt) s fun t => ∃ u : State, t = u.tryCommit ∧ Frame [.membership] e u ∧
        u.membership = { m with accepts := m.accepts.set o (field pkt 12 4) })) ∧
    (field pkt 0 1 = 0x33 → mgmtOk pkt 32 [(2, 2), (26, 6)] = true →
      let here := s.ofProposal pkt = true ∧ c = s.self
      (¬here → exec (.holding r p pkt) s = .next e) ∧
      (here → Answers (.holding r p pkt) s fun t => Frame [.membership] e t ∧
        t.membership = { m with holdings := m.holdings.set o (field pkt 24 2) })) ∧
    (field pkt 0 1 = 0x34 → mgmtOk pkt 32 [(2, 4), (24, 8)] = true →
      (s.ofProposal pkt = false ∨ m.phase ≠ 2 → exec (.commit r p pkt) s = .next e) ∧
      (∀ x, m.proposal = some x → s.ofProposal pkt = true → m.phase = 2 → Answers (.commit r p pkt) s fun t =>
        t.membership.epoch = field pkt 12 4 ∧ t.membership.members = x.members ∧ t.membership.phase = 0 ∧
        t.membership.proposal = none ∧ t.membership.credit = []))) ∧
  (∀ (s : State),
    let m := s.membership
    (Answers .announceSend s fun t => Frame [.membership, .links] s t ∧ t.membership = { m with annSeq := (m.annSeq + 1) % 2 ^ 32 } ∧
      ∃ pkt, field pkt 0 1 = 0x30 ∧ field pkt 20 4 = (m.annSeq + 1) % 2 ^ 32 ∧ ∀ q n, (q, n) ∈ s.trainedPorts →
        (t.link q n).queue = (s.link q n).queue ++ [⟨3, 0, pkt⟩]) ∧
    (∀ k : MemberId, Answers (.memberUnreachable k) s fun t => Frame [.membership] s t ∧ k.toNat ∉ t.membership.reachable ∧
      ∀ j, j ≠ k.toNat → (j ∈ t.membership.reachable ↔ j ∈ m.reachable)) ∧
    (let starts := m.phase = 0 ∧ s.coordinator = s.self ∧ s.getF pgMembership Fld.MEMB_STATE_DUP_ID = 0 ∧
        (m.requested = true ∨ s.component ≠ m.members);
      (¬starts → exec .boundaryStart s = .next s) ∧
      (starts → Answers .boundaryStart s fun t => ∃ (u : State) (x : Proposal), t = u.tryAccept ∧ Frame [.membership, .links] s u ∧
        u.membership.phase = 1 ∧ u.membership.requested = false ∧ u.membership.proposal = some x ∧ x.coordinator = s.self ∧
        x.seq = (m.proposalSeq + 1) % 2 ^ 32 ∧ x.members = s.component ∧ x.whole = true)) ∧
    (∀ x, m.proposal = some x →
      (m.phase ≠ 1 ∨ s.flying ≠ 0 → s.tryAccept = s) ∧
      (m.phase = 1 → s.flying = 0 → x.coordinator ≠ s.self → Frame [.membership, .links] s s.tryAccept ∧ s.tryAccept.membership.phase = 2) ∧
      (m.phase = 1 → s.flying = 0 → x.coordinator = s.self → ∃ u : State, s.tryAccept = u.tryCommit ∧ Frame [.membership] s u ∧
        u.membership.accepts = m.accepts.set s.self m.epoch) ∧
      ((∃ k ∈ x.members, m.accepts.get? k = none) ∨ x.coordinator ≠ s.self ∨ x.whole = false → s.tryCommit = s) ∧
      ((∀ k ∈ x.members, (m.accepts.get? k).isSome = true) → x.coordinator = s.self → x.whole = true →
        s.tryCommit.membership.epoch = (m.accepts.map (·.2)).foldl max 0 + 1 ∧ s.tryCommit.membership.members = x.members ∧
        s.tryCommit.membership.phase = 0 ∧ s.tryCommit.membership.proposal = none)) ∧
    (m.proposal = none ∨ m.phase ≠ 1 → exec .holdingSend s = .next s) ∧
    (∀ x, m.proposal = some x → m.phase = 1 →
      (s.flying = 0 → exec .holdingSend s = .next s.tryAccept) ∧
      (s.flying ≠ 0 → x.coordinator = s.self → exec .holdingSend s = .next s) ∧
      (s.flying ≠ 0 → x.coordinator ≠ s.self → Answers .holdingSend s fun t => Frame [.links] s t ∧
        t = s.sendWide x.coordinator (s.replyPacket 0x33 x s.flying))) ∧
    (∀ k : MemberId,
      (m.proposal = none ∨ m.phase = 0 → exec (.membershipWatchdog k) s = .next s) ∧
      (∀ x, m.proposal = some x → m.phase ≠ 0 → x.coordinator = s.self → k.toNat ∈ x.members → k.toNat ≠ s.self →
        m.accepts.get? k.toNat = none → Answers (.membershipWatchdog k) s fun t => ∃ (u : State) (y : Proposal), t = u.tryAccept ∧
          u.membership.phase = 1 ∧ u.membership.proposal = some y ∧ y.coordinator = s.self ∧ y.members = x.members.filter (· != k.toNat)) ∧
      (∀ x, m.proposal = some x → x.coordinator ≠ s.self → k.toNat = x.coordinator → m.phase = 2 → Answers (.membershipWatchdog k) s fun t =>
        Frame [.regs, .sameTc, .membership, .view] s t ∧ t.membership = { m with phase := 0, proposal := none })))

/-- INTERRUPT_DELIVER of a deliverable source whose group has no hold-off gives it to the lowest enabled target above LAST_TARGET among
its TARGETS, wrapping from 15 to 0: LAST_TARGET becomes that target, PENDING clears, DELIVERED sets, and nothing else changes. Target
masks play no part in the choice: whatever the MASK of any target, the next target is the same, and the source stays delivered to a masked
one. IRQ of a target is driven exactly while a source delivered to it is unclaimed and its MASK is 0. A read of TGT_CLAIM returns the
lowest-numbered source delivered to the target and unclaimed, with VALID set, and clears that source's DELIVERED; when nothing is
delivered to it, the read returns 0. It says where INTERRUPT_DELIVER and TGT_CLAIM complete. (R355, R357.) -/
def Obligations.InterruptsGoToTheNextEnabledTarget : Prop :=
  (∀ (s : State) (src : Byte),
    let n := src.toNat
    let g := pgIntr + 8 * (n / 32)
    s.deliverable n = true → s.getF g Fld.HOLDOFF_ACTIVE = 0 → s.getF g Fld.HOLDOFF = 0 → ∃ t, t < 16 ∧
      let last := s.getF (srcPage n) Fld.SRC_CFG_LAST_TARGET
      let may (k : Nat) := bitAt (s.getF (srcPage n) Fld.SRC_CFG_TARGETS) k = true ∧ s.tgtEnabled k = true
      may t ∧ (∀ k, k < 16 → may k → (t + 15 - last) % 16 ≤ (k + 15 - last) % 16) ∧
      Answers (.interruptDeliver src) s fun u => Frame [.regs] s u ∧ u.getF (srcPage n) Fld.SRC_CFG_LAST_TARGET = t ∧
        u.isPending n = false ∧ u.isDelivered n = true ∧ (∀ m, m < 256 → m ≠ n → u.isPending m = s.isPending m ∧
          u.isDelivered m = s.isDelivered m ∧ u.reg (srcPage m + 0x400) = s.reg (srcPage m + 0x400)) ∧
        ∀ k, k < 16 → u.reg (pgIntr + 0xC0 + 8 * k) = s.reg (pgIntr + 0xC0 + 8 * k)) ∧
  (∀ (s : State) (n k v : Nat), n < 256 → k < 16 →
    (s.setF (pgIntr + 8 * k) Fld.TGT_CTL_MASK v).nextTarget n = s.nextTarget n) ∧
  (∀ (s : State) (t : Nat), s.irq t = true ↔
    (∃ n, n < 256 ∧ s.isDelivered n = true ∧ s.getF (srcPage n) Fld.SRC_CFG_LAST_TARGET = t) ∧
      s.getF (pgIntr + 8 * t) Fld.TGT_CTL_MASK = 0) ∧
  (∀ (s : State) (t : Fin 16), s.pageAnswers pgIntr = true →
    let held (n : Nat) := s.isDelivered n = true ∧ s.getF (srcPage n) Fld.SRC_CFG_LAST_TARGET = t.val
    let shows (u : State) (w : Nat) := u.answers = s.answers ++ [(Fin.ofNat 8 s.leader, 0#6, false, BitVec.ofNat 64 w)]
    ((∀ n, n < 256 → ¬held n) → Answers (.tgtClaim t) s fun u => Frame [.answers] s u ∧ shows u 0) ∧
    (∀ n, n < 256 → held n → (∀ k, k < n → ¬held k) → Answers (.tgtClaim t) s fun u => Frame [.regs, .answers] s u ∧
      shows u (2 ^ 63 + n) ∧ u.isDelivered n = false ∧ (∀ k, k < 256 → k ≠ n → u.isDelivered k = s.isDelivered k) ∧
      ∀ k, k < 256 → u.isPending k = s.isPending k)) ∧
  (∀ (s : State) (t : Fin 16), s.pageAnswers pgIntr = false → Answers (.tgtClaim t) s fun u => Frame [.answers] s u ∧
    u.answers = s.answers ++ [(Fin.ofNat 8 s.leader, 0#6, true, 0#64)])

/-- A source that is not deliverable, or whose group's timer runs, stays as it is. With a hold-off, a delivery takes every deliverable
source of the group at once and starts the timer (which sources go at once is the model's reading, log 10); HOLDOFF_EXPIRY delivers every
deliverable source and runs again only if one was. Clearing TGT_CTL.ENABLE returns the target's sources to PENDING. ERR_FORCE raises the
assigned bits; PAGE_CTL stores ENABLE and clears the counting counters but for the events of the tc; EVT_SEL zeroes the counters whose
code changes. A request of the control port with bad parity, or that reaches nothing, is answered with an error; one that reaches a
register is answered, a read with the register's value, a write with its effect where the page's unit takes it. A plain write gives an RW
field the value its rule takes, clears of a W1C field the bits written with 1 that no event has set in the tc, and leaves RO and RC
fields; a plain read leaves in RC fields what the events of the tc count. Where a page does not answer, nothing changes. It says where
HOLDOFF_EXPIRY, TGT_CTL_WRITE, ERR_FORCE, PAGE_CTL_CLEAR, EVT_SEL_WRITE, REGISTER_WRITE and RC_READ complete. (R9, R11, R12, R354, R356,
R360, R428, R431, R436, R452.) -/
def Obligations.PageRegistersFollowTheirAccessCodes : Prop :=
  (∀ (s : State) (src : Byte),
    let n := src.toNat
    let grp := n / 32
    let pg := pgIntr + 8 * grp
    (s.deliverable n = false ∨ s.getF pg Fld.HOLDOFF_ACTIVE = 1 → exec (.interruptDeliver src) s = .next s) ∧
    (s.deliverable n = true → s.getF pg Fld.HOLDOFF_ACTIVE = 0 → s.getF pg Fld.HOLDOFF ≠ 0 → Answers (.interruptDeliver src) s fun t =>
      Frame [.regs] s t ∧ t.getF pg Fld.HOLDOFF_ACTIVE = 1 ∧ ∀ k, k / 32 = grp →
        if s.deliverable k then t.isDelivered k = true ∧ t.isPending k = false
        else t.isDelivered k = s.isDelivered k ∧ t.isPending k = s.isPending k)) ∧
  (∀ (s : State) (grp : Fin 8),
    let pg := pgIntr + 8 * grp.val
    (s.getF pg Fld.HOLDOFF_ACTIVE = 0 → exec (.holdoffExpiry grp) s = .next s) ∧
    (s.getF pg Fld.HOLDOFF_ACTIVE = 1 → Answers (.holdoffExpiry grp) s fun t => Frame [.regs] s t ∧
      (t.getF pg Fld.HOLDOFF_ACTIVE = 1 ↔ (∃ k, k / 32 = grp.val ∧ s.deliverable k = true) ∧ s.getF pg Fld.HOLDOFF ≠ 0) ∧
      ∀ k, k / 32 = grp.val → s.deliverable k = true → t.isDelivered k = true ∧ t.isPending k = false)) ∧
  (∀ (s : State) (t : Fin 16) (w : W64),
    (s.pageAnswers pgIntr = false → exec (.tgtCtlWrite t w) s = .next s) ∧
    (s.pageAnswers pgIntr = true → Answers (.tgtCtlWrite t w) s fun u => Frame [.regs] s u ∧
      u.getF (pgIntr + 8 * t.val) Fld.TGT_CTL_MASK = bits w.toNat 1 1 ∧ u.getF (pgIntr + 8 * t.val) Fld.TGT_CTL_ENABLE = bits w.toNat 0 0 ∧
      ∀ n, n < 256 → if s.tgtEnabled t.val = true ∧ bitAt w.toNat 0 = false ∧ s.isDelivered n = true ∧
          s.getF (srcPage n) Fld.SRC_CFG_LAST_TARGET = t.val then u.isPending n = true ∧ u.isDelivered n = false
        else u.isPending n = s.isPending n ∧ u.isDelivered n = s.isDelivered n)) ∧
  (∀ (s : State) (page : BitVec 16) (w : W64),
    let pg := page.toNat * 0x1000
    let open_ (off : Nat) := s.pageAnswers pg = true ∧ s.takesWrite (pg + off) = true
    let code (r : Nat) (i : Nat) := bits r (8 * i + 7) (8 * i)
    (¬open_ 0x28 → exec (.errForce page w) s = .next s) ∧ (¬open_ 0x08 → exec (.pageCtlClear page w) s = .next s) ∧
    (¬open_ 0x38 → exec (.evtSelWrite page w) s = .next s) ∧
    (open_ 0x28 → Answers (.errForce page w) s fun t => Frame [.regs, .sameTc, .view] s t ∧ ∀ i, i < 32 →
      bitAt (t.getF pg Fld.ERR_STATUS_STATUS) i =
        (bitAt (s.getF pg Fld.ERR_STATUS_STATUS) i || (decide (i < errBits (pageKind pg)) && bitAt w.toNat i))) ∧
    (open_ 0x08 → Answers (.pageCtlClear page w) s fun t => Frame [.regs, .sameTc] s t ∧
      t.getF pg Fld.PAGE_CTL_ENABLE = bits w.toNat 0 0 ∧ ∀ i, i < 8 →
        let n := s.getF (pg + 8 * i) Fld.EVT_CNT_COUNT
        t.getF (pg + 8 * i) Fld.EVT_CNT_COUNT = if bitAt w.toNat 1 = true ∧ code (s.reg (pg + 0x38)) i < 0x80 then
            (match s.sameTc.get? (pg + 8 * i + Fld.EVT_CNT_COUNT.off) with
              | none => 0
              | some e => n - bits e.2.toNat Fld.EVT_CNT_COUNT.hi Fld.EVT_CNT_COUNT.lo)
          else n) ∧
    (open_ 0x38 → Answers (.evtSelWrite page w) s fun t => Frame [.regs, .sameTc] s t ∧ t.reg (pg + 0x38) = w.toNat ∧
      ∀ i, i < 8 → t.getF (pg + 8 * i) Fld.EVT_CNT_COUNT =
        if code (s.reg (pg + 0x38)) i = code w.toNat i then s.getF (pg + 8 * i) Fld.EVT_CNT_COUNT else 0)) ∧
  (∀ (s : State) (r : RegionId) (q : CpRequest) (write : Bool),
    let i := if write then Instr.registerWrite r q else Instr.rcRead r q
    let s0 := if 0x8000000 ≤ bits q.addr.toNat 27 0 then s.changeLeader else s
    let shows (u t : State) (bad : Bool) (w : Nat) := Frame [.answers] u t ∧ t.answers = u.answers ++ [(r, q.id, bad, BitVec.ofNat 64 w)]
    (s.functional r.val = false → exec i s = .next s) ∧
    (s.functional r.val = true → requestParity write q ≠ q.par → Answers i s fun t => Frame [.regs, .sameTc, .answers, .view] s t ∧
      t.answers = s.answers ++ [(r, q.id, true, 0#64)]) ∧
    (s.functional r.val = true → requestParity write q = q.par → s0.target r.val q = none → Answers i s fun t => shows s0 t true 0) ∧
    (∀ a, s.functional r.val = true → requestParity write q = q.par → s0.target r.val q = some a →
      a = bits q.addr.toNat 27 0 ∧ a % 8 = 0 ∧ q.be = 0xFF#8 ∧ bits q.addr.toNat 39 28 = s0.strap.toNat ∧
      (a < 0x8000000 → a / 0x1000000 = r.val) ∧ s0.pageAnswers (pageBase a) = true ∧
      (write = true → Answers i s fun t => shows (if s0.takesWrite a then s0.regWrite a q.wdata.toNat else s0) t false 0) ∧
      (write = false → Answers i s fun t => shows (s0.regRead a).2 t false (s0.regRead a).1))) ∧
  (∀ (kind off idx : Nat) (fs : List FieldSpec) (old data fresh : Nat) (f : FieldSpec),
    fs.Pairwise (fun f g => f.hi < g.lo ∨ g.hi < f.lo) → f ∈ fs → f.lo ≤ f.hi →
    let w := bits (writeFields kind off idx fs old data fresh) f.hi f.lo
    let v := bits data f.hi f.lo
    (f.acc = .rw → w = takenAs kind off f.hi v % 2 ^ (f.hi + 1 - f.lo)) ∧ (f.acc = .ro ∨ f.acc = .rc ∨ f.acc = .wo → w = bits old f.hi f.lo) ∧
    (f.acc = .w1c → ∀ k, bitAt w k = (bitAt (bits old f.hi f.lo) k && (!bitAt v k || bitAt (bits fresh f.hi f.lo) k)))) ∧
  (∀ (s : State) (a : Nat) (sp : RegSpec) (n : Nat), regSpec a = some (sp, n) → RegsKept s (s.readClear a) (· = a) ∧
    Frame [.regs, .sameTc] s (s.readClear a) ∧ ∀ f ∈ sp.fields, f.acc = .rc → f.lo ≤ f.hi → f.hi < 64 →
      sp.fields.Pairwise (fun f g => f.hi < g.lo ∨ g.hi < f.lo) →
        bits ((s.readClear a).reg a) f.hi f.lo = s.eventsAlone a f % 2 ^ (f.hi + 1 - f.lo))

/-- GO starts bring-up from WAIT_RECORDS only. BRINGUP_STEP goes from each state to the next, waits while a port or an edge trains, and
ends in READY, READY_DEGRADED or NOT_READY; a region that fails its clocks is fenced. An engine reset keeps the host's memory, the strap,
the stepping, the power inputs, the wrappers and the commands that wait, and nothing else of what the engine holds. A region reset of a
live or fenced region beside another live one leaves it resetting with its store cleared and every other store as it was; when no other
region is live it is an engine reset. Its end leaves the region live, or fenced when the test fails. LEADER_CHANGE takes effect when the
leader has left: the lowest live region leads, delivered sources return to PENDING, hold-off timers stop and source 0x51 pends. A fault of
a region's network or management core resets the region; one of another unit is contained on its page. A cell's first fault resets the
cell; a second within 1 s, or of the microcode store, brings in a spare by a cluster reset. A slice's first fault in a block marks it; a
fault of a cluster's network resets the cluster; a corrected error is counted. In any other state the rows change nothing. It says where
GO, REGION_RESET, ENGINE_RESET, BRINGUP_STEP, RESET_N, CELL_FAULT, SLICE_FAULT, REGION_UNIT_FAULT, CELL_RESET_END, CLUSTER_RESET_END,
REGION_RESET_END and LEADER_CHANGE complete. (R18, R361, R398, R403, R408, R410, R411, R412, R413, R414, R416, R435.) -/
def Obligations.BringupResetsAndFaultsMoveTheirUnits : Prop :=
  (∀ (s : State),
    (s.pageAnswers pgBringup = false ∨ s.bringState ≠ 2 → exec .go s = .next s) ∧
    (s.pageAnswers pgBringup = true → s.bringState = 2 → Answers .go s fun t => Frame [.regs, .sameTc, .bringUp] s t ∧ t.bringState = 3 ∧
      t.bringUp = { s.bringUp with elapsed := 0 } ∧ t.isPending 0x56 = true) ∧
    (s.pageAnswers pgBringup = false → exec .engineReset s = .next s) ∧
    (s.pageAnswers pgBringup = true → exec .engineReset s = exec .resetN s) ∧
    (Answers .resetN s fun t => t.fabric = s.fabric ∧ t.strap = s.strap ∧ t.stepping = s.stepping ∧ t.pending = s.pending ∧
      t.power = { s.power with safelight := false, switch := none, holdRunning := false } ∧
      t.bringState = (if s.power.held then State.reset.bringState else 1) ∧
      t.ctxs = State.reset.ctxs ∧ t.runs = State.reset.runs ∧ t.ended = State.reset.ended ∧ t.groups = State.reset.groups ∧
      t.membership = State.reset.membership ∧ t.bringUp = State.reset.bringUp ∧ t.time = State.reset.time ∧
      ∀ r, (t.region r).wrapper = (s.region r).wrapper ∧ (t.region r).store = [] ∧ (t.region r).health = Region.reset.health ∧
        (t.region r).links = Region.reset.links) ∧
    (s.led = true ∨ (s.ready = false ∧ s.bringState ≠ 12) ∨ s.live = [] → exec .leaderChange s = .next s) ∧
    (∀ r l, s.led = false → s.ready = true ∨ s.bringState = 12 → s.live = r :: l → Answers .leaderChange s fun t =>
      Frame [.regs, .sameTc, .view] s t ∧ t.leader = r ∧ t.isPending 0x51 = true ∧ (∀ g, g < 8 → t.getF (pgIntr + 8 * g) Fld.HOLDOFF_ACTIVE = 0) ∧
      ∀ n, n < 256 → t.isDelivered n = false ∧ (s.isDelivered n = true → t.isPending n = true))) ∧
  (∀ (s : State) (res : BringupResult), testsFit res = true →
    let i := Instr.bringupStep res
    let st := s.bringState
    let ok := (List.range 8).filter fun r => bitAt res.pass.toNat r && s.getF (pgTest r) Fld.WRAPPER_STATE_FUNCTIONAL == 1
    let waits := s.takingPart.any s.training = true
    (st ∉ [1, 3, 4, 5, 6, 7, 8, 9] → exec i s = .next s) ∧ (st = 6 ∨ st = 7 → waits → exec i s = .next s) ∧
    (st = 1 → ok = [] → Answers i s fun t => Frame Part.cycles s t) ∧
    (∀ r l, st = 1 → ok = r :: l → Answers i s fun t => t.bringState = 2 ∧ t.leader = r ∧ ∀ q ∈ ok, (t.region q).rom = true ∧ (t.region q).health = 2) ∧
    (st = 3 → Answers i s fun t => t.bringState = 12 ∨ t.bringState = 4) ∧
    (st = 4 → Answers i s fun t => t.bringState = 5 ∧ ∀ r ∈ s.takingPart,
      if bitAt res.pass.toNat r then (t.region r).clocks = true ∧ (t.region r).health = 2 else (t.region r).health = 3) ∧
    (st = 5 → Answers i s fun t => t.bringState = 6) ∧ (st = 6 → ¬waits → Answers i s fun t => t.bringState = 7) ∧
    (st = 7 → ¬waits → Answers i s fun t => t.bringState = 8) ∧ (st = 8 → Answers i s fun t => t.bringState = 9) ∧
    (st = 9 → Answers i s fun t => t.bringState = 12 ∨ ((t.bringState = 10 ∨ t.bringState = 11) ∧ t.live ≠ [] ∧ t.nextSeq = 1#32 ∧
      t.membership.epoch = 0 ∧ t.membership.members = [t.self]))) ∧
  (∀ (s : State) (r : RegionId),
    let h := (s.region r.val).health
    let other := ∃ q ∈ s.live, q ≠ r.val
    let placed := 1 < s.placedRegions.length
    let starts (t : State) := (t.region r.val).health = 2 ∧ (t.region r.val).store = [] ∧
      ∀ q, q ≠ r.val → (t.region q).store = (s.region q).store ∧ (t.region q).health = (s.region q).health
    (h = 1 ∨ h = 3 → placed → other → starts (s.regionReset r.val)) ∧
    (h = 1 ∨ h = 3 → ¬(placed ∧ other) → s.regionReset r.val = s.engineReset) ∧ (h ≠ 1 → h ≠ 3 → s.regionReset r.val = s) ∧
    (∀ mask : Byte, (s.pageAnswers pgBringup = false ∨ s.bringState < 10 ∨ mask = 0 → exec (.regionReset mask) s = .next s) ∧
      (mask.toNat = 2 ^ r.val → s.pageAnswers pgBringup = true → 10 ≤ s.bringState →
        exec (.regionReset mask) s = .next (s.regionReset r.val))) ∧
    (∀ f : RegionFault, r.val ∉ s.live → exec (.regionUnitFault r f) s = .next s) ∧
    (∀ f ∈ [RegionFault.network, .mgmt], r.val ∈ s.live → placed → other → Answers (.regionUnitFault r f) s starts) ∧
    (∀ (f : RegionFault) (pg n : Nat), r.val ∈ s.live →
      (f, pg, n) ∈ [(RegionFault.tank, pgCombine r, 2), (.prints, pgReprint r, 0), (.bitmap, pgBasin r, 2), (.landingTable, pgDispatch r, 2)] ∨
        (∃ m : Fin 8, (f, pg, n) = (RegionFault.memPort m, pgMem r m.val, 2)) ∨
        (∃ p : PortId, (f, pg, n) = (RegionFault.inletBank p, pgInlet r p.val, 1)) →
      Answers (.regionUnitFault r f) s fun t => Frame [.regs, .sameTc, .view] s t ∧ bitAt (t.getF pg Fld.ERR_STATUS_STATUS) n = true) ∧
    (∀ p : BitVec 12, r.val ∈ s.live → regionPageKind p.toNat ≠ 0 →
      exec (.regionUnitFault r (.corrected p)) s = .next (s.count (regionPage r p.toNat) 4 1)) ∧
    (∀ (pass : Bool) (res : RegionTest) (ms : BitVec 16) (bad : Bool),
      let i := Instr.regionResetEnd r pass res ms bad
      let ends := h = 2 ∧ 10 ≤ s.bringState ∧ s.training r.val = false
      (¬ends → exec i s = .next s) ∧
      (ends → other → Answers i s fun t => (pass = false → (t.region r.val).health = 3) ∧
        ((t.region r.val).health = 3 ∨ ((t.region r.val).health = 1 ∧ (t.region r.val).clocks = true)) ∧
        ∀ q, q ≠ r.val → (t.region q).health = (s.region q).health))) ∧
  (∀ (s : State) (r : RegionId) (c : ClusterId) (k : CellId) (kind : CellFaultKind), s.WF →
    let u := s.cluster r.val c.val
    let i := Instr.cellFault r c k kind
    let serves := r.val ∈ s.live ∧ u.state = 0 ∧ k.val ∉ u.resetting ∧ k.val ∉ u.fencedCells
    let reports := serves ∧ kind ≠ .bufCorrected
    let again := (∃ t, u.lastFault.get? k.val = some t ∧ s.time < t + 1000000000) ∨ kind = .ucodeStore
    (¬serves → exec i s = .next s) ∧
    (serves → kind = .bufCorrected → exec i s = .next (s.count (pgCell r.val c.val k.val) 4 1)) ∧
    (reports → ¬again → Answers i s fun t => t.cluster r.val c.val =
        { u with resetting := u.resetting ++ [k.val], lastFault := u.lastFault.set k.val t.time } ∧
      ((s.region r.val).clocks = true → (t.region r.val).tc = (s.region r.val).tc + 1) ∧
      bitAt (t.getF (pgCell r.val c.val k.val) Fld.ERR_STATUS_STATUS) (cellBit kind) = true) ∧
    (∀ v, reports → again → u.replace [k.val] = some v → Answers i s fun t => (t.cluster r.val c.val).state = 1 ∧
      (t.cluster r.val c.val).resetting = [] ∧ (t.cluster r.val c.val).fencedCells = v.fencedCells ∧
      (t.cluster r.val c.val).mapping = u.serves k.val) ∧
    (reports → again → u.replace [k.val] = none → Answers i s fun t => ∃ e : State, t = e.fenceCluster r.val c.val ∧
      k.val ∈ (e.cluster r.val c.val).fencedCells) ∧
    (k.val ∉ u.resetting → exec (.cellResetEnd r c k) s = .next s) ∧
    (k.val ∈ u.resetting → Answers (.cellResetEnd r c k) s fun t => Frame [.regs, .sameTc, .clusters, .view] s t ∧
      t.cluster r.val c.val = { u with resetting := u.resetting.filter (· != k.val) } ∧ Counts s t pgBringup Fld.RESET_COUNT_CELL 1 ∧
      ∀ off, 0x80 ≤ off → off < 0x1000 → t.reg (pgCell r.val c.val k.val + off) = resetWord (pgCell r.val c.val k.val + off) % 2 ^ 64) ∧
    (∀ ucode : List UcodeResult,
      (u.state ≠ 1 → exec (.clusterResetEnd r c ucode) s = .next s) ∧
      (u.state = 1 → (∀ m ∈ ucode, m.cluster = c → m.missing = 0) → Answers (.clusterResetEnd r c ucode) s fun t =>
        Frame [.regs, .sameTc, .clusters, .view] s t ∧ t.cluster r.val c.val = { u with state := 0, resetting := [], mapping := none } ∧
        Counts s t pgBringup Fld.RESET_COUNT_CLUSTER 1)) ∧
    (∀ off : BitVec 22,
      let j := Instr.sliceFault r c (.uncorrectable off)
      let block := off.toNat / 65536
      let granule := 2 * c.val + off.toNat / 0x200000
      let serves := r.val ∈ s.live ∧ u.state ≠ 2
      (¬serves → exec j s = .next s) ∧
      (serves → block ∈ u.blocks → Answers j s fun t => ∃ e : State, t = e.fenceCluster r.val c.val ∧ Frame [.regs, .sameTc, .view] s e) ∧
      (serves → block ∉ u.blocks → Answers j s fun t => ∃ e : State, Frame [.regs, .sameTc, .clusters, .view] s e ∧
        e.cluster r.val c.val = { u with blocks := u.blocks ++ [block] } ∧
        t = if granule = 0 then e.regionEscalates r.val 8 else match s.ownerOf granule with
          | none => e | some x => e.startTeardown x stContextFault false)) ∧
    (let tells := r.val ∈ s.live ∧ u.state ≠ 2;
      (¬tells → exec (.sliceFault r c .corrected) s = .next s) ∧
      (tells → exec (.sliceFault r c .corrected) s = .next (s.count (pgCluster r.val c.val) 4 1)) ∧
      (¬(tells ∧ u.state = 0) → exec (.sliceFault r c .network) s = .next s) ∧
      (tells ∧ u.state = 0 → Answers (.sliceFault r c .network) s fun t => t.cluster r.val c.val = { u with state := 1, resetting := [] } ∧
        bitAt (t.getF (pgCluster r.val c.val) Fld.ERR_STATUS_STATUS) 2 = true)))

/-- The sampled supply state and temperature name a switch into safelight when a cause is present and none is in force or named, and run
the hold when both are absent in safelight. A temperature at TRIP, and POWER_FAIL, hold an engine reset; another one pends source 0x53
when it crosses WARN or SAFE upward or SAFE - 5 downward. SAFELIGHT_SWITCH at its named cycle enters or leaves safelight, marks what is in
flight, counts an entry and pends source 0x52; the hold's expiry names the switch back. Leaving the power-fail hold needs a temperature 10
below TRIP and starts bring-up again. POWER_EST_UPDATE keeps the estimate and its peak for a region that is present. Without a switch, a
hold or a running timer, the rows change nothing: each of them completes in every state. It says where SUPPLY_STATE_CHANGE, THERM_STROBE,
THERM_STROBE_LOST, SAFELIGHT_SWITCH, SAFELIGHT_HOLD_EXPIRY, POWER_FAIL, POWER_FAIL_HOLD_EXIT and POWER_EST_UPDATE complete. (R417, R418,
R419, R420, R421, R464.) -/
def Obligations.PowerInputsEnterAndLeaveSafelight : Prop :=
  (∀ (s : State),
    let cause := s.causeSupply = true ∨ s.causeThermal = true
    let samples := s.power.held = false ∧ 2 ≤ s.bringState
    (¬samples → s.samplePower = s) ∧ Frame [.power] s s.samplePower ∧
    (samples → cause → s.power.safelight = false → s.power.switch = none →
      s.samplePower.power = { s.power with switch := some (switchCycle s.tcNow, true), holdRunning := false }) ∧
    (samples → ¬cause ∨ s.power.safelight = true ∨ s.power.switch ≠ none →
      s.samplePower.power = { s.power with holdRunning := s.power.safelight && s.power.switch.isNone && s.calm }) ∧
    (∀ tc, tc + 2048 ≤ switchCycle tc ∧ switchCycle tc < tc + 3072 ∧ switchCycle tc % 1024 = 0)) ∧
  (∀ (s : State) (v : BitVec 2), Answers (.supplyStateChange v) s fun t => Frame [.power] s t ∧ t.power.supply = v.toNat ∧
    t.power.safelight = s.power.safelight ∧ t.power.held = s.power.held) ∧
  (∀ (s : State) (i : Instr) (p : Power), (i, p) ∈ [(.thermStrobeLost, { s.power with strobeLost := true })] ∨
      (∃ v : Byte, (i, p) = (.thermStrobe v, { s.power with therm := v.toNat, strobeLost := false })) →
    let e := { s with power := p }
    let old := s.thermNow
    let new := e.thermNow
    let rises (x : Nat) := old < x ∧ x ≤ new
    let crosses := rises (s.getF pgPower Fld.THERM_CFG_WARN) ∨ rises s.thermSafe ∨ (s.thermSafe ≤ old + 5 ∧ new + 5 < s.thermSafe)
    (s.power.held = true → exec i s = .next e) ∧
    (s.power.held = false → new < s.getF pgPower Fld.THERM_CFG_TRIP → Answers i s fun t => ∃ u : State, t = u.samplePower ∧
      Frame [.regs, .sameTc] e u ∧ (crosses → u.isPending 0x53 = true) ∧ (¬crosses → u = e)) ∧
    (s.power.held = false → s.getF pgPower Fld.THERM_CFG_TRIP ≤ new → Answers i s fun t => t.power.held = true ∧
      t.power.powerFail = p.powerFail ∧ t.bringState = State.reset.bringState ∧ t.runs = [] ∧ t.ctxs = State.reset.ctxs)) ∧
  (∀ (s : State),
    (s.power.held = true → Answers .powerFail s fun t => Frame [.power] s t ∧ t.power = { s.power with powerFail := true }) ∧
    (s.power.held = false → Answers .powerFail s fun t => t.power.held = true ∧ t.power.powerFail = true ∧
      t.bringState = State.reset.bringState ∧ t.runs = [] ∧ t.ctxs = State.reset.ctxs) ∧
    (let leaves := s.power.held = true ∧ s.thermNow + 10 < s.getF pgPower Fld.THERM_CFG_TRIP;
      (¬leaves → exec .powerFailHoldExit s = .next s) ∧
      (leaves → Answers .powerFailHoldExit s fun t => t.power.held = false ∧ t.power.powerFail = false ∧ t.bringState = 1)) ∧
    (s.power.switch = none → exec .safelightSwitch s = .next s) ∧
    (∀ tc enter, s.power.switch = some (tc, enter) → Answers .safelightSwitch s fun t => ∃ u : State, t = u.samplePower ∧
      Frame (Part.cycles ++ [.runs, .copies, .ended, .deferred, .groups, .power]) s u ∧ u.power = { s.power with safelight := enter, switch := none } ∧
      u.isPending 0x52 = true ∧ (∀ x ∈ u.runs, x.safelight = true) ∧
      (∀ x ∈ u.copies, x.lit = true) ∧ (∀ r, (s.region r).clocks = true → (u.region r).tc = (s.region r).tc + (tc - s.tcNow)) ∧
      Counts s u pgPower Fld.SAFE_COUNT_ENTRIES (if enter then 1 else 0)) ∧
    (s.power.holdRunning = false → exec .safelightHoldExpiry s = .next s) ∧
    (s.power.holdRunning = true → Answers .safelightHoldExpiry s fun t => Frame [.power] s t ∧
      t.power = { s.power with switch := some (switchCycle s.tcNow, false), holdRunning := false })) ∧
  (∀ (s : State) (r : RegionId) (w : BitVec 16),
    let pg := pgPower + 8 * r.val
    ((s.region r.val).health = 0 → exec (.powerEstUpdate r w) s = .next s) ∧
    ((s.region r.val).health ≠ 0 → Answers (.powerEstUpdate r w) s fun t => Frame [.regs, .sameTc] s t ∧
      RegsKept s t (· = pg + Fld.POWER_EST_NOW.off) ∧ t.getF pg Fld.POWER_EST_NOW = w.toNat ∧
      t.getF pg Fld.POWER_EST_PEAK = max (s.getF pg Fld.POWER_EST_PEAK) w.toNat))

/-- Each wrapper instruction that the bring-up state permits is in force afterwards with the data it shifted in or captured; one that is
not permitted leaves WS_BYPASS in force. WS_EXTEST, WS_INTEST, WS_CLAMP, WS_SAFE and MBIST need RESET or NOT_READY, SCAN needs RESET; the
others are always permitted. A test instruction clears FUNCTIONAL. STATE_READ captures BRINGUP_STATE with the live regions; VF_ACCESS
reads or writes a VIEWFINDER register as the control port does and captures its data. A write of VF_TRIG sets ARMED in
MODE 1 and clears it otherwise, and what is in force stays so for the tc. A forced push of an enabled channel that no armed trigger holds
queues a sample that carries its source's value with an age of 4,095 tc, or is lost with GAP on a full queue of 256; nothing else changes. It says where WRSTN_RESET, WS_BYPASS, WS_EXTEST,
WS_INTEST, WS_CLAMP, WS_SAFE, SCAN, MBIST, VF_ACCESS, STATE_READ, VF_TRIG_WRITE and VF_FORCED_PUSH complete. (R467, R468, R469, R470,
R472.) -/
def Obligations.WrapperInstructionsTakeTheirTests : Prop :=
  (∀ (s : State) (r : RegionId) (i : Instr) (code : BitVec 8) (needs : Nat), (i, code, needs) ∈ [(Instr.wrstnReset r, 0#8, 0), (.wsBypass r, 0#8, 0),
      (.wsClamp r, 3#8, 2), (.wsSafe r, 4#8, 2)] →
    Answers i s fun t => Frame [.regs, .wrapper] s t ∧ RegsKept s t (· = pgTest r.val + Fld.WRAPPER_STATE_FUNCTIONAL.off) ∧
      (t.region r.val).wrapper = { (s.region r.val).wrapper with wir := if needs = 0 ∨ s.testable then code else 0#8 } ∧
      (∀ q, q ≠ r.val → t.region q = s.region q) ∧
      t.getF (pgTest r.val) Fld.WRAPPER_STATE_FUNCTIONAL =
        if needs = 2 ∧ s.testable = true then 0 else s.getF (pgTest r.val) Fld.WRAPPER_STATE_FUNCTIONAL) ∧
  (∀ (s : State) (r : RegionId) (w : Bytes) (slices : BitVec 16) (staging : Bool) (i : Instr) (code : Nat) (permitted : Bool) (f : Wrapper → Wrapper),
    w.length ≤ 1024 → (i, code, permitted) ∈ [(Instr.wsExtest r w, 1, s.testable), (.wsIntest r w, 2, s.testable),
      (.scan r w, 0x10, s.bringState == 0), (.mbist r slices staging, 0x11, s.testable)] →
    f = (fun x => if code = 0x10 then { x with scan := w } else if code = 0x11 then
      { x with dr := BitVec.ofNat 80 (2 ^ 63 + flag staging * 2 ^ 16 + slices.toNat) } else { x with wbr := w }) →
    Answers i s fun t => Frame [.regs, .wrapper] s t ∧ RegsKept s t (· = pgTest r.val + Fld.WRAPPER_STATE_FUNCTIONAL.off) ∧
      (∀ q, q ≠ r.val → t.region q = s.region q) ∧
      (permitted = true → (t.region r.val).wrapper = f { (s.region r.val).wrapper with wir := BitVec.ofNat 8 code } ∧
        t.getF (pgTest r.val) Fld.WRAPPER_STATE_FUNCTIONAL = 0) ∧
      (permitted = false → (t.region r.val).wrapper = { (s.region r.val).wrapper with wir := 0#8 } ∧
        t.getF (pgTest r.val) Fld.WRAPPER_STATE_FUNCTIONAL = s.getF (pgTest r.val) Fld.WRAPPER_STATE_FUNCTIONAL)) ∧
  (∀ (s : State) (r : RegionId) (dr : BitVec 80),
    (Answers (.stateRead r) s fun t => Frame [.wrapper] s t ∧ (∀ q, q ≠ r.val → t.region q = s.region q) ∧
      (t.region r.val).wrapper = { (s.region r.val).wrapper with
        wir := 0x21#8, dr := BitVec.ofNat 80 (putBits (s.reg (pgBringup + 0x80)) 31 24 s.liveMask) }) ∧
    (let a := pgView r.val + bits dr.toNat 71 64 * 8
      let e := s.modWrapper r.val fun w => { w with wir := 0x20#8 }
      let data := bits dr.toNat 63 0;
      (bitAt dr.toNat 79 = true → exec (.vfAccess r dr) s = .next ((e.regWrite a data).modWrapper r.val fun x => { x with dr := dr })) ∧
      (bitAt dr.toNat 79 = false → exec (.vfAccess r dr) s = .next ((e.regRead a).2.modWrapper r.val fun x =>
        { x with dr := BitVec.ofNat 80 (putBits dr.toNat 63 0 (e.regRead a).1) })))) ∧
  (∀ (s : State) (r : RegionId) (w : W64) (ch : Fin 4),
    let once := bits w.toNat 17 16 = 1
    let c := s.vfChannel r.val ch.val
    let pushes := bitAt (s.vfChan r.val ch.val) 16 = true ∧ s.vfArmed r.val = false
    let v := s.vfSource r.val (bits (s.vfChan r.val ch.val) 15 0)
    (s.pageAnswers (pgView r.val) = false → exec (.vfTrigWrite r w) s = .next s) ∧
    (s.pageAnswers (pgView r.val) = true → Answers (.vfTrigWrite r w) s fun t => Frame [.regs, .sameTc] s t ∧
      RegsKept s t (· = pgView r.val + 0xA0) ∧ (t.getF (pgView r.val) Fld.VF_TRIG_ARMED = 1 ↔ once) ∧
      t.inForce (pgView r.val + 0xA0) = s.inForce (pgView r.val + 0xA0)) ∧
    (¬pushes → exec (.vfForcedPush r ch) s = .next s) ∧
    (pushes → c.queue.length < 256 → Answers (.vfForcedPush r ch) s fun t => Frame [.view] s t ∧
      ∃ x, t.vfChannel r.val ch.val = ⟨c.queue ++ [x], v, 0, false, false, c.out⟩ ∧ bits x.toNat 15 0 = v % 2 ^ 16 ∧
        bits x.toNat 27 16 = 4095 ∧ bitAt x.toNat 28 = true ∧ bitAt x.toNat 29 = c.gap ∧ bitAt x.toNat 30 = c.mark) ∧
    (pushes → 256 ≤ c.queue.length → Answers (.vfForcedPush r ch) s fun t => Frame [.regs, .sameTc, .view] s t ∧
      (t.vfChannel r.val ch.val).queue = c.queue ∧ (t.vfChannel r.val ch.val).gap = true ∧
      bitAt (t.getF (pgView r.val) Fld.ERR_STATUS_STATUS) 0 = true))
end

