-- ==== Sys2Proof/Laws/Tab.lean ====
section
/-! SUPPORT. Sys2Proof/Laws/Tab.lean: what reading a sparse table or a memory gives after each operation on it, and that the operations
keep the canonical form. -/

namespace Sys2Proof.Machine

/-! ### Tables -/

@[simp] theorem Tab.get?_nil {α : Type} (k : Nat) : Tab.get? ([] : Tab α) k = none := rfl

/-- Reading a key after a key was set. -/
theorem Tab.get?_set {α : Type} (t : Tab α) (k j : Nat) (v : α) :
    Tab.get? (Tab.set t k v) j = if j = k then some v else Tab.get? t j := by
  induction t with
  | nil => by_cases h : j = k <;> simp [Tab.set, Tab.get?, h, eq_comm (a := k)]
  | cons e t ih =>
    obtain ⟨i, w⟩ := e
    simp only [Tab.set]
    split
    · rename_i hik
      by_cases h : j = k
      · simp [Tab.get?, h]
      · have h' : ¬ k = j := fun e => h e.symm
        simp [Tab.get?, hik, h, h']
    · split
      · rename_i h1 h2
        by_cases h : j = k
        · simp [Tab.get?, h]
        · have h' : ¬ k = j := fun e => h e.symm
          simp only [Tab.get?, h, h', if_false]
          by_cases hlt : j < k
          · have : i ≠ j := by omega
            have : j < i := by omega
            simp [*]
          · simp [hlt]
      · rename_i h1 h2
        simp only [Tab.get?]
        by_cases hi : i = j
        · subst hi
          have : i ≠ k := h1
          simp [this]
        · simp only [hi, if_false]
          by_cases hlt : j < i
          · have : j ≠ k := by omega
            simp [hlt, this]
          · simp [hlt, ih]

@[simp] theorem Tab.get?_set_self {α : Type} (t : Tab α) (k : Nat) (v : α) : Tab.get? (Tab.set t k v) k = some v := by
  simp [Tab.get?_set]

theorem Tab.get?_set_ne {α : Type} (t : Tab α) {k j : Nat} (v : α) (h : j ≠ k) : Tab.get? (Tab.set t k v) j = Tab.get? t j := by
  simp [Tab.get?_set, h]

theorem Tab.getD_set {α : Type} (t : Tab α) (k j : Nat) (v d : α) :
    Tab.getD (Tab.set t k v) j d = if j = k then v else Tab.getD t j d := by
  simp only [Tab.getD, Tab.get?_set]; split <;> simp

@[simp] theorem Tab.getD_set_self {α : Type} (t : Tab α) (k : Nat) (v d : α) : Tab.getD (Tab.set t k v) k d = v := by
  simp [Tab.getD_set]

theorem Tab.getD_set_ne {α : Type} (t : Tab α) {k j : Nat} (v d : α) (h : j ≠ k) :
    Tab.getD (Tab.set t k v) j d = Tab.getD t j d := by simp [Tab.getD_set, h]

/-- Where a table lists a key that it holds. -/
theorem Tab.mem_of_get? {α : Type} {t : Tab α} {k : Nat} {v : α} (h : Tab.get? t k = some v) : (k, v) ∈ t := by
  induction t with
  | nil => simp at h
  | cons e t ih =>
    obtain ⟨i, w⟩ := e
    simp only [Tab.get?] at h
    split at h
    · cases h; subst_vars; simp
    · split at h
      · simp at h
      · exact List.mem_cons_of_mem _ (ih h)

/-- A key that a table does not list reads none. -/
theorem Tab.get?_eq_none {α : Type} {t : Tab α} {k : Nat} (h : ∀ e ∈ t, e.1 ≠ k) : Tab.get? t k = none := by
  cases hk : Tab.get? t k with
  | none => rfl
  | some v => exact absurd rfl (h _ (Tab.mem_of_get? hk))

/-- Reading a table whose entries were changed in place. -/
theorem Tab.get?_map {α β : Type} (t : Tab α) (f : Nat × α → β) (k : Nat) :
    Tab.get? (t.map fun e => (e.1, f e)) k = (Tab.get? t k).map fun v => f (k, v) := by
  induction t with
  | nil => rfl
  | cons e t ih =>
    obtain ⟨i, w⟩ := e
    simp only [List.map_cons, Tab.get?]
    split
    · subst_vars; rfl
    · split
      · rfl
      · exact ih

theorem Tab.mem_set {α : Type} {t : Tab α} {k : Nat} {v : α} {e : Nat × α} (h : e ∈ Tab.set t k v) : e = (k, v) ∨ e ∈ t := by
  induction t with
  | nil => simpa [Tab.set] using h
  | cons a t ih =>
    obtain ⟨i, w⟩ := a
    simp only [Tab.set] at h
    split at h
    · rcases List.mem_cons.1 h with h | h
      · exact .inl h
      · exact .inr (List.mem_cons_of_mem _ h)
    · split at h
      · rcases List.mem_cons.1 h with h | h
        · exact .inl h
        · exact .inr h
      · rcases List.mem_cons.1 h with h | h
        · exact .inr (by simp [h])
        · exact (ih h).imp id (List.mem_cons_of_mem _)

/-- Setting a key keeps the keys rising. -/
theorem Tab.sorted_set {α : Type} {t : Tab α} (h : t.sorted) (k : Nat) (v : α) : (Tab.set t k v).sorted := by
  induction t with
  | nil => simp [Tab.set, Tab.sorted]
  | cons a t ih =>
    obtain ⟨i, w⟩ := a
    obtain ⟨h1, h2⟩ := List.pairwise_cons.1 h
    simp only [Tab.set]
    split
    · subst_vars; exact List.pairwise_cons.2 ⟨h1, h2⟩
    · split
      · rename_i hlt
        refine List.pairwise_cons.2 ⟨fun e he => ?_, h⟩
        rcases List.mem_cons.1 he with he | he
        · subst he; exact hlt
        · exact Nat.lt_trans hlt (h1 e he)
      · rename_i hne hlt
        refine List.pairwise_cons.2 ⟨fun e he => ?_, ih h2⟩
        rcases Tab.mem_set he with he | he
        · subst he; show i < k; omega
        · exact h1 e he

/-- Leaving entries out keeps the keys rising. -/
theorem Tab.sorted_filter {α : Type} {t : Tab α} (h : t.sorted) (p : Nat × α → Bool) : Tab.sorted (t.filter p) :=
  h.sublist List.filter_sublist

theorem Tab.sorted_erase {α : Type} {t : Tab α} (h : t.sorted) (p : Nat → Bool) : (Tab.erase t p).sorted :=
  Tab.sorted_filter h _

/-- Changing entries in place keeps the keys rising. -/
theorem Tab.sorted_map {α β : Type} {t : Tab α} (h : t.sorted) (f : Nat × α → Nat × β) (hf : ∀ e, (f e).1 = e.1) :
    Tab.sorted (t.map f) := by
  refine List.Pairwise.map f ?_ h
  intro a b hab
  simpa [hf] using hab

/-- In a table with rising keys every listed entry is read. -/
theorem Tab.get?_of_mem {α : Type} {t : Tab α} (h : t.sorted) {k : Nat} {v : α} (hm : (k, v) ∈ t) : Tab.get? t k = some v := by
  induction t with
  | nil => simp at hm
  | cons a t ih =>
    obtain ⟨i, w⟩ := a
    obtain ⟨h1, h2⟩ := List.pairwise_cons.1 h
    rcases List.mem_cons.1 hm with hm | hm
    · cases hm; simp [Tab.get?]
    · have : i < k := h1 _ hm
      have h3 : i ≠ k := by omega
      have h4 : ¬ k < i := by omega
      simp [Tab.get?, h3, h4, ih h2 hm]

/-- Reading a table with rising keys that some keys were left out of. -/
theorem Tab.get?_erase {α : Type} {t : Tab α} (h : t.sorted) (p : Nat → Bool) (k : Nat) :
    Tab.get? (Tab.erase t p) k = if p k then none else Tab.get? t k := by
  by_cases hp : p k
  · simp only [hp, if_true]
    refine Tab.get?_eq_none fun e he hk => ?_
    have := (List.mem_filter.1 he).2
    simp [hk, hp] at this
  · simp only [hp]
    cases hk : Tab.get? t k with
    | none =>
      refine Tab.get?_eq_none fun e he hke => ?_
      obtain ⟨j, v⟩ := e
      have hm := (List.mem_filter.1 he).1
      simp only at hke
      subst hke
      simp [Tab.get?_of_mem h hm] at hk
    | some v =>
      have hm := Tab.mem_of_get? hk
      refine Tab.get?_of_mem (Tab.sorted_erase h p) (List.mem_filter.2 ⟨hm, ?_⟩)
      simp [hp]

/-! ### Memory -/

@[simp] theorem Memory.wf_nil : Memory.wf [] := by simp [Memory.wf]

theorem Memory.mem_cells {a : Nat} {bs : Bytes} {c : Host.Cell} (h : c ∈ Memory.cells a bs) :
    a ≤ c.1 ∧ c.1 < a + bs.length ∧ c.2 ≠ 0#8 := by
  induction bs generalizing a with
  | nil => simp [Memory.cells] at h
  | cons b bs ih =>
    simp only [Memory.cells] at h
    split at h
    · have := ih h; simp only [List.length_cons]; exact ⟨by omega, by omega, this.2.2⟩
    · rcases List.mem_cons.1 h with h | h
      · subst h; simp only [List.length_cons]; exact ⟨Nat.le_refl _, by omega, ‹_›⟩
      · have := ih h; simp only [List.length_cons]; exact ⟨by omega, by omega, this.2.2⟩

theorem Memory.cells_sorted (a : Nat) (bs : Bytes) : (Memory.cells a bs).Pairwise fun x y => x.1 < y.1 := by
  induction bs generalizing a with
  | nil => simp [Memory.cells]
  | cons b bs ih =>
    simp only [Memory.cells]
    split
    · exact ih _
    · refine List.pairwise_cons.2 ⟨fun c hc => ?_, ih _⟩
      have := (Memory.mem_cells hc).1
      show a < c.1; omega

/-- A write keeps the canonical form. -/
theorem Memory.wf_write {m : Memory} (h : m.wf) (a : Nat) (bs : Bytes) : (m.write a bs).wf := by
  obtain ⟨h1, h2⟩ := h
  refine ⟨?_, fun c hc => ?_⟩
  · refine List.pairwise_append.2 ⟨List.pairwise_append.2 ⟨h1.sublist List.filter_sublist, Memory.cells_sorted a bs, ?_⟩,
      h1.sublist List.filter_sublist, ?_⟩
    · intro x hx y hy
      have := (List.mem_filter.1 hx).2
      have := (Memory.mem_cells hy).1
      simp only [decide_eq_true_eq] at *; omega
    · intro x hx y hy
      have hy := (List.mem_filter.1 hy).2
      simp only [decide_eq_true_eq] at hy
      rcases List.mem_append.1 hx with hx | hx
      · have := (List.mem_filter.1 hx).2
        simp only [decide_eq_true_eq] at this; omega
      · have := (Memory.mem_cells hx).2.1; omega
  · rcases List.mem_append.1 hc with hc | hc
    · rcases List.mem_append.1 hc with hc | hc
      · exact h2 c (List.mem_filter.1 hc).1
      · exact (Memory.mem_cells hc).2.2
    · exact h2 c (List.mem_filter.1 hc).1

/-- Clearing a range keeps the canonical form. -/
theorem Memory.wf_clear {m : Memory} (h : m.wf) (a n : Nat) : (m.clear a n).wf :=
  ⟨h.1.sublist List.filter_sublist, fun c hc => h.2 c (List.mem_filter.1 hc).1⟩

theorem Memory.byte_eq_zero {m : Memory} {k : Nat} (h : ∀ c ∈ m, c.1 ≠ k) : m.byte k = 0 := by
  induction m with
  | nil => rfl
  | cons e m ih =>
    obtain ⟨a, b⟩ := e
    have ha : a ≠ k := h (a, b) (by simp)
    simp only [Memory.byte, ha, if_false]
    split
    · rfl
    · exact ih fun c hc => h c (List.mem_cons_of_mem _ hc)

/-- The byte that a canonical memory lists at an address. -/
theorem Memory.byte_of_mem {m : Memory} (h : m.wf) {c : Host.Cell} (hc : c ∈ m) : m.byte c.1 = c.2 := by
  obtain ⟨h1, h2⟩ := h
  induction m with
  | nil => simp at hc
  | cons e m ih =>
    obtain ⟨a, b⟩ := e
    obtain ⟨h3, h4⟩ := List.pairwise_cons.1 h1
    rcases List.mem_cons.1 hc with hc | hc
    · subst hc; simp [Memory.byte]
    · have : a < c.1 := h3 c hc
      have h5 : a ≠ c.1 := by omega
      have h6 : ¬ c.1 < a := by omega
      simp only [Memory.byte, h5, h6, if_false]
      exact ih hc h4 fun d hd => h2 d (List.mem_cons_of_mem _ hd)

/-- Two canonical memories that list the same cell, or neither, at an address read the same there. -/
theorem Memory.byte_congr {m n : Memory} (hm : m.wf) (hn : n.wf) {k : Nat} (h : ∀ b, (k, b) ∈ m ↔ (k, b) ∈ n) : m.byte k = n.byte k := by
  by_cases hk : ∃ b, (k, b) ∈ m
  · obtain ⟨b, hb⟩ := hk
    have h1 := Memory.byte_of_mem hm hb
    have h2 := Memory.byte_of_mem hn ((h b).1 hb)
    simp only at h1 h2
    rw [h1, h2]
  · have h1 : ∀ c ∈ m, c.1 ≠ k := fun c hc e => hk ⟨c.2, by cases e; exact hc⟩
    have h2 : ∀ c ∈ n, c.1 ≠ k := fun c hc e => hk ⟨c.2, (h c.2).2 (by cases e; exact hc)⟩
    rw [Memory.byte_eq_zero h1, Memory.byte_eq_zero h2]

/-- A write leaves every byte outside its range. -/
theorem Memory.byte_write_of_outside {m : Memory} (h : m.wf) {a k : Nat} {bs : Bytes} (hk : k < a ∨ a + bs.length ≤ k) :
    (m.write a bs).byte k = m.byte k := by
  refine Memory.byte_congr (Memory.wf_write h a bs) h fun b => ?_
  simp only [Memory.write, List.mem_append, List.mem_filter, decide_eq_true_eq]
  constructor
  · rintro ((⟨h1, _⟩ | h1) | ⟨h1, _⟩)
    · exact h1
    · have := Memory.mem_cells h1; omega
    · exact h1
  · intro h1
    rcases hk with hk | hk
    · exact .inl (.inl ⟨h1, hk⟩)
    · exact .inr ⟨h1, hk⟩

theorem Memory.cells_getElem {a : Nat} {bs : Bytes} {i : Nat} (hi : i < bs.length) (hz : bs[i] ≠ 0#8) :
    (a + i, bs[i]) ∈ Memory.cells a bs := by
  induction bs generalizing a i with
  | nil => simp at hi
  | cons b bs ih =>
    cases i with
    | zero => simp only [List.getElem_cons_zero] at hz; simp [Memory.cells, hz]
    | succ i =>
      simp only [List.getElem_cons_succ] at hz ⊢
      have hi' : i < bs.length := by simpa using hi
      have := ih (a := a + 1) hi' hz
      have he : a + 1 + i = a + (i + 1) := by omega
      rw [he] at this
      simp only [Memory.cells]
      split
      · exact this
      · exact List.mem_cons_of_mem _ this

theorem Memory.cells_unique {a k : Nat} {bs : Bytes} {b : Byte} (h : (k, b) ∈ Memory.cells a bs) (hi : k - a < bs.length) :
    bs[k - a] = b := by
  induction bs generalizing a with
  | nil => simp at hi
  | cons c bs ih =>
    simp only [Memory.cells] at h
    have step : ∀ h' : (k, b) ∈ Memory.cells (a + 1) bs, (c :: bs)[k - a] = b := by
      intro h'
      have hb := Memory.mem_cells h'
      simp only at hb
      have e : k - a = (k - (a + 1)) + 1 := by omega
      have hlt : k - (a + 1) < bs.length := by omega
      have := ih h' hlt
      simp only [e, List.getElem_cons_succ, this]
    split at h
    · exact step h
    · rcases List.mem_cons.1 h with h | h
      · cases h; simp
      · exact step h

/-- A write puts its bytes where it says. -/
theorem Memory.byte_write {m : Memory} (h : m.wf) {a i : Nat} {bs : Bytes} (hi : i < bs.length) :
    (m.write a bs).byte (a + i) = bs[i] := by
  by_cases hz : bs[i] = 0#8
  · rw [hz]
    refine Memory.byte_eq_zero fun c hc hk => ?_
    rcases List.mem_append.1 hc with hc | hc
    · rcases List.mem_append.1 hc with hc | hc
      · have := (List.mem_filter.1 hc).2; simp only [decide_eq_true_eq] at this; omega
      · obtain ⟨k, b⟩ := c
        simp only at hk
        subst hk
        have h3 := (Memory.mem_cells hc).2.2
        have h4 := Memory.cells_unique hc (by omega)
        simp only [Nat.add_sub_cancel_left] at h4
        simp only at h3
        rw [h4] at hz
        exact h3 hz
    · have := (List.mem_filter.1 hc).2; simp only [decide_eq_true_eq] at this; omega
  · have hm : (a + i, bs[i]) ∈ m.write a bs :=
      List.mem_append_left _ (List.mem_append_right _ (Memory.cells_getElem hi hz))
    exact Memory.byte_of_mem (Memory.wf_write h a bs) hm

end Sys2Proof.Machine
end

