-- ==== Sys2Proof/Laws/State.lean ====
section
/-! SUPPORT. Sys2Proof/Laws/State.lean: what each field and each accessor reads after each update of the state. -/

namespace Sys2Proof.Machine

section Fields

variable (s : State)

/-! ### Fields that an update leaves -/


@[simp] theorem State.setReg_stepping (a w : Nat) : (s.setReg a w).stepping = s.stepping := rfl
@[simp] theorem State.setReg_strap (a w : Nat) : (s.setReg a w).strap = s.strap := rfl
@[simp] theorem State.setReg_sameTc (a w : Nat) : (s.setReg a w).sameTc = s.sameTc := rfl
@[simp] theorem State.setReg_fabric (a w : Nat) : (s.setReg a w).fabric = s.fabric := rfl
@[simp] theorem State.setReg_regions (a w : Nat) : (s.setReg a w).regions = s.regions := rfl
@[simp] theorem State.setReg_ctxs (a w : Nat) : (s.setReg a w).ctxs = s.ctxs := rfl
@[simp] theorem State.setReg_events (a w : Nat) : (s.setReg a w).events = s.events := rfl
@[simp] theorem State.setReg_nextSeq (a w : Nat) : (s.setReg a w).nextSeq = s.nextSeq := rfl
@[simp] theorem State.setReg_runs (a w : Nat) : (s.setReg a w).runs = s.runs := rfl
@[simp] theorem State.setReg_copies (a w : Nat) : (s.setReg a w).copies = s.copies := rfl
@[simp] theorem State.setReg_ended (a w : Nat) : (s.setReg a w).ended = s.ended := rfl
@[simp] theorem State.setReg_deferred (a w : Nat) : (s.setReg a w).deferred = s.deferred := rfl
@[simp] theorem State.setReg_flight (a w : Nat) : (s.setReg a w).flight = s.flight := rfl
@[simp] theorem State.setReg_slots (a w : Nat) : (s.setReg a w).slots = s.slots := rfl
@[simp] theorem State.setReg_groups (a w : Nat) : (s.setReg a w).groups = s.groups := rfl
@[simp] theorem State.setReg_membership (a w : Nat) : (s.setReg a w).membership = s.membership := rfl
@[simp] theorem State.setReg_bringUp (a w : Nat) : (s.setReg a w).bringUp = s.bringUp := rfl
@[simp] theorem State.setReg_power (a w : Nat) : (s.setReg a w).power = s.power := rfl
@[simp] theorem State.setReg_time (a w : Nat) : (s.setReg a w).time = s.time := rfl
@[simp] theorem State.setReg_phase (a w : Nat) : (s.setReg a w).phase = s.phase := rfl
@[simp] theorem State.setReg_loading (a w : Nat) : (s.setReg a w).loading = s.loading := rfl
@[simp] theorem State.setReg_saving (a w : Nat) : (s.setReg a w).saving = s.saving := rfl
@[simp] theorem State.setReg_relocating (a w : Nat) : (s.setReg a w).relocating = s.relocating := rfl
@[simp] theorem State.setReg_answers (a w : Nat) : (s.setReg a w).answers = s.answers := rfl
@[simp] theorem State.setReg_freeCtr (a w : Nat) : (s.setReg a w).freeCtr = s.freeCtr := rfl
@[simp] theorem State.setReg_pending (a w : Nat) : (s.setReg a w).pending = s.pending := rfl

@[simp] theorem State.setF_stepping (pg : Nat) (f : Fld) (v : Nat) : (s.setF pg f v).stepping = s.stepping := rfl
@[simp] theorem State.setF_strap (pg : Nat) (f : Fld) (v : Nat) : (s.setF pg f v).strap = s.strap := rfl
@[simp] theorem State.setF_sameTc (pg : Nat) (f : Fld) (v : Nat) : (s.setF pg f v).sameTc = s.sameTc := rfl
@[simp] theorem State.setF_fabric (pg : Nat) (f : Fld) (v : Nat) : (s.setF pg f v).fabric = s.fabric := rfl
@[simp] theorem State.setF_regions (pg : Nat) (f : Fld) (v : Nat) : (s.setF pg f v).regions = s.regions := rfl
@[simp] theorem State.setF_ctxs (pg : Nat) (f : Fld) (v : Nat) : (s.setF pg f v).ctxs = s.ctxs := rfl
@[simp] theorem State.setF_events (pg : Nat) (f : Fld) (v : Nat) : (s.setF pg f v).events = s.events := rfl
@[simp] theorem State.setF_nextSeq (pg : Nat) (f : Fld) (v : Nat) : (s.setF pg f v).nextSeq = s.nextSeq := rfl
@[simp] theorem State.setF_runs (pg : Nat) (f : Fld) (v : Nat) : (s.setF pg f v).runs = s.runs := rfl
@[simp] theorem State.setF_copies (pg : Nat) (f : Fld) (v : Nat) : (s.setF pg f v).copies = s.copies := rfl
@[simp] theorem State.setF_ended (pg : Nat) (f : Fld) (v : Nat) : (s.setF pg f v).ended = s.ended := rfl
@[simp] theorem State.setF_deferred (pg : Nat) (f : Fld) (v : Nat) : (s.setF pg f v).deferred = s.deferred := rfl
@[simp] theorem State.setF_flight (pg : Nat) (f : Fld) (v : Nat) : (s.setF pg f v).flight = s.flight := rfl
@[simp] theorem State.setF_slots (pg : Nat) (f : Fld) (v : Nat) : (s.setF pg f v).slots = s.slots := rfl
@[simp] theorem State.setF_groups (pg : Nat) (f : Fld) (v : Nat) : (s.setF pg f v).groups = s.groups := rfl
@[simp] theorem State.setF_membership (pg : Nat) (f : Fld) (v : Nat) : (s.setF pg f v).membership = s.membership := rfl
@[simp] theorem State.setF_bringUp (pg : Nat) (f : Fld) (v : Nat) : (s.setF pg f v).bringUp = s.bringUp := rfl
@[simp] theorem State.setF_power (pg : Nat) (f : Fld) (v : Nat) : (s.setF pg f v).power = s.power := rfl
@[simp] theorem State.setF_time (pg : Nat) (f : Fld) (v : Nat) : (s.setF pg f v).time = s.time := rfl
@[simp] theorem State.setF_phase (pg : Nat) (f : Fld) (v : Nat) : (s.setF pg f v).phase = s.phase := rfl
@[simp] theorem State.setF_loading (pg : Nat) (f : Fld) (v : Nat) : (s.setF pg f v).loading = s.loading := rfl
@[simp] theorem State.setF_saving (pg : Nat) (f : Fld) (v : Nat) : (s.setF pg f v).saving = s.saving := rfl
@[simp] theorem State.setF_relocating (pg : Nat) (f : Fld) (v : Nat) : (s.setF pg f v).relocating = s.relocating := rfl
@[simp] theorem State.setF_answers (pg : Nat) (f : Fld) (v : Nat) : (s.setF pg f v).answers = s.answers := rfl
@[simp] theorem State.setF_freeCtr (pg : Nat) (f : Fld) (v : Nat) : (s.setF pg f v).freeCtr = s.freeCtr := rfl
@[simp] theorem State.setF_pending (pg : Nat) (f : Fld) (v : Nat) : (s.setF pg f v).pending = s.pending := rfl

@[simp] theorem State.note_stepping (a m : Nat) : (s.note a m).stepping = s.stepping := rfl
@[simp] theorem State.note_strap (a m : Nat) : (s.note a m).strap = s.strap := rfl
@[simp] theorem State.note_regs (a m : Nat) : (s.note a m).regs = s.regs := rfl
@[simp] theorem State.note_fabric (a m : Nat) : (s.note a m).fabric = s.fabric := rfl
@[simp] theorem State.note_regions (a m : Nat) : (s.note a m).regions = s.regions := rfl
@[simp] theorem State.note_ctxs (a m : Nat) : (s.note a m).ctxs = s.ctxs := rfl
@[simp] theorem State.note_events (a m : Nat) : (s.note a m).events = s.events := rfl
@[simp] theorem State.note_nextSeq (a m : Nat) : (s.note a m).nextSeq = s.nextSeq := rfl
@[simp] theorem State.note_runs (a m : Nat) : (s.note a m).runs = s.runs := rfl
@[simp] theorem State.note_copies (a m : Nat) : (s.note a m).copies = s.copies := rfl
@[simp] theorem State.note_ended (a m : Nat) : (s.note a m).ended = s.ended := rfl
@[simp] theorem State.note_deferred (a m : Nat) : (s.note a m).deferred = s.deferred := rfl
@[simp] theorem State.note_flight (a m : Nat) : (s.note a m).flight = s.flight := rfl
@[simp] theorem State.note_slots (a m : Nat) : (s.note a m).slots = s.slots := rfl
@[simp] theorem State.note_groups (a m : Nat) : (s.note a m).groups = s.groups := rfl
@[simp] theorem State.note_membership (a m : Nat) : (s.note a m).membership = s.membership := rfl
@[simp] theorem State.note_bringUp (a m : Nat) : (s.note a m).bringUp = s.bringUp := rfl
@[simp] theorem State.note_power (a m : Nat) : (s.note a m).power = s.power := rfl
@[simp] theorem State.note_time (a m : Nat) : (s.note a m).time = s.time := rfl
@[simp] theorem State.note_phase (a m : Nat) : (s.note a m).phase = s.phase := rfl
@[simp] theorem State.note_loading (a m : Nat) : (s.note a m).loading = s.loading := rfl
@[simp] theorem State.note_saving (a m : Nat) : (s.note a m).saving = s.saving := rfl
@[simp] theorem State.note_relocating (a m : Nat) : (s.note a m).relocating = s.relocating := rfl
@[simp] theorem State.note_answers (a m : Nat) : (s.note a m).answers = s.answers := rfl
@[simp] theorem State.note_freeCtr (a m : Nat) : (s.note a m).freeCtr = s.freeCtr := rfl
@[simp] theorem State.note_pending (a m : Nat) : (s.note a m).pending = s.pending := rfl

@[simp] theorem State.noteF_stepping (pg : Nat) (f : Fld) (v : Nat) : (s.noteF pg f v).stepping = s.stepping := rfl
@[simp] theorem State.noteF_strap (pg : Nat) (f : Fld) (v : Nat) : (s.noteF pg f v).strap = s.strap := rfl
@[simp] theorem State.noteF_fabric (pg : Nat) (f : Fld) (v : Nat) : (s.noteF pg f v).fabric = s.fabric := rfl
@[simp] theorem State.noteF_regions (pg : Nat) (f : Fld) (v : Nat) : (s.noteF pg f v).regions = s.regions := rfl
@[simp] theorem State.noteF_ctxs (pg : Nat) (f : Fld) (v : Nat) : (s.noteF pg f v).ctxs = s.ctxs := rfl
@[simp] theorem State.noteF_events (pg : Nat) (f : Fld) (v : Nat) : (s.noteF pg f v).events = s.events := rfl
@[simp] theorem State.noteF_nextSeq (pg : Nat) (f : Fld) (v : Nat) : (s.noteF pg f v).nextSeq = s.nextSeq := rfl
@[simp] theorem State.noteF_runs (pg : Nat) (f : Fld) (v : Nat) : (s.noteF pg f v).runs = s.runs := rfl
@[simp] theorem State.noteF_copies (pg : Nat) (f : Fld) (v : Nat) : (s.noteF pg f v).copies = s.copies := rfl
@[simp] theorem State.noteF_ended (pg : Nat) (f : Fld) (v : Nat) : (s.noteF pg f v).ended = s.ended := rfl
@[simp] theorem State.noteF_deferred (pg : Nat) (f : Fld) (v : Nat) : (s.noteF pg f v).deferred = s.deferred := rfl
@[simp] theorem State.noteF_flight (pg : Nat) (f : Fld) (v : Nat) : (s.noteF pg f v).flight = s.flight := rfl
@[simp] theorem State.noteF_slots (pg : Nat) (f : Fld) (v : Nat) : (s.noteF pg f v).slots = s.slots := rfl
@[simp] theorem State.noteF_groups (pg : Nat) (f : Fld) (v : Nat) : (s.noteF pg f v).groups = s.groups := rfl
@[simp] theorem State.noteF_membership (pg : Nat) (f : Fld) (v : Nat) : (s.noteF pg f v).membership = s.membership := rfl
@[simp] theorem State.noteF_bringUp (pg : Nat) (f : Fld) (v : Nat) : (s.noteF pg f v).bringUp = s.bringUp := rfl
@[simp] theorem State.noteF_power (pg : Nat) (f : Fld) (v : Nat) : (s.noteF pg f v).power = s.power := rfl
@[simp] theorem State.noteF_time (pg : Nat) (f : Fld) (v : Nat) : (s.noteF pg f v).time = s.time := rfl
@[simp] theorem State.noteF_phase (pg : Nat) (f : Fld) (v : Nat) : (s.noteF pg f v).phase = s.phase := rfl
@[simp] theorem State.noteF_loading (pg : Nat) (f : Fld) (v : Nat) : (s.noteF pg f v).loading = s.loading := rfl
@[simp] theorem State.noteF_saving (pg : Nat) (f : Fld) (v : Nat) : (s.noteF pg f v).saving = s.saving := rfl
@[simp] theorem State.noteF_relocating (pg : Nat) (f : Fld) (v : Nat) : (s.noteF pg f v).relocating = s.relocating := rfl
@[simp] theorem State.noteF_answers (pg : Nat) (f : Fld) (v : Nat) : (s.noteF pg f v).answers = s.answers := rfl
@[simp] theorem State.noteF_freeCtr (pg : Nat) (f : Fld) (v : Nat) : (s.noteF pg f v).freeCtr = s.freeCtr := rfl
@[simp] theorem State.noteF_pending (pg : Nat) (f : Fld) (v : Nat) : (s.noteF pg f v).pending = s.pending := rfl

@[simp] theorem State.bumpF_stepping (pg : Nat) (f : Fld) (n : Nat) : (s.bumpF pg f n).stepping = s.stepping := by unfold State.bumpF; split <;> rfl
@[simp] theorem State.bumpF_strap (pg : Nat) (f : Fld) (n : Nat) : (s.bumpF pg f n).strap = s.strap := by unfold State.bumpF; split <;> rfl
@[simp] theorem State.bumpF_fabric (pg : Nat) (f : Fld) (n : Nat) : (s.bumpF pg f n).fabric = s.fabric := by unfold State.bumpF; split <;> rfl
@[simp] theorem State.bumpF_regions (pg : Nat) (f : Fld) (n : Nat) : (s.bumpF pg f n).regions = s.regions := by unfold State.bumpF; split <;> rfl
@[simp] theorem State.bumpF_ctxs (pg : Nat) (f : Fld) (n : Nat) : (s.bumpF pg f n).ctxs = s.ctxs := by unfold State.bumpF; split <;> rfl
@[simp] theorem State.bumpF_events (pg : Nat) (f : Fld) (n : Nat) : (s.bumpF pg f n).events = s.events := by unfold State.bumpF; split <;> rfl
@[simp] theorem State.bumpF_nextSeq (pg : Nat) (f : Fld) (n : Nat) : (s.bumpF pg f n).nextSeq = s.nextSeq := by unfold State.bumpF; split <;> rfl
@[simp] theorem State.bumpF_runs (pg : Nat) (f : Fld) (n : Nat) : (s.bumpF pg f n).runs = s.runs := by unfold State.bumpF; split <;> rfl
@[simp] theorem State.bumpF_copies (pg : Nat) (f : Fld) (n : Nat) : (s.bumpF pg f n).copies = s.copies := by unfold State.bumpF; split <;> rfl
@[simp] theorem State.bumpF_ended (pg : Nat) (f : Fld) (n : Nat) : (s.bumpF pg f n).ended = s.ended := by unfold State.bumpF; split <;> rfl
@[simp] theorem State.bumpF_deferred (pg : Nat) (f : Fld) (n : Nat) : (s.bumpF pg f n).deferred = s.deferred := by unfold State.bumpF; split <;> rfl
@[simp] theorem State.bumpF_flight (pg : Nat) (f : Fld) (n : Nat) : (s.bumpF pg f n).flight = s.flight := by unfold State.bumpF; split <;> rfl
@[simp] theorem State.bumpF_slots (pg : Nat) (f : Fld) (n : Nat) : (s.bumpF pg f n).slots = s.slots := by unfold State.bumpF; split <;> rfl
@[simp] theorem State.bumpF_groups (pg : Nat) (f : Fld) (n : Nat) : (s.bumpF pg f n).groups = s.groups := by unfold State.bumpF; split <;> rfl
@[simp] theorem State.bumpF_membership (pg : Nat) (f : Fld) (n : Nat) : (s.bumpF pg f n).membership = s.membership := by unfold State.bumpF; split <;> rfl
@[simp] theorem State.bumpF_bringUp (pg : Nat) (f : Fld) (n : Nat) : (s.bumpF pg f n).bringUp = s.bringUp := by unfold State.bumpF; split <;> rfl
@[simp] theorem State.bumpF_power (pg : Nat) (f : Fld) (n : Nat) : (s.bumpF pg f n).power = s.power := by unfold State.bumpF; split <;> rfl
@[simp] theorem State.bumpF_time (pg : Nat) (f : Fld) (n : Nat) : (s.bumpF pg f n).time = s.time := by unfold State.bumpF; split <;> rfl
@[simp] theorem State.bumpF_phase (pg : Nat) (f : Fld) (n : Nat) : (s.bumpF pg f n).phase = s.phase := by unfold State.bumpF; split <;> rfl
@[simp] theorem State.bumpF_loading (pg : Nat) (f : Fld) (n : Nat) : (s.bumpF pg f n).loading = s.loading := by unfold State.bumpF; split <;> rfl
@[simp] theorem State.bumpF_saving (pg : Nat) (f : Fld) (n : Nat) : (s.bumpF pg f n).saving = s.saving := by unfold State.bumpF; split <;> rfl
@[simp] theorem State.bumpF_relocating (pg : Nat) (f : Fld) (n : Nat) : (s.bumpF pg f n).relocating = s.relocating := by unfold State.bumpF; split <;> rfl
@[simp] theorem State.bumpF_answers (pg : Nat) (f : Fld) (n : Nat) : (s.bumpF pg f n).answers = s.answers := by unfold State.bumpF; split <;> rfl
@[simp] theorem State.bumpF_freeCtr (pg : Nat) (f : Fld) (n : Nat) : (s.bumpF pg f n).freeCtr = s.freeCtr := by unfold State.bumpF; split <;> rfl
@[simp] theorem State.bumpF_pending (pg : Nat) (f : Fld) (n : Nat) : (s.bumpF pg f n).pending = s.pending := by unfold State.bumpF; split <;> rfl

@[simp] theorem State.resetRegs_stepping (p : Nat → Bool) : (s.resetRegs p).stepping = s.stepping := rfl
@[simp] theorem State.resetRegs_strap (p : Nat → Bool) : (s.resetRegs p).strap = s.strap := rfl
@[simp] theorem State.resetRegs_fabric (p : Nat → Bool) : (s.resetRegs p).fabric = s.fabric := rfl
@[simp] theorem State.resetRegs_regions (p : Nat → Bool) : (s.resetRegs p).regions = s.regions := rfl
@[simp] theorem State.resetRegs_ctxs (p : Nat → Bool) : (s.resetRegs p).ctxs = s.ctxs := rfl
@[simp] theorem State.resetRegs_events (p : Nat → Bool) : (s.resetRegs p).events = s.events := rfl
@[simp] theorem State.resetRegs_nextSeq (p : Nat → Bool) : (s.resetRegs p).nextSeq = s.nextSeq := rfl
@[simp] theorem State.resetRegs_runs (p : Nat → Bool) : (s.resetRegs p).runs = s.runs := rfl
@[simp] theorem State.resetRegs_copies (p : Nat → Bool) : (s.resetRegs p).copies = s.copies := rfl
@[simp] theorem State.resetRegs_ended (p : Nat → Bool) : (s.resetRegs p).ended = s.ended := rfl
@[simp] theorem State.resetRegs_deferred (p : Nat → Bool) : (s.resetRegs p).deferred = s.deferred := rfl
@[simp] theorem State.resetRegs_flight (p : Nat → Bool) : (s.resetRegs p).flight = s.flight := rfl
@[simp] theorem State.resetRegs_slots (p : Nat → Bool) : (s.resetRegs p).slots = s.slots := rfl
@[simp] theorem State.resetRegs_groups (p : Nat → Bool) : (s.resetRegs p).groups = s.groups := rfl
@[simp] theorem State.resetRegs_membership (p : Nat → Bool) : (s.resetRegs p).membership = s.membership := rfl
@[simp] theorem State.resetRegs_bringUp (p : Nat → Bool) : (s.resetRegs p).bringUp = s.bringUp := rfl
@[simp] theorem State.resetRegs_power (p : Nat → Bool) : (s.resetRegs p).power = s.power := rfl
@[simp] theorem State.resetRegs_time (p : Nat → Bool) : (s.resetRegs p).time = s.time := rfl
@[simp] theorem State.resetRegs_phase (p : Nat → Bool) : (s.resetRegs p).phase = s.phase := rfl
@[simp] theorem State.resetRegs_loading (p : Nat → Bool) : (s.resetRegs p).loading = s.loading := rfl
@[simp] theorem State.resetRegs_saving (p : Nat → Bool) : (s.resetRegs p).saving = s.saving := rfl
@[simp] theorem State.resetRegs_relocating (p : Nat → Bool) : (s.resetRegs p).relocating = s.relocating := rfl
@[simp] theorem State.resetRegs_answers (p : Nat → Bool) : (s.resetRegs p).answers = s.answers := rfl
@[simp] theorem State.resetRegs_freeCtr (p : Nat → Bool) : (s.resetRegs p).freeCtr = s.freeCtr := rfl
@[simp] theorem State.resetRegs_pending (p : Nat → Bool) : (s.resetRegs p).pending = s.pending := rfl

@[simp] theorem State.modRegion_stepping (r : Nat) (f : Region → Region) : (s.modRegion r f).stepping = s.stepping := rfl
@[simp] theorem State.modRegion_strap (r : Nat) (f : Region → Region) : (s.modRegion r f).strap = s.strap := rfl
@[simp] theorem State.modRegion_regs (r : Nat) (f : Region → Region) : (s.modRegion r f).regs = s.regs := rfl
@[simp] theorem State.modRegion_sameTc (r : Nat) (f : Region → Region) : (s.modRegion r f).sameTc = s.sameTc := rfl
@[simp] theorem State.modRegion_fabric (r : Nat) (f : Region → Region) : (s.modRegion r f).fabric = s.fabric := rfl
@[simp] theorem State.modRegion_ctxs (r : Nat) (f : Region → Region) : (s.modRegion r f).ctxs = s.ctxs := rfl
@[simp] theorem State.modRegion_events (r : Nat) (f : Region → Region) : (s.modRegion r f).events = s.events := rfl
@[simp] theorem State.modRegion_nextSeq (r : Nat) (f : Region → Region) : (s.modRegion r f).nextSeq = s.nextSeq := rfl
@[simp] theorem State.modRegion_runs (r : Nat) (f : Region → Region) : (s.modRegion r f).runs = s.runs := rfl
@[simp] theorem State.modRegion_copies (r : Nat) (f : Region → Region) : (s.modRegion r f).copies = s.copies := rfl
@[simp] theorem State.modRegion_ended (r : Nat) (f : Region → Region) : (s.modRegion r f).ended = s.ended := rfl
@[simp] theorem State.modRegion_deferred (r : Nat) (f : Region → Region) : (s.modRegion r f).deferred = s.deferred := rfl
@[simp] theorem State.modRegion_flight (r : Nat) (f : Region → Region) : (s.modRegion r f).flight = s.flight := rfl
@[simp] theorem State.modRegion_slots (r : Nat) (f : Region → Region) : (s.modRegion r f).slots = s.slots := rfl
@[simp] theorem State.modRegion_groups (r : Nat) (f : Region → Region) : (s.modRegion r f).groups = s.groups := rfl
@[simp] theorem State.modRegion_membership (r : Nat) (f : Region → Region) : (s.modRegion r f).membership = s.membership := rfl
@[simp] theorem State.modRegion_bringUp (r : Nat) (f : Region → Region) : (s.modRegion r f).bringUp = s.bringUp := rfl
@[simp] theorem State.modRegion_power (r : Nat) (f : Region → Region) : (s.modRegion r f).power = s.power := rfl
@[simp] theorem State.modRegion_time (r : Nat) (f : Region → Region) : (s.modRegion r f).time = s.time := rfl
@[simp] theorem State.modRegion_phase (r : Nat) (f : Region → Region) : (s.modRegion r f).phase = s.phase := rfl
@[simp] theorem State.modRegion_loading (r : Nat) (f : Region → Region) : (s.modRegion r f).loading = s.loading := rfl
@[simp] theorem State.modRegion_saving (r : Nat) (f : Region → Region) : (s.modRegion r f).saving = s.saving := rfl
@[simp] theorem State.modRegion_relocating (r : Nat) (f : Region → Region) : (s.modRegion r f).relocating = s.relocating := rfl
@[simp] theorem State.modRegion_answers (r : Nat) (f : Region → Region) : (s.modRegion r f).answers = s.answers := rfl
@[simp] theorem State.modRegion_freeCtr (r : Nat) (f : Region → Region) : (s.modRegion r f).freeCtr = s.freeCtr := rfl
@[simp] theorem State.modRegion_pending (r : Nat) (f : Region → Region) : (s.modRegion r f).pending = s.pending := rfl

@[simp] theorem State.modCtx_stepping (c : Nat) (f : Ctx → Ctx) : (s.modCtx c f).stepping = s.stepping := rfl
@[simp] theorem State.modCtx_strap (c : Nat) (f : Ctx → Ctx) : (s.modCtx c f).strap = s.strap := rfl
@[simp] theorem State.modCtx_regs (c : Nat) (f : Ctx → Ctx) : (s.modCtx c f).regs = s.regs := rfl
@[simp] theorem State.modCtx_sameTc (c : Nat) (f : Ctx → Ctx) : (s.modCtx c f).sameTc = s.sameTc := rfl
@[simp] theorem State.modCtx_fabric (c : Nat) (f : Ctx → Ctx) : (s.modCtx c f).fabric = s.fabric := rfl
@[simp] theorem State.modCtx_regions (c : Nat) (f : Ctx → Ctx) : (s.modCtx c f).regions = s.regions := rfl
@[simp] theorem State.modCtx_events (c : Nat) (f : Ctx → Ctx) : (s.modCtx c f).events = s.events := rfl
@[simp] theorem State.modCtx_nextSeq (c : Nat) (f : Ctx → Ctx) : (s.modCtx c f).nextSeq = s.nextSeq := rfl
@[simp] theorem State.modCtx_runs (c : Nat) (f : Ctx → Ctx) : (s.modCtx c f).runs = s.runs := rfl
@[simp] theorem State.modCtx_copies (c : Nat) (f : Ctx → Ctx) : (s.modCtx c f).copies = s.copies := rfl
@[simp] theorem State.modCtx_ended (c : Nat) (f : Ctx → Ctx) : (s.modCtx c f).ended = s.ended := rfl
@[simp] theorem State.modCtx_deferred (c : Nat) (f : Ctx → Ctx) : (s.modCtx c f).deferred = s.deferred := rfl
@[simp] theorem State.modCtx_flight (c : Nat) (f : Ctx → Ctx) : (s.modCtx c f).flight = s.flight := rfl
@[simp] theorem State.modCtx_slots (c : Nat) (f : Ctx → Ctx) : (s.modCtx c f).slots = s.slots := rfl
@[simp] theorem State.modCtx_groups (c : Nat) (f : Ctx → Ctx) : (s.modCtx c f).groups = s.groups := rfl
@[simp] theorem State.modCtx_membership (c : Nat) (f : Ctx → Ctx) : (s.modCtx c f).membership = s.membership := rfl
@[simp] theorem State.modCtx_bringUp (c : Nat) (f : Ctx → Ctx) : (s.modCtx c f).bringUp = s.bringUp := rfl
@[simp] theorem State.modCtx_power (c : Nat) (f : Ctx → Ctx) : (s.modCtx c f).power = s.power := rfl
@[simp] theorem State.modCtx_time (c : Nat) (f : Ctx → Ctx) : (s.modCtx c f).time = s.time := rfl
@[simp] theorem State.modCtx_phase (c : Nat) (f : Ctx → Ctx) : (s.modCtx c f).phase = s.phase := rfl
@[simp] theorem State.modCtx_loading (c : Nat) (f : Ctx → Ctx) : (s.modCtx c f).loading = s.loading := rfl
@[simp] theorem State.modCtx_saving (c : Nat) (f : Ctx → Ctx) : (s.modCtx c f).saving = s.saving := rfl
@[simp] theorem State.modCtx_relocating (c : Nat) (f : Ctx → Ctx) : (s.modCtx c f).relocating = s.relocating := rfl
@[simp] theorem State.modCtx_answers (c : Nat) (f : Ctx → Ctx) : (s.modCtx c f).answers = s.answers := rfl
@[simp] theorem State.modCtx_freeCtr (c : Nat) (f : Ctx → Ctx) : (s.modCtx c f).freeCtr = s.freeCtr := rfl
@[simp] theorem State.modCtx_pending (c : Nat) (f : Ctx → Ctx) : (s.modCtx c f).pending = s.pending := rfl

@[simp] theorem State.modGroup_stepping (g : Nat) (f : Group → Group) : (s.modGroup g f).stepping = s.stepping := rfl
@[simp] theorem State.modGroup_strap (g : Nat) (f : Group → Group) : (s.modGroup g f).strap = s.strap := rfl
@[simp] theorem State.modGroup_regs (g : Nat) (f : Group → Group) : (s.modGroup g f).regs = s.regs := rfl
@[simp] theorem State.modGroup_sameTc (g : Nat) (f : Group → Group) : (s.modGroup g f).sameTc = s.sameTc := rfl
@[simp] theorem State.modGroup_fabric (g : Nat) (f : Group → Group) : (s.modGroup g f).fabric = s.fabric := rfl
@[simp] theorem State.modGroup_regions (g : Nat) (f : Group → Group) : (s.modGroup g f).regions = s.regions := rfl
@[simp] theorem State.modGroup_ctxs (g : Nat) (f : Group → Group) : (s.modGroup g f).ctxs = s.ctxs := rfl
@[simp] theorem State.modGroup_events (g : Nat) (f : Group → Group) : (s.modGroup g f).events = s.events := rfl
@[simp] theorem State.modGroup_nextSeq (g : Nat) (f : Group → Group) : (s.modGroup g f).nextSeq = s.nextSeq := rfl
@[simp] theorem State.modGroup_runs (g : Nat) (f : Group → Group) : (s.modGroup g f).runs = s.runs := rfl
@[simp] theorem State.modGroup_copies (g : Nat) (f : Group → Group) : (s.modGroup g f).copies = s.copies := rfl
@[simp] theorem State.modGroup_ended (g : Nat) (f : Group → Group) : (s.modGroup g f).ended = s.ended := rfl
@[simp] theorem State.modGroup_deferred (g : Nat) (f : Group → Group) : (s.modGroup g f).deferred = s.deferred := rfl
@[simp] theorem State.modGroup_flight (g : Nat) (f : Group → Group) : (s.modGroup g f).flight = s.flight := rfl
@[simp] theorem State.modGroup_slots (g : Nat) (f : Group → Group) : (s.modGroup g f).slots = s.slots := rfl
@[simp] theorem State.modGroup_membership (g : Nat) (f : Group → Group) : (s.modGroup g f).membership = s.membership := rfl
@[simp] theorem State.modGroup_bringUp (g : Nat) (f : Group → Group) : (s.modGroup g f).bringUp = s.bringUp := rfl
@[simp] theorem State.modGroup_power (g : Nat) (f : Group → Group) : (s.modGroup g f).power = s.power := rfl
@[simp] theorem State.modGroup_time (g : Nat) (f : Group → Group) : (s.modGroup g f).time = s.time := rfl
@[simp] theorem State.modGroup_phase (g : Nat) (f : Group → Group) : (s.modGroup g f).phase = s.phase := rfl
@[simp] theorem State.modGroup_loading (g : Nat) (f : Group → Group) : (s.modGroup g f).loading = s.loading := rfl
@[simp] theorem State.modGroup_saving (g : Nat) (f : Group → Group) : (s.modGroup g f).saving = s.saving := rfl
@[simp] theorem State.modGroup_relocating (g : Nat) (f : Group → Group) : (s.modGroup g f).relocating = s.relocating := rfl
@[simp] theorem State.modGroup_answers (g : Nat) (f : Group → Group) : (s.modGroup g f).answers = s.answers := rfl
@[simp] theorem State.modGroup_freeCtr (g : Nat) (f : Group → Group) : (s.modGroup g f).freeCtr = s.freeCtr := rfl
@[simp] theorem State.modGroup_pending (g : Nat) (f : Group → Group) : (s.modGroup g f).pending = s.pending := rfl

@[simp] theorem State.setSlot_stepping (i : Nat) (x : SeqSlot) : (s.setSlot i x).stepping = s.stepping := rfl
@[simp] theorem State.setSlot_strap (i : Nat) (x : SeqSlot) : (s.setSlot i x).strap = s.strap := rfl
@[simp] theorem State.setSlot_regs (i : Nat) (x : SeqSlot) : (s.setSlot i x).regs = s.regs := rfl
@[simp] theorem State.setSlot_sameTc (i : Nat) (x : SeqSlot) : (s.setSlot i x).sameTc = s.sameTc := rfl
@[simp] theorem State.setSlot_fabric (i : Nat) (x : SeqSlot) : (s.setSlot i x).fabric = s.fabric := rfl
@[simp] theorem State.setSlot_regions (i : Nat) (x : SeqSlot) : (s.setSlot i x).regions = s.regions := rfl
@[simp] theorem State.setSlot_ctxs (i : Nat) (x : SeqSlot) : (s.setSlot i x).ctxs = s.ctxs := rfl
@[simp] theorem State.setSlot_events (i : Nat) (x : SeqSlot) : (s.setSlot i x).events = s.events := rfl
@[simp] theorem State.setSlot_nextSeq (i : Nat) (x : SeqSlot) : (s.setSlot i x).nextSeq = s.nextSeq := rfl
@[simp] theorem State.setSlot_runs (i : Nat) (x : SeqSlot) : (s.setSlot i x).runs = s.runs := rfl
@[simp] theorem State.setSlot_copies (i : Nat) (x : SeqSlot) : (s.setSlot i x).copies = s.copies := rfl
@[simp] theorem State.setSlot_ended (i : Nat) (x : SeqSlot) : (s.setSlot i x).ended = s.ended := rfl
@[simp] theorem State.setSlot_deferred (i : Nat) (x : SeqSlot) : (s.setSlot i x).deferred = s.deferred := rfl
@[simp] theorem State.setSlot_flight (i : Nat) (x : SeqSlot) : (s.setSlot i x).flight = s.flight := rfl
@[simp] theorem State.setSlot_groups (i : Nat) (x : SeqSlot) : (s.setSlot i x).groups = s.groups := rfl
@[simp] theorem State.setSlot_membership (i : Nat) (x : SeqSlot) : (s.setSlot i x).membership = s.membership := rfl
@[simp] theorem State.setSlot_bringUp (i : Nat) (x : SeqSlot) : (s.setSlot i x).bringUp = s.bringUp := rfl
@[simp] theorem State.setSlot_power (i : Nat) (x : SeqSlot) : (s.setSlot i x).power = s.power := rfl
@[simp] theorem State.setSlot_time (i : Nat) (x : SeqSlot) : (s.setSlot i x).time = s.time := rfl
@[simp] theorem State.setSlot_phase (i : Nat) (x : SeqSlot) : (s.setSlot i x).phase = s.phase := rfl
@[simp] theorem State.setSlot_loading (i : Nat) (x : SeqSlot) : (s.setSlot i x).loading = s.loading := rfl
@[simp] theorem State.setSlot_saving (i : Nat) (x : SeqSlot) : (s.setSlot i x).saving = s.saving := rfl
@[simp] theorem State.setSlot_relocating (i : Nat) (x : SeqSlot) : (s.setSlot i x).relocating = s.relocating := rfl
@[simp] theorem State.setSlot_answers (i : Nat) (x : SeqSlot) : (s.setSlot i x).answers = s.answers := rfl
@[simp] theorem State.setSlot_freeCtr (i : Nat) (x : SeqSlot) : (s.setSlot i x).freeCtr = s.freeCtr := rfl
@[simp] theorem State.setSlot_pending (i : Nat) (x : SeqSlot) : (s.setSlot i x).pending = s.pending := rfl

@[simp] theorem State.drew_stepping : (s.drew).stepping = s.stepping := rfl
@[simp] theorem State.drew_strap : (s.drew).strap = s.strap := rfl
@[simp] theorem State.drew_regs : (s.drew).regs = s.regs := rfl
@[simp] theorem State.drew_sameTc : (s.drew).sameTc = s.sameTc := rfl
@[simp] theorem State.drew_fabric : (s.drew).fabric = s.fabric := rfl
@[simp] theorem State.drew_regions : (s.drew).regions = s.regions := rfl
@[simp] theorem State.drew_ctxs : (s.drew).ctxs = s.ctxs := rfl
@[simp] theorem State.drew_events : (s.drew).events = s.events := rfl
@[simp] theorem State.drew_nextSeq : (s.drew).nextSeq = s.nextSeq := rfl
@[simp] theorem State.drew_runs : (s.drew).runs = s.runs := rfl
@[simp] theorem State.drew_copies : (s.drew).copies = s.copies := rfl
@[simp] theorem State.drew_ended : (s.drew).ended = s.ended := rfl
@[simp] theorem State.drew_deferred : (s.drew).deferred = s.deferred := rfl
@[simp] theorem State.drew_flight : (s.drew).flight = s.flight := rfl
@[simp] theorem State.drew_slots : (s.drew).slots = s.slots := rfl
@[simp] theorem State.drew_groups : (s.drew).groups = s.groups := rfl
@[simp] theorem State.drew_membership : (s.drew).membership = s.membership := rfl
@[simp] theorem State.drew_bringUp : (s.drew).bringUp = s.bringUp := rfl
@[simp] theorem State.drew_power : (s.drew).power = s.power := rfl
@[simp] theorem State.drew_time : (s.drew).time = s.time := rfl
@[simp] theorem State.drew_phase : (s.drew).phase = s.phase := rfl
@[simp] theorem State.drew_loading : (s.drew).loading = s.loading := rfl
@[simp] theorem State.drew_saving : (s.drew).saving = s.saving := rfl
@[simp] theorem State.drew_relocating : (s.drew).relocating = s.relocating := rfl
@[simp] theorem State.drew_answers : (s.drew).answers = s.answers := rfl
@[simp] theorem State.drew_pending : (s.drew).pending = s.pending := rfl

@[simp] theorem State.fabricWrite_stepping (a : Nat) (bs : Bytes) : (s.fabricWrite a bs).stepping = s.stepping := rfl
@[simp] theorem State.fabricWrite_strap (a : Nat) (bs : Bytes) : (s.fabricWrite a bs).strap = s.strap := rfl
@[simp] theorem State.fabricWrite_regs (a : Nat) (bs : Bytes) : (s.fabricWrite a bs).regs = s.regs := rfl
@[simp] theorem State.fabricWrite_sameTc (a : Nat) (bs : Bytes) : (s.fabricWrite a bs).sameTc = s.sameTc := rfl
@[simp] theorem State.fabricWrite_regions (a : Nat) (bs : Bytes) : (s.fabricWrite a bs).regions = s.regions := rfl
@[simp] theorem State.fabricWrite_ctxs (a : Nat) (bs : Bytes) : (s.fabricWrite a bs).ctxs = s.ctxs := rfl
@[simp] theorem State.fabricWrite_events (a : Nat) (bs : Bytes) : (s.fabricWrite a bs).events = s.events := rfl
@[simp] theorem State.fabricWrite_nextSeq (a : Nat) (bs : Bytes) : (s.fabricWrite a bs).nextSeq = s.nextSeq := rfl
@[simp] theorem State.fabricWrite_runs (a : Nat) (bs : Bytes) : (s.fabricWrite a bs).runs = s.runs := rfl
@[simp] theorem State.fabricWrite_copies (a : Nat) (bs : Bytes) : (s.fabricWrite a bs).copies = s.copies := rfl
@[simp] theorem State.fabricWrite_ended (a : Nat) (bs : Bytes) : (s.fabricWrite a bs).ended = s.ended := rfl
@[simp] theorem State.fabricWrite_deferred (a : Nat) (bs : Bytes) : (s.fabricWrite a bs).deferred = s.deferred := rfl
@[simp] theorem State.fabricWrite_flight (a : Nat) (bs : Bytes) : (s.fabricWrite a bs).flight = s.flight := rfl
@[simp] theorem State.fabricWrite_slots (a : Nat) (bs : Bytes) : (s.fabricWrite a bs).slots = s.slots := rfl
@[simp] theorem State.fabricWrite_groups (a : Nat) (bs : Bytes) : (s.fabricWrite a bs).groups = s.groups := rfl
@[simp] theorem State.fabricWrite_membership (a : Nat) (bs : Bytes) : (s.fabricWrite a bs).membership = s.membership := rfl
@[simp] theorem State.fabricWrite_bringUp (a : Nat) (bs : Bytes) : (s.fabricWrite a bs).bringUp = s.bringUp := rfl
@[simp] theorem State.fabricWrite_power (a : Nat) (bs : Bytes) : (s.fabricWrite a bs).power = s.power := rfl
@[simp] theorem State.fabricWrite_time (a : Nat) (bs : Bytes) : (s.fabricWrite a bs).time = s.time := rfl
@[simp] theorem State.fabricWrite_phase (a : Nat) (bs : Bytes) : (s.fabricWrite a bs).phase = s.phase := rfl
@[simp] theorem State.fabricWrite_loading (a : Nat) (bs : Bytes) : (s.fabricWrite a bs).loading = s.loading := rfl
@[simp] theorem State.fabricWrite_saving (a : Nat) (bs : Bytes) : (s.fabricWrite a bs).saving = s.saving := rfl
@[simp] theorem State.fabricWrite_relocating (a : Nat) (bs : Bytes) : (s.fabricWrite a bs).relocating = s.relocating := rfl
@[simp] theorem State.fabricWrite_answers (a : Nat) (bs : Bytes) : (s.fabricWrite a bs).answers = s.answers := rfl
@[simp] theorem State.fabricWrite_freeCtr (a : Nat) (bs : Bytes) : (s.fabricWrite a bs).freeCtr = s.freeCtr := rfl
@[simp] theorem State.fabricWrite_pending (a : Nat) (bs : Bytes) : (s.fabricWrite a bs).pending = s.pending := rfl

@[simp] theorem State.storeWrite_stepping (r a : Nat) (bs : Bytes) : (s.storeWrite r a bs).stepping = s.stepping := rfl
@[simp] theorem State.storeWrite_strap (r a : Nat) (bs : Bytes) : (s.storeWrite r a bs).strap = s.strap := rfl
@[simp] theorem State.storeWrite_regs (r a : Nat) (bs : Bytes) : (s.storeWrite r a bs).regs = s.regs := rfl
@[simp] theorem State.storeWrite_sameTc (r a : Nat) (bs : Bytes) : (s.storeWrite r a bs).sameTc = s.sameTc := rfl
@[simp] theorem State.storeWrite_fabric (r a : Nat) (bs : Bytes) : (s.storeWrite r a bs).fabric = s.fabric := rfl
@[simp] theorem State.storeWrite_ctxs (r a : Nat) (bs : Bytes) : (s.storeWrite r a bs).ctxs = s.ctxs := rfl
@[simp] theorem State.storeWrite_events (r a : Nat) (bs : Bytes) : (s.storeWrite r a bs).events = s.events := rfl
@[simp] theorem State.storeWrite_nextSeq (r a : Nat) (bs : Bytes) : (s.storeWrite r a bs).nextSeq = s.nextSeq := rfl
@[simp] theorem State.storeWrite_runs (r a : Nat) (bs : Bytes) : (s.storeWrite r a bs).runs = s.runs := rfl
@[simp] theorem State.storeWrite_copies (r a : Nat) (bs : Bytes) : (s.storeWrite r a bs).copies = s.copies := rfl
@[simp] theorem State.storeWrite_ended (r a : Nat) (bs : Bytes) : (s.storeWrite r a bs).ended = s.ended := rfl
@[simp] theorem State.storeWrite_deferred (r a : Nat) (bs : Bytes) : (s.storeWrite r a bs).deferred = s.deferred := rfl
@[simp] theorem State.storeWrite_flight (r a : Nat) (bs : Bytes) : (s.storeWrite r a bs).flight = s.flight := rfl
@[simp] theorem State.storeWrite_slots (r a : Nat) (bs : Bytes) : (s.storeWrite r a bs).slots = s.slots := rfl
@[simp] theorem State.storeWrite_groups (r a : Nat) (bs : Bytes) : (s.storeWrite r a bs).groups = s.groups := rfl
@[simp] theorem State.storeWrite_membership (r a : Nat) (bs : Bytes) : (s.storeWrite r a bs).membership = s.membership := rfl
@[simp] theorem State.storeWrite_bringUp (r a : Nat) (bs : Bytes) : (s.storeWrite r a bs).bringUp = s.bringUp := rfl
@[simp] theorem State.storeWrite_power (r a : Nat) (bs : Bytes) : (s.storeWrite r a bs).power = s.power := rfl
@[simp] theorem State.storeWrite_time (r a : Nat) (bs : Bytes) : (s.storeWrite r a bs).time = s.time := rfl
@[simp] theorem State.storeWrite_phase (r a : Nat) (bs : Bytes) : (s.storeWrite r a bs).phase = s.phase := rfl
@[simp] theorem State.storeWrite_loading (r a : Nat) (bs : Bytes) : (s.storeWrite r a bs).loading = s.loading := rfl
@[simp] theorem State.storeWrite_saving (r a : Nat) (bs : Bytes) : (s.storeWrite r a bs).saving = s.saving := rfl
@[simp] theorem State.storeWrite_relocating (r a : Nat) (bs : Bytes) : (s.storeWrite r a bs).relocating = s.relocating := rfl
@[simp] theorem State.storeWrite_answers (r a : Nat) (bs : Bytes) : (s.storeWrite r a bs).answers = s.answers := rfl
@[simp] theorem State.storeWrite_freeCtr (r a : Nat) (bs : Bytes) : (s.storeWrite r a bs).freeCtr = s.freeCtr := rfl
@[simp] theorem State.storeWrite_pending (r a : Nat) (bs : Bytes) : (s.storeWrite r a bs).pending = s.pending := rfl

@[simp] theorem State.modRun_stepping (seq : W32) (f : Run → Run) : (s.modRun seq f).stepping = s.stepping := rfl
@[simp] theorem State.modRun_strap (seq : W32) (f : Run → Run) : (s.modRun seq f).strap = s.strap := rfl
@[simp] theorem State.modRun_regs (seq : W32) (f : Run → Run) : (s.modRun seq f).regs = s.regs := rfl
@[simp] theorem State.modRun_sameTc (seq : W32) (f : Run → Run) : (s.modRun seq f).sameTc = s.sameTc := rfl
@[simp] theorem State.modRun_fabric (seq : W32) (f : Run → Run) : (s.modRun seq f).fabric = s.fabric := rfl
@[simp] theorem State.modRun_regions (seq : W32) (f : Run → Run) : (s.modRun seq f).regions = s.regions := rfl
@[simp] theorem State.modRun_ctxs (seq : W32) (f : Run → Run) : (s.modRun seq f).ctxs = s.ctxs := rfl
@[simp] theorem State.modRun_events (seq : W32) (f : Run → Run) : (s.modRun seq f).events = s.events := rfl
@[simp] theorem State.modRun_nextSeq (seq : W32) (f : Run → Run) : (s.modRun seq f).nextSeq = s.nextSeq := rfl
@[simp] theorem State.modRun_copies (seq : W32) (f : Run → Run) : (s.modRun seq f).copies = s.copies := rfl
@[simp] theorem State.modRun_ended (seq : W32) (f : Run → Run) : (s.modRun seq f).ended = s.ended := rfl
@[simp] theorem State.modRun_deferred (seq : W32) (f : Run → Run) : (s.modRun seq f).deferred = s.deferred := rfl
@[simp] theorem State.modRun_flight (seq : W32) (f : Run → Run) : (s.modRun seq f).flight = s.flight := rfl
@[simp] theorem State.modRun_slots (seq : W32) (f : Run → Run) : (s.modRun seq f).slots = s.slots := rfl
@[simp] theorem State.modRun_groups (seq : W32) (f : Run → Run) : (s.modRun seq f).groups = s.groups := rfl
@[simp] theorem State.modRun_membership (seq : W32) (f : Run → Run) : (s.modRun seq f).membership = s.membership := rfl
@[simp] theorem State.modRun_bringUp (seq : W32) (f : Run → Run) : (s.modRun seq f).bringUp = s.bringUp := rfl
@[simp] theorem State.modRun_power (seq : W32) (f : Run → Run) : (s.modRun seq f).power = s.power := rfl
@[simp] theorem State.modRun_time (seq : W32) (f : Run → Run) : (s.modRun seq f).time = s.time := rfl
@[simp] theorem State.modRun_phase (seq : W32) (f : Run → Run) : (s.modRun seq f).phase = s.phase := rfl
@[simp] theorem State.modRun_loading (seq : W32) (f : Run → Run) : (s.modRun seq f).loading = s.loading := rfl
@[simp] theorem State.modRun_saving (seq : W32) (f : Run → Run) : (s.modRun seq f).saving = s.saving := rfl
@[simp] theorem State.modRun_relocating (seq : W32) (f : Run → Run) : (s.modRun seq f).relocating = s.relocating := rfl
@[simp] theorem State.modRun_answers (seq : W32) (f : Run → Run) : (s.modRun seq f).answers = s.answers := rfl
@[simp] theorem State.modRun_freeCtr (seq : W32) (f : Run → Run) : (s.modRun seq f).freeCtr = s.freeCtr := rfl
@[simp] theorem State.modRun_pending (seq : W32) (f : Run → Run) : (s.modRun seq f).pending = s.pending := rfl

@[simp] theorem State.modRR_stepping (seq : W32) (r : Nat) (f : RegionRun → RegionRun) : (s.modRR seq r f).stepping = s.stepping := rfl
@[simp] theorem State.modRR_strap (seq : W32) (r : Nat) (f : RegionRun → RegionRun) : (s.modRR seq r f).strap = s.strap := rfl
@[simp] theorem State.modRR_regs (seq : W32) (r : Nat) (f : RegionRun → RegionRun) : (s.modRR seq r f).regs = s.regs := rfl
@[simp] theorem State.modRR_sameTc (seq : W32) (r : Nat) (f : RegionRun → RegionRun) : (s.modRR seq r f).sameTc = s.sameTc := rfl
@[simp] theorem State.modRR_fabric (seq : W32) (r : Nat) (f : RegionRun → RegionRun) : (s.modRR seq r f).fabric = s.fabric := rfl
@[simp] theorem State.modRR_regions (seq : W32) (r : Nat) (f : RegionRun → RegionRun) : (s.modRR seq r f).regions = s.regions := rfl
@[simp] theorem State.modRR_ctxs (seq : W32) (r : Nat) (f : RegionRun → RegionRun) : (s.modRR seq r f).ctxs = s.ctxs := rfl
@[simp] theorem State.modRR_events (seq : W32) (r : Nat) (f : RegionRun → RegionRun) : (s.modRR seq r f).events = s.events := rfl
@[simp] theorem State.modRR_nextSeq (seq : W32) (r : Nat) (f : RegionRun → RegionRun) : (s.modRR seq r f).nextSeq = s.nextSeq := rfl
@[simp] theorem State.modRR_copies (seq : W32) (r : Nat) (f : RegionRun → RegionRun) : (s.modRR seq r f).copies = s.copies := rfl
@[simp] theorem State.modRR_ended (seq : W32) (r : Nat) (f : RegionRun → RegionRun) : (s.modRR seq r f).ended = s.ended := rfl
@[simp] theorem State.modRR_deferred (seq : W32) (r : Nat) (f : RegionRun → RegionRun) : (s.modRR seq r f).deferred = s.deferred := rfl
@[simp] theorem State.modRR_flight (seq : W32) (r : Nat) (f : RegionRun → RegionRun) : (s.modRR seq r f).flight = s.flight := rfl
@[simp] theorem State.modRR_slots (seq : W32) (r : Nat) (f : RegionRun → RegionRun) : (s.modRR seq r f).slots = s.slots := rfl
@[simp] theorem State.modRR_groups (seq : W32) (r : Nat) (f : RegionRun → RegionRun) : (s.modRR seq r f).groups = s.groups := rfl
@[simp] theorem State.modRR_membership (seq : W32) (r : Nat) (f : RegionRun → RegionRun) : (s.modRR seq r f).membership = s.membership := rfl
@[simp] theorem State.modRR_bringUp (seq : W32) (r : Nat) (f : RegionRun → RegionRun) : (s.modRR seq r f).bringUp = s.bringUp := rfl
@[simp] theorem State.modRR_power (seq : W32) (r : Nat) (f : RegionRun → RegionRun) : (s.modRR seq r f).power = s.power := rfl
@[simp] theorem State.modRR_time (seq : W32) (r : Nat) (f : RegionRun → RegionRun) : (s.modRR seq r f).time = s.time := rfl
@[simp] theorem State.modRR_phase (seq : W32) (r : Nat) (f : RegionRun → RegionRun) : (s.modRR seq r f).phase = s.phase := rfl
@[simp] theorem State.modRR_loading (seq : W32) (r : Nat) (f : RegionRun → RegionRun) : (s.modRR seq r f).loading = s.loading := rfl
@[simp] theorem State.modRR_saving (seq : W32) (r : Nat) (f : RegionRun → RegionRun) : (s.modRR seq r f).saving = s.saving := rfl
@[simp] theorem State.modRR_relocating (seq : W32) (r : Nat) (f : RegionRun → RegionRun) : (s.modRR seq r f).relocating = s.relocating := rfl
@[simp] theorem State.modRR_answers (seq : W32) (r : Nat) (f : RegionRun → RegionRun) : (s.modRR seq r f).answers = s.answers := rfl
@[simp] theorem State.modRR_freeCtr (seq : W32) (r : Nat) (f : RegionRun → RegionRun) : (s.modRR seq r f).freeCtr = s.freeCtr := rfl
@[simp] theorem State.modRR_pending (seq : W32) (r : Nat) (f : RegionRun → RegionRun) : (s.modRR seq r f).pending = s.pending := rfl

@[simp] theorem State.modMemPort_stepping (r m : Nat) (f : MemPort → MemPort) : (s.modMemPort r m f).stepping = s.stepping := rfl
@[simp] theorem State.modMemPort_strap (r m : Nat) (f : MemPort → MemPort) : (s.modMemPort r m f).strap = s.strap := rfl
@[simp] theorem State.modMemPort_regs (r m : Nat) (f : MemPort → MemPort) : (s.modMemPort r m f).regs = s.regs := rfl
@[simp] theorem State.modMemPort_sameTc (r m : Nat) (f : MemPort → MemPort) : (s.modMemPort r m f).sameTc = s.sameTc := rfl
@[simp] theorem State.modMemPort_fabric (r m : Nat) (f : MemPort → MemPort) : (s.modMemPort r m f).fabric = s.fabric := rfl
@[simp] theorem State.modMemPort_ctxs (r m : Nat) (f : MemPort → MemPort) : (s.modMemPort r m f).ctxs = s.ctxs := rfl
@[simp] theorem State.modMemPort_events (r m : Nat) (f : MemPort → MemPort) : (s.modMemPort r m f).events = s.events := rfl
@[simp] theorem State.modMemPort_nextSeq (r m : Nat) (f : MemPort → MemPort) : (s.modMemPort r m f).nextSeq = s.nextSeq := rfl
@[simp] theorem State.modMemPort_runs (r m : Nat) (f : MemPort → MemPort) : (s.modMemPort r m f).runs = s.runs := rfl
@[simp] theorem State.modMemPort_copies (r m : Nat) (f : MemPort → MemPort) : (s.modMemPort r m f).copies = s.copies := rfl
@[simp] theorem State.modMemPort_ended (r m : Nat) (f : MemPort → MemPort) : (s.modMemPort r m f).ended = s.ended := rfl
@[simp] theorem State.modMemPort_deferred (r m : Nat) (f : MemPort → MemPort) : (s.modMemPort r m f).deferred = s.deferred := rfl
@[simp] theorem State.modMemPort_flight (r m : Nat) (f : MemPort → MemPort) : (s.modMemPort r m f).flight = s.flight := rfl
@[simp] theorem State.modMemPort_slots (r m : Nat) (f : MemPort → MemPort) : (s.modMemPort r m f).slots = s.slots := rfl
@[simp] theorem State.modMemPort_groups (r m : Nat) (f : MemPort → MemPort) : (s.modMemPort r m f).groups = s.groups := rfl
@[simp] theorem State.modMemPort_membership (r m : Nat) (f : MemPort → MemPort) : (s.modMemPort r m f).membership = s.membership := rfl
@[simp] theorem State.modMemPort_bringUp (r m : Nat) (f : MemPort → MemPort) : (s.modMemPort r m f).bringUp = s.bringUp := rfl
@[simp] theorem State.modMemPort_power (r m : Nat) (f : MemPort → MemPort) : (s.modMemPort r m f).power = s.power := rfl
@[simp] theorem State.modMemPort_time (r m : Nat) (f : MemPort → MemPort) : (s.modMemPort r m f).time = s.time := rfl
@[simp] theorem State.modMemPort_phase (r m : Nat) (f : MemPort → MemPort) : (s.modMemPort r m f).phase = s.phase := rfl
@[simp] theorem State.modMemPort_loading (r m : Nat) (f : MemPort → MemPort) : (s.modMemPort r m f).loading = s.loading := rfl
@[simp] theorem State.modMemPort_saving (r m : Nat) (f : MemPort → MemPort) : (s.modMemPort r m f).saving = s.saving := rfl
@[simp] theorem State.modMemPort_relocating (r m : Nat) (f : MemPort → MemPort) : (s.modMemPort r m f).relocating = s.relocating := rfl
@[simp] theorem State.modMemPort_answers (r m : Nat) (f : MemPort → MemPort) : (s.modMemPort r m f).answers = s.answers := rfl
@[simp] theorem State.modMemPort_freeCtr (r m : Nat) (f : MemPort → MemPort) : (s.modMemPort r m f).freeCtr = s.freeCtr := rfl
@[simp] theorem State.modMemPort_pending (r m : Nat) (f : MemPort → MemPort) : (s.modMemPort r m f).pending = s.pending := rfl

@[simp] theorem State.modLink_stepping (r p : Nat) (f : Link → Link) : (s.modLink r p f).stepping = s.stepping := rfl
@[simp] theorem State.modLink_strap (r p : Nat) (f : Link → Link) : (s.modLink r p f).strap = s.strap := rfl
@[simp] theorem State.modLink_regs (r p : Nat) (f : Link → Link) : (s.modLink r p f).regs = s.regs := rfl
@[simp] theorem State.modLink_sameTc (r p : Nat) (f : Link → Link) : (s.modLink r p f).sameTc = s.sameTc := rfl
@[simp] theorem State.modLink_fabric (r p : Nat) (f : Link → Link) : (s.modLink r p f).fabric = s.fabric := rfl
@[simp] theorem State.modLink_ctxs (r p : Nat) (f : Link → Link) : (s.modLink r p f).ctxs = s.ctxs := rfl
@[simp] theorem State.modLink_events (r p : Nat) (f : Link → Link) : (s.modLink r p f).events = s.events := rfl
@[simp] theorem State.modLink_nextSeq (r p : Nat) (f : Link → Link) : (s.modLink r p f).nextSeq = s.nextSeq := rfl
@[simp] theorem State.modLink_runs (r p : Nat) (f : Link → Link) : (s.modLink r p f).runs = s.runs := rfl
@[simp] theorem State.modLink_copies (r p : Nat) (f : Link → Link) : (s.modLink r p f).copies = s.copies := rfl
@[simp] theorem State.modLink_ended (r p : Nat) (f : Link → Link) : (s.modLink r p f).ended = s.ended := rfl
@[simp] theorem State.modLink_deferred (r p : Nat) (f : Link → Link) : (s.modLink r p f).deferred = s.deferred := rfl
@[simp] theorem State.modLink_flight (r p : Nat) (f : Link → Link) : (s.modLink r p f).flight = s.flight := rfl
@[simp] theorem State.modLink_slots (r p : Nat) (f : Link → Link) : (s.modLink r p f).slots = s.slots := rfl
@[simp] theorem State.modLink_groups (r p : Nat) (f : Link → Link) : (s.modLink r p f).groups = s.groups := rfl
@[simp] theorem State.modLink_membership (r p : Nat) (f : Link → Link) : (s.modLink r p f).membership = s.membership := rfl
@[simp] theorem State.modLink_bringUp (r p : Nat) (f : Link → Link) : (s.modLink r p f).bringUp = s.bringUp := rfl
@[simp] theorem State.modLink_power (r p : Nat) (f : Link → Link) : (s.modLink r p f).power = s.power := rfl
@[simp] theorem State.modLink_time (r p : Nat) (f : Link → Link) : (s.modLink r p f).time = s.time := rfl
@[simp] theorem State.modLink_phase (r p : Nat) (f : Link → Link) : (s.modLink r p f).phase = s.phase := rfl
@[simp] theorem State.modLink_loading (r p : Nat) (f : Link → Link) : (s.modLink r p f).loading = s.loading := rfl
@[simp] theorem State.modLink_saving (r p : Nat) (f : Link → Link) : (s.modLink r p f).saving = s.saving := rfl
@[simp] theorem State.modLink_relocating (r p : Nat) (f : Link → Link) : (s.modLink r p f).relocating = s.relocating := rfl
@[simp] theorem State.modLink_answers (r p : Nat) (f : Link → Link) : (s.modLink r p f).answers = s.answers := rfl
@[simp] theorem State.modLink_freeCtr (r p : Nat) (f : Link → Link) : (s.modLink r p f).freeCtr = s.freeCtr := rfl
@[simp] theorem State.modLink_pending (r p : Nat) (f : Link → Link) : (s.modLink r p f).pending = s.pending := rfl

@[simp] theorem State.modInlet_stepping (r p : Nat) (f : Inlet → Inlet) : (s.modInlet r p f).stepping = s.stepping := rfl
@[simp] theorem State.modInlet_strap (r p : Nat) (f : Inlet → Inlet) : (s.modInlet r p f).strap = s.strap := rfl
@[simp] theorem State.modInlet_regs (r p : Nat) (f : Inlet → Inlet) : (s.modInlet r p f).regs = s.regs := rfl
@[simp] theorem State.modInlet_sameTc (r p : Nat) (f : Inlet → Inlet) : (s.modInlet r p f).sameTc = s.sameTc := rfl
@[simp] theorem State.modInlet_fabric (r p : Nat) (f : Inlet → Inlet) : (s.modInlet r p f).fabric = s.fabric := rfl
@[simp] theorem State.modInlet_ctxs (r p : Nat) (f : Inlet → Inlet) : (s.modInlet r p f).ctxs = s.ctxs := rfl
@[simp] theorem State.modInlet_events (r p : Nat) (f : Inlet → Inlet) : (s.modInlet r p f).events = s.events := rfl
@[simp] theorem State.modInlet_nextSeq (r p : Nat) (f : Inlet → Inlet) : (s.modInlet r p f).nextSeq = s.nextSeq := rfl
@[simp] theorem State.modInlet_runs (r p : Nat) (f : Inlet → Inlet) : (s.modInlet r p f).runs = s.runs := rfl
@[simp] theorem State.modInlet_copies (r p : Nat) (f : Inlet → Inlet) : (s.modInlet r p f).copies = s.copies := rfl
@[simp] theorem State.modInlet_ended (r p : Nat) (f : Inlet → Inlet) : (s.modInlet r p f).ended = s.ended := rfl
@[simp] theorem State.modInlet_deferred (r p : Nat) (f : Inlet → Inlet) : (s.modInlet r p f).deferred = s.deferred := rfl
@[simp] theorem State.modInlet_flight (r p : Nat) (f : Inlet → Inlet) : (s.modInlet r p f).flight = s.flight := rfl
@[simp] theorem State.modInlet_slots (r p : Nat) (f : Inlet → Inlet) : (s.modInlet r p f).slots = s.slots := rfl
@[simp] theorem State.modInlet_groups (r p : Nat) (f : Inlet → Inlet) : (s.modInlet r p f).groups = s.groups := rfl
@[simp] theorem State.modInlet_membership (r p : Nat) (f : Inlet → Inlet) : (s.modInlet r p f).membership = s.membership := rfl
@[simp] theorem State.modInlet_bringUp (r p : Nat) (f : Inlet → Inlet) : (s.modInlet r p f).bringUp = s.bringUp := rfl
@[simp] theorem State.modInlet_power (r p : Nat) (f : Inlet → Inlet) : (s.modInlet r p f).power = s.power := rfl
@[simp] theorem State.modInlet_time (r p : Nat) (f : Inlet → Inlet) : (s.modInlet r p f).time = s.time := rfl
@[simp] theorem State.modInlet_phase (r p : Nat) (f : Inlet → Inlet) : (s.modInlet r p f).phase = s.phase := rfl
@[simp] theorem State.modInlet_loading (r p : Nat) (f : Inlet → Inlet) : (s.modInlet r p f).loading = s.loading := rfl
@[simp] theorem State.modInlet_saving (r p : Nat) (f : Inlet → Inlet) : (s.modInlet r p f).saving = s.saving := rfl
@[simp] theorem State.modInlet_relocating (r p : Nat) (f : Inlet → Inlet) : (s.modInlet r p f).relocating = s.relocating := rfl
@[simp] theorem State.modInlet_answers (r p : Nat) (f : Inlet → Inlet) : (s.modInlet r p f).answers = s.answers := rfl
@[simp] theorem State.modInlet_freeCtr (r p : Nat) (f : Inlet → Inlet) : (s.modInlet r p f).freeCtr = s.freeCtr := rfl
@[simp] theorem State.modInlet_pending (r p : Nat) (f : Inlet → Inlet) : (s.modInlet r p f).pending = s.pending := rfl

@[simp] theorem State.modEdge_stepping (r e : Nat) (f : Edge → Edge) : (s.modEdge r e f).stepping = s.stepping := rfl
@[simp] theorem State.modEdge_strap (r e : Nat) (f : Edge → Edge) : (s.modEdge r e f).strap = s.strap := rfl
@[simp] theorem State.modEdge_regs (r e : Nat) (f : Edge → Edge) : (s.modEdge r e f).regs = s.regs := rfl
@[simp] theorem State.modEdge_sameTc (r e : Nat) (f : Edge → Edge) : (s.modEdge r e f).sameTc = s.sameTc := rfl
@[simp] theorem State.modEdge_fabric (r e : Nat) (f : Edge → Edge) : (s.modEdge r e f).fabric = s.fabric := rfl
@[simp] theorem State.modEdge_ctxs (r e : Nat) (f : Edge → Edge) : (s.modEdge r e f).ctxs = s.ctxs := rfl
@[simp] theorem State.modEdge_events (r e : Nat) (f : Edge → Edge) : (s.modEdge r e f).events = s.events := rfl
@[simp] theorem State.modEdge_nextSeq (r e : Nat) (f : Edge → Edge) : (s.modEdge r e f).nextSeq = s.nextSeq := rfl
@[simp] theorem State.modEdge_runs (r e : Nat) (f : Edge → Edge) : (s.modEdge r e f).runs = s.runs := rfl
@[simp] theorem State.modEdge_copies (r e : Nat) (f : Edge → Edge) : (s.modEdge r e f).copies = s.copies := rfl
@[simp] theorem State.modEdge_ended (r e : Nat) (f : Edge → Edge) : (s.modEdge r e f).ended = s.ended := rfl
@[simp] theorem State.modEdge_deferred (r e : Nat) (f : Edge → Edge) : (s.modEdge r e f).deferred = s.deferred := rfl
@[simp] theorem State.modEdge_flight (r e : Nat) (f : Edge → Edge) : (s.modEdge r e f).flight = s.flight := rfl
@[simp] theorem State.modEdge_slots (r e : Nat) (f : Edge → Edge) : (s.modEdge r e f).slots = s.slots := rfl
@[simp] theorem State.modEdge_groups (r e : Nat) (f : Edge → Edge) : (s.modEdge r e f).groups = s.groups := rfl
@[simp] theorem State.modEdge_membership (r e : Nat) (f : Edge → Edge) : (s.modEdge r e f).membership = s.membership := rfl
@[simp] theorem State.modEdge_bringUp (r e : Nat) (f : Edge → Edge) : (s.modEdge r e f).bringUp = s.bringUp := rfl
@[simp] theorem State.modEdge_power (r e : Nat) (f : Edge → Edge) : (s.modEdge r e f).power = s.power := rfl
@[simp] theorem State.modEdge_time (r e : Nat) (f : Edge → Edge) : (s.modEdge r e f).time = s.time := rfl
@[simp] theorem State.modEdge_phase (r e : Nat) (f : Edge → Edge) : (s.modEdge r e f).phase = s.phase := rfl
@[simp] theorem State.modEdge_loading (r e : Nat) (f : Edge → Edge) : (s.modEdge r e f).loading = s.loading := rfl
@[simp] theorem State.modEdge_saving (r e : Nat) (f : Edge → Edge) : (s.modEdge r e f).saving = s.saving := rfl
@[simp] theorem State.modEdge_relocating (r e : Nat) (f : Edge → Edge) : (s.modEdge r e f).relocating = s.relocating := rfl
@[simp] theorem State.modEdge_answers (r e : Nat) (f : Edge → Edge) : (s.modEdge r e f).answers = s.answers := rfl
@[simp] theorem State.modEdge_freeCtr (r e : Nat) (f : Edge → Edge) : (s.modEdge r e f).freeCtr = s.freeCtr := rfl
@[simp] theorem State.modEdge_pending (r e : Nat) (f : Edge → Edge) : (s.modEdge r e f).pending = s.pending := rfl

@[simp] theorem State.modCluster_stepping (r c : Nat) (f : ClusterUnit → ClusterUnit) : (s.modCluster r c f).stepping = s.stepping := rfl
@[simp] theorem State.modCluster_strap (r c : Nat) (f : ClusterUnit → ClusterUnit) : (s.modCluster r c f).strap = s.strap := rfl
@[simp] theorem State.modCluster_regs (r c : Nat) (f : ClusterUnit → ClusterUnit) : (s.modCluster r c f).regs = s.regs := rfl
@[simp] theorem State.modCluster_sameTc (r c : Nat) (f : ClusterUnit → ClusterUnit) : (s.modCluster r c f).sameTc = s.sameTc := rfl
@[simp] theorem State.modCluster_fabric (r c : Nat) (f : ClusterUnit → ClusterUnit) : (s.modCluster r c f).fabric = s.fabric := rfl
@[simp] theorem State.modCluster_ctxs (r c : Nat) (f : ClusterUnit → ClusterUnit) : (s.modCluster r c f).ctxs = s.ctxs := rfl
@[simp] theorem State.modCluster_events (r c : Nat) (f : ClusterUnit → ClusterUnit) : (s.modCluster r c f).events = s.events := rfl
@[simp] theorem State.modCluster_nextSeq (r c : Nat) (f : ClusterUnit → ClusterUnit) : (s.modCluster r c f).nextSeq = s.nextSeq := rfl
@[simp] theorem State.modCluster_runs (r c : Nat) (f : ClusterUnit → ClusterUnit) : (s.modCluster r c f).runs = s.runs := rfl
@[simp] theorem State.modCluster_copies (r c : Nat) (f : ClusterUnit → ClusterUnit) : (s.modCluster r c f).copies = s.copies := rfl
@[simp] theorem State.modCluster_ended (r c : Nat) (f : ClusterUnit → ClusterUnit) : (s.modCluster r c f).ended = s.ended := rfl
@[simp] theorem State.modCluster_deferred (r c : Nat) (f : ClusterUnit → ClusterUnit) : (s.modCluster r c f).deferred = s.deferred := rfl
@[simp] theorem State.modCluster_flight (r c : Nat) (f : ClusterUnit → ClusterUnit) : (s.modCluster r c f).flight = s.flight := rfl
@[simp] theorem State.modCluster_slots (r c : Nat) (f : ClusterUnit → ClusterUnit) : (s.modCluster r c f).slots = s.slots := rfl
@[simp] theorem State.modCluster_groups (r c : Nat) (f : ClusterUnit → ClusterUnit) : (s.modCluster r c f).groups = s.groups := rfl
@[simp] theorem State.modCluster_membership (r c : Nat) (f : ClusterUnit → ClusterUnit) : (s.modCluster r c f).membership = s.membership := rfl
@[simp] theorem State.modCluster_bringUp (r c : Nat) (f : ClusterUnit → ClusterUnit) : (s.modCluster r c f).bringUp = s.bringUp := rfl
@[simp] theorem State.modCluster_power (r c : Nat) (f : ClusterUnit → ClusterUnit) : (s.modCluster r c f).power = s.power := rfl
@[simp] theorem State.modCluster_time (r c : Nat) (f : ClusterUnit → ClusterUnit) : (s.modCluster r c f).time = s.time := rfl
@[simp] theorem State.modCluster_phase (r c : Nat) (f : ClusterUnit → ClusterUnit) : (s.modCluster r c f).phase = s.phase := rfl
@[simp] theorem State.modCluster_loading (r c : Nat) (f : ClusterUnit → ClusterUnit) : (s.modCluster r c f).loading = s.loading := rfl
@[simp] theorem State.modCluster_saving (r c : Nat) (f : ClusterUnit → ClusterUnit) : (s.modCluster r c f).saving = s.saving := rfl
@[simp] theorem State.modCluster_relocating (r c : Nat) (f : ClusterUnit → ClusterUnit) : (s.modCluster r c f).relocating = s.relocating := rfl
@[simp] theorem State.modCluster_answers (r c : Nat) (f : ClusterUnit → ClusterUnit) : (s.modCluster r c f).answers = s.answers := rfl
@[simp] theorem State.modCluster_freeCtr (r c : Nat) (f : ClusterUnit → ClusterUnit) : (s.modCluster r c f).freeCtr = s.freeCtr := rfl
@[simp] theorem State.modCluster_pending (r c : Nat) (f : ClusterUnit → ClusterUnit) : (s.modCluster r c f).pending = s.pending := rfl

/-! ### Fields that an update changes -/

theorem State.setReg_regs (a w : Nat) : (s.setReg a w).regs = s.regs.set a (BitVec.ofNat 64 w) := rfl
theorem State.modRegion_regions (r : Nat) (f : Region → Region) : (s.modRegion r f).regions = s.regions.set r (f (s.region r)) := rfl
theorem State.modCtx_ctxs (c : Nat) (f : Ctx → Ctx) : (s.modCtx c f).ctxs = s.ctxs.set c (f (s.ctx c)) := rfl
theorem State.modGroup_groups (g : Nat) (f : Group → Group) : (s.modGroup g f).groups = s.groups.set g (f (s.group g)) := rfl
@[simp] theorem State.fabricWrite_fabric (a : Nat) (bs : Bytes) : (s.fabricWrite a bs).fabric = s.fabric.write a bs := rfl
@[simp] theorem State.drew_freeCtr : s.drew.freeCtr = s.freeCtr + 1 := rfl

end Fields

/-! ### Accessors read one field -/

theorem State.reg_congr {s t : State} (h : t.regs = s.regs) (a : Nat) : t.reg a = s.reg a := by simp [State.reg, h]
theorem State.getF_congr {s t : State} (h : t.regs = s.regs) (pg : Nat) (f : Fld) : t.getF pg f = s.getF pg f := by
  simp [State.getF, State.reg, h]
theorem State.region_congr {s t : State} (h : t.regions = s.regions) (r : Nat) : t.region r = s.region r := by simp [State.region, h]
theorem State.ctx_congr {s t : State} (h : t.ctxs = s.ctxs) (c : Nat) : t.ctx c = s.ctx c := by simp [State.ctx, h]
theorem State.group_congr {s t : State} (h : t.groups = s.groups) (g : Nat) : t.group g = s.group g := by simp [State.group, h]

/-! ### Reading after an update -/

section Reads

variable (s : State)

theorem State.reg_setReg (a b w : Nat) : (s.setReg a w).reg b = if b = a then w % 2 ^ 64 else s.reg b := by
  simp only [State.reg, State.setReg, Tab.getD_set]
  split <;> simp

@[simp] theorem State.reg_setReg_self (a w : Nat) : (s.setReg a w).reg a = w % 2 ^ 64 := by simp [State.reg_setReg]
theorem State.reg_setReg_ne {a b : Nat} (w : Nat) (h : b ≠ a) : (s.setReg a w).reg b = s.reg b := by simp [State.reg_setReg, h]
theorem State.reg_setF_ne {pg b : Nat} (f : Fld) (v : Nat) (h : b ≠ pg + f.off) : (s.setF pg f v).reg b = s.reg b :=
  State.reg_setReg_ne s _ h
theorem State.reg_lt (a : Nat) : s.reg a < 2 ^ 64 := BitVec.isLt _

@[simp] theorem State.region_modRegion (r q : Nat) (f : Region → Region) :
    (s.modRegion r f).region q = if q = r then f (s.region r) else s.region q := by
  simp [State.region, State.modRegion, Tab.getD_set]

@[simp] theorem State.ctx_modCtx (c d : Nat) (f : Ctx → Ctx) : (s.modCtx c f).ctx d = if d = c then f (s.ctx c) else s.ctx d := by
  simp [State.ctx, State.modCtx, Tab.getD_set]

@[simp] theorem State.group_modGroup (g k : Nat) (f : Group → Group) :
    (s.modGroup g f).group k = if k = g then f (s.group g) else s.group k := by
  simp [State.group, State.modGroup, Tab.getD_set]

@[simp] theorem State.region_setReg (a w : Nat) (q : Nat) : (s.setReg a w).region q = s.region q := rfl
@[simp] theorem State.ctx_setReg (a w : Nat) (d : Nat) : (s.setReg a w).ctx d = s.ctx d := rfl
@[simp] theorem State.group_setReg (a w : Nat) (k : Nat) : (s.setReg a w).group k = s.group k := rfl
@[simp] theorem State.event_setReg (a w : Nat) (ev : Nat) : (s.setReg a w).event ev = s.event ev := rfl
@[simp] theorem State.slot_setReg (a w : Nat) (i : Nat) : (s.setReg a w).slot i = s.slot i := rfl
@[simp] theorem State.region_setF (pg : Nat) (f : Fld) (v : Nat) (q : Nat) : (s.setF pg f v).region q = s.region q := rfl
@[simp] theorem State.ctx_setF (pg : Nat) (f : Fld) (v : Nat) (d : Nat) : (s.setF pg f v).ctx d = s.ctx d := rfl
@[simp] theorem State.group_setF (pg : Nat) (f : Fld) (v : Nat) (k : Nat) : (s.setF pg f v).group k = s.group k := rfl
@[simp] theorem State.event_setF (pg : Nat) (f : Fld) (v : Nat) (ev : Nat) : (s.setF pg f v).event ev = s.event ev := rfl
@[simp] theorem State.slot_setF (pg : Nat) (f : Fld) (v : Nat) (i : Nat) : (s.setF pg f v).slot i = s.slot i := rfl
@[simp] theorem State.reg_note (a m : Nat) (b : Nat) : (s.note a m).reg b = s.reg b := rfl
@[simp] theorem State.getF_note (a m : Nat) (pg2 : Nat) (fl : Fld) : (s.note a m).getF pg2 fl = s.getF pg2 fl := rfl
@[simp] theorem State.region_note (a m : Nat) (q : Nat) : (s.note a m).region q = s.region q := rfl
@[simp] theorem State.ctx_note (a m : Nat) (d : Nat) : (s.note a m).ctx d = s.ctx d := rfl
@[simp] theorem State.group_note (a m : Nat) (k : Nat) : (s.note a m).group k = s.group k := rfl
@[simp] theorem State.event_note (a m : Nat) (ev : Nat) : (s.note a m).event ev = s.event ev := rfl
@[simp] theorem State.slot_note (a m : Nat) (i : Nat) : (s.note a m).slot i = s.slot i := rfl
@[simp] theorem State.region_noteF (pg : Nat) (f : Fld) (v : Nat) (q : Nat) : (s.noteF pg f v).region q = s.region q := rfl
@[simp] theorem State.ctx_noteF (pg : Nat) (f : Fld) (v : Nat) (d : Nat) : (s.noteF pg f v).ctx d = s.ctx d := rfl
@[simp] theorem State.group_noteF (pg : Nat) (f : Fld) (v : Nat) (k : Nat) : (s.noteF pg f v).group k = s.group k := rfl
@[simp] theorem State.event_noteF (pg : Nat) (f : Fld) (v : Nat) (ev : Nat) : (s.noteF pg f v).event ev = s.event ev := rfl
@[simp] theorem State.slot_noteF (pg : Nat) (f : Fld) (v : Nat) (i : Nat) : (s.noteF pg f v).slot i = s.slot i := rfl
@[simp] theorem State.region_bumpF (pg : Nat) (f : Fld) (n : Nat) (q : Nat) : (s.bumpF pg f n).region q = s.region q := by unfold State.bumpF; split <;> rfl
@[simp] theorem State.ctx_bumpF (pg : Nat) (f : Fld) (n : Nat) (d : Nat) : (s.bumpF pg f n).ctx d = s.ctx d := by unfold State.bumpF; split <;> rfl
@[simp] theorem State.group_bumpF (pg : Nat) (f : Fld) (n : Nat) (k : Nat) : (s.bumpF pg f n).group k = s.group k := by unfold State.bumpF; split <;> rfl
@[simp] theorem State.event_bumpF (pg : Nat) (f : Fld) (n : Nat) (ev : Nat) : (s.bumpF pg f n).event ev = s.event ev := by unfold State.bumpF; split <;> rfl
@[simp] theorem State.slot_bumpF (pg : Nat) (f : Fld) (n : Nat) (i : Nat) : (s.bumpF pg f n).slot i = s.slot i := by unfold State.bumpF; split <;> rfl
@[simp] theorem State.region_resetRegs (p : Nat → Bool) (q : Nat) : (s.resetRegs p).region q = s.region q := rfl
@[simp] theorem State.ctx_resetRegs (p : Nat → Bool) (d : Nat) : (s.resetRegs p).ctx d = s.ctx d := rfl
@[simp] theorem State.group_resetRegs (p : Nat → Bool) (k : Nat) : (s.resetRegs p).group k = s.group k := rfl
@[simp] theorem State.event_resetRegs (p : Nat → Bool) (ev : Nat) : (s.resetRegs p).event ev = s.event ev := rfl
@[simp] theorem State.slot_resetRegs (p : Nat → Bool) (i : Nat) : (s.resetRegs p).slot i = s.slot i := rfl
@[simp] theorem State.reg_modRegion (r : Nat) (f : Region → Region) (b : Nat) : (s.modRegion r f).reg b = s.reg b := rfl
@[simp] theorem State.getF_modRegion (r : Nat) (f : Region → Region) (pg2 : Nat) (fl : Fld) : (s.modRegion r f).getF pg2 fl = s.getF pg2 fl := rfl
@[simp] theorem State.ctx_modRegion (r : Nat) (f : Region → Region) (d : Nat) : (s.modRegion r f).ctx d = s.ctx d := rfl
@[simp] theorem State.group_modRegion (r : Nat) (f : Region → Region) (k : Nat) : (s.modRegion r f).group k = s.group k := rfl
@[simp] theorem State.event_modRegion (r : Nat) (f : Region → Region) (ev : Nat) : (s.modRegion r f).event ev = s.event ev := rfl
@[simp] theorem State.slot_modRegion (r : Nat) (f : Region → Region) (i : Nat) : (s.modRegion r f).slot i = s.slot i := rfl
@[simp] theorem State.reg_modCtx (c : Nat) (f : Ctx → Ctx) (b : Nat) : (s.modCtx c f).reg b = s.reg b := rfl
@[simp] theorem State.getF_modCtx (c : Nat) (f : Ctx → Ctx) (pg2 : Nat) (fl : Fld) : (s.modCtx c f).getF pg2 fl = s.getF pg2 fl := rfl
@[simp] theorem State.region_modCtx (c : Nat) (f : Ctx → Ctx) (q : Nat) : (s.modCtx c f).region q = s.region q := rfl
@[simp] theorem State.group_modCtx (c : Nat) (f : Ctx → Ctx) (k : Nat) : (s.modCtx c f).group k = s.group k := rfl
@[simp] theorem State.event_modCtx (c : Nat) (f : Ctx → Ctx) (ev : Nat) : (s.modCtx c f).event ev = s.event ev := rfl
@[simp] theorem State.slot_modCtx (c : Nat) (f : Ctx → Ctx) (i : Nat) : (s.modCtx c f).slot i = s.slot i := rfl
@[simp] theorem State.reg_modGroup (g : Nat) (f : Group → Group) (b : Nat) : (s.modGroup g f).reg b = s.reg b := rfl
@[simp] theorem State.getF_modGroup (g : Nat) (f : Group → Group) (pg2 : Nat) (fl : Fld) : (s.modGroup g f).getF pg2 fl = s.getF pg2 fl := rfl
@[simp] theorem State.region_modGroup (g : Nat) (f : Group → Group) (q : Nat) : (s.modGroup g f).region q = s.region q := rfl
@[simp] theorem State.ctx_modGroup (g : Nat) (f : Group → Group) (d : Nat) : (s.modGroup g f).ctx d = s.ctx d := rfl
@[simp] theorem State.event_modGroup (g : Nat) (f : Group → Group) (ev : Nat) : (s.modGroup g f).event ev = s.event ev := rfl
@[simp] theorem State.slot_modGroup (g : Nat) (f : Group → Group) (i : Nat) : (s.modGroup g f).slot i = s.slot i := rfl
@[simp] theorem State.reg_setSlot (i : Nat) (x : SeqSlot) (b : Nat) : (s.setSlot i x).reg b = s.reg b := rfl
@[simp] theorem State.getF_setSlot (i : Nat) (x : SeqSlot) (pg2 : Nat) (fl : Fld) : (s.setSlot i x).getF pg2 fl = s.getF pg2 fl := rfl
@[simp] theorem State.region_setSlot (i : Nat) (x : SeqSlot) (q : Nat) : (s.setSlot i x).region q = s.region q := rfl
@[simp] theorem State.ctx_setSlot (i : Nat) (x : SeqSlot) (d : Nat) : (s.setSlot i x).ctx d = s.ctx d := rfl
@[simp] theorem State.group_setSlot (i : Nat) (x : SeqSlot) (k : Nat) : (s.setSlot i x).group k = s.group k := rfl
@[simp] theorem State.event_setSlot (i : Nat) (x : SeqSlot) (ev : Nat) : (s.setSlot i x).event ev = s.event ev := rfl
@[simp] theorem State.reg_drew (b : Nat) : (s.drew).reg b = s.reg b := rfl
@[simp] theorem State.getF_drew (pg2 : Nat) (fl : Fld) : (s.drew).getF pg2 fl = s.getF pg2 fl := rfl
@[simp] theorem State.region_drew (q : Nat) : (s.drew).region q = s.region q := rfl
@[simp] theorem State.ctx_drew (d : Nat) : (s.drew).ctx d = s.ctx d := rfl
@[simp] theorem State.group_drew (k : Nat) : (s.drew).group k = s.group k := rfl
@[simp] theorem State.event_drew (ev : Nat) : (s.drew).event ev = s.event ev := rfl
@[simp] theorem State.slot_drew (i : Nat) : (s.drew).slot i = s.slot i := rfl
@[simp] theorem State.reg_fabricWrite (a : Nat) (bs : Bytes) (b : Nat) : (s.fabricWrite a bs).reg b = s.reg b := rfl
@[simp] theorem State.getF_fabricWrite (a : Nat) (bs : Bytes) (pg2 : Nat) (fl : Fld) : (s.fabricWrite a bs).getF pg2 fl = s.getF pg2 fl := rfl
@[simp] theorem State.region_fabricWrite (a : Nat) (bs : Bytes) (q : Nat) : (s.fabricWrite a bs).region q = s.region q := rfl
@[simp] theorem State.ctx_fabricWrite (a : Nat) (bs : Bytes) (d : Nat) : (s.fabricWrite a bs).ctx d = s.ctx d := rfl
@[simp] theorem State.group_fabricWrite (a : Nat) (bs : Bytes) (k : Nat) : (s.fabricWrite a bs).group k = s.group k := rfl
@[simp] theorem State.event_fabricWrite (a : Nat) (bs : Bytes) (ev : Nat) : (s.fabricWrite a bs).event ev = s.event ev := rfl
@[simp] theorem State.slot_fabricWrite (a : Nat) (bs : Bytes) (i : Nat) : (s.fabricWrite a bs).slot i = s.slot i := rfl
@[simp] theorem State.reg_storeWrite (r a : Nat) (bs : Bytes) (b : Nat) : (s.storeWrite r a bs).reg b = s.reg b := rfl
@[simp] theorem State.getF_storeWrite (r a : Nat) (bs : Bytes) (pg2 : Nat) (fl : Fld) : (s.storeWrite r a bs).getF pg2 fl = s.getF pg2 fl := rfl
@[simp] theorem State.ctx_storeWrite (r a : Nat) (bs : Bytes) (d : Nat) : (s.storeWrite r a bs).ctx d = s.ctx d := rfl
@[simp] theorem State.group_storeWrite (r a : Nat) (bs : Bytes) (k : Nat) : (s.storeWrite r a bs).group k = s.group k := rfl
@[simp] theorem State.event_storeWrite (r a : Nat) (bs : Bytes) (ev : Nat) : (s.storeWrite r a bs).event ev = s.event ev := rfl
@[simp] theorem State.slot_storeWrite (r a : Nat) (bs : Bytes) (i : Nat) : (s.storeWrite r a bs).slot i = s.slot i := rfl
@[simp] theorem State.reg_modRun (seq : W32) (f : Run → Run) (b : Nat) : (s.modRun seq f).reg b = s.reg b := rfl
@[simp] theorem State.getF_modRun (seq : W32) (f : Run → Run) (pg2 : Nat) (fl : Fld) : (s.modRun seq f).getF pg2 fl = s.getF pg2 fl := rfl
@[simp] theorem State.region_modRun (seq : W32) (f : Run → Run) (q : Nat) : (s.modRun seq f).region q = s.region q := rfl
@[simp] theorem State.ctx_modRun (seq : W32) (f : Run → Run) (d : Nat) : (s.modRun seq f).ctx d = s.ctx d := rfl
@[simp] theorem State.group_modRun (seq : W32) (f : Run → Run) (k : Nat) : (s.modRun seq f).group k = s.group k := rfl
@[simp] theorem State.event_modRun (seq : W32) (f : Run → Run) (ev : Nat) : (s.modRun seq f).event ev = s.event ev := rfl
@[simp] theorem State.slot_modRun (seq : W32) (f : Run → Run) (i : Nat) : (s.modRun seq f).slot i = s.slot i := rfl
@[simp] theorem State.reg_modRR (seq : W32) (r : Nat) (f : RegionRun → RegionRun) (b : Nat) : (s.modRR seq r f).reg b = s.reg b := rfl
@[simp] theorem State.getF_modRR (seq : W32) (r : Nat) (f : RegionRun → RegionRun) (pg2 : Nat) (fl : Fld) : (s.modRR seq r f).getF pg2 fl = s.getF pg2 fl := rfl
@[simp] theorem State.region_modRR (seq : W32) (r : Nat) (f : RegionRun → RegionRun) (q : Nat) : (s.modRR seq r f).region q = s.region q := rfl
@[simp] theorem State.ctx_modRR (seq : W32) (r : Nat) (f : RegionRun → RegionRun) (d : Nat) : (s.modRR seq r f).ctx d = s.ctx d := rfl
@[simp] theorem State.group_modRR (seq : W32) (r : Nat) (f : RegionRun → RegionRun) (k : Nat) : (s.modRR seq r f).group k = s.group k := rfl
@[simp] theorem State.event_modRR (seq : W32) (r : Nat) (f : RegionRun → RegionRun) (ev : Nat) : (s.modRR seq r f).event ev = s.event ev := rfl
@[simp] theorem State.slot_modRR (seq : W32) (r : Nat) (f : RegionRun → RegionRun) (i : Nat) : (s.modRR seq r f).slot i = s.slot i := rfl
@[simp] theorem State.reg_modMemPort (r m : Nat) (f : MemPort → MemPort) (b : Nat) : (s.modMemPort r m f).reg b = s.reg b := rfl
@[simp] theorem State.getF_modMemPort (r m : Nat) (f : MemPort → MemPort) (pg2 : Nat) (fl : Fld) : (s.modMemPort r m f).getF pg2 fl = s.getF pg2 fl := rfl
@[simp] theorem State.ctx_modMemPort (r m : Nat) (f : MemPort → MemPort) (d : Nat) : (s.modMemPort r m f).ctx d = s.ctx d := rfl
@[simp] theorem State.group_modMemPort (r m : Nat) (f : MemPort → MemPort) (k : Nat) : (s.modMemPort r m f).group k = s.group k := rfl
@[simp] theorem State.event_modMemPort (r m : Nat) (f : MemPort → MemPort) (ev : Nat) : (s.modMemPort r m f).event ev = s.event ev := rfl
@[simp] theorem State.slot_modMemPort (r m : Nat) (f : MemPort → MemPort) (i : Nat) : (s.modMemPort r m f).slot i = s.slot i := rfl
@[simp] theorem State.reg_modLink (r p : Nat) (f : Link → Link) (b : Nat) : (s.modLink r p f).reg b = s.reg b := rfl
@[simp] theorem State.getF_modLink (r p : Nat) (f : Link → Link) (pg2 : Nat) (fl : Fld) : (s.modLink r p f).getF pg2 fl = s.getF pg2 fl := rfl
@[simp] theorem State.ctx_modLink (r p : Nat) (f : Link → Link) (d : Nat) : (s.modLink r p f).ctx d = s.ctx d := rfl
@[simp] theorem State.group_modLink (r p : Nat) (f : Link → Link) (k : Nat) : (s.modLink r p f).group k = s.group k := rfl
@[simp] theorem State.event_modLink (r p : Nat) (f : Link → Link) (ev : Nat) : (s.modLink r p f).event ev = s.event ev := rfl
@[simp] theorem State.slot_modLink (r p : Nat) (f : Link → Link) (i : Nat) : (s.modLink r p f).slot i = s.slot i := rfl
@[simp] theorem State.reg_modInlet (r p : Nat) (f : Inlet → Inlet) (b : Nat) : (s.modInlet r p f).reg b = s.reg b := rfl
@[simp] theorem State.getF_modInlet (r p : Nat) (f : Inlet → Inlet) (pg2 : Nat) (fl : Fld) : (s.modInlet r p f).getF pg2 fl = s.getF pg2 fl := rfl
@[simp] theorem State.ctx_modInlet (r p : Nat) (f : Inlet → Inlet) (d : Nat) : (s.modInlet r p f).ctx d = s.ctx d := rfl
@[simp] theorem State.group_modInlet (r p : Nat) (f : Inlet → Inlet) (k : Nat) : (s.modInlet r p f).group k = s.group k := rfl
@[simp] theorem State.event_modInlet (r p : Nat) (f : Inlet → Inlet) (ev : Nat) : (s.modInlet r p f).event ev = s.event ev := rfl
@[simp] theorem State.slot_modInlet (r p : Nat) (f : Inlet → Inlet) (i : Nat) : (s.modInlet r p f).slot i = s.slot i := rfl
@[simp] theorem State.reg_modEdge (r e : Nat) (f : Edge → Edge) (b : Nat) : (s.modEdge r e f).reg b = s.reg b := rfl
@[simp] theorem State.getF_modEdge (r e : Nat) (f : Edge → Edge) (pg2 : Nat) (fl : Fld) : (s.modEdge r e f).getF pg2 fl = s.getF pg2 fl := rfl
@[simp] theorem State.ctx_modEdge (r e : Nat) (f : Edge → Edge) (d : Nat) : (s.modEdge r e f).ctx d = s.ctx d := rfl
@[simp] theorem State.group_modEdge (r e : Nat) (f : Edge → Edge) (k : Nat) : (s.modEdge r e f).group k = s.group k := rfl
@[simp] theorem State.event_modEdge (r e : Nat) (f : Edge → Edge) (ev : Nat) : (s.modEdge r e f).event ev = s.event ev := rfl
@[simp] theorem State.slot_modEdge (r e : Nat) (f : Edge → Edge) (i : Nat) : (s.modEdge r e f).slot i = s.slot i := rfl
@[simp] theorem State.reg_modCluster (r c : Nat) (f : ClusterUnit → ClusterUnit) (b : Nat) : (s.modCluster r c f).reg b = s.reg b := rfl
@[simp] theorem State.getF_modCluster (r c : Nat) (f : ClusterUnit → ClusterUnit) (pg2 : Nat) (fl : Fld) : (s.modCluster r c f).getF pg2 fl = s.getF pg2 fl := rfl
@[simp] theorem State.ctx_modCluster (r c : Nat) (f : ClusterUnit → ClusterUnit) (d : Nat) : (s.modCluster r c f).ctx d = s.ctx d := rfl
@[simp] theorem State.group_modCluster (r c : Nat) (f : ClusterUnit → ClusterUnit) (k : Nat) : (s.modCluster r c f).group k = s.group k := rfl
@[simp] theorem State.event_modCluster (r c : Nat) (f : ClusterUnit → ClusterUnit) (ev : Nat) : (s.modCluster r c f).event ev = s.event ev := rfl
@[simp] theorem State.slot_modCluster (r c : Nat) (f : ClusterUnit → ClusterUnit) (i : Nat) : (s.modCluster r c f).slot i = s.slot i := rfl

end Reads

end Sys2Proof.Machine
end

