-- ==== Sys2Proof/Laws/Frame.lean ====
section
/-! SUPPORT. Sys2Proof/Laws/Frame.lean: one relation says what an operation can do to the whole state, which parts it leaves and that it
keeps the canonical form; it composes, so one lemma per operation is enough. A set of parts is a number with one bit for each part. -/

namespace Sys2Proof.Machine

/-- t comes from s by operations that change no part whose bit of m is 0 and keep the canonical form. -/
def Moves (m : Nat) (s t : State) : Prop := (∀ p : Part, m.testBit p.ctorIdx = false → s.same t p) ∧ (s.WF → t.WF)

theorem State.same_refl (s : State) (p : Part) : s.same s p := by cases p <;> first | rfl | exact fun _ => rfl

theorem State.same_trans {s t u : State} {p : Part} (h1 : s.same t p) (h2 : t.same u p) : s.same u p := by
  cases p <;> first | exact Eq.trans h2 h1 | exact fun r => Eq.trans (h2 r) (h1 r)

theorem Moves.refl (m : Nat) (s : State) : Moves m s s := ⟨fun p _ => s.same_refl p, id⟩

theorem Moves.trans {m : Nat} {s t u : State} (h1 : Moves m s t) (h2 : Moves m t u) : Moves m s u :=
  ⟨fun p hp => State.same_trans (h1.1 p hp) (h2.1 p hp), fun h => h2.2 (h1.2 h)⟩

/-- Every bit of a is a bit of b. -/
abbrev Within (a b : Nat) : Prop := a ||| b = b

theorem Within.trans {a b c : Nat} (h1 : Within a b) (h2 : Within b c) : Within a c := by
  simp only [Within] at *; rw [← h2, ← Nat.or_assoc, h1]

theorem Within.bit {a b i : Nat} (h : Within a b) (ha : a.testBit i = true) : b.testBit i = true := by
  simp only [Within] at h; rw [← h, Nat.testBit_or, ha, Bool.true_or]

theorem Moves.mono {a b : Nat} {s t : State} (hw : Within a b) (h : Moves a s t) : Moves b s t :=
  ⟨fun p hp => h.1 p (by
    cases ha : a.testBit p.ctorIdx with
    | false => rfl
    | true => rw [hw.bit ha] at hp; cases hp), h.2⟩

/-- The frame that a set of parts gives. -/
theorem Moves.frame {m : Nat} {s t : State} (h : Moves m s t) (l : List Part)
    (hl : ∀ p : Part, l.contains p = false → m.testBit p.ctorIdx = false) : Frame l s t :=
  fun p hp => h.1 p (hl p (by simpa using hp))

/-- A value is kept unless bit i of m is set. -/
def Keep (m i : Nat) {α : Type} (x y : α) : Prop := m.testBit i = false → x = y

theorem Keep.rfl {m i : Nat} {α : Type} {x : α} : Keep m i x x := fun _ => Eq.refl x
theorem Keep.of {a m i : Nat} {α : Type} {x y : α} (h : Within a m) (ha : a.testBit i = true) : Keep m i x y :=
  fun e => by rw [h.bit ha] at e; cases e

/-- Five values in a row are kept unless their bits of m, from bit i on, are set. -/
structure Keep5 (m i : Nat) {A B C D E : Type} (a a' : A) (b b' : B) (c c' : C) (d d' : D) (e e' : E) : Prop where
  p0 : Keep m i a a'
  p1 : Keep m (i + 1) b b'
  p2 : Keep m (i + 2) c c'
  p3 : Keep m (i + 3) d d'
  p4 : Keep m (i + 4) e e'

/-- None of the five changes. -/
theorem Keep5.same {m i : Nat} {A B C D E : Type} {a : A} {b : B} {c : C} {d : D} {e : E} : Keep5 m i a a b b c c d d e e :=
  ⟨.rfl, .rfl, .rfl, .rfl, .rfl⟩

/-- Any of the five may change. -/
theorem Keep5.any {m i : Nat} {A B C D E : Type} {a a' : A} {b b' : B} {c c' : C} {d d' : D} {e e' : E} (h : Within (31 <<< i) m) :
    Keep5 m i a a' b b' c c' d d' e e' := by
  constructor <;> exact .of h (by simp [Nat.testBit_shiftLeft] <;> decide)

/-- What a record update of the state that is not in its regions does. -/
structure Fields (m : Nat) (u v : State) : Prop where
  stepping : v.stepping = u.stepping
  regions : v.regions = u.regions
  g0 : Keep5 m 1 v.strap u.strap v.regs u.regs v.sameTc u.sameTc v.fabric u.fabric v.ctxs u.ctxs
  g1 : Keep5 m 6 v.events u.events v.nextSeq u.nextSeq v.runs u.runs v.copies u.copies v.ended u.ended
  g2 : Keep5 m 11 v.deferred u.deferred v.flight u.flight v.slots u.slots v.groups u.groups v.membership u.membership
  g3 : Keep5 m 16 v.bringUp u.bringUp v.power u.power v.time u.time v.phase u.phase v.loading u.loading
  g4 : Keep5 m 21 v.saving u.saving v.relocating u.relocating v.answers u.answers v.freeCtr u.freeCtr v.pending u.pending

/-- A record update keeps the canonical form. -/
structure Canon (u v : State) : Prop where
  regs : u.regs.sorted → v.regs.sorted
  sameTc : u.sameTc.sorted → v.sameTc.sorted
  ctxs : u.ctxs.sorted → v.ctxs.sorted
  events : u.events.sorted → v.events.sorted
  slots : u.slots.sorted → v.slots.sorted
  groups : u.groups.sorted → v.groups.sorted
  fabric : u.fabric.wf → v.fabric.wf

/-- A record update. -/
theorem Moves.upd {m : Nat} {s u v : State} {strap : BitVec 12} {regs : Tab W64} {sameTc : Tab (W64 × W64)} {fabric : Memory} {regions : Tab Region} {ctxs : Tab Ctx} {events : Tab (W32 × Bool)} {nextSeq : W32} {runs : List Run} {copies : List Copying} {ended : List Ended} {deferred : List (Awaits × Ended)} {flight : List (CtxId × W32)} {slots : Tab SeqSlot} {groups : Tab Group} {membership : Membership} {bringUp : BringUp} {power : Power} {time : Nat} {phase : Nat} {loading : Option CtxId} {saving : List CtxId} {relocating : Bool} {answers : List (RegionId × BitVec 6 × Bool × W64)} {freeCtr : Nat} {pending : List Instr}
    (h : Moves m s u) (_hv : v = State.mk u.stepping strap regs sameTc fabric regions ctxs events nextSeq runs copies ended deferred flight slots groups membership bringUp power time phase loading saving relocating answers freeCtr pending)
    (hf : Fields m u v) (hc : Canon u v) : Moves m s v := by
  have hr : ∀ r, v.region r = u.region r := fun r => by simp only [State.region, hf.regions]
  refine h.trans ⟨fun p hp => ?_, fun k => ?_⟩
  · cases p with
    | stepping => exact hf.stepping
    | strap => exact hf.g0.p0 hp
    | regs => exact hf.g0.p1 hp
    | sameTc => exact hf.g0.p2 hp
    | fabric => exact hf.g0.p3 hp
    | ctxs => exact hf.g0.p4 hp
    | events => exact hf.g1.p0 hp
    | nextSeq => exact hf.g1.p1 hp
    | runs => exact hf.g1.p2 hp
    | copies => exact hf.g1.p3 hp
    | ended => exact hf.g1.p4 hp
    | deferred => exact hf.g2.p0 hp
    | flight => exact hf.g2.p1 hp
    | slots => exact hf.g2.p2 hp
    | groups => exact hf.g2.p3 hp
    | membership => exact hf.g2.p4 hp
    | bringUp => exact hf.g3.p0 hp
    | power => exact hf.g3.p1 hp
    | time => exact hf.g3.p2 hp
    | phase => exact hf.g3.p3 hp
    | loading => exact hf.g3.p4 hp
    | saving => exact hf.g4.p0 hp
    | relocating => exact hf.g4.p1 hp
    | answers => exact hf.g4.p2 hp
    | freeCtr => exact hf.g4.p3 hp
    | pending => exact hf.g4.p4 hp
    | health | rom | clocks | tc | store | poison | buckets | rates | lastCtx | memPorts | links | inlets | edges | transfers | landing | workQueue | heldFrom | clusters | wrapper | view | suspects | resetAtBoundary | stall | stallEnd | erAnswers | beats => exact fun r => by rw [hr]
  · exact ⟨hc.regs k.regs, hc.sameTc k.sameTc, hf.regions ▸ k.regions, hc.ctxs k.ctxs, hc.events k.events, hc.slots k.slots, hc.groups k.groups,
      hc.fabric k.fabric, hf.regions ▸ k.stores⟩

theorem Moves.ite {m : Nat} {s a b : State} {c : Prop} [Decidable c] (ha : Moves m s a) (hb : Moves m s b) :
    Moves m s (if c then a else b) := by split <;> assumption

theorem Moves.foldl {α : Type} {m : Nat} {s u : State} {f : State → α → State} {l : List α} (h : Moves m s u)
    (hf : ∀ (v : State) (x : α), Moves m s v → Moves m s (f v x)) : Moves m s (l.foldl f u) := by
  induction l generalizing u with
  | nil => exact h
  | cons x l ih => exact ih (hf u x h)

theorem Moves.foldr {α : Type} {m : Nat} {s u : State} {f : α → State → State} {l : List α} (h : Moves m s u)
    (hf : ∀ (x : α) (v : State), Moves m s v → Moves m s (f x v)) : Moves m s (l.foldr f u) := by
  induction l with
  | nil => exact h
  | cons x l ih => exact hf x _ ih

theorem Moves.foldlFst {α β : Type} {m : Nat} {s : State} {u : State × β} {f : State × β → α → State × β} {l : List α}
    (h : Moves m s u.1) (hf : ∀ (v : State × β) (x : α), Moves m s v.1 → Moves m s (f v x).1) : Moves m s (l.foldl f u).1 := by
  induction l generalizing u with
  | nil => exact h
  | cons x l ih => exact ih (hf u x h)

theorem Moves.fst {β : Type} {m : Nat} {s a : State} {b : β} {e : State × β} (he : e = (a, b)) (h : Moves m s e.1) :
    Moves m s a := by subst he; exact h

theorem Moves.snd {β : Type} {m : Nat} {s a : State} {b : β} {e : β × State} (he : e = (b, a)) (h : Moves m s e.2) :
    Moves m s a := by subst he; exact h

/-- What an optional state is when it is there. -/
def Moves.opt (m : Nat) (s : State) (o : Option State) : Prop := ∀ t, o = Option.some t → Moves m s t

theorem Moves.some {m : Nat} {s a : State} {o : Option State} (ho : o = .some a) (h : Moves.opt m s o) : Moves m s a := h a ho

theorem Moves.getD {m : Nat} {s d : State} {o : Option State} (h : Moves.opt m s o) (hd : Moves m s d) : Moves m s (o.getD d) := by
  cases o with
  | none => exact hd
  | some t => exact h t rfl

theorem Moves.optIte {m : Nat} {s : State} {a b : Option State} {c : Prop} [Decidable c] (ha : Moves.opt m s a) (hb : Moves.opt m s b) :
    Moves.opt m s (if c then a else b) := by split <;> assumption
theorem Moves.optNone {m : Nat} {s : State} : Moves.opt m s none := fun _ h => nomatch h
theorem Moves.optSome {m : Nat} {s t : State} (h : Moves m s t) : Moves.opt m s (.some t) := fun _ e => by cases e; exact h
theorem Moves.optMap {α : Type} {m : Nat} {s : State} {o : Option α} {f : α → State} (h : ∀ a, Moves m s (f a)) :
    Moves.opt m s (o.map f) := fun t e => by cases o <;> cases e; exact h _

theorem Moves.optFindSome {α : Type} {m : Nat} {s : State} {l : List α} {f : α → Option State} (h : ∀ a, Moves.opt m s (f a)) :
    Moves.opt m s (l.findSome? f) := fun _ e => by
  obtain ⟨a, _, ha⟩ := List.exists_of_findSome?_eq_some e
  exact h a _ ha

/-- What the state of an optional pair is when it is there. -/
def Moves.optSnd {α : Type} (m : Nat) (s : State) (o : Option (α × State)) : Prop := ∀ a t, o = Option.some (a, t) → Moves m s t

theorem Moves.someSnd {α : Type} {m : Nat} {s t : State} {a : α} {o : Option (α × State)} (ho : o = .some (a, t))
    (h : Moves.optSnd m s o) : Moves m s t := h a t ho
theorem Moves.optSndNone {α : Type} {m : Nat} {s : State} : Moves.optSnd (α := α) m s none := fun _ _ h => nomatch h
theorem Moves.optSndSome {α : Type} {m : Nat} {s t : State} {a : α} (h : Moves m s t) : Moves.optSnd m s (.some (a, t)) :=
  fun _ _ e => by cases e; exact h
theorem Moves.optSndMap {α β : Type} {m : Nat} {s : State} {o : Option α} {f : α → β × State} (h : ∀ a, Moves m s (f a).2) :
    Moves.optSnd m s (o.map f) := fun b t e => by
  cases o with
  | none => cases e
  | some a => have := h a; simp only [Option.map, Option.some.injEq] at e; rw [e] at this; exact this

theorem Moves.optSndMapSnd {α β : Type} {m : Nat} {s : State} {o : Option (α × State)} {g : α × State → β} (h : Moves.optSnd m s o) :
    Moves.optSnd m s (o.map fun p => (g p, p.2)) := fun b t e => by
  cases o with
  | none => cases e
  | some a => cases e; exact h _ _ (Eq.refl _)

theorem Moves.optBind {m : Nat} {s : State} {o : Option State} {f : State → Option State} (h : Moves.opt m s o)
    (hf : ∀ t, Moves m s t → Moves.opt m s (f t)) : Moves.opt m s (o.bind f) := fun t e => by
  cases o with
  | none => cases e
  | some a => exact hf a (h a (Eq.refl _)) t e

theorem Moves.optOf {α : Type} {m : Nat} {s : State} {o : Option α} {f : α → Option State} (h : ∀ a, Moves.opt m s (f a)) :
    Moves.opt m s (o.bind f) := fun t e => by
  cases o with
  | none => cases e
  | some a => exact h a t e

theorem Moves.foldlOpt {α : Type} {m : Nat} {s : State} {o : Option State} {f : Option State → α → Option State} {l : List α}
    (h : Moves.opt m s o) (hf : ∀ (v : Option State) (x : α), Moves.opt m s v → Moves.opt m s (f v x)) :
    Moves.opt m s (l.foldl f o) := by
  induction l generalizing o with
  | nil => exact h
  | cons x l ih => exact ih (hf o x h)

/-- What the state of a result is when there is one. -/
def Moves.exc {ε α : Type} (m : Nat) (s : State) (o : Except ε (α × State)) : Prop := ∀ a t, o = .ok (a, t) → Moves m s t

theorem Moves.ok {ε α : Type} {m : Nat} {s t : State} {a : α} {o : Except ε (α × State)} (ho : o = .ok (a, t))
    (h : Moves.exc m s o) : Moves m s t := h a t ho
theorem Moves.excError {ε α : Type} {m : Nat} {s : State} {e : ε} : Moves.exc (α := α) m s (.error e) := fun _ _ h => nomatch h
theorem Moves.excOk {ε α : Type} {m : Nat} {s t : State} {a : α} (h : Moves m s t) : Moves.exc (ε := ε) m s (.ok (a, t)) :=
  fun _ _ e => by cases e; exact h

/-- What a verdict's state is. -/
def Moves.verdict (m : Nat) (s : State) : Verdict → Prop
  | .fail _ _ _ => True
  | .done e _ => Moves m s e
  | .await e _ _ => Moves m s e
  | .park e => Moves m s e
  | .latch _ => True

theorem Moves.fail {m : Nat} {s : State} {a b c : Nat} : Moves.verdict m s (.fail a b c) := trivial
theorem Moves.latch {m : Nat} {s : State} {b : Command} : Moves.verdict m s (.latch b) := trivial
theorem Moves.done {m : Nat} {s e : State} {r : Bytes} (h : Moves m s e) : Moves.verdict m s (.done e r) := h
theorem Moves.await {m : Nat} {s e : State} {a : Awaits} {n : Option (CtxId × Nat × List Nat)} (h : Moves m s e) :
    Moves.verdict m s (.await e a n) := h
theorem Moves.park {m : Nat} {s e : State} (h : Moves m s e) : Moves.verdict m s (.park e) := h

/-- What a command answers. -/
def Moves.outcome (m : Nat) (s : State) (o : Host.Outcome State Fault Refusal) : Prop := ∀ t, o = .next t → Moves m s t

theorem Moves.next {m : Nat} {s t : State} (h : Moves m s t) : Moves.outcome m s (.next t) := fun _ e => by cases e; exact h
theorem Moves.fault {m : Nat} {s : State} {f : Fault} : Moves.outcome m s (.fault f) := fun _ e => nomatch e

/-! ### Regions -/

/-- A change of one region: no part of m's clear bits changes, and the store stays canonical. -/
structure RM (m : Nat) (g k : Region) : Prop where
  g0 : Keep5 m 26 k.health g.health k.rom g.rom k.clocks g.clocks k.tc g.tc k.store g.store
  g1 : Keep5 m 31 k.poison g.poison k.buckets g.buckets k.rates g.rates k.lastCtx g.lastCtx k.memPorts g.memPorts
  g2 : Keep5 m 36 k.links g.links k.inlets g.inlets k.edges g.edges k.transfers g.transfers k.landing g.landing
  g3 : Keep5 m 41 k.workQueue g.workQueue k.heldFrom g.heldFrom k.clusters g.clusters k.wrapper g.wrapper k.view g.view
  g4 : Keep5 m 46 k.suspects g.suspects k.resetAtBoundary g.resetAtBoundary k.stall g.stall k.stallEnd g.stallEnd k.erAnswers g.erAnswers
  beats : Keep m 51 k.beats g.beats
  wf : g.store.wf → k.store.wf

theorem RM.refl (m : Nat) (g : Region) : RM m g g := ⟨.same, .same, .same, .same, .same, .rfl, id⟩

theorem RM.ite {m : Nat} {g a b : Region} {c : Prop} [Decidable c] (ha : RM m g a) (hb : RM m g b) : RM m g (if c then a else b) := by
  split <;> assumption

theorem State.WF.region {s : State} (h : s.WF) (r : Nat) : (s.region r).store.wf := by
  unfold State.region Tab.getD
  cases hr : s.regions.get? r with
  | none => exact Memory.wf_nil
  | some g => exact h.stores _ (Tab.mem_of_get? hr)

theorem Moves.ofRegions {m : Nat} {s u v : State} (h : Moves m s u) (hs : ∀ p : Part, p.ctorIdx < 26 → u.same v p)
    (hr : ∀ r, RM m (u.region r) (v.region r)) (hk : u.WF → v.WF) : Moves m s v := by
  refine h.trans ⟨fun p hp => ?_, hk⟩
  cases p with
  | stepping | strap | regs | sameTc | fabric | ctxs | events | nextSeq | runs | copies | ended | deferred | flight | slots | groups | membership | bringUp | power | time | phase | loading | saving | relocating | answers | freeCtr | pending => exact hs _ (by decide)
  | health => exact fun r => (hr r).g0.p0 hp
  | rom => exact fun r => (hr r).g0.p1 hp
  | clocks => exact fun r => (hr r).g0.p2 hp
  | tc => exact fun r => (hr r).g0.p3 hp
  | store => exact fun r => (hr r).g0.p4 hp
  | poison => exact fun r => (hr r).g1.p0 hp
  | buckets => exact fun r => (hr r).g1.p1 hp
  | rates => exact fun r => (hr r).g1.p2 hp
  | lastCtx => exact fun r => (hr r).g1.p3 hp
  | memPorts => exact fun r => (hr r).g1.p4 hp
  | links => exact fun r => (hr r).g2.p0 hp
  | inlets => exact fun r => (hr r).g2.p1 hp
  | edges => exact fun r => (hr r).g2.p2 hp
  | transfers => exact fun r => (hr r).g2.p3 hp
  | landing => exact fun r => (hr r).g2.p4 hp
  | workQueue => exact fun r => (hr r).g3.p0 hp
  | heldFrom => exact fun r => (hr r).g3.p1 hp
  | clusters => exact fun r => (hr r).g3.p2 hp
  | wrapper => exact fun r => (hr r).g3.p3 hp
  | view => exact fun r => (hr r).g3.p4 hp
  | suspects => exact fun r => (hr r).g4.p0 hp
  | resetAtBoundary => exact fun r => (hr r).g4.p1 hp
  | stall => exact fun r => (hr r).g4.p2 hp
  | stallEnd => exact fun r => (hr r).g4.p3 hp
  | erAnswers => exact fun r => (hr r).g4.p4 hp
  | beats => exact fun r => (hr r).beats hp

theorem State.modRegion_moves {m : Nat} {s u : State} (h : Moves m s u) {r : Nat} {f : Region → Region}
    (hf : ∀ g, RM m g (f g)) : Moves m s (u.modRegion r f) := by
  refine h.ofRegions (fun p hp => ?_) (fun q => ?_) fun k => ?_
  · cases p <;> first | rfl | exact absurd hp (by decide)
  · rw [State.region_modRegion]; split
    · subst_vars; exact hf _
    · exact RM.refl _ _
  · refine ⟨k.regs, k.sameTc, Tab.sorted_set k.regions _ _, k.ctxs, k.events, k.slots, k.groups, k.fabric, fun e he => ?_⟩
    rcases Tab.mem_set he with he | he
    · subst he; exact (hf (u.region r)).wf (k.region r)
    · exact k.stores e he

/-- A change of every region in place. -/
theorem State.mapRegions_moves {m : Nat} {s u : State} (h : Moves m s u) (f : Nat × Region → Region) (hf : ∀ q g, RM m g (f (q, g))) :
    Moves m s { u with regions := u.regions.map fun e => (e.1, f e) } := by
  refine h.ofRegions (fun p hp => ?_) (fun q => ?_) fun k => ?_
  · cases p <;> first | rfl | exact absurd hp (by decide)
  · simp only [State.region, Tab.getD, Tab.get?_map]
    cases u.regions.get? q with
    | none => exact RM.refl _ _
    | some g => exact hf q g
  · refine ⟨k.regs, k.sameTc, Tab.sorted_map k.regions _ fun _ => rfl, k.ctxs, k.events, k.slots, k.groups, k.fabric, fun e he => ?_⟩
    obtain ⟨a, ha, rfl⟩ := List.mem_map.1 he
    exact (hf a.1 a.2).wf (k.stores a ha)

end Sys2Proof.Machine
end

