-- ==== Sys2Proof/Laws/OpsMoves.lean ====
section
/-! SUPPORT. Sys2Proof/Laws/OpsMoves.lean: what each operation of Machine/Ops.lean can do to the state: the parts it may change, and that it keeps
the canonical form. -/

namespace Sys2Proof.Machine

theorem State.modEdge_moves {w : Nat} {s u : State} (hw : Within 274877906944 w) (h : Moves w s u) (r : Nat) (e : Nat) (f : Edge → Edge) :
    Moves w s (State.modEdge u r e f) := by
  unfold State.modEdge
  repeat'
    first
    | with_reducible assumption
    | with_reducible refine Moves.ite ?_ ?_
    | split
    | extract_lets
    | with_reducible refine Moves.getD (Moves.optFindSome (fun _ => ?_)) ?_
    | with_reducible refine Moves.optMap (fun _ => ?_)
    | with_reducible refine Moves.optSndMapSnd ?_
    | with_reducible refine Moves.optSndMap (fun _ => ?_)
    | with_reducible refine Moves.optBind ?_ (fun _ _ => ?_)
    | with_reducible refine Moves.optOf (fun _ => ?_)
    | (with_reducible refine Moves.foldl ?_ (fun _ _ _ => ?_))
    | (with_reducible refine Moves.foldlFst ?_ (fun _ _ _ => ?_))
    | (with_reducible refine Moves.foldr ?_ (fun _ _ _ => ?_))
    | with_reducible refine Moves.optIte ?_ ?_
    | with_reducible refine Moves.foldlOpt ?_ (fun _ _ _ => ?_)
    | with_reducible refine Moves.optSome ?_
    | with_reducible exact Moves.optNone
    | with_reducible refine Moves.some (by assumption) ?_
    | with_reducible refine Moves.fst (by assumption) ?_
    | with_reducible refine Moves.snd (by assumption) ?_
    | dsimp +zetaDelta only
    | with_reducible refine State.modRegion_moves ?_ (fun _ => ?_)
    | with_reducible refine RM.ite ?_ ?_
    | with_reducible exact RM.refl _ _
    | exact ⟨.same, .same, ⟨.rfl, .rfl, .of hw (by decide), .rfl, .rfl⟩, .same, .same, .rfl, id⟩

theorem State.setReg_moves {w : Nat} {s u : State} (hw : Within 4 w) (h : Moves w s u) (a : Nat) (w' : Nat) :
    Moves w s (State.setReg u a w') := by
  unfold State.setReg
  repeat'
    first
    | with_reducible assumption
    | with_reducible refine Moves.ite ?_ ?_
    | split
    | extract_lets
    | with_reducible refine Moves.getD (Moves.optFindSome (fun _ => ?_)) ?_
    | with_reducible refine Moves.optMap (fun _ => ?_)
    | with_reducible refine Moves.optSndMapSnd ?_
    | with_reducible refine Moves.optSndMap (fun _ => ?_)
    | with_reducible refine Moves.optBind ?_ (fun _ _ => ?_)
    | with_reducible refine Moves.optOf (fun _ => ?_)
    | (with_reducible refine Moves.foldl ?_ (fun _ _ _ => ?_))
    | (with_reducible refine Moves.foldlFst ?_ (fun _ _ _ => ?_))
    | (with_reducible refine Moves.foldr ?_ (fun _ _ _ => ?_))
    | with_reducible refine Moves.optIte ?_ ?_
    | with_reducible refine Moves.foldlOpt ?_ (fun _ _ _ => ?_)
    | with_reducible refine Moves.optSome ?_
    | with_reducible exact Moves.optNone
    | with_reducible refine Moves.some (by assumption) ?_
    | with_reducible refine Moves.fst (by assumption) ?_
    | with_reducible refine Moves.snd (by assumption) ?_
    | dsimp +zetaDelta only
    | with_reducible refine Moves.upd ?_ rfl ⟨rfl, rfl, ⟨.rfl, .of hw (by decide), .rfl, .rfl, .rfl⟩, .same, .same, .same, .same⟩ ⟨(by first | with_reducible exact id | exact fun k => Tab.sorted_set k _ _ | exact fun k => Tab.sorted_filter k _ | exact fun k => Tab.sorted_erase k _ | exact fun k => Tab.sorted_map k _ (fun _ => by first | rfl | (split <;> rfl)) | exact fun _ => .nil), id, id, id, id, id, id⟩

theorem State.setF_moves {w : Nat} {s u : State} (hw : Within 4 w) (h : Moves w s u) (page : Nat) (f : Fld) (v : Nat) :
    Moves w s (State.setF u page f v) := by
  unfold State.setF
  repeat'
    first
    | with_reducible assumption
    | with_reducible refine State.setReg_moves (Within.trans (by decide : Within 4 4) hw) ?_ _ _
    | with_reducible refine Moves.ite ?_ ?_
    | split
    | extract_lets
    | with_reducible refine Moves.getD (Moves.optFindSome (fun _ => ?_)) ?_
    | with_reducible refine Moves.optMap (fun _ => ?_)
    | with_reducible refine Moves.optSndMapSnd ?_
    | with_reducible refine Moves.optSndMap (fun _ => ?_)
    | with_reducible refine Moves.optBind ?_ (fun _ _ => ?_)
    | with_reducible refine Moves.optOf (fun _ => ?_)
    | (with_reducible refine Moves.foldl ?_ (fun _ _ _ => ?_))
    | (with_reducible refine Moves.foldlFst ?_ (fun _ _ _ => ?_))
    | (with_reducible refine Moves.foldr ?_ (fun _ _ _ => ?_))
    | with_reducible refine Moves.optIte ?_ ?_
    | with_reducible refine Moves.foldlOpt ?_ (fun _ _ _ => ?_)
    | with_reducible refine Moves.optSome ?_
    | with_reducible exact Moves.optNone
    | with_reducible refine Moves.some (by assumption) ?_
    | with_reducible refine Moves.fst (by assumption) ?_
    | with_reducible refine Moves.snd (by assumption) ?_
    | dsimp +zetaDelta only

theorem State.modCtx_moves {w : Nat} {s u : State} (hw : Within 32 w) (h : Moves w s u) (c : Nat) (f : Ctx → Ctx) :
    Moves w s (State.modCtx u c f) := by
  unfold State.modCtx
  repeat'
    first
    | with_reducible assumption
    | with_reducible refine Moves.ite ?_ ?_
    | split
    | extract_lets
    | with_reducible refine Moves.getD (Moves.optFindSome (fun _ => ?_)) ?_
    | with_reducible refine Moves.optMap (fun _ => ?_)
    | with_reducible refine Moves.optSndMapSnd ?_
    | with_reducible refine Moves.optSndMap (fun _ => ?_)
    | with_reducible refine Moves.optBind ?_ (fun _ _ => ?_)
    | with_reducible refine Moves.optOf (fun _ => ?_)
    | (with_reducible refine Moves.foldl ?_ (fun _ _ _ => ?_))
    | (with_reducible refine Moves.foldlFst ?_ (fun _ _ _ => ?_))
    | (with_reducible refine Moves.foldr ?_ (fun _ _ _ => ?_))
    | with_reducible refine Moves.optIte ?_ ?_
    | with_reducible refine Moves.foldlOpt ?_ (fun _ _ _ => ?_)
    | with_reducible refine Moves.optSome ?_
    | with_reducible exact Moves.optNone
    | with_reducible refine Moves.some (by assumption) ?_
    | with_reducible refine Moves.fst (by assumption) ?_
    | with_reducible refine Moves.snd (by assumption) ?_
    | dsimp +zetaDelta only
    | with_reducible refine Moves.upd ?_ rfl ⟨rfl, rfl, ⟨.rfl, .rfl, .rfl, .rfl, .of hw (by decide)⟩, .same, .same, .same, .same⟩ ⟨id, id, (by first | with_reducible exact id | exact fun k => Tab.sorted_set k _ _ | exact fun k => Tab.sorted_filter k _ | exact fun k => Tab.sorted_erase k _ | exact fun k => Tab.sorted_map k _ (fun _ => by first | rfl | (split <;> rfl)) | exact fun _ => .nil), id, id, id, id⟩

theorem State.modGroup_moves {w : Nat} {s u : State} (hw : Within 16384 w) (h : Moves w s u) (g : Nat) (f : Group → Group) :
    Moves w s (State.modGroup u g f) := by
  unfold State.modGroup
  repeat'
    first
    | with_reducible assumption
    | with_reducible refine Moves.ite ?_ ?_
    | split
    | extract_lets
    | with_reducible refine Moves.getD (Moves.optFindSome (fun _ => ?_)) ?_
    | with_reducible refine Moves.optMap (fun _ => ?_)
    | with_reducible refine Moves.optSndMapSnd ?_
    | with_reducible refine Moves.optSndMap (fun _ => ?_)
    | with_reducible refine Moves.optBind ?_ (fun _ _ => ?_)
    | with_reducible refine Moves.optOf (fun _ => ?_)
    | (with_reducible refine Moves.foldl ?_ (fun _ _ _ => ?_))
    | (with_reducible refine Moves.foldlFst ?_ (fun _ _ _ => ?_))
    | (with_reducible refine Moves.foldr ?_ (fun _ _ _ => ?_))
    | with_reducible refine Moves.optIte ?_ ?_
    | with_reducible refine Moves.foldlOpt ?_ (fun _ _ _ => ?_)
    | with_reducible refine Moves.optSome ?_
    | with_reducible exact Moves.optNone
    | with_reducible refine Moves.some (by assumption) ?_
    | with_reducible refine Moves.fst (by assumption) ?_
    | with_reducible refine Moves.snd (by assumption) ?_
    | dsimp +zetaDelta only
    | with_reducible refine Moves.upd ?_ rfl ⟨rfl, rfl, .same, .same, ⟨.rfl, .rfl, .rfl, .of hw (by decide), .rfl⟩, .same, .same⟩ ⟨id, id, id, id, id, (by first | with_reducible exact id | exact fun k => Tab.sorted_set k _ _ | exact fun k => Tab.sorted_filter k _ | exact fun k => Tab.sorted_erase k _ | exact fun k => Tab.sorted_map k _ (fun _ => by first | rfl | (split <;> rfl)) | exact fun _ => .nil), id⟩

theorem State.drew_moves {w : Nat} {s u : State} (hw : Within 16777216 w) (h : Moves w s u)  :
    Moves w s (State.drew u) := by
  unfold State.drew
  repeat'
    first
    | with_reducible assumption
    | with_reducible refine Moves.ite ?_ ?_
    | split
    | extract_lets
    | with_reducible refine Moves.getD (Moves.optFindSome (fun _ => ?_)) ?_
    | with_reducible refine Moves.optMap (fun _ => ?_)
    | with_reducible refine Moves.optSndMapSnd ?_
    | with_reducible refine Moves.optSndMap (fun _ => ?_)
    | with_reducible refine Moves.optBind ?_ (fun _ _ => ?_)
    | with_reducible refine Moves.optOf (fun _ => ?_)
    | (with_reducible refine Moves.foldl ?_ (fun _ _ _ => ?_))
    | (with_reducible refine Moves.foldlFst ?_ (fun _ _ _ => ?_))
    | (with_reducible refine Moves.foldr ?_ (fun _ _ _ => ?_))
    | with_reducible refine Moves.optIte ?_ ?_
    | with_reducible refine Moves.foldlOpt ?_ (fun _ _ _ => ?_)
    | with_reducible refine Moves.optSome ?_
    | with_reducible exact Moves.optNone
    | with_reducible refine Moves.some (by assumption) ?_
    | with_reducible refine Moves.fst (by assumption) ?_
    | with_reducible refine Moves.snd (by assumption) ?_
    | dsimp +zetaDelta only
    | with_reducible refine Moves.upd ?_ rfl ⟨rfl, rfl, .same, .same, .same, .same, ⟨.rfl, .rfl, .rfl, .of hw (by decide), .rfl⟩⟩ ⟨id, id, id, id, id, id, id⟩

theorem State.storeWrite_moves {w : Nat} {s u : State} (hw : Within 3221225472 w) (h : Moves w s u) (r : Nat) (a : Nat) (bs : Sys2Proof.Bytes) :
    Moves w s (State.storeWrite u r a bs) := by
  unfold State.storeWrite
  repeat'
    first
    | with_reducible assumption
    | with_reducible refine Moves.ite ?_ ?_
    | split
    | extract_lets
    | with_reducible refine Moves.getD (Moves.optFindSome (fun _ => ?_)) ?_
    | with_reducible refine Moves.optMap (fun _ => ?_)
    | with_reducible refine Moves.optSndMapSnd ?_
    | with_reducible refine Moves.optSndMap (fun _ => ?_)
    | with_reducible refine Moves.optBind ?_ (fun _ _ => ?_)
    | with_reducible refine Moves.optOf (fun _ => ?_)
    | (with_reducible refine Moves.foldl ?_ (fun _ _ _ => ?_))
    | (with_reducible refine Moves.foldlFst ?_ (fun _ _ _ => ?_))
    | (with_reducible refine Moves.foldr ?_ (fun _ _ _ => ?_))
    | with_reducible refine Moves.optIte ?_ ?_
    | with_reducible refine Moves.foldlOpt ?_ (fun _ _ _ => ?_)
    | with_reducible refine Moves.optSome ?_
    | with_reducible exact Moves.optNone
    | with_reducible refine Moves.some (by assumption) ?_
    | with_reducible refine Moves.fst (by assumption) ?_
    | with_reducible refine Moves.snd (by assumption) ?_
    | dsimp +zetaDelta only
    | with_reducible refine State.modRegion_moves ?_ (fun _ => ?_)
    | with_reducible refine RM.ite ?_ ?_
    | with_reducible exact RM.refl _ _
    | exact ⟨⟨.rfl, .rfl, .rfl, .rfl, .of hw (by decide)⟩, ⟨.of hw (by decide), .rfl, .rfl, .rfl, .rfl⟩, .same, .same, .same, .rfl, by first | with_reducible exact id | exact fun k => Memory.wf_write k _ _ | exact fun k => Memory.wf_clear k _ _ | exact fun k => Memory.wf_write (Memory.wf_clear k _ _) _ _⟩

theorem State.fabricWrite_moves {w : Nat} {s u : State} (hw : Within 16 w) (h : Moves w s u) (a : Nat) (bs : Sys2Proof.Bytes) :
    Moves w s (State.fabricWrite u a bs) := by
  unfold State.fabricWrite
  repeat'
    first
    | with_reducible assumption
    | with_reducible refine Moves.ite ?_ ?_
    | split
    | extract_lets
    | with_reducible refine Moves.getD (Moves.optFindSome (fun _ => ?_)) ?_
    | with_reducible refine Moves.optMap (fun _ => ?_)
    | with_reducible refine Moves.optSndMapSnd ?_
    | with_reducible refine Moves.optSndMap (fun _ => ?_)
    | with_reducible refine Moves.optBind ?_ (fun _ _ => ?_)
    | with_reducible refine Moves.optOf (fun _ => ?_)
    | (with_reducible refine Moves.foldl ?_ (fun _ _ _ => ?_))
    | (with_reducible refine Moves.foldlFst ?_ (fun _ _ _ => ?_))
    | (with_reducible refine Moves.foldr ?_ (fun _ _ _ => ?_))
    | with_reducible refine Moves.optIte ?_ ?_
    | with_reducible refine Moves.foldlOpt ?_ (fun _ _ _ => ?_)
    | with_reducible refine Moves.optSome ?_
    | with_reducible exact Moves.optNone
    | with_reducible refine Moves.some (by assumption) ?_
    | with_reducible refine Moves.fst (by assumption) ?_
    | with_reducible refine Moves.snd (by assumption) ?_
    | dsimp +zetaDelta only
    | with_reducible refine Moves.upd ?_ rfl ⟨rfl, rfl, ⟨.rfl, .rfl, .rfl, .of hw (by decide), .rfl⟩, .same, .same, .same, .same⟩ ⟨id, id, id, id, id, id, by first | with_reducible exact id | exact fun k => Memory.wf_write k _ _ | exact fun k => Memory.wf_clear k _ _ | exact fun k => Memory.wf_write (Memory.wf_clear k _ _) _ _⟩

theorem State.writePieces_moves {w : Nat} {s u : State} (hw : Within 3221225488 w) (h : Moves w s u) (r : Nat) (x2 : List Piece) (x3 : Sys2Proof.Bytes) :
    Moves w s (State.writePieces u r x2 x3) := by
  induction x2 generalizing u x3 with
  | nil =>
    unfold State.writePieces
    repeat'
      first
      | with_reducible assumption
      | with_reducible refine State.storeWrite_moves (Within.trans (by decide : Within 3221225472 3221225488) hw) ?_ _ _ _
      | with_reducible refine State.fabricWrite_moves (Within.trans (by decide : Within 16 3221225488) hw) ?_ _ _
      | with_reducible refine Moves.ite ?_ ?_
      | split
      | extract_lets
      | with_reducible refine Moves.getD (Moves.optFindSome (fun _ => ?_)) ?_
      | with_reducible refine Moves.optMap (fun _ => ?_)
      | with_reducible refine Moves.optSndMapSnd ?_
      | with_reducible refine Moves.optSndMap (fun _ => ?_)
      | with_reducible refine Moves.optBind ?_ (fun _ _ => ?_)
      | with_reducible refine Moves.optOf (fun _ => ?_)
      | (with_reducible refine Moves.foldl ?_ (fun _ _ _ => ?_))
      | (with_reducible refine Moves.foldlFst ?_ (fun _ _ _ => ?_))
      | (with_reducible refine Moves.foldr ?_ (fun _ _ _ => ?_))
      | with_reducible refine Moves.optIte ?_ ?_
      | with_reducible refine Moves.foldlOpt ?_ (fun _ _ _ => ?_)
      | with_reducible refine Moves.optSome ?_
      | with_reducible exact Moves.optNone
      | with_reducible refine Moves.some (by assumption) ?_
      | with_reducible refine Moves.fst (by assumption) ?_
      | with_reducible refine Moves.snd (by assumption) ?_
      | dsimp +zetaDelta only
  | cons e l ih =>
    unfold State.writePieces
    repeat'
      first
      | with_reducible assumption
      | with_reducible apply ih
      | with_reducible refine State.storeWrite_moves (Within.trans (by decide : Within 3221225472 3221225488) hw) ?_ _ _ _
      | with_reducible refine State.fabricWrite_moves (Within.trans (by decide : Within 16 3221225488) hw) ?_ _ _
      | with_reducible refine Moves.ite ?_ ?_
      | split
      | extract_lets
      | with_reducible refine Moves.getD (Moves.optFindSome (fun _ => ?_)) ?_
      | with_reducible refine Moves.optMap (fun _ => ?_)
      | with_reducible refine Moves.optSndMapSnd ?_
      | with_reducible refine Moves.optSndMap (fun _ => ?_)
      | with_reducible refine Moves.optBind ?_ (fun _ _ => ?_)
      | with_reducible refine Moves.optOf (fun _ => ?_)
      | (with_reducible refine Moves.foldl ?_ (fun _ _ _ => ?_))
      | (with_reducible refine Moves.foldlFst ?_ (fun _ _ _ => ?_))
      | (with_reducible refine Moves.foldr ?_ (fun _ _ _ => ?_))
      | with_reducible refine Moves.optIte ?_ ?_
      | with_reducible refine Moves.foldlOpt ?_ (fun _ _ _ => ?_)
      | with_reducible refine Moves.optSome ?_
      | with_reducible exact Moves.optNone
      | with_reducible refine Moves.some (by assumption) ?_
      | with_reducible refine Moves.fst (by assumption) ?_
      | with_reducible refine Moves.snd (by assumption) ?_
      | dsimp +zetaDelta only

theorem State.writeCtx_moves {w : Nat} {s u : State} (hw : Within 3221225488 w) (h : Moves w s u) (w' : Tab (BitVec 128)) (r : Nat) (a : Nat) (bs : Sys2Proof.Bytes) :
    Moves.opt w s (State.writeCtx u w' r a bs) := by
  unfold State.writeCtx
  repeat'
    first
    | with_reducible assumption
    | with_reducible exact Moves.optNone
    | with_reducible refine Moves.optSome ?_
    | with_reducible refine State.writePieces_moves (Within.trans (by decide : Within 3221225488 3221225488) hw) ?_ _ _ _
    | with_reducible refine Moves.ite ?_ ?_
    | split
    | extract_lets
    | with_reducible refine Moves.getD (Moves.optFindSome (fun _ => ?_)) ?_
    | with_reducible refine Moves.optMap (fun _ => ?_)
    | with_reducible refine Moves.optSndMapSnd ?_
    | with_reducible refine Moves.optSndMap (fun _ => ?_)
    | with_reducible refine Moves.optBind ?_ (fun _ _ => ?_)
    | with_reducible refine Moves.optOf (fun _ => ?_)
    | (with_reducible refine Moves.foldl ?_ (fun _ _ _ => ?_))
    | (with_reducible refine Moves.foldlFst ?_ (fun _ _ _ => ?_))
    | (with_reducible refine Moves.foldr ?_ (fun _ _ _ => ?_))
    | with_reducible refine Moves.optIte ?_ ?_
    | with_reducible refine Moves.foldlOpt ?_ (fun _ _ _ => ?_)
    | with_reducible refine Moves.optSome ?_
    | with_reducible exact Moves.optNone
    | with_reducible refine Moves.some (by assumption) ?_
    | with_reducible refine Moves.fst (by assumption) ?_
    | with_reducible refine Moves.snd (by assumption) ?_
    | dsimp +zetaDelta only

theorem State.note_moves {w : Nat} {s u : State} (hw : Within 8 w) (h : Moves w s u) (a : Nat) (mask : Nat) :
    Moves w s (State.note u a mask) := by
  unfold State.note
  repeat'
    first
    | with_reducible assumption
    | with_reducible refine Moves.ite ?_ ?_
    | split
    | extract_lets
    | with_reducible refine Moves.getD (Moves.optFindSome (fun _ => ?_)) ?_
    | with_reducible refine Moves.optMap (fun _ => ?_)
    | with_reducible refine Moves.optSndMapSnd ?_
    | with_reducible refine Moves.optSndMap (fun _ => ?_)
    | with_reducible refine Moves.optBind ?_ (fun _ _ => ?_)
    | with_reducible refine Moves.optOf (fun _ => ?_)
    | (with_reducible refine Moves.foldl ?_ (fun _ _ _ => ?_))
    | (with_reducible refine Moves.foldlFst ?_ (fun _ _ _ => ?_))
    | (with_reducible refine Moves.foldr ?_ (fun _ _ _ => ?_))
    | with_reducible refine Moves.optIte ?_ ?_
    | with_reducible refine Moves.foldlOpt ?_ (fun _ _ _ => ?_)
    | with_reducible refine Moves.optSome ?_
    | with_reducible exact Moves.optNone
    | with_reducible refine Moves.some (by assumption) ?_
    | with_reducible refine Moves.fst (by assumption) ?_
    | with_reducible refine Moves.snd (by assumption) ?_
    | dsimp +zetaDelta only
    | with_reducible refine Moves.upd ?_ rfl ⟨rfl, rfl, ⟨.rfl, .rfl, .of hw (by decide), .rfl, .rfl⟩, .same, .same, .same, .same⟩ ⟨id, (by first | with_reducible exact id | exact fun k => Tab.sorted_set k _ _ | exact fun k => Tab.sorted_filter k _ | exact fun k => Tab.sorted_erase k _ | exact fun k => Tab.sorted_map k _ (fun _ => by first | rfl | (split <;> rfl)) | exact fun _ => .nil), id, id, id, id, id⟩

theorem State.bumpF_moves {w : Nat} {s u : State} (hw : Within 12 w) (h : Moves w s u) (page : Nat) (f : Fld) (n : Nat) :
    Moves w s (State.bumpF u page f n) := by
  unfold State.bumpF
  repeat'
    first
    | with_reducible assumption
    | with_reducible refine State.setF_moves (Within.trans (by decide : Within 4 12) hw) ?_ _ _ _
    | with_reducible refine State.note_moves (Within.trans (by decide : Within 8 12) hw) ?_ _ _
    | with_reducible refine Moves.ite ?_ ?_
    | split
    | extract_lets
    | with_reducible refine Moves.getD (Moves.optFindSome (fun _ => ?_)) ?_
    | with_reducible refine Moves.optMap (fun _ => ?_)
    | with_reducible refine Moves.optSndMapSnd ?_
    | with_reducible refine Moves.optSndMap (fun _ => ?_)
    | with_reducible refine Moves.optBind ?_ (fun _ _ => ?_)
    | with_reducible refine Moves.optOf (fun _ => ?_)
    | (with_reducible refine Moves.foldl ?_ (fun _ _ _ => ?_))
    | (with_reducible refine Moves.foldlFst ?_ (fun _ _ _ => ?_))
    | (with_reducible refine Moves.foldr ?_ (fun _ _ _ => ?_))
    | with_reducible refine Moves.optIte ?_ ?_
    | with_reducible refine Moves.foldlOpt ?_ (fun _ _ _ => ?_)
    | with_reducible refine Moves.optSome ?_
    | with_reducible exact Moves.optNone
    | with_reducible refine Moves.some (by assumption) ?_
    | with_reducible refine Moves.fst (by assumption) ?_
    | with_reducible refine Moves.snd (by assumption) ?_
    | dsimp +zetaDelta only

theorem State.noteF_moves {w : Nat} {s u : State} (hw : Within 12 w) (h : Moves w s u) (page : Nat) (f : Fld) (v : Nat) :
    Moves w s (State.noteF u page f v) := by
  unfold State.noteF
  repeat'
    first
    | with_reducible assumption
    | with_reducible refine State.setF_moves (Within.trans (by decide : Within 4 12) hw) ?_ _ _ _
    | with_reducible refine State.note_moves (Within.trans (by decide : Within 8 12) hw) ?_ _ _
    | with_reducible refine Moves.ite ?_ ?_
    | split
    | extract_lets
    | with_reducible refine Moves.getD (Moves.optFindSome (fun _ => ?_)) ?_
    | with_reducible refine Moves.optMap (fun _ => ?_)
    | with_reducible refine Moves.optSndMapSnd ?_
    | with_reducible refine Moves.optSndMap (fun _ => ?_)
    | with_reducible refine Moves.optBind ?_ (fun _ _ => ?_)
    | with_reducible refine Moves.optOf (fun _ => ?_)
    | (with_reducible refine Moves.foldl ?_ (fun _ _ _ => ?_))
    | (with_reducible refine Moves.foldlFst ?_ (fun _ _ _ => ?_))
    | (with_reducible refine Moves.foldr ?_ (fun _ _ _ => ?_))
    | with_reducible refine Moves.optIte ?_ ?_
    | with_reducible refine Moves.foldlOpt ?_ (fun _ _ _ => ?_)
    | with_reducible refine Moves.optSome ?_
    | with_reducible exact Moves.optNone
    | with_reducible refine Moves.some (by assumption) ?_
    | with_reducible refine Moves.fst (by assumption) ?_
    | with_reducible refine Moves.snd (by assumption) ?_
    | dsimp +zetaDelta only

theorem State.vfEvent_moves {w : Nat} {s u : State} (hw : Within 35184372088844 w) (h : Moves w s u) (r : Nat) (code : Nat) :
    Moves w s (State.vfEvent u r code) := by
  unfold State.vfEvent
  repeat'
    first
    | with_reducible assumption
    | with_reducible refine State.noteF_moves (Within.trans (by decide : Within 12 35184372088844) hw) ?_ _ _ _
    | with_reducible refine State.setF_moves (Within.trans (by decide : Within 4 35184372088844) hw) ?_ _ _ _
    | with_reducible refine Moves.ite ?_ ?_
    | split
    | extract_lets
    | with_reducible refine Moves.getD (Moves.optFindSome (fun _ => ?_)) ?_
    | with_reducible refine Moves.optMap (fun _ => ?_)
    | with_reducible refine Moves.optSndMapSnd ?_
    | with_reducible refine Moves.optSndMap (fun _ => ?_)
    | with_reducible refine Moves.optBind ?_ (fun _ _ => ?_)
    | with_reducible refine Moves.optOf (fun _ => ?_)
    | (with_reducible refine Moves.foldl ?_ (fun _ _ _ => ?_))
    | (with_reducible refine Moves.foldlFst ?_ (fun _ _ _ => ?_))
    | (with_reducible refine Moves.foldr ?_ (fun _ _ _ => ?_))
    | with_reducible refine Moves.optIte ?_ ?_
    | with_reducible refine Moves.foldlOpt ?_ (fun _ _ _ => ?_)
    | with_reducible refine Moves.optSome ?_
    | with_reducible exact Moves.optNone
    | with_reducible refine Moves.some (by assumption) ?_
    | with_reducible refine Moves.fst (by assumption) ?_
    | with_reducible refine Moves.snd (by assumption) ?_
    | dsimp +zetaDelta only
    | with_reducible refine State.modRegion_moves ?_ (fun _ => ?_)
    | with_reducible refine RM.ite ?_ ?_
    | with_reducible exact RM.refl _ _
    | exact ⟨.same, .same, .same, ⟨.rfl, .rfl, .rfl, .rfl, .of hw (by decide)⟩, .same, .rfl, id⟩

theorem State.count_moves {w : Nat} {s u : State} (hw : Within 35184372088844 w) (h : Moves w s u) (page : Nat) (code : Nat) (n : Nat) :
    Moves w s (State.count u page code n) := by
  unfold State.count
  repeat'
    first
    | with_reducible assumption
    | with_reducible refine State.bumpF_moves (Within.trans (by decide : Within 12 35184372088844) hw) ?_ _ _ _
    | with_reducible refine State.vfEvent_moves (Within.trans (by decide : Within 35184372088844 35184372088844) hw) ?_ _ _
    | with_reducible refine Moves.ite ?_ ?_
    | split
    | extract_lets
    | with_reducible refine Moves.getD (Moves.optFindSome (fun _ => ?_)) ?_
    | with_reducible refine Moves.optMap (fun _ => ?_)
    | with_reducible refine Moves.optSndMapSnd ?_
    | with_reducible refine Moves.optSndMap (fun _ => ?_)
    | with_reducible refine Moves.optBind ?_ (fun _ _ => ?_)
    | with_reducible refine Moves.optOf (fun _ => ?_)
    | (with_reducible refine Moves.foldl ?_ (fun _ _ _ => ?_))
    | (with_reducible refine Moves.foldlFst ?_ (fun _ _ _ => ?_))
    | (with_reducible refine Moves.foldr ?_ (fun _ _ _ => ?_))
    | with_reducible refine Moves.optIte ?_ ?_
    | with_reducible refine Moves.foldlOpt ?_ (fun _ _ _ => ?_)
    | with_reducible refine Moves.optSome ?_
    | with_reducible exact Moves.optNone
    | with_reducible refine Moves.some (by assumption) ?_
    | with_reducible refine Moves.fst (by assumption) ?_
    | with_reducible refine Moves.snd (by assumption) ?_
    | dsimp +zetaDelta only

theorem State.pend_moves {w : Nat} {s u : State} (hw : Within 12 w) (h : Moves w s u) (src : Nat) :
    Moves w s (State.pend u src) := by
  unfold State.pend
  repeat'
    first
    | with_reducible assumption
    | with_reducible refine State.note_moves (Within.trans (by decide : Within 8 12) hw) ?_ _ _
    | with_reducible refine State.setF_moves (Within.trans (by decide : Within 4 12) hw) ?_ _ _ _
    | with_reducible refine Moves.ite ?_ ?_
    | split
    | extract_lets
    | with_reducible refine Moves.getD (Moves.optFindSome (fun _ => ?_)) ?_
    | with_reducible refine Moves.optMap (fun _ => ?_)
    | with_reducible refine Moves.optSndMapSnd ?_
    | with_reducible refine Moves.optSndMap (fun _ => ?_)
    | with_reducible refine Moves.optBind ?_ (fun _ _ => ?_)
    | with_reducible refine Moves.optOf (fun _ => ?_)
    | (with_reducible refine Moves.foldl ?_ (fun _ _ _ => ?_))
    | (with_reducible refine Moves.foldlFst ?_ (fun _ _ _ => ?_))
    | (with_reducible refine Moves.foldr ?_ (fun _ _ _ => ?_))
    | with_reducible refine Moves.optIte ?_ ?_
    | with_reducible refine Moves.foldlOpt ?_ (fun _ _ _ => ?_)
    | with_reducible refine Moves.optSome ?_
    | with_reducible exact Moves.optNone
    | with_reducible refine Moves.some (by assumption) ?_
    | with_reducible refine Moves.fst (by assumption) ?_
    | with_reducible refine Moves.snd (by assumption) ?_
    | dsimp +zetaDelta only

theorem State.record_moves {w : Nat} {s u : State} (hw : Within 12 w) (h : Moves w s u) (page : Nat) (i : Nat) (forced : Bool) :
    Moves w s (State.record u page i forced) := by
  unfold State.record
  repeat'
    first
    | with_reducible assumption
    | with_reducible refine State.note_moves (Within.trans (by decide : Within 8 12) hw) ?_ _ _
    | with_reducible refine State.setF_moves (Within.trans (by decide : Within 4 12) hw) ?_ _ _ _
    | with_reducible refine State.setReg_moves (Within.trans (by decide : Within 4 12) hw) ?_ _ _
    | with_reducible refine State.pend_moves (Within.trans (by decide : Within 12 12) hw) ?_ _
    | with_reducible refine Moves.ite ?_ ?_
    | split
    | extract_lets
    | with_reducible refine Moves.getD (Moves.optFindSome (fun _ => ?_)) ?_
    | with_reducible refine Moves.optMap (fun _ => ?_)
    | with_reducible refine Moves.optSndMapSnd ?_
    | with_reducible refine Moves.optSndMap (fun _ => ?_)
    | with_reducible refine Moves.optBind ?_ (fun _ _ => ?_)
    | with_reducible refine Moves.optOf (fun _ => ?_)
    | (with_reducible refine Moves.foldl ?_ (fun _ _ _ => ?_))
    | (with_reducible refine Moves.foldlFst ?_ (fun _ _ _ => ?_))
    | (with_reducible refine Moves.foldr ?_ (fun _ _ _ => ?_))
    | with_reducible refine Moves.optIte ?_ ?_
    | with_reducible refine Moves.foldlOpt ?_ (fun _ _ _ => ?_)
    | with_reducible refine Moves.optSome ?_
    | with_reducible exact Moves.optNone
    | with_reducible refine Moves.some (by assumption) ?_
    | with_reducible refine Moves.fst (by assumption) ?_
    | with_reducible refine Moves.snd (by assumption) ?_
    | dsimp +zetaDelta only

theorem State.contain_moves {w : Nat} {s u : State} (hw : Within 35184372088844 w) (h : Moves w s u) (page : Nat) (i : Nat) :
    Moves w s (State.contain u page i) := by
  unfold State.contain
  repeat'
    first
    | with_reducible assumption
    | with_reducible refine State.record_moves (Within.trans (by decide : Within 12 35184372088844) hw) ?_ _ _ _
    | with_reducible refine State.count_moves (Within.trans (by decide : Within 35184372088844 35184372088844) hw) ?_ _ _ _
    | with_reducible refine Moves.ite ?_ ?_
    | split
    | extract_lets
    | with_reducible refine Moves.getD (Moves.optFindSome (fun _ => ?_)) ?_
    | with_reducible refine Moves.optMap (fun _ => ?_)
    | with_reducible refine Moves.optSndMapSnd ?_
    | with_reducible refine Moves.optSndMap (fun _ => ?_)
    | with_reducible refine Moves.optBind ?_ (fun _ _ => ?_)
    | with_reducible refine Moves.optOf (fun _ => ?_)
    | (with_reducible refine Moves.foldl ?_ (fun _ _ _ => ?_))
    | (with_reducible refine Moves.foldlFst ?_ (fun _ _ _ => ?_))
    | (with_reducible refine Moves.foldr ?_ (fun _ _ _ => ?_))
    | with_reducible refine Moves.optIte ?_ ?_
    | with_reducible refine Moves.foldlOpt ?_ (fun _ _ _ => ?_)
    | with_reducible refine Moves.optSome ?_
    | with_reducible exact Moves.optNone
    | with_reducible refine Moves.some (by assumption) ?_
    | with_reducible refine Moves.fst (by assumption) ?_
    | with_reducible refine Moves.snd (by assumption) ?_
    | dsimp +zetaDelta only

theorem State.modLink_moves {w : Nat} {s u : State} (hw : Within 68719476736 w) (h : Moves w s u) (r : Nat) (p : Nat) (f : Link → Link) :
    Moves w s (State.modLink u r p f) := by
  unfold State.modLink
  repeat'
    first
    | with_reducible assumption
    | with_reducible refine Moves.ite ?_ ?_
    | split
    | extract_lets
    | with_reducible refine Moves.getD (Moves.optFindSome (fun _ => ?_)) ?_
    | with_reducible refine Moves.optMap (fun _ => ?_)
    | with_reducible refine Moves.optSndMapSnd ?_
    | with_reducible refine Moves.optSndMap (fun _ => ?_)
    | with_reducible refine Moves.optBind ?_ (fun _ _ => ?_)
    | with_reducible refine Moves.optOf (fun _ => ?_)
    | (with_reducible refine Moves.foldl ?_ (fun _ _ _ => ?_))
    | (with_reducible refine Moves.foldlFst ?_ (fun _ _ _ => ?_))
    | (with_reducible refine Moves.foldr ?_ (fun _ _ _ => ?_))
    | with_reducible refine Moves.optIte ?_ ?_
    | with_reducible refine Moves.foldlOpt ?_ (fun _ _ _ => ?_)
    | with_reducible refine Moves.optSome ?_
    | with_reducible exact Moves.optNone
    | with_reducible refine Moves.some (by assumption) ?_
    | with_reducible refine Moves.fst (by assumption) ?_
    | with_reducible refine Moves.snd (by assumption) ?_
    | dsimp +zetaDelta only
    | with_reducible refine State.modRegion_moves ?_ (fun _ => ?_)
    | with_reducible refine RM.ite ?_ ?_
    | with_reducible exact RM.refl _ _
    | exact ⟨.same, .same, ⟨.of hw (by decide), .rfl, .rfl, .rfl, .rfl⟩, .same, .same, .rfl, id⟩

theorem State.modMemPort_moves {w : Nat} {s u : State} (hw : Within 34359738368 w) (h : Moves w s u) (r : Nat) (m : Nat) (f : MemPort → MemPort) :
    Moves w s (State.modMemPort u r m f) := by
  unfold State.modMemPort
  repeat'
    first
    | with_reducible assumption
    | with_reducible refine Moves.ite ?_ ?_
    | split
    | extract_lets
    | with_reducible refine Moves.getD (Moves.optFindSome (fun _ => ?_)) ?_
    | with_reducible refine Moves.optMap (fun _ => ?_)
    | with_reducible refine Moves.optSndMapSnd ?_
    | with_reducible refine Moves.optSndMap (fun _ => ?_)
    | with_reducible refine Moves.optBind ?_ (fun _ _ => ?_)
    | with_reducible refine Moves.optOf (fun _ => ?_)
    | (with_reducible refine Moves.foldl ?_ (fun _ _ _ => ?_))
    | (with_reducible refine Moves.foldlFst ?_ (fun _ _ _ => ?_))
    | (with_reducible refine Moves.foldr ?_ (fun _ _ _ => ?_))
    | with_reducible refine Moves.optIte ?_ ?_
    | with_reducible refine Moves.foldlOpt ?_ (fun _ _ _ => ?_)
    | with_reducible refine Moves.optSome ?_
    | with_reducible exact Moves.optNone
    | with_reducible refine Moves.some (by assumption) ?_
    | with_reducible refine Moves.fst (by assumption) ?_
    | with_reducible refine Moves.snd (by assumption) ?_
    | dsimp +zetaDelta only
    | with_reducible refine State.modRegion_moves ?_ (fun _ => ?_)
    | with_reducible refine RM.ite ?_ ?_
    | with_reducible exact RM.refl _ _
    | exact ⟨.same, ⟨.rfl, .rfl, .rfl, .rfl, .of hw (by decide)⟩, .same, .same, .same, .rfl, id⟩

theorem State.modInlet_moves {w : Nat} {s u : State} (hw : Within 137438953472 w) (h : Moves w s u) (r : Nat) (p : Nat) (f : Inlet → Inlet) :
    Moves w s (State.modInlet u r p f) := by
  unfold State.modInlet
  repeat'
    first
    | with_reducible assumption
    | with_reducible refine Moves.ite ?_ ?_
    | split
    | extract_lets
    | with_reducible refine Moves.getD (Moves.optFindSome (fun _ => ?_)) ?_
    | with_reducible refine Moves.optMap (fun _ => ?_)
    | with_reducible refine Moves.optSndMapSnd ?_
    | with_reducible refine Moves.optSndMap (fun _ => ?_)
    | with_reducible refine Moves.optBind ?_ (fun _ _ => ?_)
    | with_reducible refine Moves.optOf (fun _ => ?_)
    | (with_reducible refine Moves.foldl ?_ (fun _ _ _ => ?_))
    | (with_reducible refine Moves.foldlFst ?_ (fun _ _ _ => ?_))
    | (with_reducible refine Moves.foldr ?_ (fun _ _ _ => ?_))
    | with_reducible refine Moves.optIte ?_ ?_
    | with_reducible refine Moves.foldlOpt ?_ (fun _ _ _ => ?_)
    | with_reducible refine Moves.optSome ?_
    | with_reducible exact Moves.optNone
    | with_reducible refine Moves.some (by assumption) ?_
    | with_reducible refine Moves.fst (by assumption) ?_
    | with_reducible refine Moves.snd (by assumption) ?_
    | dsimp +zetaDelta only
    | with_reducible refine State.modRegion_moves ?_ (fun _ => ?_)
    | with_reducible refine RM.ite ?_ ?_
    | with_reducible exact RM.refl _ _
    | exact ⟨.same, .same, ⟨.rfl, .of hw (by decide), .rfl, .rfl, .rfl⟩, .same, .same, .rfl, id⟩

theorem State.passRegions_moves {w : Nat} {s u : State} (hw : Within 2533275327266816 w) (h : Moves w s u) (d : Nat) :
    Moves w s (State.passRegions u d) := by
  refine State.mapRegions_moves h (fun e => e.2.pass d) fun _ _ => ?_
  unfold Region.pass
  exact RM.ite (⟨⟨.rfl, .rfl, .rfl, .of hw (by decide), .rfl⟩, .same, .same, .same, ⟨.rfl, .rfl, .of hw (by decide), .rfl, .rfl⟩, .of hw (by decide), id⟩) (RM.refl _ _)

theorem State.countLater_moves {w : Nat} {s u : State} (hw : Within 12 w) (h : Moves w s u) (pg : Nat) (n : Nat) :
    Moves w s (State.countLater u pg n) := by
  unfold State.countLater
  repeat'
    first
    | with_reducible assumption
    | with_reducible refine State.bumpF_moves (Within.trans (by decide : Within 12 12) hw) ?_ _ _ _
    | with_reducible refine Moves.ite ?_ ?_
    | split
    | extract_lets
    | with_reducible refine Moves.getD (Moves.optFindSome (fun _ => ?_)) ?_
    | with_reducible refine Moves.optMap (fun _ => ?_)
    | with_reducible refine Moves.optSndMapSnd ?_
    | with_reducible refine Moves.optSndMap (fun _ => ?_)
    | with_reducible refine Moves.optBind ?_ (fun _ _ => ?_)
    | with_reducible refine Moves.optOf (fun _ => ?_)
    | (with_reducible refine Moves.foldl ?_ (fun _ _ _ => ?_))
    | (with_reducible refine Moves.foldlFst ?_ (fun _ _ _ => ?_))
    | (with_reducible refine Moves.foldr ?_ (fun _ _ _ => ?_))
    | with_reducible refine Moves.optIte ?_ ?_
    | with_reducible refine Moves.foldlOpt ?_ (fun _ _ _ => ?_)
    | with_reducible refine Moves.optSome ?_
    | with_reducible exact Moves.optNone
    | with_reducible refine Moves.some (by assumption) ?_
    | with_reducible refine Moves.fst (by assumption) ?_
    | with_reducible refine Moves.snd (by assumption) ?_
    | dsimp +zetaDelta only

theorem State.countCycles_moves {w : Nat} {s u : State} (hw : Within 35184372088844 w) (h : Moves w s u) (d : Nat) :
    Moves w s (State.countCycles u d) := by
  unfold State.countCycles
  repeat'
    first
    | with_reducible assumption
    | with_reducible refine State.countLater_moves (Within.trans (by decide : Within 12 35184372088844) hw) ?_ _ _
    | with_reducible refine State.count_moves (Within.trans (by decide : Within 35184372088844 35184372088844) hw) ?_ _ _ _
    | with_reducible refine Moves.ite ?_ ?_
    | split
    | extract_lets
    | with_reducible refine Moves.getD (Moves.optFindSome (fun _ => ?_)) ?_
    | with_reducible refine Moves.optMap (fun _ => ?_)
    | with_reducible refine Moves.optSndMapSnd ?_
    | with_reducible refine Moves.optSndMap (fun _ => ?_)
    | with_reducible refine Moves.optBind ?_ (fun _ _ => ?_)
    | with_reducible refine Moves.optOf (fun _ => ?_)
    | (with_reducible refine Moves.foldl ?_ (fun _ _ _ => ?_))
    | (with_reducible refine Moves.foldlFst ?_ (fun _ _ _ => ?_))
    | (with_reducible refine Moves.foldr ?_ (fun _ _ _ => ?_))
    | with_reducible refine Moves.optIte ?_ ?_
    | with_reducible refine Moves.foldlOpt ?_ (fun _ _ _ => ?_)
    | with_reducible refine Moves.optSome ?_
    | with_reducible exact Moves.optNone
    | with_reducible refine Moves.some (by assumption) ?_
    | with_reducible refine Moves.fst (by assumption) ?_
    | with_reducible refine Moves.snd (by assumption) ?_
    | dsimp +zetaDelta only

theorem State.pass_moves {w : Nat} {s u : State} (hw : Within 2568459700142092 w) (h : Moves w s u) (d : Nat) :
    Moves w s (State.pass u d) := by
  unfold State.pass
  repeat'
    first
    | with_reducible assumption
    | with_reducible refine State.passRegions_moves (Within.trans (by decide : Within 2533275327266816 2568459700142092) hw) ?_ _
    | with_reducible refine State.countCycles_moves (Within.trans (by decide : Within 35184372088844 2568459700142092) hw) ?_ _
    | with_reducible refine Moves.ite ?_ ?_
    | split
    | extract_lets
    | with_reducible refine Moves.getD (Moves.optFindSome (fun _ => ?_)) ?_
    | with_reducible refine Moves.optMap (fun _ => ?_)
    | with_reducible refine Moves.optSndMapSnd ?_
    | with_reducible refine Moves.optSndMap (fun _ => ?_)
    | with_reducible refine Moves.optBind ?_ (fun _ _ => ?_)
    | with_reducible refine Moves.optOf (fun _ => ?_)
    | (with_reducible refine Moves.foldl ?_ (fun _ _ _ => ?_))
    | (with_reducible refine Moves.foldlFst ?_ (fun _ _ _ => ?_))
    | (with_reducible refine Moves.foldr ?_ (fun _ _ _ => ?_))
    | with_reducible refine Moves.optIte ?_ ?_
    | with_reducible refine Moves.foldlOpt ?_ (fun _ _ _ => ?_)
    | with_reducible refine Moves.optSome ?_
    | with_reducible exact Moves.optNone
    | with_reducible refine Moves.some (by assumption) ?_
    | with_reducible refine Moves.fst (by assumption) ?_
    | with_reducible refine Moves.snd (by assumption) ?_
    | dsimp +zetaDelta only
    | with_reducible refine Moves.upd ?_ rfl ⟨rfl, rfl, ⟨.rfl, .rfl, .of hw (by decide), .rfl, .rfl⟩, .same, .same, ⟨.rfl, .rfl, .of hw (by decide), .of hw (by decide), .rfl⟩, .same⟩ ⟨id, (by first | with_reducible exact id | exact fun k => Tab.sorted_set k _ _ | exact fun k => Tab.sorted_filter k _ | exact fun k => Tab.sorted_erase k _ | exact fun k => Tab.sorted_map k _ (fun _ => by first | rfl | (split <;> rfl)) | exact fun _ => .nil), id, id, id, id, id⟩

theorem State.reach_moves {w : Nat} {s u : State} (hw : Within 2568459700142092 w) (h : Moves w s u) (r : Nat) (tc : Nat) :
    Moves w s (State.reach u r tc) := by
  unfold State.reach
  repeat'
    first
    | with_reducible assumption
    | with_reducible refine State.pass_moves (Within.trans (by decide : Within 2568459700142092 2568459700142092) hw) ?_ _
    | with_reducible refine Moves.ite ?_ ?_
    | split
    | extract_lets
    | with_reducible refine Moves.getD (Moves.optFindSome (fun _ => ?_)) ?_
    | with_reducible refine Moves.optMap (fun _ => ?_)
    | with_reducible refine Moves.optSndMapSnd ?_
    | with_reducible refine Moves.optSndMap (fun _ => ?_)
    | with_reducible refine Moves.optBind ?_ (fun _ _ => ?_)
    | with_reducible refine Moves.optOf (fun _ => ?_)
    | (with_reducible refine Moves.foldl ?_ (fun _ _ _ => ?_))
    | (with_reducible refine Moves.foldlFst ?_ (fun _ _ _ => ?_))
    | (with_reducible refine Moves.foldr ?_ (fun _ _ _ => ?_))
    | with_reducible refine Moves.optIte ?_ ?_
    | with_reducible refine Moves.foldlOpt ?_ (fun _ _ _ => ?_)
    | with_reducible refine Moves.optSome ?_
    | with_reducible exact Moves.optNone
    | with_reducible refine Moves.some (by assumption) ?_
    | with_reducible refine Moves.fst (by assumption) ?_
    | with_reducible refine Moves.snd (by assumption) ?_
    | dsimp +zetaDelta only

theorem State.receiveEsc_moves {w : Nat} {s u : State} (hw : Within 35184372088844 w) (h : Moves w s u) (page : Nat) (j : Nat) (child : Nat) (i : Nat) :
    Moves w s (State.receiveEsc u page j child i) := by
  unfold State.receiveEsc
  repeat'
    first
    | with_reducible assumption
    | with_reducible refine State.count_moves (Within.trans (by decide : Within 35184372088844 35184372088844) hw) ?_ _ _ _
    | with_reducible refine State.record_moves (Within.trans (by decide : Within 12 35184372088844) hw) ?_ _ _ _
    | with_reducible refine State.setReg_moves (Within.trans (by decide : Within 4 35184372088844) hw) ?_ _ _
    | with_reducible refine State.note_moves (Within.trans (by decide : Within 8 35184372088844) hw) ?_ _ _
    | with_reducible refine Moves.ite ?_ ?_
    | split
    | extract_lets
    | with_reducible refine Moves.getD (Moves.optFindSome (fun _ => ?_)) ?_
    | with_reducible refine Moves.optMap (fun _ => ?_)
    | with_reducible refine Moves.optSndMapSnd ?_
    | with_reducible refine Moves.optSndMap (fun _ => ?_)
    | with_reducible refine Moves.optBind ?_ (fun _ _ => ?_)
    | with_reducible refine Moves.optOf (fun _ => ?_)
    | (with_reducible refine Moves.foldl ?_ (fun _ _ _ => ?_))
    | (with_reducible refine Moves.foldlFst ?_ (fun _ _ _ => ?_))
    | (with_reducible refine Moves.foldr ?_ (fun _ _ _ => ?_))
    | with_reducible refine Moves.optIte ?_ ?_
    | with_reducible refine Moves.foldlOpt ?_ (fun _ _ _ => ?_)
    | with_reducible refine Moves.optSome ?_
    | with_reducible exact Moves.optNone
    | with_reducible refine Moves.some (by assumption) ?_
    | with_reducible refine Moves.fst (by assumption) ?_
    | with_reducible refine Moves.snd (by assumption) ?_
    | dsimp +zetaDelta only

theorem State.escalate_moves {w : Nat} {s u : State} (hw : Within 35184372088844 w) (h : Moves w s u) (page : Nat) (i : Nat) (j : Nat) :
    Moves w s (State.escalate u page i j) := by
  unfold State.escalate
  repeat'
    first
    | with_reducible assumption
    | with_reducible refine State.record_moves (Within.trans (by decide : Within 12 35184372088844) hw) ?_ _ _ _
    | with_reducible refine State.receiveEsc_moves (Within.trans (by decide : Within 35184372088844 35184372088844) hw) ?_ _ _ _ _
    | with_reducible refine State.count_moves (Within.trans (by decide : Within 35184372088844 35184372088844) hw) ?_ _ _ _
    | with_reducible refine Moves.ite ?_ ?_
    | split
    | extract_lets
    | with_reducible refine Moves.getD (Moves.optFindSome (fun _ => ?_)) ?_
    | with_reducible refine Moves.optMap (fun _ => ?_)
    | with_reducible refine Moves.optSndMapSnd ?_
    | with_reducible refine Moves.optSndMap (fun _ => ?_)
    | with_reducible refine Moves.optBind ?_ (fun _ _ => ?_)
    | with_reducible refine Moves.optOf (fun _ => ?_)
    | (with_reducible refine Moves.foldl ?_ (fun _ _ _ => ?_))
    | (with_reducible refine Moves.foldlFst ?_ (fun _ _ _ => ?_))
    | (with_reducible refine Moves.foldr ?_ (fun _ _ _ => ?_))
    | with_reducible refine Moves.optIte ?_ ?_
    | with_reducible refine Moves.foldlOpt ?_ (fun _ _ _ => ?_)
    | with_reducible refine Moves.optSome ?_
    | with_reducible exact Moves.optNone
    | with_reducible refine Moves.some (by assumption) ?_
    | with_reducible refine Moves.fst (by assumption) ?_
    | with_reducible refine Moves.snd (by assumption) ?_
    | dsimp +zetaDelta only

theorem State.modCluster_moves {w : Nat} {s u : State} (hw : Within 8796093022208 w) (h : Moves w s u) (r : Nat) (c : Nat) (f : ClusterUnit → ClusterUnit) :
    Moves w s (State.modCluster u r c f) := by
  unfold State.modCluster
  repeat'
    first
    | with_reducible assumption
    | with_reducible refine Moves.ite ?_ ?_
    | split
    | extract_lets
    | with_reducible refine Moves.getD (Moves.optFindSome (fun _ => ?_)) ?_
    | with_reducible refine Moves.optMap (fun _ => ?_)
    | with_reducible refine Moves.optSndMapSnd ?_
    | with_reducible refine Moves.optSndMap (fun _ => ?_)
    | with_reducible refine Moves.optBind ?_ (fun _ _ => ?_)
    | with_reducible refine Moves.optOf (fun _ => ?_)
    | (with_reducible refine Moves.foldl ?_ (fun _ _ _ => ?_))
    | (with_reducible refine Moves.foldlFst ?_ (fun _ _ _ => ?_))
    | (with_reducible refine Moves.foldr ?_ (fun _ _ _ => ?_))
    | with_reducible refine Moves.optIte ?_ ?_
    | with_reducible refine Moves.foldlOpt ?_ (fun _ _ _ => ?_)
    | with_reducible refine Moves.optSome ?_
    | with_reducible exact Moves.optNone
    | with_reducible refine Moves.some (by assumption) ?_
    | with_reducible refine Moves.fst (by assumption) ?_
    | with_reducible refine Moves.snd (by assumption) ?_
    | dsimp +zetaDelta only
    | with_reducible refine State.modRegion_moves ?_ (fun _ => ?_)
    | with_reducible refine RM.ite ?_ ?_
    | with_reducible exact RM.refl _ _
    | exact ⟨.same, .same, .same, ⟨.rfl, .rfl, .of hw (by decide), .rfl, .rfl⟩, .same, .rfl, id⟩

theorem State.resetRegs_moves {w : Nat} {s u : State} (hw : Within 12 w) (h : Moves w s u) (p : Nat → Bool) :
    Moves w s (State.resetRegs u p) := by
  unfold State.resetRegs
  repeat'
    first
    | with_reducible assumption
    | with_reducible refine Moves.ite ?_ ?_
    | split
    | extract_lets
    | with_reducible refine Moves.getD (Moves.optFindSome (fun _ => ?_)) ?_
    | with_reducible refine Moves.optMap (fun _ => ?_)
    | with_reducible refine Moves.optSndMapSnd ?_
    | with_reducible refine Moves.optSndMap (fun _ => ?_)
    | with_reducible refine Moves.optBind ?_ (fun _ _ => ?_)
    | with_reducible refine Moves.optOf (fun _ => ?_)
    | (with_reducible refine Moves.foldl ?_ (fun _ _ _ => ?_))
    | (with_reducible refine Moves.foldlFst ?_ (fun _ _ _ => ?_))
    | (with_reducible refine Moves.foldr ?_ (fun _ _ _ => ?_))
    | with_reducible refine Moves.optIte ?_ ?_
    | with_reducible refine Moves.foldlOpt ?_ (fun _ _ _ => ?_)
    | with_reducible refine Moves.optSome ?_
    | with_reducible exact Moves.optNone
    | with_reducible refine Moves.some (by assumption) ?_
    | with_reducible refine Moves.fst (by assumption) ?_
    | with_reducible refine Moves.snd (by assumption) ?_
    | dsimp +zetaDelta only
    | with_reducible refine Moves.upd ?_ rfl ⟨rfl, rfl, ⟨.rfl, .of hw (by decide), .of hw (by decide), .rfl, .rfl⟩, .same, .same, .same, .same⟩ ⟨(by first | with_reducible exact id | exact fun k => Tab.sorted_set k _ _ | exact fun k => Tab.sorted_filter k _ | exact fun k => Tab.sorted_erase k _ | exact fun k => Tab.sorted_map k _ (fun _ => by first | rfl | (split <;> rfl)) | exact fun _ => .nil), (by first | with_reducible exact id | exact fun k => Tab.sorted_set k _ _ | exact fun k => Tab.sorted_filter k _ | exact fun k => Tab.sorted_erase k _ | exact fun k => Tab.sorted_map k _ (fun _ => by first | rfl | (split <;> rfl)) | exact fun _ => .nil), id, id, id, id, id⟩

theorem State.setSlot_moves {w : Nat} {s u : State} (hw : Within 8192 w) (h : Moves w s u) (i : Nat) (x : SeqSlot) :
    Moves w s (State.setSlot u i x) := by
  unfold State.setSlot
  repeat'
    first
    | with_reducible assumption
    | with_reducible refine Moves.ite ?_ ?_
    | split
    | extract_lets
    | with_reducible refine Moves.getD (Moves.optFindSome (fun _ => ?_)) ?_
    | with_reducible refine Moves.optMap (fun _ => ?_)
    | with_reducible refine Moves.optSndMapSnd ?_
    | with_reducible refine Moves.optSndMap (fun _ => ?_)
    | with_reducible refine Moves.optBind ?_ (fun _ _ => ?_)
    | with_reducible refine Moves.optOf (fun _ => ?_)
    | (with_reducible refine Moves.foldl ?_ (fun _ _ _ => ?_))
    | (with_reducible refine Moves.foldlFst ?_ (fun _ _ _ => ?_))
    | (with_reducible refine Moves.foldr ?_ (fun _ _ _ => ?_))
    | with_reducible refine Moves.optIte ?_ ?_
    | with_reducible refine Moves.foldlOpt ?_ (fun _ _ _ => ?_)
    | with_reducible refine Moves.optSome ?_
    | with_reducible exact Moves.optNone
    | with_reducible refine Moves.some (by assumption) ?_
    | with_reducible refine Moves.fst (by assumption) ?_
    | with_reducible refine Moves.snd (by assumption) ?_
    | dsimp +zetaDelta only
    | with_reducible refine Moves.upd ?_ rfl ⟨rfl, rfl, .same, .same, ⟨.rfl, .rfl, .of hw (by decide), .rfl, .rfl⟩, .same, .same⟩ ⟨id, id, id, id, (by first | with_reducible exact id | exact fun k => Tab.sorted_set k _ _ | exact fun k => Tab.sorted_filter k _ | exact fun k => Tab.sorted_erase k _ | exact fun k => Tab.sorted_map k _ (fun _ => by first | rfl | (split <;> rfl)) | exact fun _ => .nil), id, id⟩

theorem State.whereAnswers_moves {w : Nat} {s u : State} (hw : Within 0 w) (h : Moves w s u) (pg : Nat) (f : State → State) (hf : ∀ v, Moves w s v → Moves w s (f v)) :
    Moves w s (State.whereAnswers u pg f) := by
  unfold State.whereAnswers
  repeat'
    first
    | with_reducible assumption
    | with_reducible refine hf _ ?_
    | with_reducible refine Moves.ite ?_ ?_
    | split
    | extract_lets
    | with_reducible refine Moves.getD (Moves.optFindSome (fun _ => ?_)) ?_
    | with_reducible refine Moves.optMap (fun _ => ?_)
    | with_reducible refine Moves.optSndMapSnd ?_
    | with_reducible refine Moves.optSndMap (fun _ => ?_)
    | with_reducible refine Moves.optBind ?_ (fun _ _ => ?_)
    | with_reducible refine Moves.optOf (fun _ => ?_)
    | (with_reducible refine Moves.foldl ?_ (fun _ _ _ => ?_))
    | (with_reducible refine Moves.foldlFst ?_ (fun _ _ _ => ?_))
    | (with_reducible refine Moves.foldr ?_ (fun _ _ _ => ?_))
    | with_reducible refine Moves.optIte ?_ ?_
    | with_reducible refine Moves.foldlOpt ?_ (fun _ _ _ => ?_)
    | with_reducible refine Moves.optSome ?_
    | with_reducible exact Moves.optNone
    | with_reducible refine Moves.some (by assumption) ?_
    | with_reducible refine Moves.fst (by assumption) ?_
    | with_reducible refine Moves.snd (by assumption) ?_
    | dsimp +zetaDelta only

end Sys2Proof.Machine
end

