-- ==== Sys2Proof/Laws/InterruptsMoves.lean ====
section
/-! SUPPORT. Sys2Proof/Laws/InterruptsMoves.lean: what each operation of Machine/Interrupts.lean can do to the state: the parts it may change, and that it keeps
the canonical form. -/

namespace Sys2Proof.Machine

theorem State.setSrcBit_moves {w : Nat} {s u : State} (hw : Within 4 w) (h : Moves w s u) (f : Fld) (src : Nat) (v : Bool) :
    Moves w s (State.setSrcBit u f src v) := by
  unfold State.setSrcBit
  repeat'
    first
    | with_reducible assumption
    | with_reducible refine State.setF_moves (Within.trans (by decide : Within 4 4) hw) ?_ _ _ _
    | with_reducible refine Moves.ite ?_ ?_
    | split
    | extract_lets
    | with_reducible refine Moves.getD (Moves.optFindSome (fun _ => ?_)) ?_
    | with_reducible refine Moves.optMap (fun _ => ?_)
    | with_reducible refine Moves.optSndMapSnd ?_
    | with_reducible refine Moves.optSndMap (fun _ => ?_)
    | with_reducible refine Moves.optBind ?_ (fun _ _ => ?_)
    | with_reducible refine Moves.optOf (fun _ => ?_)
    | (with_reducible refine Moves.foldl ?_ (fun _ _ _ => ?_))
    | (with_reducible refine Moves.foldlFst ?_ (fun _ _ _ => ?_))
    | (with_reducible refine Moves.foldr ?_ (fun _ _ _ => ?_))
    | with_reducible refine Moves.optIte ?_ ?_
    | with_reducible refine Moves.foldlOpt ?_ (fun _ _ _ => ?_)
    | with_reducible refine Moves.optSome ?_
    | with_reducible exact Moves.optNone
    | with_reducible refine Moves.some (by assumption) ?_
    | with_reducible refine Moves.fst (by assumption) ?_
    | with_reducible refine Moves.snd (by assumption) ?_
    | dsimp +zetaDelta only

theorem State.deliver_moves {w : Nat} {s u : State} (hw : Within 4 w) (h : Moves w s u) (src : Nat) :
    Moves w s (State.deliver u src) := by
  unfold State.deliver
  repeat'
    first
    | with_reducible assumption
    | with_reducible refine State.setSrcBit_moves (Within.trans (by decide : Within 4 4) hw) ?_ _ _ _
    | with_reducible refine State.setF_moves (Within.trans (by decide : Within 4 4) hw) ?_ _ _ _
    | with_reducible refine Moves.ite ?_ ?_
    | split
    | extract_lets
    | with_reducible refine Moves.getD (Moves.optFindSome (fun _ => ?_)) ?_
    | with_reducible refine Moves.optMap (fun _ => ?_)
    | with_reducible refine Moves.optSndMapSnd ?_
    | with_reducible refine Moves.optSndMap (fun _ => ?_)
    | with_reducible refine Moves.optBind ?_ (fun _ _ => ?_)
    | with_reducible refine Moves.optOf (fun _ => ?_)
    | (with_reducible refine Moves.foldl ?_ (fun _ _ _ => ?_))
    | (with_reducible refine Moves.foldlFst ?_ (fun _ _ _ => ?_))
    | (with_reducible refine Moves.foldr ?_ (fun _ _ _ => ?_))
    | with_reducible refine Moves.optIte ?_ ?_
    | with_reducible refine Moves.foldlOpt ?_ (fun _ _ _ => ?_)
    | with_reducible refine Moves.optSome ?_
    | with_reducible exact Moves.optNone
    | with_reducible refine Moves.some (by assumption) ?_
    | with_reducible refine Moves.fst (by assumption) ?_
    | with_reducible refine Moves.snd (by assumption) ?_
    | dsimp +zetaDelta only

theorem State.deliverGroup_moves {w : Nat} {s u : State} (hw : Within 4 w) (h : Moves w s u) (grp : Nat) :
    Moves w s (State.deliverGroup u grp) := by
  unfold State.deliverGroup
  repeat'
    first
    | with_reducible assumption
    | with_reducible refine State.deliver_moves (Within.trans (by decide : Within 4 4) hw) ?_ _
    | with_reducible refine Moves.ite ?_ ?_
    | split
    | extract_lets
    | with_reducible refine Moves.getD (Moves.optFindSome (fun _ => ?_)) ?_
    | with_reducible refine Moves.optMap (fun _ => ?_)
    | with_reducible refine Moves.optSndMapSnd ?_
    | with_reducible refine Moves.optSndMap (fun _ => ?_)
    | with_reducible refine Moves.optBind ?_ (fun _ _ => ?_)
    | with_reducible refine Moves.optOf (fun _ => ?_)
    | (with_reducible refine Moves.foldl ?_ (fun _ _ _ => ?_))
    | (with_reducible refine Moves.foldlFst ?_ (fun _ _ _ => ?_))
    | (with_reducible refine Moves.foldr ?_ (fun _ _ _ => ?_))
    | with_reducible refine Moves.optIte ?_ ?_
    | with_reducible refine Moves.foldlOpt ?_ (fun _ _ _ => ?_)
    | with_reducible refine Moves.optSome ?_
    | with_reducible exact Moves.optNone
    | with_reducible refine Moves.some (by assumption) ?_
    | with_reducible refine Moves.fst (by assumption) ?_
    | with_reducible refine Moves.snd (by assumption) ?_
    | dsimp +zetaDelta only

theorem State.clearSources_moves {w : Nat} {s u : State} (hw : Within 4 w) (h : Moves w s u) (c : Nat) :
    Moves w s (State.clearSources u c) := by
  unfold State.clearSources
  repeat'
    first
    | with_reducible assumption
    | with_reducible refine State.setSrcBit_moves (Within.trans (by decide : Within 4 4) hw) ?_ _ _ _
    | with_reducible refine Moves.ite ?_ ?_
    | split
    | extract_lets
    | with_reducible refine Moves.getD (Moves.optFindSome (fun _ => ?_)) ?_
    | with_reducible refine Moves.optMap (fun _ => ?_)
    | with_reducible refine Moves.optSndMapSnd ?_
    | with_reducible refine Moves.optSndMap (fun _ => ?_)
    | with_reducible refine Moves.optBind ?_ (fun _ _ => ?_)
    | with_reducible refine Moves.optOf (fun _ => ?_)
    | (with_reducible refine Moves.foldl ?_ (fun _ _ _ => ?_))
    | (with_reducible refine Moves.foldlFst ?_ (fun _ _ _ => ?_))
    | (with_reducible refine Moves.foldr ?_ (fun _ _ _ => ?_))
    | with_reducible refine Moves.optIte ?_ ?_
    | with_reducible refine Moves.foldlOpt ?_ (fun _ _ _ => ?_)
    | with_reducible refine Moves.optSome ?_
    | with_reducible exact Moves.optNone
    | with_reducible refine Moves.some (by assumption) ?_
    | with_reducible refine Moves.fst (by assumption) ?_
    | with_reducible refine Moves.snd (by assumption) ?_
    | dsimp +zetaDelta only

theorem execInterruptDeliver_moves {w : Nat} {s u : State} (hw : Within 4 w) (h : Moves w s u) (src : Sys2Proof.Byte) :
    Moves.outcome w s (execInterruptDeliver src u) := by
  unfold execInterruptDeliver
  repeat'
    first
    | with_reducible assumption
    | with_reducible exact Moves.fault
    | with_reducible refine Moves.next ?_
    | with_reducible refine State.deliver_moves (Within.trans (by decide : Within 4 4) hw) ?_ _
    | with_reducible refine State.setF_moves (Within.trans (by decide : Within 4 4) hw) ?_ _ _ _
    | with_reducible refine State.deliverGroup_moves (Within.trans (by decide : Within 4 4) hw) ?_ _
    | with_reducible refine Moves.ite ?_ ?_
    | split
    | extract_lets
    | with_reducible refine Moves.getD (Moves.optFindSome (fun _ => ?_)) ?_
    | with_reducible refine Moves.optMap (fun _ => ?_)
    | with_reducible refine Moves.optSndMapSnd ?_
    | with_reducible refine Moves.optSndMap (fun _ => ?_)
    | with_reducible refine Moves.optBind ?_ (fun _ _ => ?_)
    | with_reducible refine Moves.optOf (fun _ => ?_)
    | (with_reducible refine Moves.foldl ?_ (fun _ _ _ => ?_))
    | (with_reducible refine Moves.foldlFst ?_ (fun _ _ _ => ?_))
    | (with_reducible refine Moves.foldr ?_ (fun _ _ _ => ?_))
    | with_reducible refine Moves.optIte ?_ ?_
    | with_reducible refine Moves.foldlOpt ?_ (fun _ _ _ => ?_)
    | with_reducible refine Moves.optSome ?_
    | with_reducible exact Moves.optNone
    | with_reducible refine Moves.some (by assumption) ?_
    | with_reducible refine Moves.fst (by assumption) ?_
    | with_reducible refine Moves.snd (by assumption) ?_
    | dsimp +zetaDelta only

theorem State.returnDelivered_moves {w : Nat} {s u : State} (hw : Within 4 w) (h : Moves w s u) (sel : Nat → Bool) :
    Moves w s (State.returnDelivered u sel) := by
  unfold State.returnDelivered
  repeat'
    first
    | with_reducible assumption
    | with_reducible refine State.setSrcBit_moves (Within.trans (by decide : Within 4 4) hw) ?_ _ _ _
    | with_reducible refine Moves.ite ?_ ?_
    | split
    | extract_lets
    | with_reducible refine Moves.getD (Moves.optFindSome (fun _ => ?_)) ?_
    | with_reducible refine Moves.optMap (fun _ => ?_)
    | with_reducible refine Moves.optSndMapSnd ?_
    | with_reducible refine Moves.optSndMap (fun _ => ?_)
    | with_reducible refine Moves.optBind ?_ (fun _ _ => ?_)
    | with_reducible refine Moves.optOf (fun _ => ?_)
    | (with_reducible refine Moves.foldl ?_ (fun _ _ _ => ?_))
    | (with_reducible refine Moves.foldlFst ?_ (fun _ _ _ => ?_))
    | (with_reducible refine Moves.foldr ?_ (fun _ _ _ => ?_))
    | with_reducible refine Moves.optIte ?_ ?_
    | with_reducible refine Moves.foldlOpt ?_ (fun _ _ _ => ?_)
    | with_reducible refine Moves.optSome ?_
    | with_reducible exact Moves.optNone
    | with_reducible refine Moves.some (by assumption) ?_
    | with_reducible refine Moves.fst (by assumption) ?_
    | with_reducible refine Moves.snd (by assumption) ?_
    | dsimp +zetaDelta only

theorem State.writeTgtCtl_moves {w : Nat} {s u : State} (hw : Within 4 w) (h : Moves w s u) (t : Nat) (w' : Nat) :
    Moves w s (State.writeTgtCtl u t w') := by
  unfold State.writeTgtCtl
  repeat'
    first
    | with_reducible assumption
    | with_reducible refine State.setF_moves (Within.trans (by decide : Within 4 4) hw) ?_ _ _ _
    | with_reducible refine State.returnDelivered_moves (Within.trans (by decide : Within 4 4) hw) ?_ _
    | with_reducible refine Moves.ite ?_ ?_
    | split
    | extract_lets
    | with_reducible refine Moves.getD (Moves.optFindSome (fun _ => ?_)) ?_
    | with_reducible refine Moves.optMap (fun _ => ?_)
    | with_reducible refine Moves.optSndMapSnd ?_
    | with_reducible refine Moves.optSndMap (fun _ => ?_)
    | with_reducible refine Moves.optBind ?_ (fun _ _ => ?_)
    | with_reducible refine Moves.optOf (fun _ => ?_)
    | (with_reducible refine Moves.foldl ?_ (fun _ _ _ => ?_))
    | (with_reducible refine Moves.foldlFst ?_ (fun _ _ _ => ?_))
    | (with_reducible refine Moves.foldr ?_ (fun _ _ _ => ?_))
    | with_reducible refine Moves.optIte ?_ ?_
    | with_reducible refine Moves.foldlOpt ?_ (fun _ _ _ => ?_)
    | with_reducible refine Moves.optSome ?_
    | with_reducible exact Moves.optNone
    | with_reducible refine Moves.some (by assumption) ?_
    | with_reducible refine Moves.fst (by assumption) ?_
    | with_reducible refine Moves.snd (by assumption) ?_
    | dsimp +zetaDelta only

theorem State.signal_moves {w : Nat} {s u : State} (hw : Within 35184372088844 w) (h : Moves w s u) (c : Nat) (src : Nat) :
    Moves w s (State.signal u c src) := by
  unfold State.signal
  repeat'
    first
    | with_reducible assumption
    | with_reducible refine State.pend_moves (Within.trans (by decide : Within 12 35184372088844) hw) ?_ _
    | with_reducible refine State.contain_moves (Within.trans (by decide : Within 35184372088844 35184372088844) hw) ?_ _ _
    | with_reducible refine State.bumpF_moves (Within.trans (by decide : Within 12 35184372088844) hw) ?_ _ _ _
    | with_reducible refine Moves.ite ?_ ?_
    | split
    | extract_lets
    | with_reducible refine Moves.getD (Moves.optFindSome (fun _ => ?_)) ?_
    | with_reducible refine Moves.optMap (fun _ => ?_)
    | with_reducible refine Moves.optSndMapSnd ?_
    | with_reducible refine Moves.optSndMap (fun _ => ?_)
    | with_reducible refine Moves.optBind ?_ (fun _ _ => ?_)
    | with_reducible refine Moves.optOf (fun _ => ?_)
    | (with_reducible refine Moves.foldl ?_ (fun _ _ _ => ?_))
    | (with_reducible refine Moves.foldlFst ?_ (fun _ _ _ => ?_))
    | (with_reducible refine Moves.foldr ?_ (fun _ _ _ => ?_))
    | with_reducible refine Moves.optIte ?_ ?_
    | with_reducible refine Moves.foldlOpt ?_ (fun _ _ _ => ?_)
    | with_reducible refine Moves.optSome ?_
    | with_reducible exact Moves.optNone
    | with_reducible refine Moves.some (by assumption) ?_
    | with_reducible refine Moves.fst (by assumption) ?_
    | with_reducible refine Moves.snd (by assumption) ?_
    | dsimp +zetaDelta only

theorem execHoldoffExpiry_moves {w : Nat} {s u : State} (hw : Within 4 w) (h : Moves w s u) (grp : Fin 8) :
    Moves.outcome w s (execHoldoffExpiry grp u) := by
  unfold execHoldoffExpiry
  repeat'
    first
    | with_reducible assumption
    | with_reducible exact Moves.fault
    | with_reducible refine Moves.next ?_
    | with_reducible refine State.setF_moves (Within.trans (by decide : Within 4 4) hw) ?_ _ _ _
    | with_reducible refine State.deliverGroup_moves (Within.trans (by decide : Within 4 4) hw) ?_ _
    | with_reducible refine Moves.ite ?_ ?_
    | split
    | extract_lets
    | with_reducible refine Moves.getD (Moves.optFindSome (fun _ => ?_)) ?_
    | with_reducible refine Moves.optMap (fun _ => ?_)
    | with_reducible refine Moves.optSndMapSnd ?_
    | with_reducible refine Moves.optSndMap (fun _ => ?_)
    | with_reducible refine Moves.optBind ?_ (fun _ _ => ?_)
    | with_reducible refine Moves.optOf (fun _ => ?_)
    | (with_reducible refine Moves.foldl ?_ (fun _ _ _ => ?_))
    | (with_reducible refine Moves.foldlFst ?_ (fun _ _ _ => ?_))
    | (with_reducible refine Moves.foldr ?_ (fun _ _ _ => ?_))
    | with_reducible refine Moves.optIte ?_ ?_
    | with_reducible refine Moves.foldlOpt ?_ (fun _ _ _ => ?_)
    | with_reducible refine Moves.optSome ?_
    | with_reducible exact Moves.optNone
    | with_reducible refine Moves.some (by assumption) ?_
    | with_reducible refine Moves.fst (by assumption) ?_
    | with_reducible refine Moves.snd (by assumption) ?_
    | dsimp +zetaDelta only

theorem State.claim_moves {w : Nat} {s u : State} (hw : Within 4 w) (h : Moves w s u) (t : Nat) :
    Moves w s (State.claim u t).2 := by
  unfold State.claim
  repeat'
    first
    | with_reducible assumption
    | with_reducible refine State.setSrcBit_moves (Within.trans (by decide : Within 4 4) hw) ?_ _ _ _
    | with_reducible refine Moves.ite ?_ ?_
    | split
    | extract_lets
    | with_reducible refine Moves.getD (Moves.optFindSome (fun _ => ?_)) ?_
    | with_reducible refine Moves.optMap (fun _ => ?_)
    | with_reducible refine Moves.optSndMapSnd ?_
    | with_reducible refine Moves.optSndMap (fun _ => ?_)
    | with_reducible refine Moves.optBind ?_ (fun _ _ => ?_)
    | with_reducible refine Moves.optOf (fun _ => ?_)
    | (with_reducible refine Moves.foldl ?_ (fun _ _ _ => ?_))
    | (with_reducible refine Moves.foldlFst ?_ (fun _ _ _ => ?_))
    | (with_reducible refine Moves.foldr ?_ (fun _ _ _ => ?_))
    | with_reducible refine Moves.optIte ?_ ?_
    | with_reducible refine Moves.foldlOpt ?_ (fun _ _ _ => ?_)
    | with_reducible refine Moves.optSome ?_
    | with_reducible exact Moves.optNone
    | with_reducible refine Moves.some (by assumption) ?_
    | with_reducible refine Moves.fst (by assumption) ?_
    | with_reducible refine Moves.snd (by assumption) ?_
    | dsimp +zetaDelta only

theorem State.takeOverIntr_moves {w : Nat} {s u : State} (hw : Within 12 w) (h : Moves w s u)  :
    Moves w s (State.takeOverIntr u) := by
  unfold State.takeOverIntr
  repeat'
    first
    | with_reducible assumption
    | with_reducible refine State.pend_moves (Within.trans (by decide : Within 12 12) hw) ?_ _
    | with_reducible refine State.setF_moves (Within.trans (by decide : Within 4 12) hw) ?_ _ _ _
    | with_reducible refine State.returnDelivered_moves (Within.trans (by decide : Within 4 12) hw) ?_ _
    | with_reducible refine Moves.ite ?_ ?_
    | split
    | extract_lets
    | with_reducible refine Moves.getD (Moves.optFindSome (fun _ => ?_)) ?_
    | with_reducible refine Moves.optMap (fun _ => ?_)
    | with_reducible refine Moves.optSndMapSnd ?_
    | with_reducible refine Moves.optSndMap (fun _ => ?_)
    | with_reducible refine Moves.optBind ?_ (fun _ _ => ?_)
    | with_reducible refine Moves.optOf (fun _ => ?_)
    | (with_reducible refine Moves.foldl ?_ (fun _ _ _ => ?_))
    | (with_reducible refine Moves.foldlFst ?_ (fun _ _ _ => ?_))
    | (with_reducible refine Moves.foldr ?_ (fun _ _ _ => ?_))
    | with_reducible refine Moves.optIte ?_ ?_
    | with_reducible refine Moves.foldlOpt ?_ (fun _ _ _ => ?_)
    | with_reducible refine Moves.optSome ?_
    | with_reducible exact Moves.optNone
    | with_reducible refine Moves.some (by assumption) ?_
    | with_reducible refine Moves.fst (by assumption) ?_
    | with_reducible refine Moves.snd (by assumption) ?_
    | dsimp +zetaDelta only

theorem execTgtClaim_moves {w : Nat} {s u : State} (hw : Within 8388612 w) (h : Moves w s u) (t : Fin 16) :
    Moves.outcome w s (execTgtClaim t u) := by
  unfold execTgtClaim
  repeat'
    first
    | with_reducible assumption
    | with_reducible exact Moves.fault
    | with_reducible refine Moves.next ?_
    | with_reducible refine State.claim_moves (Within.trans (by decide : Within 4 8388612) hw) ?_ _
    | with_reducible refine Moves.snd ‹State.claim _ _ = (_, _)› (State.claim_moves (Within.trans (by decide : Within 4 8388612) hw) ?_ _)
    | with_reducible refine Moves.ite ?_ ?_
    | split
    | extract_lets
    | with_reducible refine Moves.getD (Moves.optFindSome (fun _ => ?_)) ?_
    | with_reducible refine Moves.optMap (fun _ => ?_)
    | with_reducible refine Moves.optSndMapSnd ?_
    | with_reducible refine Moves.optSndMap (fun _ => ?_)
    | with_reducible refine Moves.optBind ?_ (fun _ _ => ?_)
    | with_reducible refine Moves.optOf (fun _ => ?_)
    | (with_reducible refine Moves.foldl ?_ (fun _ _ _ => ?_))
    | (with_reducible refine Moves.foldlFst ?_ (fun _ _ _ => ?_))
    | (with_reducible refine Moves.foldr ?_ (fun _ _ _ => ?_))
    | with_reducible refine Moves.optIte ?_ ?_
    | with_reducible refine Moves.foldlOpt ?_ (fun _ _ _ => ?_)
    | with_reducible refine Moves.optSome ?_
    | with_reducible exact Moves.optNone
    | with_reducible refine Moves.some (by assumption) ?_
    | with_reducible refine Moves.fst (by assumption) ?_
    | with_reducible refine Moves.snd (by assumption) ?_
    | dsimp +zetaDelta only
    | with_reducible refine Moves.upd ?_ rfl ⟨rfl, rfl, .same, .same, .same, .same, ⟨.rfl, .rfl, .of hw (by decide), .rfl, .rfl⟩⟩ ⟨id, id, id, id, id, id, id⟩

theorem execTgtCtlWrite_moves {w : Nat} {s u : State} (hw : Within 4 w) (h : Moves w s u) (t : Fin 16) (w' : Sys2Proof.W64) :
    Moves.outcome w s (execTgtCtlWrite t w' u) := by
  unfold execTgtCtlWrite
  repeat'
    first
    | with_reducible assumption
    | with_reducible exact Moves.fault
    | with_reducible refine Moves.next ?_
    | with_reducible refine State.whereAnswers_moves (Within.trans (by decide : Within 0 4) hw) ?_ _ _ (fun _ _ => ?_)
    | with_reducible refine State.writeTgtCtl_moves (Within.trans (by decide : Within 4 4) hw) ?_ _ _
    | with_reducible refine Moves.ite ?_ ?_
    | split
    | extract_lets
    | with_reducible refine Moves.getD (Moves.optFindSome (fun _ => ?_)) ?_
    | with_reducible refine Moves.optMap (fun _ => ?_)
    | with_reducible refine Moves.optSndMapSnd ?_
    | with_reducible refine Moves.optSndMap (fun _ => ?_)
    | with_reducible refine Moves.optBind ?_ (fun _ _ => ?_)
    | with_reducible refine Moves.optOf (fun _ => ?_)
    | (with_reducible refine Moves.foldl ?_ (fun _ _ _ => ?_))
    | (with_reducible refine Moves.foldlFst ?_ (fun _ _ _ => ?_))
    | (with_reducible refine Moves.foldr ?_ (fun _ _ _ => ?_))
    | with_reducible refine Moves.optIte ?_ ?_
    | with_reducible refine Moves.foldlOpt ?_ (fun _ _ _ => ?_)
    | with_reducible refine Moves.optSome ?_
    | with_reducible exact Moves.optNone
    | with_reducible refine Moves.some (by assumption) ?_
    | with_reducible refine Moves.fst (by assumption) ?_
    | with_reducible refine Moves.snd (by assumption) ?_
    | dsimp +zetaDelta only

end Sys2Proof.Machine
end

