-- ==== Sys2Proof/Laws/PagesMoves.lean ====
section
/-! SUPPORT. Sys2Proof/Laws/PagesMoves.lean: what each operation of Machine/Pages.lean can do to the state: the parts it may change, and that it keeps
the canonical form. -/

namespace Sys2Proof.Machine

theorem State.writePlain_moves {w : Nat} {s u : State} (hw : Within 4 w) (h : Moves w s u) (a : Nat) (data : Nat) :
    Moves w s (State.writePlain u a data) := by
  unfold State.writePlain
  repeat'
    first
    | with_reducible assumption
    | with_reducible refine State.setReg_moves (Within.trans (by decide : Within 4 4) hw) ?_ _ _
    | with_reducible refine Moves.ite ?_ ?_
    | split
    | extract_lets
    | with_reducible refine Moves.getD (Moves.optFindSome (fun _ => ?_)) ?_
    | with_reducible refine Moves.optMap (fun _ => ?_)
    | with_reducible refine Moves.optSndMapSnd ?_
    | with_reducible refine Moves.optSndMap (fun _ => ?_)
    | with_reducible refine Moves.optBind ?_ (fun _ _ => ?_)
    | with_reducible refine Moves.optOf (fun _ => ?_)
    | (with_reducible refine Moves.foldl ?_ (fun _ _ _ => ?_))
    | (with_reducible refine Moves.foldlFst ?_ (fun _ _ _ => ?_))
    | (with_reducible refine Moves.foldr ?_ (fun _ _ _ => ?_))
    | with_reducible refine Moves.optIte ?_ ?_
    | with_reducible refine Moves.foldlOpt ?_ (fun _ _ _ => ?_)
    | with_reducible refine Moves.optSome ?_
    | with_reducible exact Moves.optNone
    | with_reducible refine Moves.some (by assumption) ?_
    | with_reducible refine Moves.fst (by assumption) ?_
    | with_reducible refine Moves.snd (by assumption) ?_
    | dsimp +zetaDelta only

theorem State.clearFields_moves {w : Nat} {s u : State} (hw : Within 12 w) (h : Moves w s u) (a : Nat) (sel : FieldSpec → Bool) :
    Moves w s (State.clearFields u a sel) := by
  unfold State.clearFields
  repeat'
    first
    | with_reducible assumption
    | with_reducible refine State.setReg_moves (Within.trans (by decide : Within 4 12) hw) ?_ _ _
    | with_reducible refine Moves.ite ?_ ?_
    | split
    | extract_lets
    | with_reducible refine Moves.getD (Moves.optFindSome (fun _ => ?_)) ?_
    | with_reducible refine Moves.optMap (fun _ => ?_)
    | with_reducible refine Moves.optSndMapSnd ?_
    | with_reducible refine Moves.optSndMap (fun _ => ?_)
    | with_reducible refine Moves.optBind ?_ (fun _ _ => ?_)
    | with_reducible refine Moves.optOf (fun _ => ?_)
    | (with_reducible refine Moves.foldl ?_ (fun _ _ _ => ?_))
    | (with_reducible refine Moves.foldlFst ?_ (fun _ _ _ => ?_))
    | (with_reducible refine Moves.foldr ?_ (fun _ _ _ => ?_))
    | with_reducible refine Moves.optIte ?_ ?_
    | with_reducible refine Moves.foldlOpt ?_ (fun _ _ _ => ?_)
    | with_reducible refine Moves.optSome ?_
    | with_reducible exact Moves.optNone
    | with_reducible refine Moves.some (by assumption) ?_
    | with_reducible refine Moves.fst (by assumption) ?_
    | with_reducible refine Moves.snd (by assumption) ?_
    | dsimp +zetaDelta only
    | with_reducible refine Moves.upd ?_ rfl ⟨rfl, rfl, ⟨.rfl, .rfl, .of hw (by decide), .rfl, .rfl⟩, .same, .same, .same, .same⟩ ⟨id, (by first | with_reducible exact id | exact fun k => Tab.sorted_set k _ _ | exact fun k => Tab.sorted_filter k _ | exact fun k => Tab.sorted_erase k _ | exact fun k => Tab.sorted_map k _ (fun _ => by first | rfl | (split <;> rfl)) | exact fun _ => .nil), id, id, id, id, id⟩

theorem State.readClear_moves {w : Nat} {s u : State} (hw : Within 12 w) (h : Moves w s u) (a : Nat) :
    Moves w s (State.readClear u a) := by
  unfold State.readClear
  repeat'
    first
    | with_reducible assumption
    | with_reducible refine State.clearFields_moves (Within.trans (by decide : Within 12 12) hw) ?_ _ _
    | with_reducible refine Moves.ite ?_ ?_
    | split
    | extract_lets
    | with_reducible refine Moves.getD (Moves.optFindSome (fun _ => ?_)) ?_
    | with_reducible refine Moves.optMap (fun _ => ?_)
    | with_reducible refine Moves.optSndMapSnd ?_
    | with_reducible refine Moves.optSndMap (fun _ => ?_)
    | with_reducible refine Moves.optBind ?_ (fun _ _ => ?_)
    | with_reducible refine Moves.optOf (fun _ => ?_)
    | (with_reducible refine Moves.foldl ?_ (fun _ _ _ => ?_))
    | (with_reducible refine Moves.foldlFst ?_ (fun _ _ _ => ?_))
    | (with_reducible refine Moves.foldr ?_ (fun _ _ _ => ?_))
    | with_reducible refine Moves.optIte ?_ ?_
    | with_reducible refine Moves.foldlOpt ?_ (fun _ _ _ => ?_)
    | with_reducible refine Moves.optSome ?_
    | with_reducible exact Moves.optNone
    | with_reducible refine Moves.some (by assumption) ?_
    | with_reducible refine Moves.fst (by assumption) ?_
    | with_reducible refine Moves.snd (by assumption) ?_
    | dsimp +zetaDelta only

theorem State.whereTaken_moves {w : Nat} {s u : State} (hw : Within 0 w) (h : Moves w s u) (a : Nat) (f : State → State) (hf : ∀ v, Moves w s v → Moves w s (f v)) :
    Moves w s (State.whereTaken u a f) := by
  unfold State.whereTaken
  repeat'
    first
    | with_reducible assumption
    | with_reducible refine hf _ ?_
    | with_reducible refine State.whereAnswers_moves (Within.trans (by decide : Within 0 0) hw) ?_ _ _ (fun _ _ => ?_)
    | with_reducible refine Moves.ite ?_ ?_
    | split
    | extract_lets
    | with_reducible refine Moves.getD (Moves.optFindSome (fun _ => ?_)) ?_
    | with_reducible refine Moves.optMap (fun _ => ?_)
    | with_reducible refine Moves.optSndMapSnd ?_
    | with_reducible refine Moves.optSndMap (fun _ => ?_)
    | with_reducible refine Moves.optBind ?_ (fun _ _ => ?_)
    | with_reducible refine Moves.optOf (fun _ => ?_)
    | (with_reducible refine Moves.foldl ?_ (fun _ _ _ => ?_))
    | (with_reducible refine Moves.foldlFst ?_ (fun _ _ _ => ?_))
    | (with_reducible refine Moves.foldr ?_ (fun _ _ _ => ?_))
    | with_reducible refine Moves.optIte ?_ ?_
    | with_reducible refine Moves.foldlOpt ?_ (fun _ _ _ => ?_)
    | with_reducible refine Moves.optSome ?_
    | with_reducible exact Moves.optNone
    | with_reducible refine Moves.some (by assumption) ?_
    | with_reducible refine Moves.fst (by assumption) ?_
    | with_reducible refine Moves.snd (by assumption) ?_
    | dsimp +zetaDelta only

theorem State.forceErrors_moves {w : Nat} {s u : State} (hw : Within 35184372088844 w) (h : Moves w s u) (pg : Nat) (w' : Nat) :
    Moves w s (State.forceErrors u pg w') := by
  unfold State.forceErrors
  repeat'
    first
    | with_reducible assumption
    | with_reducible refine State.record_moves (Within.trans (by decide : Within 12 35184372088844) hw) ?_ _ _ _
    | with_reducible refine State.count_moves (Within.trans (by decide : Within 35184372088844 35184372088844) hw) ?_ _ _ _
    | with_reducible refine Moves.ite ?_ ?_
    | split
    | extract_lets
    | with_reducible refine Moves.getD (Moves.optFindSome (fun _ => ?_)) ?_
    | with_reducible refine Moves.optMap (fun _ => ?_)
    | with_reducible refine Moves.optSndMapSnd ?_
    | with_reducible refine Moves.optSndMap (fun _ => ?_)
    | with_reducible refine Moves.optBind ?_ (fun _ _ => ?_)
    | with_reducible refine Moves.optOf (fun _ => ?_)
    | (with_reducible refine Moves.foldl ?_ (fun _ _ _ => ?_))
    | (with_reducible refine Moves.foldlFst ?_ (fun _ _ _ => ?_))
    | (with_reducible refine Moves.foldr ?_ (fun _ _ _ => ?_))
    | with_reducible refine Moves.optIte ?_ ?_
    | with_reducible refine Moves.foldlOpt ?_ (fun _ _ _ => ?_)
    | with_reducible refine Moves.optSome ?_
    | with_reducible exact Moves.optNone
    | with_reducible refine Moves.some (by assumption) ?_
    | with_reducible refine Moves.fst (by assumption) ?_
    | with_reducible refine Moves.snd (by assumption) ?_
    | dsimp +zetaDelta only

theorem execErrForce_moves {w : Nat} {s u : State} (hw : Within 35184372088844 w) (h : Moves w s u) (page : BitVec 16) (w' : Sys2Proof.W64) :
    Moves.outcome w s (execErrForce page w' u) := by
  unfold execErrForce
  repeat'
    first
    | with_reducible assumption
    | with_reducible exact Moves.fault
    | with_reducible refine Moves.next ?_
    | with_reducible refine State.whereTaken_moves (Within.trans (by decide : Within 0 35184372088844) hw) ?_ _ _ (fun _ _ => ?_)
    | with_reducible refine State.forceErrors_moves (Within.trans (by decide : Within 35184372088844 35184372088844) hw) ?_ _ _
    | with_reducible refine Moves.ite ?_ ?_
    | split
    | extract_lets
    | with_reducible refine Moves.getD (Moves.optFindSome (fun _ => ?_)) ?_
    | with_reducible refine Moves.optMap (fun _ => ?_)
    | with_reducible refine Moves.optSndMapSnd ?_
    | with_reducible refine Moves.optSndMap (fun _ => ?_)
    | with_reducible refine Moves.optBind ?_ (fun _ _ => ?_)
    | with_reducible refine Moves.optOf (fun _ => ?_)
    | (with_reducible refine Moves.foldl ?_ (fun _ _ _ => ?_))
    | (with_reducible refine Moves.foldlFst ?_ (fun _ _ _ => ?_))
    | (with_reducible refine Moves.foldr ?_ (fun _ _ _ => ?_))
    | with_reducible refine Moves.optIte ?_ ?_
    | with_reducible refine Moves.foldlOpt ?_ (fun _ _ _ => ?_)
    | with_reducible refine Moves.optSome ?_
    | with_reducible exact Moves.optNone
    | with_reducible refine Moves.some (by assumption) ?_
    | with_reducible refine Moves.fst (by assumption) ?_
    | with_reducible refine Moves.snd (by assumption) ?_
    | dsimp +zetaDelta only

theorem State.writeEvtSel_moves {w : Nat} {s u : State} (hw : Within 12 w) (h : Moves w s u) (pg : Nat) (w' : Nat) :
    Moves w s (State.writeEvtSel u pg w') := by
  unfold State.writeEvtSel
  repeat'
    first
    | with_reducible assumption
    | with_reducible refine State.resetRegs_moves (Within.trans (by decide : Within 12 12) hw) ?_ _
    | with_reducible refine State.setReg_moves (Within.trans (by decide : Within 4 12) hw) ?_ _ _
    | with_reducible refine State.note_moves (Within.trans (by decide : Within 8 12) hw) ?_ _ _
    | with_reducible refine Moves.ite ?_ ?_
    | split
    | extract_lets
    | with_reducible refine Moves.getD (Moves.optFindSome (fun _ => ?_)) ?_
    | with_reducible refine Moves.optMap (fun _ => ?_)
    | with_reducible refine Moves.optSndMapSnd ?_
    | with_reducible refine Moves.optSndMap (fun _ => ?_)
    | with_reducible refine Moves.optBind ?_ (fun _ _ => ?_)
    | with_reducible refine Moves.optOf (fun _ => ?_)
    | (with_reducible refine Moves.foldl ?_ (fun _ _ _ => ?_))
    | (with_reducible refine Moves.foldlFst ?_ (fun _ _ _ => ?_))
    | (with_reducible refine Moves.foldr ?_ (fun _ _ _ => ?_))
    | with_reducible refine Moves.optIte ?_ ?_
    | with_reducible refine Moves.foldlOpt ?_ (fun _ _ _ => ?_)
    | with_reducible refine Moves.optSome ?_
    | with_reducible exact Moves.optNone
    | with_reducible refine Moves.some (by assumption) ?_
    | with_reducible refine Moves.fst (by assumption) ?_
    | with_reducible refine Moves.snd (by assumption) ?_
    | dsimp +zetaDelta only

theorem State.writePageCtl_moves {w : Nat} {s u : State} (hw : Within 12 w) (h : Moves w s u) (pg : Nat) (w' : Nat) :
    Moves w s (State.writePageCtl u pg w') := by
  unfold State.writePageCtl
  repeat'
    first
    | with_reducible assumption
    | with_reducible refine State.setF_moves (Within.trans (by decide : Within 4 12) hw) ?_ _ _ _
    | with_reducible refine State.readClear_moves (Within.trans (by decide : Within 12 12) hw) ?_ _
    | with_reducible refine Moves.ite ?_ ?_
    | split
    | extract_lets
    | with_reducible refine Moves.getD (Moves.optFindSome (fun _ => ?_)) ?_
    | with_reducible refine Moves.optMap (fun _ => ?_)
    | with_reducible refine Moves.optSndMapSnd ?_
    | with_reducible refine Moves.optSndMap (fun _ => ?_)
    | with_reducible refine Moves.optBind ?_ (fun _ _ => ?_)
    | with_reducible refine Moves.optOf (fun _ => ?_)
    | (with_reducible refine Moves.foldl ?_ (fun _ _ _ => ?_))
    | (with_reducible refine Moves.foldlFst ?_ (fun _ _ _ => ?_))
    | (with_reducible refine Moves.foldr ?_ (fun _ _ _ => ?_))
    | with_reducible refine Moves.optIte ?_ ?_
    | with_reducible refine Moves.foldlOpt ?_ (fun _ _ _ => ?_)
    | with_reducible refine Moves.optSome ?_
    | with_reducible exact Moves.optNone
    | with_reducible refine Moves.some (by assumption) ?_
    | with_reducible refine Moves.fst (by assumption) ?_
    | with_reducible refine Moves.snd (by assumption) ?_
    | dsimp +zetaDelta only

theorem execEvtSelWrite_moves {w : Nat} {s u : State} (hw : Within 12 w) (h : Moves w s u) (page : BitVec 16) (w' : Sys2Proof.W64) :
    Moves.outcome w s (execEvtSelWrite page w' u) := by
  unfold execEvtSelWrite
  repeat'
    first
    | with_reducible assumption
    | with_reducible exact Moves.fault
    | with_reducible refine Moves.next ?_
    | with_reducible refine State.whereTaken_moves (Within.trans (by decide : Within 0 12) hw) ?_ _ _ (fun _ _ => ?_)
    | with_reducible refine State.writeEvtSel_moves (Within.trans (by decide : Within 12 12) hw) ?_ _ _
    | with_reducible refine Moves.ite ?_ ?_
    | split
    | extract_lets
    | with_reducible refine Moves.getD (Moves.optFindSome (fun _ => ?_)) ?_
    | with_reducible refine Moves.optMap (fun _ => ?_)
    | with_reducible refine Moves.optSndMapSnd ?_
    | with_reducible refine Moves.optSndMap (fun _ => ?_)
    | with_reducible refine Moves.optBind ?_ (fun _ _ => ?_)
    | with_reducible refine Moves.optOf (fun _ => ?_)
    | (with_reducible refine Moves.foldl ?_ (fun _ _ _ => ?_))
    | (with_reducible refine Moves.foldlFst ?_ (fun _ _ _ => ?_))
    | (with_reducible refine Moves.foldr ?_ (fun _ _ _ => ?_))
    | with_reducible refine Moves.optIte ?_ ?_
    | with_reducible refine Moves.foldlOpt ?_ (fun _ _ _ => ?_)
    | with_reducible refine Moves.optSome ?_
    | with_reducible exact Moves.optNone
    | with_reducible refine Moves.some (by assumption) ?_
    | with_reducible refine Moves.fst (by assumption) ?_
    | with_reducible refine Moves.snd (by assumption) ?_
    | dsimp +zetaDelta only

theorem execPageCtlClear_moves {w : Nat} {s u : State} (hw : Within 12 w) (h : Moves w s u) (page : BitVec 16) (w' : Sys2Proof.W64) :
    Moves.outcome w s (execPageCtlClear page w' u) := by
  unfold execPageCtlClear
  repeat'
    first
    | with_reducible assumption
    | with_reducible exact Moves.fault
    | with_reducible refine Moves.next ?_
    | with_reducible refine State.whereTaken_moves (Within.trans (by decide : Within 0 12) hw) ?_ _ _ (fun _ _ => ?_)
    | with_reducible refine State.writePageCtl_moves (Within.trans (by decide : Within 12 12) hw) ?_ _ _
    | with_reducible refine Moves.ite ?_ ?_
    | split
    | extract_lets
    | with_reducible refine Moves.getD (Moves.optFindSome (fun _ => ?_)) ?_
    | with_reducible refine Moves.optMap (fun _ => ?_)
    | with_reducible refine Moves.optSndMapSnd ?_
    | with_reducible refine Moves.optSndMap (fun _ => ?_)
    | with_reducible refine Moves.optBind ?_ (fun _ _ => ?_)
    | with_reducible refine Moves.optOf (fun _ => ?_)
    | (with_reducible refine Moves.foldl ?_ (fun _ _ _ => ?_))
    | (with_reducible refine Moves.foldlFst ?_ (fun _ _ _ => ?_))
    | (with_reducible refine Moves.foldr ?_ (fun _ _ _ => ?_))
    | with_reducible refine Moves.optIte ?_ ?_
    | with_reducible refine Moves.foldlOpt ?_ (fun _ _ _ => ?_)
    | with_reducible refine Moves.optSome ?_
    | with_reducible exact Moves.optNone
    | with_reducible refine Moves.some (by assumption) ?_
    | with_reducible refine Moves.fst (by assumption) ?_
    | with_reducible refine Moves.snd (by assumption) ?_
    | dsimp +zetaDelta only

end Sys2Proof.Machine
end

