-- ==== Sys2Proof/Laws/TensorMoves.lean ====
section
/-! SUPPORT. Sys2Proof/Laws/TensorMoves.lean: what each operation of Machine/Tensor.lean can do to the state: the parts it may change, and that it keeps
the canonical form. -/

namespace Sys2Proof.Machine

theorem State.rowWrite_moves {w : Nat} {s u : State} (hw : Within 3221225488 w) (h : Moves w s u) (cmd : Command) (r : Nat) (i : Nat) (k : Nat) (bs : Sys2Proof.Bytes) :
    Moves.opt w s (State.rowWrite u cmd r i k bs) := by
  unfold State.rowWrite
  repeat'
    first
    | with_reducible assumption
    | with_reducible exact Moves.optNone
    | with_reducible refine Moves.optSome ?_
    | with_reducible refine State.writeCtx_moves (Within.trans (by decide : Within 3221225488 3221225488) hw) ?_ _ _ _ _
    | with_reducible refine Moves.some ‹State.writeCtx _ _ _ _ _ = some _› (State.writeCtx_moves (Within.trans (by decide : Within 3221225488 3221225488) hw) ?_ _ _ _ _)
    | with_reducible refine Moves.getD (State.writeCtx_moves (Within.trans (by decide : Within 3221225488 3221225488) hw) ?_ _ _ _ _) ?_
    | with_reducible refine Moves.ite ?_ ?_
    | split
    | extract_lets
    | with_reducible refine Moves.getD (Moves.optFindSome (fun _ => ?_)) ?_
    | with_reducible refine Moves.optMap (fun _ => ?_)
    | with_reducible refine Moves.optSndMapSnd ?_
    | with_reducible refine Moves.optSndMap (fun _ => ?_)
    | with_reducible refine Moves.optBind ?_ (fun _ _ => ?_)
    | with_reducible refine Moves.optOf (fun _ => ?_)
    | (with_reducible refine Moves.foldl ?_ (fun _ _ _ => ?_))
    | (with_reducible refine Moves.foldlFst ?_ (fun _ _ _ => ?_))
    | (with_reducible refine Moves.foldr ?_ (fun _ _ _ => ?_))
    | with_reducible refine Moves.optIte ?_ ?_
    | with_reducible refine Moves.foldlOpt ?_ (fun _ _ _ => ?_)
    | with_reducible refine Moves.optSome ?_
    | with_reducible exact Moves.optNone
    | with_reducible refine Moves.some (by assumption) ?_
    | with_reducible refine Moves.fst (by assumption) ?_
    | with_reducible refine Moves.snd (by assumption) ?_
    | dsimp +zetaDelta only

theorem State.setRowToken_moves {w : Nat} {s u : State} (hw : Within 3221225488 w) (h : Moves w s u) (cmd : Command) (r : Nat) (i : Nat) (k : Nat) (token : Nat) :
    Moves w s (State.setRowToken u cmd r i k token) := by
  unfold State.setRowToken
  repeat'
    first
    | with_reducible assumption
    | with_reducible refine State.writeCtx_moves (Within.trans (by decide : Within 3221225488 3221225488) hw) ?_ _ _ _ _
    | with_reducible refine Moves.some ‹State.writeCtx _ _ _ _ _ = some _› (State.writeCtx_moves (Within.trans (by decide : Within 3221225488 3221225488) hw) ?_ _ _ _ _)
    | with_reducible refine Moves.getD (State.writeCtx_moves (Within.trans (by decide : Within 3221225488 3221225488) hw) ?_ _ _ _ _) ?_
    | with_reducible refine Moves.ite ?_ ?_
    | split
    | extract_lets
    | with_reducible refine Moves.getD (Moves.optFindSome (fun _ => ?_)) ?_
    | with_reducible refine Moves.optMap (fun _ => ?_)
    | with_reducible refine Moves.optSndMapSnd ?_
    | with_reducible refine Moves.optSndMap (fun _ => ?_)
    | with_reducible refine Moves.optBind ?_ (fun _ _ => ?_)
    | with_reducible refine Moves.optOf (fun _ => ?_)
    | (with_reducible refine Moves.foldl ?_ (fun _ _ _ => ?_))
    | (with_reducible refine Moves.foldlFst ?_ (fun _ _ _ => ?_))
    | (with_reducible refine Moves.foldr ?_ (fun _ _ _ => ?_))
    | with_reducible refine Moves.optIte ?_ ?_
    | with_reducible refine Moves.foldlOpt ?_ (fun _ _ _ => ?_)
    | with_reducible refine Moves.optSome ?_
    | with_reducible exact Moves.optNone
    | with_reducible refine Moves.some (by assumption) ?_
    | with_reducible refine Moves.fst (by assumption) ?_
    | with_reducible refine Moves.snd (by assumption) ?_
    | dsimp +zetaDelta only

theorem State.scatterRow_moves {w : Nat} {s u : State} (hw : Within 3221225488 w) (h : Moves w s u) (w' : Tab (BitVec 128)) (r : Nat) (d : Sys2Proof.Bytes) (a : Nat) (bs : Sys2Proof.Bytes) :
    Moves w s (State.scatterRow u w' r d a bs) := by
  unfold State.scatterRow
  repeat'
    first
    | with_reducible assumption
    | with_reducible refine State.writeCtx_moves (Within.trans (by decide : Within 3221225488 3221225488) hw) ?_ _ _ _ _
    | with_reducible refine Moves.some ‹State.writeCtx _ _ _ _ _ = some _› (State.writeCtx_moves (Within.trans (by decide : Within 3221225488 3221225488) hw) ?_ _ _ _ _)
    | with_reducible refine Moves.getD (State.writeCtx_moves (Within.trans (by decide : Within 3221225488 3221225488) hw) ?_ _ _ _ _) ?_
    | with_reducible refine Moves.ite ?_ ?_
    | split
    | extract_lets
    | with_reducible refine Moves.getD (Moves.optFindSome (fun _ => ?_)) ?_
    | with_reducible refine Moves.optMap (fun _ => ?_)
    | with_reducible refine Moves.optSndMapSnd ?_
    | with_reducible refine Moves.optSndMap (fun _ => ?_)
    | with_reducible refine Moves.optBind ?_ (fun _ _ => ?_)
    | with_reducible refine Moves.optOf (fun _ => ?_)
    | (with_reducible refine Moves.foldl ?_ (fun _ _ _ => ?_))
    | (with_reducible refine Moves.foldlFst ?_ (fun _ _ _ => ?_))
    | (with_reducible refine Moves.foldr ?_ (fun _ _ _ => ?_))
    | with_reducible refine Moves.optIte ?_ ?_
    | with_reducible refine Moves.foldlOpt ?_ (fun _ _ _ => ?_)
    | with_reducible refine Moves.optSome ?_
    | with_reducible exact Moves.optNone
    | with_reducible refine Moves.some (by assumption) ?_
    | with_reducible refine Moves.fst (by assumption) ?_
    | with_reducible refine Moves.snd (by assumption) ?_
    | dsimp +zetaDelta only

theorem State.structWrite_moves {w : Nat} {s u : State} (hw : Within 3221225488 w) (h : Moves w s u) (cmd : Command) (r : Nat) (i : Nat) (off : Nat) (bs : Sys2Proof.Bytes) :
    Moves.opt w s (State.structWrite u cmd r i off bs) := by
  unfold State.structWrite
  repeat'
    first
    | with_reducible assumption
    | with_reducible exact Moves.optNone
    | with_reducible refine Moves.optSome ?_
    | with_reducible refine State.writeCtx_moves (Within.trans (by decide : Within 3221225488 3221225488) hw) ?_ _ _ _ _
    | with_reducible refine Moves.some ‹State.writeCtx _ _ _ _ _ = some _› (State.writeCtx_moves (Within.trans (by decide : Within 3221225488 3221225488) hw) ?_ _ _ _ _)
    | with_reducible refine Moves.getD (State.writeCtx_moves (Within.trans (by decide : Within 3221225488 3221225488) hw) ?_ _ _ _ _) ?_
    | with_reducible refine Moves.ite ?_ ?_
    | split
    | extract_lets
    | with_reducible refine Moves.getD (Moves.optFindSome (fun _ => ?_)) ?_
    | with_reducible refine Moves.optMap (fun _ => ?_)
    | with_reducible refine Moves.optSndMapSnd ?_
    | with_reducible refine Moves.optSndMap (fun _ => ?_)
    | with_reducible refine Moves.optBind ?_ (fun _ _ => ?_)
    | with_reducible refine Moves.optOf (fun _ => ?_)
    | (with_reducible refine Moves.foldl ?_ (fun _ _ _ => ?_))
    | (with_reducible refine Moves.foldlFst ?_ (fun _ _ _ => ?_))
    | (with_reducible refine Moves.foldr ?_ (fun _ _ _ => ?_))
    | with_reducible refine Moves.optIte ?_ ?_
    | with_reducible refine Moves.foldlOpt ?_ (fun _ _ _ => ?_)
    | with_reducible refine Moves.optSome ?_
    | with_reducible exact Moves.optNone
    | with_reducible refine Moves.some (by assumption) ?_
    | with_reducible refine Moves.fst (by assumption) ?_
    | with_reducible refine Moves.snd (by assumption) ?_
    | dsimp +zetaDelta only

end Sys2Proof.Machine
end

