-- ==== Sys2Proof/Laws/BasinsMoves.lean ====
section
/-! SUPPORT. Sys2Proof/Laws/BasinsMoves.lean: what each operation of Machine/Basins.lean can do to the state: the parts it may change, and that it keeps
the canonical form. -/

namespace Sys2Proof.Machine

theorem State.sweep_moves {w : Nat} {s u : State} (hw : Within 44 w) (h : Moves w s u) (c : Nat) :
    Moves w s (State.sweep u c) := by
  unfold State.sweep
  repeat'
    first
    | with_reducible assumption
    | with_reducible refine State.modCtx_moves (Within.trans (by decide : Within 32 44) hw) ?_ _ _
    | with_reducible refine State.bumpF_moves (Within.trans (by decide : Within 12 44) hw) ?_ _ _ _
    | with_reducible refine Moves.ite ?_ ?_
    | split
    | extract_lets
    | with_reducible refine Moves.getD (Moves.optFindSome (fun _ => ?_)) ?_
    | with_reducible refine Moves.optMap (fun _ => ?_)
    | with_reducible refine Moves.optSndMapSnd ?_
    | with_reducible refine Moves.optSndMap (fun _ => ?_)
    | with_reducible refine Moves.optBind ?_ (fun _ _ => ?_)
    | with_reducible refine Moves.optOf (fun _ => ?_)
    | (with_reducible refine Moves.foldl ?_ (fun _ _ _ => ?_))
    | (with_reducible refine Moves.foldlFst ?_ (fun _ _ _ => ?_))
    | (with_reducible refine Moves.foldr ?_ (fun _ _ _ => ?_))
    | with_reducible refine Moves.optIte ?_ ?_
    | with_reducible refine Moves.foldlOpt ?_ (fun _ _ _ => ?_)
    | with_reducible refine Moves.optSome ?_
    | with_reducible exact Moves.optNone
    | with_reducible refine Moves.some (by assumption) ?_
    | with_reducible refine Moves.fst (by assumption) ?_
    | with_reducible refine Moves.snd (by assumption) ?_
    | dsimp +zetaDelta only

theorem State.basinWrite_moves {w : Nat} {s u : State} (hw : Within 3221225488 w) (h : Moves w s u) (w' : Tab (BitVec 128)) (c : Nat) (h' : Nat) (off : Nat) (bs : Sys2Proof.Bytes) :
    Moves.opt w s (State.basinWrite u w' c h' off bs) := by
  unfold State.basinWrite
  repeat'
    first
    | with_reducible assumption
    | with_reducible exact Moves.optNone
    | with_reducible refine Moves.optSome ?_
    | with_reducible refine State.storeWrite_moves (Within.trans (by decide : Within 3221225472 3221225488) hw) ?_ _ _ _
    | with_reducible refine State.writeCtx_moves (Within.trans (by decide : Within 3221225488 3221225488) hw) ?_ _ _ _ _
    | with_reducible refine Moves.some ‹State.writeCtx _ _ _ _ _ = some _› (State.writeCtx_moves (Within.trans (by decide : Within 3221225488 3221225488) hw) ?_ _ _ _ _)
    | with_reducible refine Moves.getD (State.writeCtx_moves (Within.trans (by decide : Within 3221225488 3221225488) hw) ?_ _ _ _ _) ?_
    | with_reducible refine Moves.ite ?_ ?_
    | split
    | extract_lets
    | with_reducible refine Moves.getD (Moves.optFindSome (fun _ => ?_)) ?_
    | with_reducible refine Moves.optMap (fun _ => ?_)
    | with_reducible refine Moves.optSndMapSnd ?_
    | with_reducible refine Moves.optSndMap (fun _ => ?_)
    | with_reducible refine Moves.optBind ?_ (fun _ _ => ?_)
    | with_reducible refine Moves.optOf (fun _ => ?_)
    | (with_reducible refine Moves.foldl ?_ (fun _ _ _ => ?_))
    | (with_reducible refine Moves.foldlFst ?_ (fun _ _ _ => ?_))
    | (with_reducible refine Moves.foldr ?_ (fun _ _ _ => ?_))
    | with_reducible refine Moves.optIte ?_ ?_
    | with_reducible refine Moves.foldlOpt ?_ (fun _ _ _ => ?_)
    | with_reducible refine Moves.optSome ?_
    | with_reducible exact Moves.optNone
    | with_reducible refine Moves.some (by assumption) ?_
    | with_reducible refine Moves.fst (by assumption) ?_
    | with_reducible refine Moves.snd (by assumption) ?_
    | dsimp +zetaDelta only

theorem State.allocBasin_moves {w : Nat} {s u : State} (hw : Within 32 w) (h : Moves w s u) (c : Nat) (pool : Nat) (r : Nat) (q : Nat) (count : Nat) (persistent : Bool) :
    Moves.optSnd w s (State.allocBasin u c pool r q count persistent) := by
  unfold State.allocBasin
  repeat'
    first
    | with_reducible assumption
    | with_reducible exact Moves.optSndNone
    | with_reducible refine Moves.optSndSome ?_
    | with_reducible refine State.modCtx_moves (Within.trans (by decide : Within 32 32) hw) ?_ _ _
    | with_reducible refine Moves.ite ?_ ?_
    | split
    | extract_lets
    | with_reducible refine Moves.getD (Moves.optFindSome (fun _ => ?_)) ?_
    | with_reducible refine Moves.optMap (fun _ => ?_)
    | with_reducible refine Moves.optSndMapSnd ?_
    | with_reducible refine Moves.optSndMap (fun _ => ?_)
    | with_reducible refine Moves.optBind ?_ (fun _ _ => ?_)
    | with_reducible refine Moves.optOf (fun _ => ?_)
    | (with_reducible refine Moves.foldl ?_ (fun _ _ _ => ?_))
    | (with_reducible refine Moves.foldlFst ?_ (fun _ _ _ => ?_))
    | (with_reducible refine Moves.foldr ?_ (fun _ _ _ => ?_))
    | with_reducible refine Moves.optIte ?_ ?_
    | with_reducible refine Moves.foldlOpt ?_ (fun _ _ _ => ?_)
    | with_reducible refine Moves.optSome ?_
    | with_reducible exact Moves.optNone
    | with_reducible refine Moves.some (by assumption) ?_
    | with_reducible refine Moves.fst (by assumption) ?_
    | with_reducible refine Moves.snd (by assumption) ?_
    | dsimp +zetaDelta only

theorem State.exhausted_moves {w : Nat} {s u : State} (hw : Within 35184372088844 w) (h : Moves w s u) (r : Nat) :
    Moves w s (State.exhausted u r) := by
  unfold State.exhausted
  repeat'
    first
    | with_reducible assumption
    | with_reducible refine State.contain_moves (Within.trans (by decide : Within 35184372088844 35184372088844) hw) ?_ _ _
    | with_reducible refine State.bumpF_moves (Within.trans (by decide : Within 12 35184372088844) hw) ?_ _ _ _
    | with_reducible refine Moves.ite ?_ ?_
    | split
    | extract_lets
    | with_reducible refine Moves.getD (Moves.optFindSome (fun _ => ?_)) ?_
    | with_reducible refine Moves.optMap (fun _ => ?_)
    | with_reducible refine Moves.optSndMapSnd ?_
    | with_reducible refine Moves.optSndMap (fun _ => ?_)
    | with_reducible refine Moves.optBind ?_ (fun _ _ => ?_)
    | with_reducible refine Moves.optOf (fun _ => ?_)
    | (with_reducible refine Moves.foldl ?_ (fun _ _ _ => ?_))
    | (with_reducible refine Moves.foldlFst ?_ (fun _ _ _ => ?_))
    | (with_reducible refine Moves.foldr ?_ (fun _ _ _ => ?_))
    | with_reducible refine Moves.optIte ?_ ?_
    | with_reducible refine Moves.foldlOpt ?_ (fun _ _ _ => ?_)
    | with_reducible refine Moves.optSome ?_
    | with_reducible exact Moves.optNone
    | with_reducible refine Moves.some (by assumption) ?_
    | with_reducible refine Moves.fst (by assumption) ?_
    | with_reducible refine Moves.snd (by assumption) ?_
    | dsimp +zetaDelta only

theorem execErRead_moves {w : Nat} {s u : State} (hw : Within 1161084278931468 w) (h : Moves w s u) (r : Sys2Proof.RegionId) (handle : Sys2Proof.W32) (offset : BitVec 12) (units : BitVec 6) (id' : BitVec 6) :
    Moves.outcome w s (execErRead r handle offset units id' u) := by
  unfold execErRead
  repeat'
    first
    | with_reducible assumption
    | with_reducible exact Moves.fault
    | with_reducible refine Moves.next ?_
    | with_reducible refine State.bumpF_moves (Within.trans (by decide : Within 12 1161084278931468) hw) ?_ _ _ _
    | with_reducible refine State.contain_moves (Within.trans (by decide : Within 35184372088844 1161084278931468) hw) ?_ _ _
    | with_reducible refine Moves.ite ?_ ?_
    | split
    | extract_lets
    | with_reducible refine Moves.getD (Moves.optFindSome (fun _ => ?_)) ?_
    | with_reducible refine Moves.optMap (fun _ => ?_)
    | with_reducible refine Moves.optSndMapSnd ?_
    | with_reducible refine Moves.optSndMap (fun _ => ?_)
    | with_reducible refine Moves.optBind ?_ (fun _ _ => ?_)
    | with_reducible refine Moves.optOf (fun _ => ?_)
    | (with_reducible refine Moves.foldl ?_ (fun _ _ _ => ?_))
    | (with_reducible refine Moves.foldlFst ?_ (fun _ _ _ => ?_))
    | (with_reducible refine Moves.foldr ?_ (fun _ _ _ => ?_))
    | with_reducible refine Moves.optIte ?_ ?_
    | with_reducible refine Moves.foldlOpt ?_ (fun _ _ _ => ?_)
    | with_reducible refine Moves.optSome ?_
    | with_reducible exact Moves.optNone
    | with_reducible refine Moves.some (by assumption) ?_
    | with_reducible refine Moves.fst (by assumption) ?_
    | with_reducible refine Moves.snd (by assumption) ?_
    | dsimp +zetaDelta only
    | with_reducible refine State.modRegion_moves ?_ (fun _ => ?_)
    | with_reducible refine RM.ite ?_ ?_
    | with_reducible exact RM.refl _ _
    | exact ⟨.same, .same, .same, .same, ⟨.rfl, .rfl, .rfl, .rfl, .of hw (by decide)⟩, .rfl, id⟩

end Sys2Proof.Machine
end

