-- ==== Sys2Proof/Laws/PacketsMoves.lean ====
section
/-! SUPPORT. Sys2Proof/Laws/PacketsMoves.lean: what each operation of Machine/Packets.lean can do to the state: the parts it may change, and that it keeps
the canonical form. -/

namespace Sys2Proof.Machine

theorem State.queuePacket_moves {w : Nat} {s u : State} (hw : Within 68719476736 w) (h : Moves w s u) (r : Nat) (p : Nat) (cls : Nat) (ctx : Nat) (bs : Sys2Proof.Bytes) :
    Moves w s (State.queuePacket u r p cls ctx bs) := by
  unfold State.queuePacket
  repeat'
    first
    | with_reducible assumption
    | with_reducible refine State.modLink_moves (Within.trans (by decide : Within 68719476736 68719476736) hw) ?_ _ _ _
    | with_reducible refine Moves.ite ?_ ?_
    | split
    | extract_lets
    | with_reducible refine Moves.getD (Moves.optFindSome (fun _ => ?_)) ?_
    | with_reducible refine Moves.optMap (fun _ => ?_)
    | with_reducible refine Moves.optSndMapSnd ?_
    | with_reducible refine Moves.optSndMap (fun _ => ?_)
    | with_reducible refine Moves.optBind ?_ (fun _ _ => ?_)
    | with_reducible refine Moves.optOf (fun _ => ?_)
    | (with_reducible refine Moves.foldl ?_ (fun _ _ _ => ?_))
    | (with_reducible refine Moves.foldlFst ?_ (fun _ _ _ => ?_))
    | (with_reducible refine Moves.foldr ?_ (fun _ _ _ => ?_))
    | with_reducible refine Moves.optIte ?_ ?_
    | with_reducible refine Moves.foldlOpt ?_ (fun _ _ _ => ?_)
    | with_reducible refine Moves.optSome ?_
    | with_reducible exact Moves.optNone
    | with_reducible refine Moves.some (by assumption) ?_
    | with_reducible refine Moves.fst (by assumption) ?_
    | with_reducible refine Moves.snd (by assumption) ?_
    | dsimp +zetaDelta only

theorem State.sendMember_moves {w : Nat} {s u : State} (hw : Within 68719476736 w) (h : Moves w s u) (m : Nat) (cls : Nat) (bs : Sys2Proof.Bytes) :
    Moves w s (State.sendMember u m cls bs) := by
  unfold State.sendMember
  repeat'
    first
    | with_reducible assumption
    | with_reducible refine State.queuePacket_moves (Within.trans (by decide : Within 68719476736 68719476736) hw) ?_ _ _ _ _ _
    | with_reducible refine Moves.ite ?_ ?_
    | split
    | extract_lets
    | with_reducible refine Moves.getD (Moves.optFindSome (fun _ => ?_)) ?_
    | with_reducible refine Moves.optMap (fun _ => ?_)
    | with_reducible refine Moves.optSndMapSnd ?_
    | with_reducible refine Moves.optSndMap (fun _ => ?_)
    | with_reducible refine Moves.optBind ?_ (fun _ _ => ?_)
    | with_reducible refine Moves.optOf (fun _ => ?_)
    | (with_reducible refine Moves.foldl ?_ (fun _ _ _ => ?_))
    | (with_reducible refine Moves.foldlFst ?_ (fun _ _ _ => ?_))
    | (with_reducible refine Moves.foldr ?_ (fun _ _ _ => ?_))
    | with_reducible refine Moves.optIte ?_ ?_
    | with_reducible refine Moves.foldlOpt ?_ (fun _ _ _ => ?_)
    | with_reducible refine Moves.optSome ?_
    | with_reducible exact Moves.optNone
    | with_reducible refine Moves.some (by assumption) ?_
    | with_reducible refine Moves.fst (by assumption) ?_
    | with_reducible refine Moves.snd (by assumption) ?_
    | dsimp +zetaDelta only

end Sys2Proof.Machine
end

