-- ==== Sys2Proof/Laws/InletsMoves.lean ====
section
/-! SUPPORT. Sys2Proof/Laws/InletsMoves.lean: what each operation of Machine/Inlets.lean can do to the state: the parts it may change, and that it keeps
the canonical form. -/

namespace Sys2Proof.Machine

theorem State.releaseRings_moves {w : Nat} {s u : State} (hw : Within 1168231104512 w) (h : Moves w s u) (r : Nat) (c : Nat) :
    Moves w s (State.releaseRings u r c) := by
  unfold State.releaseRings
  repeat'
    first
    | with_reducible assumption
    | with_reducible refine State.sendMember_moves (Within.trans (by decide : Within 68719476736 1168231104512) hw) ?_ _ _ _
    | with_reducible refine Moves.ite ?_ ?_
    | split
    | extract_lets
    | with_reducible refine Moves.getD (Moves.optFindSome (fun _ => ?_)) ?_
    | with_reducible refine Moves.optMap (fun _ => ?_)
    | with_reducible refine Moves.optSndMapSnd ?_
    | with_reducible refine Moves.optSndMap (fun _ => ?_)
    | with_reducible refine Moves.optBind ?_ (fun _ _ => ?_)
    | with_reducible refine Moves.optOf (fun _ => ?_)
    | (with_reducible refine Moves.foldl ?_ (fun _ _ _ => ?_))
    | (with_reducible refine Moves.foldlFst ?_ (fun _ _ _ => ?_))
    | (with_reducible refine Moves.foldr ?_ (fun _ _ _ => ?_))
    | with_reducible refine Moves.optIte ?_ ?_
    | with_reducible refine Moves.foldlOpt ?_ (fun _ _ _ => ?_)
    | with_reducible refine Moves.optSome ?_
    | with_reducible exact Moves.optNone
    | with_reducible refine Moves.some (by assumption) ?_
    | with_reducible refine Moves.fst (by assumption) ?_
    | with_reducible refine Moves.snd (by assumption) ?_
    | dsimp +zetaDelta only
    | with_reducible refine State.modRegion_moves ?_ (fun _ => ?_)
    | with_reducible refine RM.ite ?_ ?_
    | with_reducible exact RM.refl _ _
    | exact ⟨.same, .same, ⟨.rfl, .rfl, .rfl, .rfl, .of hw (by decide)⟩, .same, .same, .rfl, id⟩

theorem State.levelCheck_moves {w : Nat} {s u : State} (hw : Within 137438953484 w) (h : Moves w s u) (r : Nat) (p : Nat) :
    Moves w s (State.levelCheck u r p) := by
  unfold State.levelCheck
  repeat'
    first
    | with_reducible assumption
    | with_reducible refine State.modInlet_moves (Within.trans (by decide : Within 137438953472 137438953484) hw) ?_ _ _ _
    | with_reducible refine State.pend_moves (Within.trans (by decide : Within 12 137438953484) hw) ?_ _
    | with_reducible refine Moves.ite ?_ ?_
    | split
    | extract_lets
    | with_reducible refine Moves.getD (Moves.optFindSome (fun _ => ?_)) ?_
    | with_reducible refine Moves.optMap (fun _ => ?_)
    | with_reducible refine Moves.optSndMapSnd ?_
    | with_reducible refine Moves.optSndMap (fun _ => ?_)
    | with_reducible refine Moves.optBind ?_ (fun _ _ => ?_)
    | with_reducible refine Moves.optOf (fun _ => ?_)
    | (with_reducible refine Moves.foldl ?_ (fun _ _ _ => ?_))
    | (with_reducible refine Moves.foldlFst ?_ (fun _ _ _ => ?_))
    | (with_reducible refine Moves.foldr ?_ (fun _ _ _ => ?_))
    | with_reducible refine Moves.optIte ?_ ?_
    | with_reducible refine Moves.foldlOpt ?_ (fun _ _ _ => ?_)
    | with_reducible refine Moves.optSome ?_
    | with_reducible exact Moves.optNone
    | with_reducible refine Moves.some (by assumption) ?_
    | with_reducible refine Moves.fst (by assumption) ?_
    | with_reducible refine Moves.snd (by assumption) ?_
    | dsimp +zetaDelta only

theorem State.flushInlet_moves {w : Nat} {s u : State} (hw : Within 137438953484 w) (h : Moves w s u) (r : Nat) (p : Nat) (mask : Nat) (ctx : Option Nat) :
    Moves w s (State.flushInlet u r p mask ctx) := by
  unfold State.flushInlet
  repeat'
    first
    | with_reducible assumption
    | with_reducible refine State.modInlet_moves (Within.trans (by decide : Within 137438953472 137438953484) hw) ?_ _ _ _
    | with_reducible refine State.levelCheck_moves (Within.trans (by decide : Within 137438953484 137438953484) hw) ?_ _ _
    | with_reducible refine State.bumpF_moves (Within.trans (by decide : Within 12 137438953484) hw) ?_ _ _ _
    | with_reducible refine Moves.ite ?_ ?_
    | split
    | extract_lets
    | with_reducible refine Moves.getD (Moves.optFindSome (fun _ => ?_)) ?_
    | with_reducible refine Moves.optMap (fun _ => ?_)
    | with_reducible refine Moves.optSndMapSnd ?_
    | with_reducible refine Moves.optSndMap (fun _ => ?_)
    | with_reducible refine Moves.optBind ?_ (fun _ _ => ?_)
    | with_reducible refine Moves.optOf (fun _ => ?_)
    | (with_reducible refine Moves.foldl ?_ (fun _ _ _ => ?_))
    | (with_reducible refine Moves.foldlFst ?_ (fun _ _ _ => ?_))
    | (with_reducible refine Moves.foldr ?_ (fun _ _ _ => ?_))
    | with_reducible refine Moves.optIte ?_ ?_
    | with_reducible refine Moves.foldlOpt ?_ (fun _ _ _ => ?_)
    | with_reducible refine Moves.optSome ?_
    | with_reducible exact Moves.optNone
    | with_reducible refine Moves.some (by assumption) ?_
    | with_reducible refine Moves.fst (by assumption) ?_
    | with_reducible refine Moves.snd (by assumption) ?_
    | dsimp +zetaDelta only

theorem State.flushContext_moves {w : Nat} {s u : State} (hw : Within 1305670057996 w) (h : Moves w s u) (c : Nat) :
    Moves w s (State.flushContext u c) := by
  unfold State.flushContext
  repeat'
    first
    | with_reducible assumption
    | with_reducible refine State.releaseRings_moves (Within.trans (by decide : Within 1168231104512 1305670057996) hw) ?_ _ _
    | with_reducible refine State.flushInlet_moves (Within.trans (by decide : Within 137438953484 1305670057996) hw) ?_ _ _ _ _
    | with_reducible refine Moves.ite ?_ ?_
    | split
    | extract_lets
    | with_reducible refine Moves.getD (Moves.optFindSome (fun _ => ?_)) ?_
    | with_reducible refine Moves.optMap (fun _ => ?_)
    | with_reducible refine Moves.optSndMapSnd ?_
    | with_reducible refine Moves.optSndMap (fun _ => ?_)
    | with_reducible refine Moves.optBind ?_ (fun _ _ => ?_)
    | with_reducible refine Moves.optOf (fun _ => ?_)
    | (with_reducible refine Moves.foldl ?_ (fun _ _ _ => ?_))
    | (with_reducible refine Moves.foldlFst ?_ (fun _ _ _ => ?_))
    | (with_reducible refine Moves.foldr ?_ (fun _ _ _ => ?_))
    | with_reducible refine Moves.optIte ?_ ?_
    | with_reducible refine Moves.foldlOpt ?_ (fun _ _ _ => ?_)
    | with_reducible refine Moves.optSome ?_
    | with_reducible exact Moves.optNone
    | with_reducible refine Moves.some (by assumption) ?_
    | with_reducible refine Moves.fst (by assumption) ?_
    | with_reducible refine Moves.snd (by assumption) ?_
    | dsimp +zetaDelta only

theorem State.removePacket_moves {w : Nat} {s u : State} (hw : Within 137438953484 w) (h : Moves w s u) (r : Nat) (p : Nat) (e : Nat × Packet) :
    Moves w s (State.removePacket u r p e) := by
  unfold State.removePacket
  repeat'
    first
    | with_reducible assumption
    | with_reducible refine State.levelCheck_moves (Within.trans (by decide : Within 137438953484 137438953484) hw) ?_ _ _
    | with_reducible refine State.modInlet_moves (Within.trans (by decide : Within 137438953472 137438953484) hw) ?_ _ _ _
    | with_reducible refine Moves.ite ?_ ?_
    | split
    | extract_lets
    | with_reducible refine Moves.getD (Moves.optFindSome (fun _ => ?_)) ?_
    | with_reducible refine Moves.optMap (fun _ => ?_)
    | with_reducible refine Moves.optSndMapSnd ?_
    | with_reducible refine Moves.optSndMap (fun _ => ?_)
    | with_reducible refine Moves.optBind ?_ (fun _ _ => ?_)
    | with_reducible refine Moves.optOf (fun _ => ?_)
    | (with_reducible refine Moves.foldl ?_ (fun _ _ _ => ?_))
    | (with_reducible refine Moves.foldlFst ?_ (fun _ _ _ => ?_))
    | (with_reducible refine Moves.foldr ?_ (fun _ _ _ => ?_))
    | with_reducible refine Moves.optIte ?_ ?_
    | with_reducible refine Moves.foldlOpt ?_ (fun _ _ _ => ?_)
    | with_reducible refine Moves.optSome ?_
    | with_reducible exact Moves.optNone
    | with_reducible refine Moves.some (by assumption) ?_
    | with_reducible refine Moves.fst (by assumption) ?_
    | with_reducible refine Moves.snd (by assumption) ?_
    | dsimp +zetaDelta only

theorem State.takeMgmt_moves {w : Nat} {s u : State} (hw : Within 137438953472 w) (h : Moves w s u) (r : Nat) (p : Nat) (pkt : Sys2Proof.Bytes) :
    Moves w s (State.takeMgmt u r p pkt) := by
  unfold State.takeMgmt
  repeat'
    first
    | with_reducible assumption
    | with_reducible refine State.modInlet_moves (Within.trans (by decide : Within 137438953472 137438953472) hw) ?_ _ _ _
    | with_reducible refine Moves.ite ?_ ?_
    | split
    | extract_lets
    | with_reducible refine Moves.getD (Moves.optFindSome (fun _ => ?_)) ?_
    | with_reducible refine Moves.optMap (fun _ => ?_)
    | with_reducible refine Moves.optSndMapSnd ?_
    | with_reducible refine Moves.optSndMap (fun _ => ?_)
    | with_reducible refine Moves.optBind ?_ (fun _ _ => ?_)
    | with_reducible refine Moves.optOf (fun _ => ?_)
    | (with_reducible refine Moves.foldl ?_ (fun _ _ _ => ?_))
    | (with_reducible refine Moves.foldlFst ?_ (fun _ _ _ => ?_))
    | (with_reducible refine Moves.foldr ?_ (fun _ _ _ => ?_))
    | with_reducible refine Moves.optIte ?_ ?_
    | with_reducible refine Moves.foldlOpt ?_ (fun _ _ _ => ?_)
    | with_reducible refine Moves.optSome ?_
    | with_reducible exact Moves.optNone
    | with_reducible refine Moves.some (by assumption) ?_
    | with_reducible refine Moves.fst (by assumption) ?_
    | with_reducible refine Moves.snd (by assumption) ?_
    | dsimp +zetaDelta only

theorem State.takeInlet_moves {w : Nat} {s u : State} (hw : Within 137438953484 w) (h : Moves w s u) (r : Nat) (p : Nat) (pkt : Sys2Proof.Bytes) :
    Moves w s (State.takeInlet u r p pkt) := by
  unfold State.takeInlet
  repeat'
    first
    | with_reducible assumption
    | with_reducible refine State.removePacket_moves (Within.trans (by decide : Within 137438953484 137438953484) hw) ?_ _ _ _
    | with_reducible refine Moves.ite ?_ ?_
    | split
    | extract_lets
    | with_reducible refine Moves.getD (Moves.optFindSome (fun _ => ?_)) ?_
    | with_reducible refine Moves.optMap (fun _ => ?_)
    | with_reducible refine Moves.optSndMapSnd ?_
    | with_reducible refine Moves.optSndMap (fun _ => ?_)
    | with_reducible refine Moves.optBind ?_ (fun _ _ => ?_)
    | with_reducible refine Moves.optOf (fun _ => ?_)
    | (with_reducible refine Moves.foldl ?_ (fun _ _ _ => ?_))
    | (with_reducible refine Moves.foldlFst ?_ (fun _ _ _ => ?_))
    | (with_reducible refine Moves.foldr ?_ (fun _ _ _ => ?_))
    | with_reducible refine Moves.optIte ?_ ?_
    | with_reducible refine Moves.foldlOpt ?_ (fun _ _ _ => ?_)
    | with_reducible refine Moves.optSome ?_
    | with_reducible exact Moves.optNone
    | with_reducible refine Moves.some (by assumption) ?_
    | with_reducible refine Moves.fst (by assumption) ?_
    | with_reducible refine Moves.snd (by assumption) ?_
    | dsimp +zetaDelta only

theorem State.commitPacket_moves {w : Nat} {s u : State} (hw : Within 137438953484 w) (h : Moves w s u) (r : Nat) (p : Nat) (k : Packet) :
    Moves w s (State.commitPacket u r p k) := by
  unfold State.commitPacket
  repeat'
    first
    | with_reducible assumption
    | with_reducible refine State.levelCheck_moves (Within.trans (by decide : Within 137438953484 137438953484) hw) ?_ _ _
    | with_reducible refine State.modInlet_moves (Within.trans (by decide : Within 137438953472 137438953484) hw) ?_ _ _ _
    | with_reducible refine Moves.ite ?_ ?_
    | split
    | extract_lets
    | with_reducible refine Moves.getD (Moves.optFindSome (fun _ => ?_)) ?_
    | with_reducible refine Moves.optMap (fun _ => ?_)
    | with_reducible refine Moves.optSndMapSnd ?_
    | with_reducible refine Moves.optSndMap (fun _ => ?_)
    | with_reducible refine Moves.optBind ?_ (fun _ _ => ?_)
    | with_reducible refine Moves.optOf (fun _ => ?_)
    | (with_reducible refine Moves.foldl ?_ (fun _ _ _ => ?_))
    | (with_reducible refine Moves.foldlFst ?_ (fun _ _ _ => ?_))
    | (with_reducible refine Moves.foldr ?_ (fun _ _ _ => ?_))
    | with_reducible refine Moves.optIte ?_ ?_
    | with_reducible refine Moves.foldlOpt ?_ (fun _ _ _ => ?_)
    | with_reducible refine Moves.optSome ?_
    | with_reducible exact Moves.optNone
    | with_reducible refine Moves.some (by assumption) ?_
    | with_reducible refine Moves.fst (by assumption) ?_
    | with_reducible refine Moves.snd (by assumption) ?_
    | dsimp +zetaDelta only

end Sys2Proof.Machine
end

