-- ==== Sys2Proof/Laws/WrapperMoves.lean ====
section
/-! SUPPORT. Sys2Proof/Laws/WrapperMoves.lean: what each operation of Machine/Wrapper.lean can do to the state: the parts it may change, and that it keeps
the canonical form. -/

namespace Sys2Proof.Machine

theorem State.modWrapper_moves {w : Nat} {s u : State} (hw : Within 17592186044416 w) (h : Moves w s u) (r : Nat) (f : Wrapper → Wrapper) :
    Moves w s (State.modWrapper u r f) := by
  unfold State.modWrapper
  repeat'
    first
    | with_reducible assumption
    | with_reducible refine Moves.ite ?_ ?_
    | split
    | extract_lets
    | with_reducible refine Moves.getD (Moves.optFindSome (fun _ => ?_)) ?_
    | with_reducible refine Moves.optMap (fun _ => ?_)
    | with_reducible refine Moves.optSndMapSnd ?_
    | with_reducible refine Moves.optSndMap (fun _ => ?_)
    | with_reducible refine Moves.optBind ?_ (fun _ _ => ?_)
    | with_reducible refine Moves.optOf (fun _ => ?_)
    | (with_reducible refine Moves.foldl ?_ (fun _ _ _ => ?_))
    | (with_reducible refine Moves.foldlFst ?_ (fun _ _ _ => ?_))
    | (with_reducible refine Moves.foldr ?_ (fun _ _ _ => ?_))
    | with_reducible refine Moves.optIte ?_ ?_
    | with_reducible refine Moves.foldlOpt ?_ (fun _ _ _ => ?_)
    | with_reducible refine Moves.optSome ?_
    | with_reducible exact Moves.optNone
    | with_reducible refine Moves.some (by assumption) ?_
    | with_reducible refine Moves.fst (by assumption) ?_
    | with_reducible refine Moves.snd (by assumption) ?_
    | dsimp +zetaDelta only
    | with_reducible refine State.modRegion_moves ?_ (fun _ => ?_)
    | with_reducible refine RM.ite ?_ ?_
    | with_reducible exact RM.refl _ _
    | exact ⟨.same, .same, .same, ⟨.rfl, .rfl, .rfl, .of hw (by decide), .rfl⟩, .same, .rfl, id⟩

theorem State.loadWir_moves {w : Nat} {s u : State} (hw : Within 17592186044420 w) (h : Moves w s u) (r : Nat) (code : Nat) (permitted : Bool) :
    Moves w s (State.loadWir u r code permitted) := by
  unfold State.loadWir
  repeat'
    first
    | with_reducible assumption
    | with_reducible refine State.modWrapper_moves (Within.trans (by decide : Within 17592186044416 17592186044420) hw) ?_ _ _
    | with_reducible refine State.setF_moves (Within.trans (by decide : Within 4 17592186044420) hw) ?_ _ _ _
    | with_reducible refine Moves.ite ?_ ?_
    | split
    | extract_lets
    | with_reducible refine Moves.getD (Moves.optFindSome (fun _ => ?_)) ?_
    | with_reducible refine Moves.optMap (fun _ => ?_)
    | with_reducible refine Moves.optSndMapSnd ?_
    | with_reducible refine Moves.optSndMap (fun _ => ?_)
    | with_reducible refine Moves.optBind ?_ (fun _ _ => ?_)
    | with_reducible refine Moves.optOf (fun _ => ?_)
    | (with_reducible refine Moves.foldl ?_ (fun _ _ _ => ?_))
    | (with_reducible refine Moves.foldlFst ?_ (fun _ _ _ => ?_))
    | (with_reducible refine Moves.foldr ?_ (fun _ _ _ => ?_))
    | with_reducible refine Moves.optIte ?_ ?_
    | with_reducible refine Moves.foldlOpt ?_ (fun _ _ _ => ?_)
    | with_reducible refine Moves.optSome ?_
    | with_reducible exact Moves.optNone
    | with_reducible refine Moves.some (by assumption) ?_
    | with_reducible refine Moves.fst (by assumption) ?_
    | with_reducible refine Moves.snd (by assumption) ?_
    | dsimp +zetaDelta only

theorem execWsSafe_moves {w : Nat} {s u : State} (hw : Within 17592186044420 w) (h : Moves w s u) (r : Sys2Proof.RegionId) :
    Moves.outcome w s (execWsSafe r u) := by
  unfold execWsSafe
  repeat'
    first
    | with_reducible assumption
    | with_reducible exact Moves.fault
    | with_reducible refine Moves.next ?_
    | with_reducible refine State.loadWir_moves (Within.trans (by decide : Within 17592186044420 17592186044420) hw) ?_ _ _ _
    | with_reducible refine Moves.ite ?_ ?_
    | split
    | extract_lets
    | with_reducible refine Moves.getD (Moves.optFindSome (fun _ => ?_)) ?_
    | with_reducible refine Moves.optMap (fun _ => ?_)
    | with_reducible refine Moves.optSndMapSnd ?_
    | with_reducible refine Moves.optSndMap (fun _ => ?_)
    | with_reducible refine Moves.optBind ?_ (fun _ _ => ?_)
    | with_reducible refine Moves.optOf (fun _ => ?_)
    | (with_reducible refine Moves.foldl ?_ (fun _ _ _ => ?_))
    | (with_reducible refine Moves.foldlFst ?_ (fun _ _ _ => ?_))
    | (with_reducible refine Moves.foldr ?_ (fun _ _ _ => ?_))
    | with_reducible refine Moves.optIte ?_ ?_
    | with_reducible refine Moves.foldlOpt ?_ (fun _ _ _ => ?_)
    | with_reducible refine Moves.optSome ?_
    | with_reducible exact Moves.optNone
    | with_reducible refine Moves.some (by assumption) ?_
    | with_reducible refine Moves.fst (by assumption) ?_
    | with_reducible refine Moves.snd (by assumption) ?_
    | dsimp +zetaDelta only

theorem execMbist_moves {w : Nat} {s u : State} (hw : Within 17592186044420 w) (h : Moves w s u) (r : Sys2Proof.RegionId) (slices : BitVec 16) (staging : Bool) :
    Moves.outcome w s (execMbist r slices staging u) := by
  unfold execMbist
  repeat'
    first
    | with_reducible assumption
    | with_reducible exact Moves.fault
    | with_reducible refine Moves.next ?_
    | with_reducible refine State.modWrapper_moves (Within.trans (by decide : Within 17592186044416 17592186044420) hw) ?_ _ _
    | with_reducible refine State.loadWir_moves (Within.trans (by decide : Within 17592186044420 17592186044420) hw) ?_ _ _ _
    | with_reducible refine Moves.ite ?_ ?_
    | split
    | extract_lets
    | with_reducible refine Moves.getD (Moves.optFindSome (fun _ => ?_)) ?_
    | with_reducible refine Moves.optMap (fun _ => ?_)
    | with_reducible refine Moves.optSndMapSnd ?_
    | with_reducible refine Moves.optSndMap (fun _ => ?_)
    | with_reducible refine Moves.optBind ?_ (fun _ _ => ?_)
    | with_reducible refine Moves.optOf (fun _ => ?_)
    | (with_reducible refine Moves.foldl ?_ (fun _ _ _ => ?_))
    | (with_reducible refine Moves.foldlFst ?_ (fun _ _ _ => ?_))
    | (with_reducible refine Moves.foldr ?_ (fun _ _ _ => ?_))
    | with_reducible refine Moves.optIte ?_ ?_
    | with_reducible refine Moves.foldlOpt ?_ (fun _ _ _ => ?_)
    | with_reducible refine Moves.optSome ?_
    | with_reducible exact Moves.optNone
    | with_reducible refine Moves.some (by assumption) ?_
    | with_reducible refine Moves.fst (by assumption) ?_
    | with_reducible refine Moves.snd (by assumption) ?_
    | dsimp +zetaDelta only

theorem State.writeVfChan_moves {w : Nat} {s u : State} (hw : Within 12 w) (h : Moves w s u) (r : Nat) (i : Nat) (w' : Nat) :
    Moves w s (State.writeVfChan u r i w') := by
  unfold State.writeVfChan
  repeat'
    first
    | with_reducible assumption
    | with_reducible refine State.writePlain_moves (Within.trans (by decide : Within 4 12) hw) ?_ _ _
    | with_reducible refine State.note_moves (Within.trans (by decide : Within 8 12) hw) ?_ _ _
    | with_reducible refine Moves.ite ?_ ?_
    | split
    | extract_lets
    | with_reducible refine Moves.getD (Moves.optFindSome (fun _ => ?_)) ?_
    | with_reducible refine Moves.optMap (fun _ => ?_)
    | with_reducible refine Moves.optSndMapSnd ?_
    | with_reducible refine Moves.optSndMap (fun _ => ?_)
    | with_reducible refine Moves.optBind ?_ (fun _ _ => ?_)
    | with_reducible refine Moves.optOf (fun _ => ?_)
    | (with_reducible refine Moves.foldl ?_ (fun _ _ _ => ?_))
    | (with_reducible refine Moves.foldlFst ?_ (fun _ _ _ => ?_))
    | (with_reducible refine Moves.foldr ?_ (fun _ _ _ => ?_))
    | with_reducible refine Moves.optIte ?_ ?_
    | with_reducible refine Moves.foldlOpt ?_ (fun _ _ _ => ?_)
    | with_reducible refine Moves.optSome ?_
    | with_reducible exact Moves.optNone
    | with_reducible refine Moves.some (by assumption) ?_
    | with_reducible refine Moves.fst (by assumption) ?_
    | with_reducible refine Moves.snd (by assumption) ?_
    | dsimp +zetaDelta only

theorem State.writeVfTrig_moves {w : Nat} {s u : State} (hw : Within 12 w) (h : Moves w s u) (r : Nat) (w' : Nat) :
    Moves w s (State.writeVfTrig u r w') := by
  unfold State.writeVfTrig
  repeat'
    first
    | with_reducible assumption
    | with_reducible refine State.setF_moves (Within.trans (by decide : Within 4 12) hw) ?_ _ _ _
    | with_reducible refine State.writePlain_moves (Within.trans (by decide : Within 4 12) hw) ?_ _ _
    | with_reducible refine State.note_moves (Within.trans (by decide : Within 8 12) hw) ?_ _ _
    | with_reducible refine Moves.ite ?_ ?_
    | split
    | extract_lets
    | with_reducible refine Moves.getD (Moves.optFindSome (fun _ => ?_)) ?_
    | with_reducible refine Moves.optMap (fun _ => ?_)
    | with_reducible refine Moves.optSndMapSnd ?_
    | with_reducible refine Moves.optSndMap (fun _ => ?_)
    | with_reducible refine Moves.optBind ?_ (fun _ _ => ?_)
    | with_reducible refine Moves.optOf (fun _ => ?_)
    | (with_reducible refine Moves.foldl ?_ (fun _ _ _ => ?_))
    | (with_reducible refine Moves.foldlFst ?_ (fun _ _ _ => ?_))
    | (with_reducible refine Moves.foldr ?_ (fun _ _ _ => ?_))
    | with_reducible refine Moves.optIte ?_ ?_
    | with_reducible refine Moves.foldlOpt ?_ (fun _ _ _ => ?_)
    | with_reducible refine Moves.optSome ?_
    | with_reducible exact Moves.optNone
    | with_reducible refine Moves.some (by assumption) ?_
    | with_reducible refine Moves.fst (by assumption) ?_
    | with_reducible refine Moves.snd (by assumption) ?_
    | dsimp +zetaDelta only

theorem execScan_moves {w : Nat} {s u : State} (hw : Within 17592186044420 w) (h : Moves w s u) (r : Sys2Proof.RegionId) (bits : Sys2Proof.Bytes) :
    Moves.outcome w s (execScan r bits u) := by
  unfold execScan
  repeat'
    first
    | with_reducible assumption
    | with_reducible exact Moves.fault
    | with_reducible refine Moves.next ?_
    | with_reducible refine State.modWrapper_moves (Within.trans (by decide : Within 17592186044416 17592186044420) hw) ?_ _ _
    | with_reducible refine State.loadWir_moves (Within.trans (by decide : Within 17592186044420 17592186044420) hw) ?_ _ _ _
    | with_reducible refine Moves.ite ?_ ?_
    | split
    | extract_lets
    | with_reducible refine Moves.getD (Moves.optFindSome (fun _ => ?_)) ?_
    | with_reducible refine Moves.optMap (fun _ => ?_)
    | with_reducible refine Moves.optSndMapSnd ?_
    | with_reducible refine Moves.optSndMap (fun _ => ?_)
    | with_reducible refine Moves.optBind ?_ (fun _ _ => ?_)
    | with_reducible refine Moves.optOf (fun _ => ?_)
    | (with_reducible refine Moves.foldl ?_ (fun _ _ _ => ?_))
    | (with_reducible refine Moves.foldlFst ?_ (fun _ _ _ => ?_))
    | (with_reducible refine Moves.foldr ?_ (fun _ _ _ => ?_))
    | with_reducible refine Moves.optIte ?_ ?_
    | with_reducible refine Moves.foldlOpt ?_ (fun _ _ _ => ?_)
    | with_reducible refine Moves.optSome ?_
    | with_reducible exact Moves.optNone
    | with_reducible refine Moves.some (by assumption) ?_
    | with_reducible refine Moves.fst (by assumption) ?_
    | with_reducible refine Moves.snd (by assumption) ?_
    | dsimp +zetaDelta only

theorem execWsClamp_moves {w : Nat} {s u : State} (hw : Within 17592186044420 w) (h : Moves w s u) (r : Sys2Proof.RegionId) :
    Moves.outcome w s (execWsClamp r u) := by
  unfold execWsClamp
  repeat'
    first
    | with_reducible assumption
    | with_reducible exact Moves.fault
    | with_reducible refine Moves.next ?_
    | with_reducible refine State.loadWir_moves (Within.trans (by decide : Within 17592186044420 17592186044420) hw) ?_ _ _ _
    | with_reducible refine Moves.ite ?_ ?_
    | split
    | extract_lets
    | with_reducible refine Moves.getD (Moves.optFindSome (fun _ => ?_)) ?_
    | with_reducible refine Moves.optMap (fun _ => ?_)
    | with_reducible refine Moves.optSndMapSnd ?_
    | with_reducible refine Moves.optSndMap (fun _ => ?_)
    | with_reducible refine Moves.optBind ?_ (fun _ _ => ?_)
    | with_reducible refine Moves.optOf (fun _ => ?_)
    | (with_reducible refine Moves.foldl ?_ (fun _ _ _ => ?_))
    | (with_reducible refine Moves.foldlFst ?_ (fun _ _ _ => ?_))
    | (with_reducible refine Moves.foldr ?_ (fun _ _ _ => ?_))
    | with_reducible refine Moves.optIte ?_ ?_
    | with_reducible refine Moves.foldlOpt ?_ (fun _ _ _ => ?_)
    | with_reducible refine Moves.optSome ?_
    | with_reducible exact Moves.optNone
    | with_reducible refine Moves.some (by assumption) ?_
    | with_reducible refine Moves.fst (by assumption) ?_
    | with_reducible refine Moves.snd (by assumption) ?_
    | dsimp +zetaDelta only

theorem State.modVf_moves {w : Nat} {s u : State} (hw : Within 35184372088832 w) (h : Moves w s u) (r : Nat) (i : Nat) (f : VfChannel → VfChannel) :
    Moves w s (State.modVf u r i f) := by
  unfold State.modVf
  repeat'
    first
    | with_reducible assumption
    | with_reducible refine Moves.ite ?_ ?_
    | split
    | extract_lets
    | with_reducible refine Moves.getD (Moves.optFindSome (fun _ => ?_)) ?_
    | with_reducible refine Moves.optMap (fun _ => ?_)
    | with_reducible refine Moves.optSndMapSnd ?_
    | with_reducible refine Moves.optSndMap (fun _ => ?_)
    | with_reducible refine Moves.optBind ?_ (fun _ _ => ?_)
    | with_reducible refine Moves.optOf (fun _ => ?_)
    | (with_reducible refine Moves.foldl ?_ (fun _ _ _ => ?_))
    | (with_reducible refine Moves.foldlFst ?_ (fun _ _ _ => ?_))
    | (with_reducible refine Moves.foldr ?_ (fun _ _ _ => ?_))
    | with_reducible refine Moves.optIte ?_ ?_
    | with_reducible refine Moves.foldlOpt ?_ (fun _ _ _ => ?_)
    | with_reducible refine Moves.optSome ?_
    | with_reducible exact Moves.optNone
    | with_reducible refine Moves.some (by assumption) ?_
    | with_reducible refine Moves.fst (by assumption) ?_
    | with_reducible refine Moves.snd (by assumption) ?_
    | dsimp +zetaDelta only
    | with_reducible refine State.modRegion_moves ?_ (fun _ => ?_)
    | with_reducible refine RM.ite ?_ ?_
    | with_reducible exact RM.refl _ _
    | exact ⟨.same, .same, .same, ⟨.rfl, .rfl, .rfl, .rfl, .of hw (by decide)⟩, .same, .rfl, id⟩

theorem execWsIntest_moves {w : Nat} {s u : State} (hw : Within 17592186044420 w) (h : Moves w s u) (r : Sys2Proof.RegionId) (bits : Sys2Proof.Bytes) :
    Moves.outcome w s (execWsIntest r bits u) := by
  unfold execWsIntest
  repeat'
    first
    | with_reducible assumption
    | with_reducible exact Moves.fault
    | with_reducible refine Moves.next ?_
    | with_reducible refine State.modWrapper_moves (Within.trans (by decide : Within 17592186044416 17592186044420) hw) ?_ _ _
    | with_reducible refine State.loadWir_moves (Within.trans (by decide : Within 17592186044420 17592186044420) hw) ?_ _ _ _
    | with_reducible refine Moves.ite ?_ ?_
    | split
    | extract_lets
    | with_reducible refine Moves.getD (Moves.optFindSome (fun _ => ?_)) ?_
    | with_reducible refine Moves.optMap (fun _ => ?_)
    | with_reducible refine Moves.optSndMapSnd ?_
    | with_reducible refine Moves.optSndMap (fun _ => ?_)
    | with_reducible refine Moves.optBind ?_ (fun _ _ => ?_)
    | with_reducible refine Moves.optOf (fun _ => ?_)
    | (with_reducible refine Moves.foldl ?_ (fun _ _ _ => ?_))
    | (with_reducible refine Moves.foldlFst ?_ (fun _ _ _ => ?_))
    | (with_reducible refine Moves.foldr ?_ (fun _ _ _ => ?_))
    | with_reducible refine Moves.optIte ?_ ?_
    | with_reducible refine Moves.foldlOpt ?_ (fun _ _ _ => ?_)
    | with_reducible refine Moves.optSome ?_
    | with_reducible exact Moves.optNone
    | with_reducible refine Moves.some (by assumption) ?_
    | with_reducible refine Moves.fst (by assumption) ?_
    | with_reducible refine Moves.snd (by assumption) ?_
    | dsimp +zetaDelta only

theorem State.vfPush_moves {w : Nat} {s u : State} (hw : Within 35184372088844 w) (h : Moves w s u) (r : Nat) (i : Nat) (v : Nat) :
    Moves w s (State.vfPush u r i v) := by
  unfold State.vfPush
  repeat'
    first
    | with_reducible assumption
    | with_reducible refine State.contain_moves (Within.trans (by decide : Within 35184372088844 35184372088844) hw) ?_ _ _
    | with_reducible refine State.modVf_moves (Within.trans (by decide : Within 35184372088832 35184372088844) hw) ?_ _ _ _
    | with_reducible refine Moves.ite ?_ ?_
    | split
    | extract_lets
    | with_reducible refine Moves.getD (Moves.optFindSome (fun _ => ?_)) ?_
    | with_reducible refine Moves.optMap (fun _ => ?_)
    | with_reducible refine Moves.optSndMapSnd ?_
    | with_reducible refine Moves.optSndMap (fun _ => ?_)
    | with_reducible refine Moves.optBind ?_ (fun _ _ => ?_)
    | with_reducible refine Moves.optOf (fun _ => ?_)
    | (with_reducible refine Moves.foldl ?_ (fun _ _ _ => ?_))
    | (with_reducible refine Moves.foldlFst ?_ (fun _ _ _ => ?_))
    | (with_reducible refine Moves.foldr ?_ (fun _ _ _ => ?_))
    | with_reducible refine Moves.optIte ?_ ?_
    | with_reducible refine Moves.foldlOpt ?_ (fun _ _ _ => ?_)
    | with_reducible refine Moves.optSome ?_
    | with_reducible exact Moves.optNone
    | with_reducible refine Moves.some (by assumption) ?_
    | with_reducible refine Moves.fst (by assumption) ?_
    | with_reducible refine Moves.snd (by assumption) ?_
    | dsimp +zetaDelta only

theorem State.vfSampleOne_moves {w : Nat} {s u : State} (hw : Within 35184372088844 w) (h : Moves w s u) (r : Nat) (i : Nat) :
    Moves w s (State.vfSampleOne u r i) := by
  unfold State.vfSampleOne
  repeat'
    first
    | with_reducible assumption
    | with_reducible refine State.modVf_moves (Within.trans (by decide : Within 35184372088832 35184372088844) hw) ?_ _ _ _
    | with_reducible refine State.vfPush_moves (Within.trans (by decide : Within 35184372088844 35184372088844) hw) ?_ _ _ _
    | with_reducible refine Moves.ite ?_ ?_
    | split
    | extract_lets
    | with_reducible refine Moves.getD (Moves.optFindSome (fun _ => ?_)) ?_
    | with_reducible refine Moves.optMap (fun _ => ?_)
    | with_reducible refine Moves.optSndMapSnd ?_
    | with_reducible refine Moves.optSndMap (fun _ => ?_)
    | with_reducible refine Moves.optBind ?_ (fun _ _ => ?_)
    | with_reducible refine Moves.optOf (fun _ => ?_)
    | (with_reducible refine Moves.foldl ?_ (fun _ _ _ => ?_))
    | (with_reducible refine Moves.foldlFst ?_ (fun _ _ _ => ?_))
    | (with_reducible refine Moves.foldr ?_ (fun _ _ _ => ?_))
    | with_reducible refine Moves.optIte ?_ ?_
    | with_reducible refine Moves.foldlOpt ?_ (fun _ _ _ => ?_)
    | with_reducible refine Moves.optSome ?_
    | with_reducible exact Moves.optNone
    | with_reducible refine Moves.some (by assumption) ?_
    | with_reducible refine Moves.fst (by assumption) ?_
    | with_reducible refine Moves.snd (by assumption) ?_
    | dsimp +zetaDelta only

theorem State.vfSample_moves {w : Nat} {s u : State} (hw : Within 35184372088844 w) (h : Moves w s u) (r : Nat) :
    Moves w s (State.vfSample u r) := by
  unfold State.vfSample
  repeat'
    first
    | with_reducible assumption
    | with_reducible refine State.vfSampleOne_moves (Within.trans (by decide : Within 35184372088844 35184372088844) hw) ?_ _ _
    | with_reducible refine State.vfEvent_moves (Within.trans (by decide : Within 35184372088844 35184372088844) hw) ?_ _ _
    | with_reducible refine Moves.ite ?_ ?_
    | split
    | extract_lets
    | with_reducible refine Moves.getD (Moves.optFindSome (fun _ => ?_)) ?_
    | with_reducible refine Moves.optMap (fun _ => ?_)
    | with_reducible refine Moves.optSndMapSnd ?_
    | with_reducible refine Moves.optSndMap (fun _ => ?_)
    | with_reducible refine Moves.optBind ?_ (fun _ _ => ?_)
    | with_reducible refine Moves.optOf (fun _ => ?_)
    | (with_reducible refine Moves.foldl ?_ (fun _ _ _ => ?_))
    | (with_reducible refine Moves.foldlFst ?_ (fun _ _ _ => ?_))
    | (with_reducible refine Moves.foldr ?_ (fun _ _ _ => ?_))
    | with_reducible refine Moves.optIte ?_ ?_
    | with_reducible refine Moves.foldlOpt ?_ (fun _ _ _ => ?_)
    | with_reducible refine Moves.optSome ?_
    | with_reducible exact Moves.optNone
    | with_reducible refine Moves.some (by assumption) ?_
    | with_reducible refine Moves.fst (by assumption) ?_
    | with_reducible refine Moves.snd (by assumption) ?_
    | dsimp +zetaDelta only

theorem State.vfDrain_moves {w : Nat} {s u : State} (hw : Within 35184372088832 w) (h : Moves w s u) (r : Nat) :
    Moves w s (State.vfDrain u r) := by
  unfold State.vfDrain
  repeat'
    first
    | with_reducible assumption
    | with_reducible refine Moves.ite ?_ ?_
    | split
    | extract_lets
    | with_reducible refine Moves.getD (Moves.optFindSome (fun _ => ?_)) ?_
    | with_reducible refine Moves.optMap (fun _ => ?_)
    | with_reducible refine Moves.optSndMapSnd ?_
    | with_reducible refine Moves.optSndMap (fun _ => ?_)
    | with_reducible refine Moves.optBind ?_ (fun _ _ => ?_)
    | with_reducible refine Moves.optOf (fun _ => ?_)
    | (with_reducible refine Moves.foldl ?_ (fun _ _ _ => ?_))
    | (with_reducible refine Moves.foldlFst ?_ (fun _ _ _ => ?_))
    | (with_reducible refine Moves.foldr ?_ (fun _ _ _ => ?_))
    | with_reducible refine Moves.optIte ?_ ?_
    | with_reducible refine Moves.foldlOpt ?_ (fun _ _ _ => ?_)
    | with_reducible refine Moves.optSome ?_
    | with_reducible exact Moves.optNone
    | with_reducible refine Moves.some (by assumption) ?_
    | with_reducible refine Moves.fst (by assumption) ?_
    | with_reducible refine Moves.snd (by assumption) ?_
    | dsimp +zetaDelta only
    | with_reducible refine State.modRegion_moves ?_ (fun _ => ?_)
    | with_reducible refine RM.ite ?_ ?_
    | with_reducible exact RM.refl _ _
    | exact ⟨.same, .same, .same, ⟨.rfl, .rfl, .rfl, .rfl, .of hw (by decide)⟩, .same, .rfl, id⟩

theorem execWsExtest_moves {w : Nat} {s u : State} (hw : Within 17592186044420 w) (h : Moves w s u) (r : Sys2Proof.RegionId) (bits : Sys2Proof.Bytes) :
    Moves.outcome w s (execWsExtest r bits u) := by
  unfold execWsExtest
  repeat'
    first
    | with_reducible assumption
    | with_reducible exact Moves.fault
    | with_reducible refine Moves.next ?_
    | with_reducible refine State.modWrapper_moves (Within.trans (by decide : Within 17592186044416 17592186044420) hw) ?_ _ _
    | with_reducible refine State.loadWir_moves (Within.trans (by decide : Within 17592186044420 17592186044420) hw) ?_ _ _ _
    | with_reducible refine Moves.ite ?_ ?_
    | split
    | extract_lets
    | with_reducible refine Moves.getD (Moves.optFindSome (fun _ => ?_)) ?_
    | with_reducible refine Moves.optMap (fun _ => ?_)
    | with_reducible refine Moves.optSndMapSnd ?_
    | with_reducible refine Moves.optSndMap (fun _ => ?_)
    | with_reducible refine Moves.optBind ?_ (fun _ _ => ?_)
    | with_reducible refine Moves.optOf (fun _ => ?_)
    | (with_reducible refine Moves.foldl ?_ (fun _ _ _ => ?_))
    | (with_reducible refine Moves.foldlFst ?_ (fun _ _ _ => ?_))
    | (with_reducible refine Moves.foldr ?_ (fun _ _ _ => ?_))
    | with_reducible refine Moves.optIte ?_ ?_
    | with_reducible refine Moves.foldlOpt ?_ (fun _ _ _ => ?_)
    | with_reducible refine Moves.optSome ?_
    | with_reducible exact Moves.optNone
    | with_reducible refine Moves.some (by assumption) ?_
    | with_reducible refine Moves.fst (by assumption) ?_
    | with_reducible refine Moves.snd (by assumption) ?_
    | dsimp +zetaDelta only

theorem execWrstnReset_moves {w : Nat} {s u : State} (hw : Within 17592186044420 w) (h : Moves w s u) (r : Sys2Proof.RegionId) :
    Moves.outcome w s (execWrstnReset r u) := by
  unfold execWrstnReset
  repeat'
    first
    | with_reducible assumption
    | with_reducible exact Moves.fault
    | with_reducible refine Moves.next ?_
    | with_reducible refine State.loadWir_moves (Within.trans (by decide : Within 17592186044420 17592186044420) hw) ?_ _ _ _
    | with_reducible refine Moves.ite ?_ ?_
    | split
    | extract_lets
    | with_reducible refine Moves.getD (Moves.optFindSome (fun _ => ?_)) ?_
    | with_reducible refine Moves.optMap (fun _ => ?_)
    | with_reducible refine Moves.optSndMapSnd ?_
    | with_reducible refine Moves.optSndMap (fun _ => ?_)
    | with_reducible refine Moves.optBind ?_ (fun _ _ => ?_)
    | with_reducible refine Moves.optOf (fun _ => ?_)
    | (with_reducible refine Moves.foldl ?_ (fun _ _ _ => ?_))
    | (with_reducible refine Moves.foldlFst ?_ (fun _ _ _ => ?_))
    | (with_reducible refine Moves.foldr ?_ (fun _ _ _ => ?_))
    | with_reducible refine Moves.optIte ?_ ?_
    | with_reducible refine Moves.foldlOpt ?_ (fun _ _ _ => ?_)
    | with_reducible refine Moves.optSome ?_
    | with_reducible exact Moves.optNone
    | with_reducible refine Moves.some (by assumption) ?_
    | with_reducible refine Moves.fst (by assumption) ?_
    | with_reducible refine Moves.snd (by assumption) ?_
    | dsimp +zetaDelta only

theorem execWsBypass_moves {w : Nat} {s u : State} (hw : Within 17592186044420 w) (h : Moves w s u) (r : Sys2Proof.RegionId) :
    Moves.outcome w s (execWsBypass r u) := by
  unfold execWsBypass
  repeat'
    first
    | with_reducible assumption
    | with_reducible exact Moves.fault
    | with_reducible refine Moves.next ?_
    | with_reducible refine State.loadWir_moves (Within.trans (by decide : Within 17592186044420 17592186044420) hw) ?_ _ _ _
    | with_reducible refine Moves.ite ?_ ?_
    | split
    | extract_lets
    | with_reducible refine Moves.getD (Moves.optFindSome (fun _ => ?_)) ?_
    | with_reducible refine Moves.optMap (fun _ => ?_)
    | with_reducible refine Moves.optSndMapSnd ?_
    | with_reducible refine Moves.optSndMap (fun _ => ?_)
    | with_reducible refine Moves.optBind ?_ (fun _ _ => ?_)
    | with_reducible refine Moves.optOf (fun _ => ?_)
    | (with_reducible refine Moves.foldl ?_ (fun _ _ _ => ?_))
    | (with_reducible refine Moves.foldlFst ?_ (fun _ _ _ => ?_))
    | (with_reducible refine Moves.foldr ?_ (fun _ _ _ => ?_))
    | with_reducible refine Moves.optIte ?_ ?_
    | with_reducible refine Moves.foldlOpt ?_ (fun _ _ _ => ?_)
    | with_reducible refine Moves.optSome ?_
    | with_reducible exact Moves.optNone
    | with_reducible refine Moves.some (by assumption) ?_
    | with_reducible refine Moves.fst (by assumption) ?_
    | with_reducible refine Moves.snd (by assumption) ?_
    | dsimp +zetaDelta only

theorem execStateRead_moves {w : Nat} {s u : State} (hw : Within 17592186044420 w) (h : Moves w s u) (r : Sys2Proof.RegionId) :
    Moves.outcome w s (execStateRead r u) := by
  unfold execStateRead
  repeat'
    first
    | with_reducible assumption
    | with_reducible exact Moves.fault
    | with_reducible refine Moves.next ?_
    | with_reducible refine State.modWrapper_moves (Within.trans (by decide : Within 17592186044416 17592186044420) hw) ?_ _ _
    | with_reducible refine State.loadWir_moves (Within.trans (by decide : Within 17592186044420 17592186044420) hw) ?_ _ _ _
    | with_reducible refine Moves.ite ?_ ?_
    | split
    | extract_lets
    | with_reducible refine Moves.getD (Moves.optFindSome (fun _ => ?_)) ?_
    | with_reducible refine Moves.optMap (fun _ => ?_)
    | with_reducible refine Moves.optSndMapSnd ?_
    | with_reducible refine Moves.optSndMap (fun _ => ?_)
    | with_reducible refine Moves.optBind ?_ (fun _ _ => ?_)
    | with_reducible refine Moves.optOf (fun _ => ?_)
    | (with_reducible refine Moves.foldl ?_ (fun _ _ _ => ?_))
    | (with_reducible refine Moves.foldlFst ?_ (fun _ _ _ => ?_))
    | (with_reducible refine Moves.foldr ?_ (fun _ _ _ => ?_))
    | with_reducible refine Moves.optIte ?_ ?_
    | with_reducible refine Moves.foldlOpt ?_ (fun _ _ _ => ?_)
    | with_reducible refine Moves.optSome ?_
    | with_reducible exact Moves.optNone
    | with_reducible refine Moves.some (by assumption) ?_
    | with_reducible refine Moves.fst (by assumption) ?_
    | with_reducible refine Moves.snd (by assumption) ?_
    | dsimp +zetaDelta only

theorem execVfTrigWrite_moves {w : Nat} {s u : State} (hw : Within 12 w) (h : Moves w s u) (r : Sys2Proof.RegionId) (w' : Sys2Proof.W64) :
    Moves.outcome w s (execVfTrigWrite r w' u) := by
  unfold execVfTrigWrite
  repeat'
    first
    | with_reducible assumption
    | with_reducible exact Moves.fault
    | with_reducible refine Moves.next ?_
    | with_reducible refine State.whereAnswers_moves (Within.trans (by decide : Within 0 12) hw) ?_ _ _ (fun _ _ => ?_)
    | with_reducible refine State.writeVfTrig_moves (Within.trans (by decide : Within 12 12) hw) ?_ _ _
    | with_reducible refine Moves.ite ?_ ?_
    | split
    | extract_lets
    | with_reducible refine Moves.getD (Moves.optFindSome (fun _ => ?_)) ?_
    | with_reducible refine Moves.optMap (fun _ => ?_)
    | with_reducible refine Moves.optSndMapSnd ?_
    | with_reducible refine Moves.optSndMap (fun _ => ?_)
    | with_reducible refine Moves.optBind ?_ (fun _ _ => ?_)
    | with_reducible refine Moves.optOf (fun _ => ?_)
    | (with_reducible refine Moves.foldl ?_ (fun _ _ _ => ?_))
    | (with_reducible refine Moves.foldlFst ?_ (fun _ _ _ => ?_))
    | (with_reducible refine Moves.foldr ?_ (fun _ _ _ => ?_))
    | with_reducible refine Moves.optIte ?_ ?_
    | with_reducible refine Moves.foldlOpt ?_ (fun _ _ _ => ?_)
    | with_reducible refine Moves.optSome ?_
    | with_reducible exact Moves.optNone
    | with_reducible refine Moves.some (by assumption) ?_
    | with_reducible refine Moves.fst (by assumption) ?_
    | with_reducible refine Moves.snd (by assumption) ?_
    | dsimp +zetaDelta only

theorem execVfForcedPush_moves {w : Nat} {s u : State} (hw : Within 35184372088844 w) (h : Moves w s u) (r : Sys2Proof.RegionId) (ch : Fin 4) :
    Moves.outcome w s (execVfForcedPush r ch u) := by
  unfold execVfForcedPush
  repeat'
    first
    | with_reducible assumption
    | with_reducible exact Moves.fault
    | with_reducible refine Moves.next ?_
    | with_reducible refine State.vfPush_moves (Within.trans (by decide : Within 35184372088844 35184372088844) hw) ?_ _ _ _
    | with_reducible refine State.modVf_moves (Within.trans (by decide : Within 35184372088832 35184372088844) hw) ?_ _ _ _
    | with_reducible refine Moves.ite ?_ ?_
    | split
    | extract_lets
    | with_reducible refine Moves.getD (Moves.optFindSome (fun _ => ?_)) ?_
    | with_reducible refine Moves.optMap (fun _ => ?_)
    | with_reducible refine Moves.optSndMapSnd ?_
    | with_reducible refine Moves.optSndMap (fun _ => ?_)
    | with_reducible refine Moves.optBind ?_ (fun _ _ => ?_)
    | with_reducible refine Moves.optOf (fun _ => ?_)
    | (with_reducible refine Moves.foldl ?_ (fun _ _ _ => ?_))
    | (with_reducible refine Moves.foldlFst ?_ (fun _ _ _ => ?_))
    | (with_reducible refine Moves.foldr ?_ (fun _ _ _ => ?_))
    | with_reducible refine Moves.optIte ?_ ?_
    | with_reducible refine Moves.foldlOpt ?_ (fun _ _ _ => ?_)
    | with_reducible refine Moves.optSome ?_
    | with_reducible exact Moves.optNone
    | with_reducible refine Moves.some (by assumption) ?_
    | with_reducible refine Moves.fst (by assumption) ?_
    | with_reducible refine Moves.snd (by assumption) ?_
    | dsimp +zetaDelta only

end Sys2Proof.Machine
end

