-- ==== Sys2Proof/Laws/RunsMoves.lean ====
section
/-! SUPPORT. Sys2Proof/Laws/RunsMoves.lean: what each operation of Machine/Runs.lean can do to the state: the parts it may change, and that it keeps
the canonical form. -/

namespace Sys2Proof.Machine

theorem State.modRun_moves {w : Nat} {s u : State} (hw : Within 256 w) (h : Moves w s u) (seq : Sys2Proof.W32) (f : Run → Run) :
    Moves w s (State.modRun u seq f) := by
  unfold State.modRun
  repeat'
    first
    | with_reducible assumption
    | with_reducible refine Moves.ite ?_ ?_
    | split
    | extract_lets
    | with_reducible refine Moves.getD (Moves.optFindSome (fun _ => ?_)) ?_
    | with_reducible refine Moves.optMap (fun _ => ?_)
    | with_reducible refine Moves.optSndMapSnd ?_
    | with_reducible refine Moves.optSndMap (fun _ => ?_)
    | with_reducible refine Moves.optBind ?_ (fun _ _ => ?_)
    | with_reducible refine Moves.optOf (fun _ => ?_)
    | (with_reducible refine Moves.foldl ?_ (fun _ _ _ => ?_))
    | (with_reducible refine Moves.foldlFst ?_ (fun _ _ _ => ?_))
    | (with_reducible refine Moves.foldr ?_ (fun _ _ _ => ?_))
    | with_reducible refine Moves.optIte ?_ ?_
    | with_reducible refine Moves.foldlOpt ?_ (fun _ _ _ => ?_)
    | with_reducible refine Moves.optSome ?_
    | with_reducible exact Moves.optNone
    | with_reducible refine Moves.some (by assumption) ?_
    | with_reducible refine Moves.fst (by assumption) ?_
    | with_reducible refine Moves.snd (by assumption) ?_
    | dsimp +zetaDelta only
    | with_reducible refine Moves.upd ?_ rfl ⟨rfl, rfl, .same, ⟨.rfl, .rfl, .of hw (by decide), .rfl, .rfl⟩, .same, .same, .same⟩ ⟨id, id, id, id, id, id, id⟩

theorem State.modRR_moves {w : Nat} {s u : State} (hw : Within 256 w) (h : Moves w s u) (seq : Sys2Proof.W32) (r : Nat) (f : RegionRun → RegionRun) :
    Moves w s (State.modRR u seq r f) := by
  unfold State.modRR
  repeat'
    first
    | with_reducible assumption
    | with_reducible refine State.modRun_moves (Within.trans (by decide : Within 256 256) hw) ?_ _ _
    | with_reducible refine Moves.ite ?_ ?_
    | split
    | extract_lets
    | with_reducible refine Moves.getD (Moves.optFindSome (fun _ => ?_)) ?_
    | with_reducible refine Moves.optMap (fun _ => ?_)
    | with_reducible refine Moves.optSndMapSnd ?_
    | with_reducible refine Moves.optSndMap (fun _ => ?_)
    | with_reducible refine Moves.optBind ?_ (fun _ _ => ?_)
    | with_reducible refine Moves.optOf (fun _ => ?_)
    | (with_reducible refine Moves.foldl ?_ (fun _ _ _ => ?_))
    | (with_reducible refine Moves.foldlFst ?_ (fun _ _ _ => ?_))
    | (with_reducible refine Moves.foldr ?_ (fun _ _ _ => ?_))
    | with_reducible refine Moves.optIte ?_ ?_
    | with_reducible refine Moves.foldlOpt ?_ (fun _ _ _ => ?_)
    | with_reducible refine Moves.optSome ?_
    | with_reducible exact Moves.optNone
    | with_reducible refine Moves.some (by assumption) ?_
    | with_reducible refine Moves.fst (by assumption) ?_
    | with_reducible refine Moves.snd (by assumption) ?_
    | dsimp +zetaDelta only

theorem State.haltOne_moves {w : Nat} {s u : State} (hw : Within 35184372089100 w) (h : Moves w s u) (seq : Sys2Proof.W32) (r : Nat) (h' : Halt) :
    Moves w s (State.haltOne u seq r h') := by
  unfold State.haltOne
  repeat'
    first
    | with_reducible assumption
    | with_reducible refine State.count_moves (Within.trans (by decide : Within 35184372088844 35184372089100) hw) ?_ _ _ _
    | with_reducible refine State.vfEvent_moves (Within.trans (by decide : Within 35184372088844 35184372089100) hw) ?_ _ _
    | with_reducible refine State.contain_moves (Within.trans (by decide : Within 35184372088844 35184372089100) hw) ?_ _ _
    | with_reducible refine State.modRR_moves (Within.trans (by decide : Within 256 35184372089100) hw) ?_ _ _ _
    | with_reducible refine Moves.ite ?_ ?_
    | split
    | extract_lets
    | with_reducible refine Moves.getD (Moves.optFindSome (fun _ => ?_)) ?_
    | with_reducible refine Moves.optMap (fun _ => ?_)
    | with_reducible refine Moves.optSndMapSnd ?_
    | with_reducible refine Moves.optSndMap (fun _ => ?_)
    | with_reducible refine Moves.optBind ?_ (fun _ _ => ?_)
    | with_reducible refine Moves.optOf (fun _ => ?_)
    | (with_reducible refine Moves.foldl ?_ (fun _ _ _ => ?_))
    | (with_reducible refine Moves.foldlFst ?_ (fun _ _ _ => ?_))
    | (with_reducible refine Moves.foldr ?_ (fun _ _ _ => ?_))
    | with_reducible refine Moves.optIte ?_ ?_
    | with_reducible refine Moves.foldlOpt ?_ (fun _ _ _ => ?_)
    | with_reducible refine Moves.optSome ?_
    | with_reducible exact Moves.optNone
    | with_reducible refine Moves.some (by assumption) ?_
    | with_reducible refine Moves.fst (by assumption) ?_
    | with_reducible refine Moves.snd (by assumption) ?_
    | dsimp +zetaDelta only

theorem State.dropCalls_moves {w : Nat} {s u : State} (hw : Within 16384 w) (h : Moves w s u) (seq : Sys2Proof.W32) :
    Moves w s (State.dropCalls u seq) := by
  unfold State.dropCalls
  repeat'
    first
    | with_reducible assumption
    | with_reducible refine Moves.ite ?_ ?_
    | split
    | extract_lets
    | with_reducible refine Moves.getD (Moves.optFindSome (fun _ => ?_)) ?_
    | with_reducible refine Moves.optMap (fun _ => ?_)
    | with_reducible refine Moves.optSndMapSnd ?_
    | with_reducible refine Moves.optSndMap (fun _ => ?_)
    | with_reducible refine Moves.optBind ?_ (fun _ _ => ?_)
    | with_reducible refine Moves.optOf (fun _ => ?_)
    | (with_reducible refine Moves.foldl ?_ (fun _ _ _ => ?_))
    | (with_reducible refine Moves.foldlFst ?_ (fun _ _ _ => ?_))
    | (with_reducible refine Moves.foldr ?_ (fun _ _ _ => ?_))
    | with_reducible refine Moves.optIte ?_ ?_
    | with_reducible refine Moves.foldlOpt ?_ (fun _ _ _ => ?_)
    | with_reducible refine Moves.optSome ?_
    | with_reducible exact Moves.optNone
    | with_reducible refine Moves.some (by assumption) ?_
    | with_reducible refine Moves.fst (by assumption) ?_
    | with_reducible refine Moves.snd (by assumption) ?_
    | dsimp +zetaDelta only
    | with_reducible refine Moves.upd ?_ rfl ⟨rfl, rfl, .same, .same, ⟨.rfl, .rfl, .rfl, .of hw (by decide), .rfl⟩, .same, .same⟩ ⟨id, id, id, id, id, (by first | with_reducible exact id | exact fun k => Tab.sorted_set k _ _ | exact fun k => Tab.sorted_filter k _ | exact fun k => Tab.sorted_erase k _ | exact fun k => Tab.sorted_map k _ (fun _ => by first | rfl | (split <;> rfl)) | exact fun _ => .nil), id⟩

theorem State.returnCredit_moves {w : Nat} {s u : State} (hw : Within 1168231104512 w) (h : Moves w s u) (x : Run) :
    Moves w s (State.returnCredit u x) := by
  unfold State.returnCredit
  repeat'
    first
    | with_reducible assumption
    | with_reducible refine State.sendMember_moves (Within.trans (by decide : Within 68719476736 1168231104512) hw) ?_ _ _ _
    | with_reducible refine Moves.ite ?_ ?_
    | split
    | extract_lets
    | with_reducible refine Moves.getD (Moves.optFindSome (fun _ => ?_)) ?_
    | with_reducible refine Moves.optMap (fun _ => ?_)
    | with_reducible refine Moves.optSndMapSnd ?_
    | with_reducible refine Moves.optSndMap (fun _ => ?_)
    | with_reducible refine Moves.optBind ?_ (fun _ _ => ?_)
    | with_reducible refine Moves.optOf (fun _ => ?_)
    | (with_reducible refine Moves.foldl ?_ (fun _ _ _ => ?_))
    | (with_reducible refine Moves.foldlFst ?_ (fun _ _ _ => ?_))
    | (with_reducible refine Moves.foldr ?_ (fun _ _ _ => ?_))
    | with_reducible refine Moves.optIte ?_ ?_
    | with_reducible refine Moves.foldlOpt ?_ (fun _ _ _ => ?_)
    | with_reducible refine Moves.optSome ?_
    | with_reducible exact Moves.optNone
    | with_reducible refine Moves.some (by assumption) ?_
    | with_reducible refine Moves.fst (by assumption) ?_
    | with_reducible refine Moves.snd (by assumption) ?_
    | dsimp +zetaDelta only
    | with_reducible refine State.modRegion_moves ?_ (fun _ => ?_)
    | with_reducible refine RM.ite ?_ ?_
    | with_reducible exact RM.refl _ _
    | exact ⟨.same, .same, ⟨.rfl, .rfl, .rfl, .rfl, .of hw (by decide)⟩, .same, .same, .rfl, id⟩

theorem State.ends_moves {w : Nat} {s u : State} (hw : Within 1024 w) (h : Moves w s u) (l : List Ended) :
    Moves w s (State.ends u l) := by
  unfold State.ends
  repeat'
    first
    | with_reducible assumption
    | with_reducible refine Moves.ite ?_ ?_
    | split
    | extract_lets
    | with_reducible refine Moves.getD (Moves.optFindSome (fun _ => ?_)) ?_
    | with_reducible refine Moves.optMap (fun _ => ?_)
    | with_reducible refine Moves.optSndMapSnd ?_
    | with_reducible refine Moves.optSndMap (fun _ => ?_)
    | with_reducible refine Moves.optBind ?_ (fun _ _ => ?_)
    | with_reducible refine Moves.optOf (fun _ => ?_)
    | (with_reducible refine Moves.foldl ?_ (fun _ _ _ => ?_))
    | (with_reducible refine Moves.foldlFst ?_ (fun _ _ _ => ?_))
    | (with_reducible refine Moves.foldr ?_ (fun _ _ _ => ?_))
    | with_reducible refine Moves.optIte ?_ ?_
    | with_reducible refine Moves.foldlOpt ?_ (fun _ _ _ => ?_)
    | with_reducible refine Moves.optSome ?_
    | with_reducible exact Moves.optNone
    | with_reducible refine Moves.some (by assumption) ?_
    | with_reducible refine Moves.fst (by assumption) ?_
    | with_reducible refine Moves.snd (by assumption) ?_
    | dsimp +zetaDelta only
    | with_reducible refine Moves.upd ?_ rfl ⟨rfl, rfl, .same, ⟨.rfl, .rfl, .rfl, .rfl, .of hw (by decide)⟩, .same, .same, .same⟩ ⟨id, id, id, id, id, id, id⟩

theorem State.returnEdges_moves {w : Nat} {s u : State} (hw : Within 35459249995788 w) (h : Moves w s u)  :
    Moves w s (State.returnEdges u) := by
  unfold State.returnEdges
  repeat'
    first
    | with_reducible assumption
    | with_reducible refine State.compare_moves (Within.trans (by decide : Within 35184372088844 35459249995788) hw) ?_
    | with_reducible refine State.pend_moves (Within.trans (by decide : Within 12 35459249995788) hw) ?_ _
    | with_reducible refine State.modEdge_moves (Within.trans (by decide : Within 274877906944 35459249995788) hw) ?_ _ _ _
    | with_reducible refine State.setF_moves (Within.trans (by decide : Within 4 35459249995788) hw) ?_ _ _ _
    | with_reducible refine Moves.ite ?_ ?_
    | split
    | extract_lets
    | with_reducible refine Moves.getD (Moves.optFindSome (fun _ => ?_)) ?_
    | with_reducible refine Moves.optMap (fun _ => ?_)
    | with_reducible refine Moves.optSndMapSnd ?_
    | with_reducible refine Moves.optSndMap (fun _ => ?_)
    | with_reducible refine Moves.optBind ?_ (fun _ _ => ?_)
    | with_reducible refine Moves.optOf (fun _ => ?_)
    | (with_reducible refine Moves.foldl ?_ (fun _ _ _ => ?_))
    | (with_reducible refine Moves.foldlFst ?_ (fun _ _ _ => ?_))
    | (with_reducible refine Moves.foldr ?_ (fun _ _ _ => ?_))
    | with_reducible refine Moves.optIte ?_ ?_
    | with_reducible refine Moves.foldlOpt ?_ (fun _ _ _ => ?_)
    | with_reducible refine Moves.optSome ?_
    | with_reducible exact Moves.optNone
    | with_reducible refine Moves.some (by assumption) ?_
    | with_reducible refine Moves.fst (by assumption) ?_
    | with_reducible refine Moves.snd (by assumption) ?_
    | dsimp +zetaDelta only

theorem State.finishRun_moves {w : Nat} {s u : State} (hw : Within 37314675885324 w) (h : Moves w s u) (seq : Sys2Proof.W32) :
    Moves w s (State.finishRun u seq) := by
  unfold State.finishRun
  repeat'
    first
    | with_reducible assumption
    | with_reducible refine State.dropCalls_moves (Within.trans (by decide : Within 16384 37314675885324) hw) ?_ _
    | with_reducible refine State.returnCredit_moves (Within.trans (by decide : Within 1168231104512 37314675885324) hw) ?_ _
    | with_reducible refine State.flushContext_moves (Within.trans (by decide : Within 1305670057996 37314675885324) hw) ?_ _
    | with_reducible refine State.returnEdges_moves (Within.trans (by decide : Within 35459249995788 37314675885324) hw) ?_
    | with_reducible refine State.ends_moves (Within.trans (by decide : Within 1024 37314675885324) hw) ?_ _
    | with_reducible refine Moves.ite ?_ ?_
    | split
    | extract_lets
    | with_reducible refine Moves.getD (Moves.optFindSome (fun _ => ?_)) ?_
    | with_reducible refine Moves.optMap (fun _ => ?_)
    | with_reducible refine Moves.optSndMapSnd ?_
    | with_reducible refine Moves.optSndMap (fun _ => ?_)
    | with_reducible refine Moves.optBind ?_ (fun _ _ => ?_)
    | with_reducible refine Moves.optOf (fun _ => ?_)
    | (with_reducible refine Moves.foldl ?_ (fun _ _ _ => ?_))
    | (with_reducible refine Moves.foldlFst ?_ (fun _ _ _ => ?_))
    | (with_reducible refine Moves.foldr ?_ (fun _ _ _ => ?_))
    | with_reducible refine Moves.optIte ?_ ?_
    | with_reducible refine Moves.foldlOpt ?_ (fun _ _ _ => ?_)
    | with_reducible refine Moves.optSome ?_
    | with_reducible exact Moves.optNone
    | with_reducible refine Moves.some (by assumption) ?_
    | with_reducible refine Moves.fst (by assumption) ?_
    | with_reducible refine Moves.snd (by assumption) ?_
    | dsimp +zetaDelta only
    | with_reducible refine State.modRegion_moves ?_ (fun _ => ?_)
    | with_reducible refine RM.ite ?_ ?_
    | with_reducible exact RM.refl _ _
    | exact ⟨.same, .same, ⟨.rfl, .rfl, .rfl, .of hw (by decide), .rfl⟩, .same, .same, .rfl, id⟩
    | with_reducible refine Moves.upd ?_ rfl ⟨rfl, rfl, .same, ⟨.rfl, .rfl, .of hw (by decide), .rfl, .rfl⟩, .same, .same, .same⟩ ⟨id, id, id, id, id, id, id⟩

theorem State.spreadOnce_moves {w : Nat} {s u : State} (hw : Within 35184372089100 w) (h : Moves w s u) (seq : Sys2Proof.W32) :
    Moves w s (State.spreadOnce u seq) := by
  unfold State.spreadOnce
  repeat'
    first
    | with_reducible assumption
    | with_reducible refine State.modRR_moves (Within.trans (by decide : Within 256 35184372089100) hw) ?_ _ _ _
    | with_reducible refine State.haltOne_moves (Within.trans (by decide : Within 35184372089100 35184372089100) hw) ?_ _ _ _
    | with_reducible refine Moves.ite ?_ ?_
    | split
    | extract_lets
    | with_reducible refine Moves.getD (Moves.optFindSome (fun _ => ?_)) ?_
    | with_reducible refine Moves.optMap (fun _ => ?_)
    | with_reducible refine Moves.optSndMapSnd ?_
    | with_reducible refine Moves.optSndMap (fun _ => ?_)
    | with_reducible refine Moves.optBind ?_ (fun _ _ => ?_)
    | with_reducible refine Moves.optOf (fun _ => ?_)
    | (with_reducible refine Moves.foldl ?_ (fun _ _ _ => ?_))
    | (with_reducible refine Moves.foldlFst ?_ (fun _ _ _ => ?_))
    | (with_reducible refine Moves.foldr ?_ (fun _ _ _ => ?_))
    | with_reducible refine Moves.optIte ?_ ?_
    | with_reducible refine Moves.foldlOpt ?_ (fun _ _ _ => ?_)
    | with_reducible refine Moves.optSome ?_
    | with_reducible exact Moves.optNone
    | with_reducible refine Moves.some (by assumption) ?_
    | with_reducible refine Moves.fst (by assumption) ?_
    | with_reducible refine Moves.snd (by assumption) ?_
    | dsimp +zetaDelta only

theorem State.spread_moves {w : Nat} {s u : State} (hw : Within 35184372089100 w) (h : Moves w s u) (seq : Sys2Proof.W32) :
    Moves w s (State.spread u seq) := by
  unfold State.spread
  repeat'
    first
    | with_reducible assumption
    | with_reducible refine State.spreadOnce_moves (Within.trans (by decide : Within 35184372089100 35184372089100) hw) ?_ _
    | with_reducible refine Moves.ite ?_ ?_
    | split
    | extract_lets
    | with_reducible refine Moves.getD (Moves.optFindSome (fun _ => ?_)) ?_
    | with_reducible refine Moves.optMap (fun _ => ?_)
    | with_reducible refine Moves.optSndMapSnd ?_
    | with_reducible refine Moves.optSndMap (fun _ => ?_)
    | with_reducible refine Moves.optBind ?_ (fun _ _ => ?_)
    | with_reducible refine Moves.optOf (fun _ => ?_)
    | (with_reducible refine Moves.foldl ?_ (fun _ _ _ => ?_))
    | (with_reducible refine Moves.foldlFst ?_ (fun _ _ _ => ?_))
    | (with_reducible refine Moves.foldr ?_ (fun _ _ _ => ?_))
    | with_reducible refine Moves.optIte ?_ ?_
    | with_reducible refine Moves.foldlOpt ?_ (fun _ _ _ => ?_)
    | with_reducible refine Moves.optSome ?_
    | with_reducible exact Moves.optNone
    | with_reducible refine Moves.some (by assumption) ?_
    | with_reducible refine Moves.fst (by assumption) ?_
    | with_reducible refine Moves.snd (by assumption) ?_
    | dsimp +zetaDelta only

theorem State.halt_moves {w : Nat} {s u : State} (hw : Within 37314675885324 w) (h : Moves w s u) (seq : Sys2Proof.W32) (r : Nat) (code : Nat) (bundle : Nat) (order : Nat) (tc : Nat) :
    Moves w s (State.halt u seq r code bundle order tc) := by
  unfold State.halt
  repeat'
    first
    | with_reducible assumption
    | with_reducible refine State.finishRun_moves (Within.trans (by decide : Within 37314675885324 37314675885324) hw) ?_ _
    | with_reducible refine State.spread_moves (Within.trans (by decide : Within 35184372089100 37314675885324) hw) ?_ _
    | with_reducible refine State.haltOne_moves (Within.trans (by decide : Within 35184372089100 37314675885324) hw) ?_ _ _ _
    | with_reducible refine Moves.ite ?_ ?_
    | split
    | extract_lets
    | with_reducible refine Moves.getD (Moves.optFindSome (fun _ => ?_)) ?_
    | with_reducible refine Moves.optMap (fun _ => ?_)
    | with_reducible refine Moves.optSndMapSnd ?_
    | with_reducible refine Moves.optSndMap (fun _ => ?_)
    | with_reducible refine Moves.optBind ?_ (fun _ _ => ?_)
    | with_reducible refine Moves.optOf (fun _ => ?_)
    | (with_reducible refine Moves.foldl ?_ (fun _ _ _ => ?_))
    | (with_reducible refine Moves.foldlFst ?_ (fun _ _ _ => ?_))
    | (with_reducible refine Moves.foldr ?_ (fun _ _ _ => ?_))
    | with_reducible refine Moves.optIte ?_ ?_
    | with_reducible refine Moves.foldlOpt ?_ (fun _ _ _ => ?_)
    | with_reducible refine Moves.optSome ?_
    | with_reducible exact Moves.optNone
    | with_reducible refine Moves.some (by assumption) ?_
    | with_reducible refine Moves.fst (by assumption) ?_
    | with_reducible refine Moves.snd (by assumption) ?_
    | dsimp +zetaDelta only

theorem State.haltRegion_moves {w : Nat} {s u : State} (hw : Within 37314675885324 w) (h : Moves w s u) (seq : Sys2Proof.W32) (r : Nat) (code : Nat) (tc : Nat) :
    Moves w s (State.haltRegion u seq r code tc) := by
  unfold State.haltRegion
  repeat'
    first
    | with_reducible assumption
    | with_reducible refine State.halt_moves (Within.trans (by decide : Within 37314675885324 37314675885324) hw) ?_ _ _ _ _ _ _
    | with_reducible refine Moves.ite ?_ ?_
    | split
    | extract_lets
    | with_reducible refine Moves.getD (Moves.optFindSome (fun _ => ?_)) ?_
    | with_reducible refine Moves.optMap (fun _ => ?_)
    | with_reducible refine Moves.optSndMapSnd ?_
    | with_reducible refine Moves.optSndMap (fun _ => ?_)
    | with_reducible refine Moves.optBind ?_ (fun _ _ => ?_)
    | with_reducible refine Moves.optOf (fun _ => ?_)
    | (with_reducible refine Moves.foldl ?_ (fun _ _ _ => ?_))
    | (with_reducible refine Moves.foldlFst ?_ (fun _ _ _ => ?_))
    | (with_reducible refine Moves.foldr ?_ (fun _ _ _ => ?_))
    | with_reducible refine Moves.optIte ?_ ?_
    | with_reducible refine Moves.foldlOpt ?_ (fun _ _ _ => ?_)
    | with_reducible refine Moves.optSome ?_
    | with_reducible exact Moves.optNone
    | with_reducible refine Moves.some (by assumption) ?_
    | with_reducible refine Moves.fst (by assumption) ?_
    | with_reducible refine Moves.snd (by assumption) ?_
    | dsimp +zetaDelta only

end Sys2Proof.Machine
end

