-- ==== Sys2Proof/Laws/CommandsMoves.lean ====
section
/-! SUPPORT. Sys2Proof/Laws/CommandsMoves.lean: what each operation of Machine/Commands.lean can do to the state: the parts it may change, and that it keeps
the canonical form. -/

namespace Sys2Proof.Machine

theorem State.settleIdle_moves {w : Nat} {s u : State} (hw : Within 32 w) (h : Moves w s u)  :
    Moves w s (State.settleIdle u) := by
  unfold State.settleIdle
  repeat'
    first
    | with_reducible assumption
    | with_reducible refine State.modCtx_moves (Within.trans (by decide : Within 32 32) hw) ?_ _ _
    | with_reducible refine Moves.ite ?_ ?_
    | split
    | extract_lets
    | with_reducible refine Moves.getD (Moves.optFindSome (fun _ => ?_)) ?_
    | with_reducible refine Moves.optMap (fun _ => ?_)
    | with_reducible refine Moves.optSndMapSnd ?_
    | with_reducible refine Moves.optSndMap (fun _ => ?_)
    | with_reducible refine Moves.optBind ?_ (fun _ _ => ?_)
    | with_reducible refine Moves.optOf (fun _ => ?_)
    | (with_reducible refine Moves.foldl ?_ (fun _ _ _ => ?_))
    | (with_reducible refine Moves.foldlFst ?_ (fun _ _ _ => ?_))
    | (with_reducible refine Moves.foldr ?_ (fun _ _ _ => ?_))
    | with_reducible refine Moves.optIte ?_ ?_
    | with_reducible refine Moves.foldlOpt ?_ (fun _ _ _ => ?_)
    | with_reducible refine Moves.optSome ?_
    | with_reducible exact Moves.optNone
    | with_reducible refine Moves.some (by assumption) ?_
    | with_reducible refine Moves.fst (by assumption) ?_
    | with_reducible refine Moves.snd (by assumption) ?_
    | dsimp +zetaDelta only

theorem State.scribble_moves {w : Nat} {s u : State} (hw : Within 3238002704 w) (h : Moves w s u) (w' : Tab (BitVec 128)) (r : Nat) (d : Sys2Proof.Bytes) (t : Nat) :
    Moves w s (State.scribble u w' r d t) := by
  unfold State.scribble
  repeat'
    first
    | with_reducible assumption
    | with_reducible refine State.drew_moves (Within.trans (by decide : Within 16777216 3238002704) hw) ?_
    | with_reducible refine State.writeCtx_moves (Within.trans (by decide : Within 3221225488 3238002704) hw) ?_ _ _ _ _
    | with_reducible refine Moves.some ‹State.writeCtx _ _ _ _ _ = some _› (State.writeCtx_moves (Within.trans (by decide : Within 3221225488 3238002704) hw) ?_ _ _ _ _)
    | with_reducible refine Moves.getD (State.writeCtx_moves (Within.trans (by decide : Within 3221225488 3238002704) hw) ?_ _ _ _ _) ?_
    | with_reducible refine Moves.ite ?_ ?_
    | split
    | extract_lets
    | with_reducible refine Moves.getD (Moves.optFindSome (fun _ => ?_)) ?_
    | with_reducible refine Moves.optMap (fun _ => ?_)
    | with_reducible refine Moves.optSndMapSnd ?_
    | with_reducible refine Moves.optSndMap (fun _ => ?_)
    | with_reducible refine Moves.optBind ?_ (fun _ _ => ?_)
    | with_reducible refine Moves.optOf (fun _ => ?_)
    | (with_reducible refine Moves.foldl ?_ (fun _ _ _ => ?_))
    | (with_reducible refine Moves.foldlFst ?_ (fun _ _ _ => ?_))
    | (with_reducible refine Moves.foldr ?_ (fun _ _ _ => ?_))
    | with_reducible refine Moves.optIte ?_ ?_
    | with_reducible refine Moves.foldlOpt ?_ (fun _ _ _ => ?_)
    | with_reducible refine Moves.optSome ?_
    | with_reducible exact Moves.optNone
    | with_reducible refine Moves.some (by assumption) ?_
    | with_reducible refine Moves.fst (by assumption) ?_
    | with_reducible refine Moves.snd (by assumption) ?_
    | dsimp +zetaDelta only

theorem State.scribbleCall_moves {w : Nat} {s u : State} (hw : Within 3238002704 w) (h : Moves w s u) (call : Call) (cmd : Command) :
    Moves w s (State.scribbleCall u call cmd) := by
  unfold State.scribbleCall
  repeat'
    first
    | with_reducible assumption
    | with_reducible refine State.scribble_moves (Within.trans (by decide : Within 3238002704 3238002704) hw) ?_ _ _ _ _
    | with_reducible refine Moves.ite ?_ ?_
    | split
    | extract_lets
    | with_reducible refine Moves.getD (Moves.optFindSome (fun _ => ?_)) ?_
    | with_reducible refine Moves.optMap (fun _ => ?_)
    | with_reducible refine Moves.optSndMapSnd ?_
    | with_reducible refine Moves.optSndMap (fun _ => ?_)
    | with_reducible refine Moves.optBind ?_ (fun _ _ => ?_)
    | with_reducible refine Moves.optOf (fun _ => ?_)
    | (with_reducible refine Moves.foldl ?_ (fun _ _ _ => ?_))
    | (with_reducible refine Moves.foldlFst ?_ (fun _ _ _ => ?_))
    | (with_reducible refine Moves.foldr ?_ (fun _ _ _ => ?_))
    | with_reducible refine Moves.optIte ?_ ?_
    | with_reducible refine Moves.foldlOpt ?_ (fun _ _ _ => ?_)
    | with_reducible refine Moves.optSome ?_
    | with_reducible exact Moves.optNone
    | with_reducible refine Moves.some (by assumption) ?_
    | with_reducible refine Moves.fst (by assumption) ?_
    | with_reducible refine Moves.snd (by assumption) ?_
    | dsimp +zetaDelta only

theorem State.orphanCalls_moves {w : Nat} {s u : State} (hw : Within 3238019088 w) (h : Moves w s u) (c : Nat) :
    Moves w s (State.orphanCalls u c).1 := by
  unfold State.orphanCalls
  repeat'
    first
    | with_reducible assumption
    | with_reducible refine State.modGroup_moves (Within.trans (by decide : Within 16384 3238019088) hw) ?_ _ _
    | with_reducible refine State.scribbleCall_moves (Within.trans (by decide : Within 3238002704 3238019088) hw) ?_ _ _
    | with_reducible refine Moves.ite ?_ ?_
    | split
    | extract_lets
    | with_reducible refine Moves.getD (Moves.optFindSome (fun _ => ?_)) ?_
    | with_reducible refine Moves.optMap (fun _ => ?_)
    | with_reducible refine Moves.optSndMapSnd ?_
    | with_reducible refine Moves.optSndMap (fun _ => ?_)
    | with_reducible refine Moves.optBind ?_ (fun _ _ => ?_)
    | with_reducible refine Moves.optOf (fun _ => ?_)
    | (with_reducible refine Moves.foldl ?_ (fun _ _ _ => ?_))
    | (with_reducible refine Moves.foldlFst ?_ (fun _ _ _ => ?_))
    | (with_reducible refine Moves.foldr ?_ (fun _ _ _ => ?_))
    | with_reducible refine Moves.optIte ?_ ?_
    | with_reducible refine Moves.foldlOpt ?_ (fun _ _ _ => ?_)
    | with_reducible refine Moves.optSome ?_
    | with_reducible exact Moves.optNone
    | with_reducible refine Moves.some (by assumption) ?_
    | with_reducible refine Moves.fst (by assumption) ?_
    | with_reducible refine Moves.snd (by assumption) ?_
    | dsimp +zetaDelta only

theorem State.tornHalts_moves {w : Nat} {s u : State} (hw : Within 35184372089100 w) (h : Moves w s u) (x : Run) :
    Moves w s (State.tornHalts u x) := by
  unfold State.tornHalts
  repeat'
    first
    | with_reducible assumption
    | with_reducible refine State.haltOne_moves (Within.trans (by decide : Within 35184372089100 35184372089100) hw) ?_ _ _ _
    | with_reducible refine Moves.ite ?_ ?_
    | split
    | extract_lets
    | with_reducible refine Moves.getD (Moves.optFindSome (fun _ => ?_)) ?_
    | with_reducible refine Moves.optMap (fun _ => ?_)
    | with_reducible refine Moves.optSndMapSnd ?_
    | with_reducible refine Moves.optSndMap (fun _ => ?_)
    | with_reducible refine Moves.optBind ?_ (fun _ _ => ?_)
    | with_reducible refine Moves.optOf (fun _ => ?_)
    | (with_reducible refine Moves.foldl ?_ (fun _ _ _ => ?_))
    | (with_reducible refine Moves.foldlFst ?_ (fun _ _ _ => ?_))
    | (with_reducible refine Moves.foldr ?_ (fun _ _ _ => ?_))
    | with_reducible refine Moves.optIte ?_ ?_
    | with_reducible refine Moves.foldlOpt ?_ (fun _ _ _ => ?_)
    | with_reducible refine Moves.optSome ?_
    | with_reducible exact Moves.optNone
    | with_reducible refine Moves.some (by assumption) ?_
    | with_reducible refine Moves.fst (by assumption) ?_
    | with_reducible refine Moves.snd (by assumption) ?_
    | dsimp +zetaDelta only

theorem State.dropCopies_moves {w : Nat} {s u : State} (hw : Within 34359738880 w) (h : Moves w s u) (p : Copying → Bool) :
    Moves w s (State.dropCopies u p) := by
  unfold State.dropCopies
  repeat'
    first
    | with_reducible assumption
    | with_reducible refine State.endPorts_moves (Within.trans (by decide : Within 34359738368 34359738880) hw) ?_ _ _
    | with_reducible refine Moves.ite ?_ ?_
    | split
    | extract_lets
    | with_reducible refine Moves.getD (Moves.optFindSome (fun _ => ?_)) ?_
    | with_reducible refine Moves.optMap (fun _ => ?_)
    | with_reducible refine Moves.optSndMapSnd ?_
    | with_reducible refine Moves.optSndMap (fun _ => ?_)
    | with_reducible refine Moves.optBind ?_ (fun _ _ => ?_)
    | with_reducible refine Moves.optOf (fun _ => ?_)
    | (with_reducible refine Moves.foldl ?_ (fun _ _ _ => ?_))
    | (with_reducible refine Moves.foldlFst ?_ (fun _ _ _ => ?_))
    | (with_reducible refine Moves.foldr ?_ (fun _ _ _ => ?_))
    | with_reducible refine Moves.optIte ?_ ?_
    | with_reducible refine Moves.foldlOpt ?_ (fun _ _ _ => ?_)
    | with_reducible refine Moves.optSome ?_
    | with_reducible exact Moves.optNone
    | with_reducible refine Moves.some (by assumption) ?_
    | with_reducible refine Moves.fst (by assumption) ?_
    | with_reducible refine Moves.snd (by assumption) ?_
    | dsimp +zetaDelta only
    | with_reducible refine Moves.upd ?_ rfl ⟨rfl, rfl, .same, ⟨.rfl, .rfl, .rfl, .of hw (by decide), .rfl⟩, .same, .same, .same⟩ ⟨id, id, id, id, id, id, id⟩

theorem State.startTeardown_moves {w : Nat} {s u : State} (hw : Within 36527643053884 w) (h : Moves w s u) (c : Nat) (code : Nat) (cplFault : Bool) :
    Moves w s (State.startTeardown u c code cplFault) := by
  unfold State.startTeardown
  repeat'
    first
    | with_reducible assumption
    | with_reducible refine State.orphanCalls_moves (Within.trans (by decide : Within 3238019088 36527643053884) hw) ?_ _
    | with_reducible refine Moves.fst ‹State.orphanCalls _ _ = (_, _)› (State.orphanCalls_moves (Within.trans (by decide : Within 3238019088 36527643053884) hw) ?_ _)
    | with_reducible refine State.tornHalts_moves (Within.trans (by decide : Within 35184372089100 36527643053884) hw) ?_ _
    | with_reducible refine State.dropCalls_moves (Within.trans (by decide : Within 16384 36527643053884) hw) ?_ _
    | with_reducible refine State.returnCredit_moves (Within.trans (by decide : Within 1168231104512 36527643053884) hw) ?_ _
    | with_reducible refine State.dropCopies_moves (Within.trans (by decide : Within 34359738880 36527643053884) hw) ?_ _
    | with_reducible refine State.modCtx_moves (Within.trans (by decide : Within 32 36527643053884) hw) ?_ _ _
    | with_reducible refine State.contain_moves (Within.trans (by decide : Within 35184372088844 36527643053884) hw) ?_ _ _
    | with_reducible refine State.bumpF_moves (Within.trans (by decide : Within 12 36527643053884) hw) ?_ _ _ _
    | with_reducible refine State.sweep_moves (Within.trans (by decide : Within 44 36527643053884) hw) ?_ _
    | with_reducible refine State.flushContext_moves (Within.trans (by decide : Within 1305670057996 36527643053884) hw) ?_ _
    | with_reducible refine Moves.ite ?_ ?_
    | split
    | extract_lets
    | with_reducible refine Moves.getD (Moves.optFindSome (fun _ => ?_)) ?_
    | with_reducible refine Moves.optMap (fun _ => ?_)
    | with_reducible refine Moves.optSndMapSnd ?_
    | with_reducible refine Moves.optSndMap (fun _ => ?_)
    | with_reducible refine Moves.optBind ?_ (fun _ _ => ?_)
    | with_reducible refine Moves.optOf (fun _ => ?_)
    | (with_reducible refine Moves.foldl ?_ (fun _ _ _ => ?_))
    | (with_reducible refine Moves.foldlFst ?_ (fun _ _ _ => ?_))
    | (with_reducible refine Moves.foldr ?_ (fun _ _ _ => ?_))
    | with_reducible refine Moves.optIte ?_ ?_
    | with_reducible refine Moves.foldlOpt ?_ (fun _ _ _ => ?_)
    | with_reducible refine Moves.optSome ?_
    | with_reducible exact Moves.optNone
    | with_reducible refine Moves.some (by assumption) ?_
    | with_reducible refine Moves.fst (by assumption) ?_
    | with_reducible refine Moves.snd (by assumption) ?_
    | dsimp +zetaDelta only
    | with_reducible refine Moves.upd ?_ rfl ⟨rfl, rfl, .same, ⟨.rfl, .rfl, .of hw (by decide), .rfl, .of hw (by decide)⟩, ⟨.of hw (by decide), .rfl, .rfl, .rfl, .rfl⟩, ⟨.rfl, .rfl, .rfl, .rfl, .of hw (by decide)⟩, ⟨.of hw (by decide), .rfl, .rfl, .rfl, .rfl⟩⟩ ⟨id, id, id, id, id, id, id⟩

theorem State.fetch_moves {w : Nat} {s u : State} (hw : Within 36527643053884 w) (h : Moves w s u) (c : Nat) (q : Nat) :
    Moves w s (State.fetch u c q) := by
  unfold State.fetch
  repeat'
    first
    | with_reducible assumption
    | with_reducible refine State.startTeardown_moves (Within.trans (by decide : Within 36527643053884 36527643053884) hw) ?_ _ _ _
    | with_reducible refine State.contain_moves (Within.trans (by decide : Within 35184372088844 36527643053884) hw) ?_ _ _
    | with_reducible refine State.modCtx_moves (Within.trans (by decide : Within 32 36527643053884) hw) ?_ _ _
    | with_reducible refine State.setF_moves (Within.trans (by decide : Within 4 36527643053884) hw) ?_ _ _ _
    | with_reducible refine Moves.ite ?_ ?_
    | split
    | extract_lets
    | with_reducible refine Moves.getD (Moves.optFindSome (fun _ => ?_)) ?_
    | with_reducible refine Moves.optMap (fun _ => ?_)
    | with_reducible refine Moves.optSndMapSnd ?_
    | with_reducible refine Moves.optSndMap (fun _ => ?_)
    | with_reducible refine Moves.optBind ?_ (fun _ _ => ?_)
    | with_reducible refine Moves.optOf (fun _ => ?_)
    | (with_reducible refine Moves.foldl ?_ (fun _ _ _ => ?_))
    | (with_reducible refine Moves.foldlFst ?_ (fun _ _ _ => ?_))
    | (with_reducible refine Moves.foldr ?_ (fun _ _ _ => ?_))
    | with_reducible refine Moves.optIte ?_ ?_
    | with_reducible refine Moves.foldlOpt ?_ (fun _ _ _ => ?_)
    | with_reducible refine Moves.optSome ?_
    | with_reducible exact Moves.optNone
    | with_reducible refine Moves.some (by assumption) ?_
    | with_reducible refine Moves.fst (by assumption) ?_
    | with_reducible refine Moves.snd (by assumption) ?_
    | dsimp +zetaDelta only

theorem State.popHead_moves {w : Nat} {s u : State} (hw : Within 36527643053884 w) (h : Moves w s u) (c : Nat) (q : Nat) :
    Moves w s (State.popHead u c q) := by
  unfold State.popHead
  repeat'
    first
    | with_reducible assumption
    | with_reducible refine State.fetch_moves (Within.trans (by decide : Within 36527643053884 36527643053884) hw) ?_ _ _
    | with_reducible refine State.modCtx_moves (Within.trans (by decide : Within 32 36527643053884) hw) ?_ _ _
    | with_reducible refine Moves.ite ?_ ?_
    | split
    | extract_lets
    | with_reducible refine Moves.getD (Moves.optFindSome (fun _ => ?_)) ?_
    | with_reducible refine Moves.optMap (fun _ => ?_)
    | with_reducible refine Moves.optSndMapSnd ?_
    | with_reducible refine Moves.optSndMap (fun _ => ?_)
    | with_reducible refine Moves.optBind ?_ (fun _ _ => ?_)
    | with_reducible refine Moves.optOf (fun _ => ?_)
    | (with_reducible refine Moves.foldl ?_ (fun _ _ _ => ?_))
    | (with_reducible refine Moves.foldlFst ?_ (fun _ _ _ => ?_))
    | (with_reducible refine Moves.foldr ?_ (fun _ _ _ => ?_))
    | with_reducible refine Moves.optIte ?_ ?_
    | with_reducible refine Moves.foldlOpt ?_ (fun _ _ _ => ?_)
    | with_reducible refine Moves.optSome ?_
    | with_reducible exact Moves.optNone
    | with_reducible refine Moves.some (by assumption) ?_
    | with_reducible refine Moves.fst (by assumption) ?_
    | with_reducible refine Moves.snd (by assumption) ?_
    | dsimp +zetaDelta only

theorem State.endFail_moves {w : Nat} {s u : State} (hw : Within 1024 w) (h : Moves w s u) (cmd : Command) (code : Nat) (index : Nat) (region : Nat) :
    Moves w s (State.endFail u cmd code index region) := by
  unfold State.endFail
  repeat'
    first
    | with_reducible assumption
    | with_reducible refine State.ends_moves (Within.trans (by decide : Within 1024 1024) hw) ?_ _
    | with_reducible refine Moves.ite ?_ ?_
    | split
    | extract_lets
    | with_reducible refine Moves.getD (Moves.optFindSome (fun _ => ?_)) ?_
    | with_reducible refine Moves.optMap (fun _ => ?_)
    | with_reducible refine Moves.optSndMapSnd ?_
    | with_reducible refine Moves.optSndMap (fun _ => ?_)
    | with_reducible refine Moves.optBind ?_ (fun _ _ => ?_)
    | with_reducible refine Moves.optOf (fun _ => ?_)
    | (with_reducible refine Moves.foldl ?_ (fun _ _ _ => ?_))
    | (with_reducible refine Moves.foldlFst ?_ (fun _ _ _ => ?_))
    | (with_reducible refine Moves.foldr ?_ (fun _ _ _ => ?_))
    | with_reducible refine Moves.optIte ?_ ?_
    | with_reducible refine Moves.foldlOpt ?_ (fun _ _ _ => ?_)
    | with_reducible refine Moves.optSome ?_
    | with_reducible exact Moves.optNone
    | with_reducible refine Moves.some (by assumption) ?_
    | with_reducible refine Moves.fst (by assumption) ?_
    | with_reducible refine Moves.snd (by assumption) ?_
    | dsimp +zetaDelta only

theorem State.endDone_moves {w : Nat} {s u : State} (hw : Within 1024 w) (h : Moves w s u) (cmd : Command) (result : Sys2Proof.Bytes) :
    Moves w s (State.endDone u cmd result) := by
  unfold State.endDone
  repeat'
    first
    | with_reducible assumption
    | with_reducible refine State.ends_moves (Within.trans (by decide : Within 1024 1024) hw) ?_ _
    | with_reducible refine Moves.ite ?_ ?_
    | split
    | extract_lets
    | with_reducible refine Moves.getD (Moves.optFindSome (fun _ => ?_)) ?_
    | with_reducible refine Moves.optMap (fun _ => ?_)
    | with_reducible refine Moves.optSndMapSnd ?_
    | with_reducible refine Moves.optSndMap (fun _ => ?_)
    | with_reducible refine Moves.optBind ?_ (fun _ _ => ?_)
    | with_reducible refine Moves.optOf (fun _ => ?_)
    | (with_reducible refine Moves.foldl ?_ (fun _ _ _ => ?_))
    | (with_reducible refine Moves.foldlFst ?_ (fun _ _ _ => ?_))
    | (with_reducible refine Moves.foldr ?_ (fun _ _ _ => ?_))
    | with_reducible refine Moves.optIte ?_ ?_
    | with_reducible refine Moves.foldlOpt ?_ (fun _ _ _ => ?_)
    | with_reducible refine Moves.optSome ?_
    | with_reducible exact Moves.optNone
    | with_reducible refine Moves.some (by assumption) ?_
    | with_reducible refine Moves.fst (by assumption) ?_
    | with_reducible refine Moves.snd (by assumption) ?_
    | dsimp +zetaDelta only

theorem State.latchHead_moves {w : Nat} {s u : State} (hw : Within 32 w) (h : Moves w s u) (cmd : Command) :
    Moves w s (State.latchHead u cmd) := by
  unfold State.latchHead
  repeat'
    first
    | with_reducible assumption
    | with_reducible refine State.modCtx_moves (Within.trans (by decide : Within 32 32) hw) ?_ _ _
    | with_reducible refine Moves.ite ?_ ?_
    | split
    | extract_lets
    | with_reducible refine Moves.getD (Moves.optFindSome (fun _ => ?_)) ?_
    | with_reducible refine Moves.optMap (fun _ => ?_)
    | with_reducible refine Moves.optSndMapSnd ?_
    | with_reducible refine Moves.optSndMap (fun _ => ?_)
    | with_reducible refine Moves.optBind ?_ (fun _ _ => ?_)
    | with_reducible refine Moves.optOf (fun _ => ?_)
    | (with_reducible refine Moves.foldl ?_ (fun _ _ _ => ?_))
    | (with_reducible refine Moves.foldlFst ?_ (fun _ _ _ => ?_))
    | (with_reducible refine Moves.foldr ?_ (fun _ _ _ => ?_))
    | with_reducible refine Moves.optIte ?_ ?_
    | with_reducible refine Moves.foldlOpt ?_ (fun _ _ _ => ?_)
    | with_reducible refine Moves.optSome ?_
    | with_reducible exact Moves.optNone
    | with_reducible refine Moves.some (by assumption) ?_
    | with_reducible refine Moves.fst (by assumption) ?_
    | with_reducible refine Moves.snd (by assumption) ?_
    | dsimp +zetaDelta only

theorem State.settle_moves {w : Nat} {s u : State} (hw : Within 36527643053884 w) (h : Moves w s u) (cmd : Command) (x2 : Verdict) (hv : Moves.verdict w s x2) :
    Moves w s (State.settle u cmd x2) := by
  unfold State.settle
  repeat'
    first
    | with_reducible assumption
    | exact hv
    | with_reducible refine State.popHead_moves (Within.trans (by decide : Within 36527643053884 36527643053884) hw) ?_ _ _
    | with_reducible refine State.endFail_moves (Within.trans (by decide : Within 1024 36527643053884) hw) ?_ _ _ _ _
    | with_reducible refine State.endDone_moves (Within.trans (by decide : Within 1024 36527643053884) hw) ?_ _ _
    | with_reducible refine State.latchHead_moves (Within.trans (by decide : Within 32 36527643053884) hw) ?_ _
    | with_reducible refine Moves.ite ?_ ?_
    | split
    | extract_lets
    | with_reducible refine Moves.getD (Moves.optFindSome (fun _ => ?_)) ?_
    | with_reducible refine Moves.optMap (fun _ => ?_)
    | with_reducible refine Moves.optSndMapSnd ?_
    | with_reducible refine Moves.optSndMap (fun _ => ?_)
    | with_reducible refine Moves.optBind ?_ (fun _ _ => ?_)
    | with_reducible refine Moves.optOf (fun _ => ?_)
    | (with_reducible refine Moves.foldl ?_ (fun _ _ _ => ?_))
    | (with_reducible refine Moves.foldlFst ?_ (fun _ _ _ => ?_))
    | (with_reducible refine Moves.foldr ?_ (fun _ _ _ => ?_))
    | with_reducible refine Moves.optIte ?_ ?_
    | with_reducible refine Moves.foldlOpt ?_ (fun _ _ _ => ?_)
    | with_reducible refine Moves.optSome ?_
    | with_reducible exact Moves.optNone
    | with_reducible refine Moves.some (by assumption) ?_
    | with_reducible refine Moves.fst (by assumption) ?_
    | with_reducible refine Moves.snd (by assumption) ?_
    | dsimp +zetaDelta only
    | with_reducible refine Moves.upd ?_ rfl ⟨rfl, rfl, .same, .same, ⟨.of hw (by decide), .rfl, .rfl, .rfl, .rfl⟩, .same, .same⟩ ⟨id, id, id, id, id, id, id⟩

theorem State.issuedOn_moves {w : Nat} {s u : State} (hw : Within 32 w) (h : Moves w s u) (cmd : Command) :
    Moves w s (State.issuedOn u cmd) := by
  unfold State.issuedOn
  repeat'
    first
    | with_reducible assumption
    | with_reducible refine State.modCtx_moves (Within.trans (by decide : Within 32 32) hw) ?_ _ _
    | with_reducible refine Moves.ite ?_ ?_
    | split
    | extract_lets
    | with_reducible refine Moves.getD (Moves.optFindSome (fun _ => ?_)) ?_
    | with_reducible refine Moves.optMap (fun _ => ?_)
    | with_reducible refine Moves.optSndMapSnd ?_
    | with_reducible refine Moves.optSndMap (fun _ => ?_)
    | with_reducible refine Moves.optBind ?_ (fun _ _ => ?_)
    | with_reducible refine Moves.optOf (fun _ => ?_)
    | (with_reducible refine Moves.foldl ?_ (fun _ _ _ => ?_))
    | (with_reducible refine Moves.foldlFst ?_ (fun _ _ _ => ?_))
    | (with_reducible refine Moves.foldr ?_ (fun _ _ _ => ?_))
    | with_reducible refine Moves.optIte ?_ ?_
    | with_reducible refine Moves.foldlOpt ?_ (fun _ _ _ => ?_)
    | with_reducible refine Moves.optSome ?_
    | with_reducible exact Moves.optNone
    | with_reducible refine Moves.some (by assumption) ?_
    | with_reducible refine Moves.fst (by assumption) ?_
    | with_reducible refine Moves.snd (by assumption) ?_
    | dsimp +zetaDelta only

theorem State.conclude_moves {w : Nat} {s u : State} (hw : Within 36527643053884 w) (h : Moves w s u) (cmd : Command) (x2 : Verdict) (hv : Moves.verdict w s x2) :
    Moves w s (State.conclude u cmd x2) := by
  unfold State.conclude
  repeat'
    first
    | with_reducible assumption
    | exact hv
    | with_reducible exact Moves.fail
    | with_reducible exact Moves.latch
    | with_reducible refine Moves.done ?_
    | with_reducible refine Moves.await ?_
    | with_reducible refine Moves.park ?_
    | with_reducible refine State.settle_moves (Within.trans (by decide : Within 36527643053884 36527643053884) hw) ?_ _ _ ?_
    | with_reducible refine State.issuedOn_moves (Within.trans (by decide : Within 32 36527643053884) hw) ?_ _
    | with_reducible refine Moves.ite ?_ ?_
    | split
    | extract_lets
    | with_reducible refine Moves.getD (Moves.optFindSome (fun _ => ?_)) ?_
    | with_reducible refine Moves.optMap (fun _ => ?_)
    | with_reducible refine Moves.optSndMapSnd ?_
    | with_reducible refine Moves.optSndMap (fun _ => ?_)
    | with_reducible refine Moves.optBind ?_ (fun _ _ => ?_)
    | with_reducible refine Moves.optOf (fun _ => ?_)
    | (with_reducible refine Moves.foldl ?_ (fun _ _ _ => ?_))
    | (with_reducible refine Moves.foldlFst ?_ (fun _ _ _ => ?_))
    | (with_reducible refine Moves.foldr ?_ (fun _ _ _ => ?_))
    | with_reducible refine Moves.optIte ?_ ?_
    | with_reducible refine Moves.foldlOpt ?_ (fun _ _ _ => ?_)
    | with_reducible refine Moves.optSome ?_
    | with_reducible exact Moves.optNone
    | with_reducible refine Moves.some (by assumption) ?_
    | with_reducible refine Moves.fst (by assumption) ?_
    | with_reducible refine Moves.snd (by assumption) ?_
    | dsimp +zetaDelta only

theorem State.number_moves {w : Nat} {s u : State} (hw : Within 4224 w) (h : Moves w s u) (c : Nat) (q : Nat) (raw : BitVec 512) :
    Moves w s (State.number u c q raw).2 := by
  unfold State.number
  repeat'
    first
    | with_reducible assumption
    | with_reducible refine Moves.ite ?_ ?_
    | split
    | extract_lets
    | with_reducible refine Moves.getD (Moves.optFindSome (fun _ => ?_)) ?_
    | with_reducible refine Moves.optMap (fun _ => ?_)
    | with_reducible refine Moves.optSndMapSnd ?_
    | with_reducible refine Moves.optSndMap (fun _ => ?_)
    | with_reducible refine Moves.optBind ?_ (fun _ _ => ?_)
    | with_reducible refine Moves.optOf (fun _ => ?_)
    | (with_reducible refine Moves.foldl ?_ (fun _ _ _ => ?_))
    | (with_reducible refine Moves.foldlFst ?_ (fun _ _ _ => ?_))
    | (with_reducible refine Moves.foldr ?_ (fun _ _ _ => ?_))
    | with_reducible refine Moves.optIte ?_ ?_
    | with_reducible refine Moves.foldlOpt ?_ (fun _ _ _ => ?_)
    | with_reducible refine Moves.optSome ?_
    | with_reducible exact Moves.optNone
    | with_reducible refine Moves.some (by assumption) ?_
    | with_reducible refine Moves.fst (by assumption) ?_
    | with_reducible refine Moves.snd (by assumption) ?_
    | dsimp +zetaDelta only
    | with_reducible refine Moves.upd ?_ rfl ⟨rfl, rfl, .same, ⟨.rfl, .of hw (by decide), .rfl, .rfl, .rfl⟩, ⟨.rfl, .of hw (by decide), .rfl, .rfl, .rfl⟩, .same, .same⟩ ⟨id, id, id, id, id, id, id⟩

theorem State.controlRow_moves {w : Nat} {s u : State} (hw : Within 36527643058108 w) (h : Moves w s u) (c : Nat) (q : Nat) (op : Nat) (own : State → Command → Bool) (h' : State → Command → Verdict) (hf : ∀ v m, Moves w s v → Moves.verdict w s (h' v m)) :
    Moves w s (State.controlRow u c q op own h') := by
  unfold State.controlRow
  repeat'
    first
    | with_reducible assumption
    | with_reducible refine hf _ _ ?_
    | with_reducible exact Moves.fail
    | with_reducible exact Moves.latch
    | with_reducible refine Moves.done ?_
    | with_reducible refine Moves.await ?_
    | with_reducible refine Moves.park ?_
    | with_reducible refine State.settleIdle_moves (Within.trans (by decide : Within 32 36527643058108) hw) ?_
    | with_reducible refine State.conclude_moves (Within.trans (by decide : Within 36527643053884 36527643058108) hw) ?_ _ _ ?_
    | with_reducible refine State.number_moves (Within.trans (by decide : Within 4224 36527643058108) hw) ?_ _ _ _
    | with_reducible refine Moves.snd ‹State.number _ _ _ _ = (_, _)› (State.number_moves (Within.trans (by decide : Within 4224 36527643058108) hw) ?_ _ _ _)
    | with_reducible refine State.settle_moves (Within.trans (by decide : Within 36527643053884 36527643058108) hw) ?_ _ _ ?_
    | with_reducible refine State.latchHead_moves (Within.trans (by decide : Within 32 36527643058108) hw) ?_ _
    | with_reducible refine Moves.ite ?_ ?_
    | split
    | extract_lets
    | with_reducible refine Moves.getD (Moves.optFindSome (fun _ => ?_)) ?_
    | with_reducible refine Moves.optMap (fun _ => ?_)
    | with_reducible refine Moves.optSndMapSnd ?_
    | with_reducible refine Moves.optSndMap (fun _ => ?_)
    | with_reducible refine Moves.optBind ?_ (fun _ _ => ?_)
    | with_reducible refine Moves.optOf (fun _ => ?_)
    | (with_reducible refine Moves.foldl ?_ (fun _ _ _ => ?_))
    | (with_reducible refine Moves.foldlFst ?_ (fun _ _ _ => ?_))
    | (with_reducible refine Moves.foldr ?_ (fun _ _ _ => ?_))
    | with_reducible refine Moves.optIte ?_ ?_
    | with_reducible refine Moves.foldlOpt ?_ (fun _ _ _ => ?_)
    | with_reducible refine Moves.optSome ?_
    | with_reducible exact Moves.optNone
    | with_reducible refine Moves.some (by assumption) ?_
    | with_reducible refine Moves.fst (by assumption) ?_
    | with_reducible refine Moves.snd (by assumption) ?_
    | dsimp +zetaDelta only

theorem State.noteWaits_moves {w : Nat} {s u : State} (hw : Within 32 w) (h : Moves w s u)  :
    Moves w s (State.noteWaits u) := by
  unfold State.noteWaits
  repeat'
    first
    | with_reducible assumption
    | with_reducible refine Moves.ite ?_ ?_
    | split
    | extract_lets
    | with_reducible refine Moves.getD (Moves.optFindSome (fun _ => ?_)) ?_
    | with_reducible refine Moves.optMap (fun _ => ?_)
    | with_reducible refine Moves.optSndMapSnd ?_
    | with_reducible refine Moves.optSndMap (fun _ => ?_)
    | with_reducible refine Moves.optBind ?_ (fun _ _ => ?_)
    | with_reducible refine Moves.optOf (fun _ => ?_)
    | (with_reducible refine Moves.foldl ?_ (fun _ _ _ => ?_))
    | (with_reducible refine Moves.foldlFst ?_ (fun _ _ _ => ?_))
    | (with_reducible refine Moves.foldr ?_ (fun _ _ _ => ?_))
    | with_reducible refine Moves.optIte ?_ ?_
    | with_reducible refine Moves.foldlOpt ?_ (fun _ _ _ => ?_)
    | with_reducible refine Moves.optSome ?_
    | with_reducible exact Moves.optNone
    | with_reducible refine Moves.some (by assumption) ?_
    | with_reducible refine Moves.fst (by assumption) ?_
    | with_reducible refine Moves.snd (by assumption) ?_
    | dsimp +zetaDelta only
    | with_reducible refine Moves.upd ?_ rfl ⟨rfl, rfl, ⟨.rfl, .rfl, .rfl, .rfl, .of hw (by decide)⟩, .same, .same, .same, .same⟩ ⟨id, id, (by first | with_reducible exact id | exact fun k => Tab.sorted_set k _ _ | exact fun k => Tab.sorted_filter k _ | exact fun k => Tab.sorted_erase k _ | exact fun k => Tab.sorted_map k _ (fun _ => by first | rfl | (split <;> rfl)) | exact fun _ => .nil), id, id, id, id⟩

theorem State.fetchAll_moves {w : Nat} {s u : State} (hw : Within 36527643053884 w) (h : Moves w s u) (c : Nat) :
    Moves w s (State.fetchAll u c) := by
  unfold State.fetchAll
  repeat'
    first
    | with_reducible assumption
    | with_reducible refine State.fetch_moves (Within.trans (by decide : Within 36527643053884 36527643053884) hw) ?_ _ _
    | with_reducible refine Moves.ite ?_ ?_
    | split
    | extract_lets
    | with_reducible refine Moves.getD (Moves.optFindSome (fun _ => ?_)) ?_
    | with_reducible refine Moves.optMap (fun _ => ?_)
    | with_reducible refine Moves.optSndMapSnd ?_
    | with_reducible refine Moves.optSndMap (fun _ => ?_)
    | with_reducible refine Moves.optBind ?_ (fun _ _ => ?_)
    | with_reducible refine Moves.optOf (fun _ => ?_)
    | (with_reducible refine Moves.foldl ?_ (fun _ _ _ => ?_))
    | (with_reducible refine Moves.foldlFst ?_ (fun _ _ _ => ?_))
    | (with_reducible refine Moves.foldr ?_ (fun _ _ _ => ?_))
    | with_reducible refine Moves.optIte ?_ ?_
    | with_reducible refine Moves.foldlOpt ?_ (fun _ _ _ => ?_)
    | with_reducible refine Moves.optSome ?_
    | with_reducible exact Moves.optNone
    | with_reducible refine Moves.some (by assumption) ?_
    | with_reducible refine Moves.fst (by assumption) ?_
    | with_reducible refine Moves.snd (by assumption) ?_
    | dsimp +zetaDelta only

theorem State.claimRow_moves {w : Nat} {s u : State} (hw : Within 36527643058108 w) (h : Moves w s u) (c : Nat) (q : Nat) (op : Nat) (h' : State → Command → Verdict) (stopped : State → Command → Bool) (hf : ∀ v m, Moves w s v → Moves.verdict w s (h' v m)) :
    Moves w s (State.claimRow u c q op h' stopped) := by
  unfold State.claimRow
  repeat'
    first
    | with_reducible assumption
    | with_reducible refine hf _ _ ?_
    | with_reducible exact Moves.fail
    | with_reducible exact Moves.latch
    | with_reducible refine Moves.done ?_
    | with_reducible refine Moves.await ?_
    | with_reducible refine Moves.park ?_
    | with_reducible refine State.number_moves (Within.trans (by decide : Within 4224 36527643058108) hw) ?_ _ _ _
    | with_reducible refine Moves.snd ‹State.number _ _ _ _ = (_, _)› (State.number_moves (Within.trans (by decide : Within 4224 36527643058108) hw) ?_ _ _ _)
    | with_reducible refine State.settleIdle_moves (Within.trans (by decide : Within 32 36527643058108) hw) ?_
    | with_reducible refine State.settle_moves (Within.trans (by decide : Within 36527643053884 36527643058108) hw) ?_ _ _ ?_
    | with_reducible refine State.latchHead_moves (Within.trans (by decide : Within 32 36527643058108) hw) ?_ _
    | with_reducible refine Moves.ite ?_ ?_
    | split
    | extract_lets
    | with_reducible refine Moves.getD (Moves.optFindSome (fun _ => ?_)) ?_
    | with_reducible refine Moves.optMap (fun _ => ?_)
    | with_reducible refine Moves.optSndMapSnd ?_
    | with_reducible refine Moves.optSndMap (fun _ => ?_)
    | with_reducible refine Moves.optBind ?_ (fun _ _ => ?_)
    | with_reducible refine Moves.optOf (fun _ => ?_)
    | (with_reducible refine Moves.foldl ?_ (fun _ _ _ => ?_))
    | (with_reducible refine Moves.foldlFst ?_ (fun _ _ _ => ?_))
    | (with_reducible refine Moves.foldr ?_ (fun _ _ _ => ?_))
    | with_reducible refine Moves.optIte ?_ ?_
    | with_reducible refine Moves.foldlOpt ?_ (fun _ _ _ => ?_)
    | with_reducible refine Moves.optSome ?_
    | with_reducible exact Moves.optNone
    | with_reducible refine Moves.some (by assumption) ?_
    | with_reducible refine Moves.fst (by assumption) ?_
    | with_reducible refine Moves.snd (by assumption) ?_
    | dsimp +zetaDelta only

theorem State.writeRing_moves {w : Nat} {s u : State} (hw : Within 4 w) (h : Moves w s u) (a : Nat) (w' : Nat) :
    Moves w s (State.writeRing u a w') := by
  unfold State.writeRing
  repeat'
    first
    | with_reducible assumption
    | with_reducible refine State.setReg_moves (Within.trans (by decide : Within 4 4) hw) ?_ _ _
    | with_reducible refine Moves.ite ?_ ?_
    | split
    | extract_lets
    | with_reducible refine Moves.getD (Moves.optFindSome (fun _ => ?_)) ?_
    | with_reducible refine Moves.optMap (fun _ => ?_)
    | with_reducible refine Moves.optSndMapSnd ?_
    | with_reducible refine Moves.optSndMap (fun _ => ?_)
    | with_reducible refine Moves.optBind ?_ (fun _ _ => ?_)
    | with_reducible refine Moves.optOf (fun _ => ?_)
    | (with_reducible refine Moves.foldl ?_ (fun _ _ _ => ?_))
    | (with_reducible refine Moves.foldlFst ?_ (fun _ _ _ => ?_))
    | (with_reducible refine Moves.foldr ?_ (fun _ _ _ => ?_))
    | with_reducible refine Moves.optIte ?_ ?_
    | with_reducible refine Moves.foldlOpt ?_ (fun _ _ _ => ?_)
    | with_reducible refine Moves.optSome ?_
    | with_reducible exact Moves.optNone
    | with_reducible refine Moves.some (by assumption) ?_
    | with_reducible refine Moves.fst (by assumption) ?_
    | with_reducible refine Moves.snd (by assumption) ?_
    | dsimp +zetaDelta only

theorem State.writeCplTail_moves {w : Nat} {s u : State} (hw : Within 4 w) (h : Moves w s u) (c : Nat) (tail : Nat) :
    Moves w s (State.writeCplTail u c tail) := by
  unfold State.writeCplTail
  repeat'
    first
    | with_reducible assumption
    | with_reducible refine State.setF_moves (Within.trans (by decide : Within 4 4) hw) ?_ _ _ _
    | with_reducible refine Moves.ite ?_ ?_
    | split
    | extract_lets
    | with_reducible refine Moves.getD (Moves.optFindSome (fun _ => ?_)) ?_
    | with_reducible refine Moves.optMap (fun _ => ?_)
    | with_reducible refine Moves.optSndMapSnd ?_
    | with_reducible refine Moves.optSndMap (fun _ => ?_)
    | with_reducible refine Moves.optBind ?_ (fun _ _ => ?_)
    | with_reducible refine Moves.optOf (fun _ => ?_)
    | (with_reducible refine Moves.foldl ?_ (fun _ _ _ => ?_))
    | (with_reducible refine Moves.foldlFst ?_ (fun _ _ _ => ?_))
    | (with_reducible refine Moves.foldr ?_ (fun _ _ _ => ?_))
    | with_reducible refine Moves.optIte ?_ ?_
    | with_reducible refine Moves.foldlOpt ?_ (fun _ _ _ => ?_)
    | with_reducible refine Moves.optSome ?_
    | with_reducible exact Moves.optNone
    | with_reducible refine Moves.some (by assumption) ?_
    | with_reducible refine Moves.fst (by assumption) ?_
    | with_reducible refine Moves.snd (by assumption) ?_
    | dsimp +zetaDelta only

theorem State.writeCmdRing_moves {w : Nat} {s u : State} (hw : Within 36527643053884 w) (h : Moves w s u) (c : Nat) (q : Nat) (w' : Nat) :
    Moves w s (State.writeCmdRing u c q w') := by
  unfold State.writeCmdRing
  repeat'
    first
    | with_reducible assumption
    | with_reducible refine State.settleIdle_moves (Within.trans (by decide : Within 32 36527643053884) hw) ?_
    | with_reducible refine State.fetch_moves (Within.trans (by decide : Within 36527643053884 36527643053884) hw) ?_ _ _
    | with_reducible refine State.writeRing_moves (Within.trans (by decide : Within 4 36527643053884) hw) ?_ _ _
    | with_reducible refine Moves.ite ?_ ?_
    | split
    | extract_lets
    | with_reducible refine Moves.getD (Moves.optFindSome (fun _ => ?_)) ?_
    | with_reducible refine Moves.optMap (fun _ => ?_)
    | with_reducible refine Moves.optSndMapSnd ?_
    | with_reducible refine Moves.optSndMap (fun _ => ?_)
    | with_reducible refine Moves.optBind ?_ (fun _ _ => ?_)
    | with_reducible refine Moves.optOf (fun _ => ?_)
    | (with_reducible refine Moves.foldl ?_ (fun _ _ _ => ?_))
    | (with_reducible refine Moves.foldlFst ?_ (fun _ _ _ => ?_))
    | (with_reducible refine Moves.foldr ?_ (fun _ _ _ => ?_))
    | with_reducible refine Moves.optIte ?_ ?_
    | with_reducible refine Moves.foldlOpt ?_ (fun _ _ _ => ?_)
    | with_reducible refine Moves.optSome ?_
    | with_reducible exact Moves.optNone
    | with_reducible refine Moves.some (by assumption) ?_
    | with_reducible refine Moves.fst (by assumption) ?_
    | with_reducible refine Moves.snd (by assumption) ?_
    | dsimp +zetaDelta only

theorem State.doorbell_moves {w : Nat} {s u : State} (hw : Within 36527643053884 w) (h : Moves w s u) (c : Nat) (q : Nat) (tail : Nat) :
    Moves w s (State.doorbell u c q tail) := by
  unfold State.doorbell
  repeat'
    first
    | with_reducible assumption
    | with_reducible refine State.contain_moves (Within.trans (by decide : Within 35184372088844 36527643053884) hw) ?_ _ _
    | with_reducible refine State.settleIdle_moves (Within.trans (by decide : Within 32 36527643053884) hw) ?_
    | with_reducible refine State.fetch_moves (Within.trans (by decide : Within 36527643053884 36527643053884) hw) ?_ _ _
    | with_reducible refine State.setF_moves (Within.trans (by decide : Within 4 36527643053884) hw) ?_ _ _ _
    | with_reducible refine Moves.ite ?_ ?_
    | split
    | extract_lets
    | with_reducible refine Moves.getD (Moves.optFindSome (fun _ => ?_)) ?_
    | with_reducible refine Moves.optMap (fun _ => ?_)
    | with_reducible refine Moves.optSndMapSnd ?_
    | with_reducible refine Moves.optSndMap (fun _ => ?_)
    | with_reducible refine Moves.optBind ?_ (fun _ _ => ?_)
    | with_reducible refine Moves.optOf (fun _ => ?_)
    | (with_reducible refine Moves.foldl ?_ (fun _ _ _ => ?_))
    | (with_reducible refine Moves.foldlFst ?_ (fun _ _ _ => ?_))
    | (with_reducible refine Moves.foldr ?_ (fun _ _ _ => ?_))
    | with_reducible refine Moves.optIte ?_ ?_
    | with_reducible refine Moves.foldlOpt ?_ (fun _ _ _ => ?_)
    | with_reducible refine Moves.optSome ?_
    | with_reducible exact Moves.optNone
    | with_reducible refine Moves.some (by assumption) ?_
    | with_reducible refine Moves.fst (by assumption) ?_
    | with_reducible refine Moves.snd (by assumption) ?_
    | dsimp +zetaDelta only

theorem execDoorbell_moves {w : Nat} {s u : State} (hw : Within 36527643053884 w) (h : Moves w s u) (c : Sys2Proof.CtxId) (q : Sys2Proof.RingId) (tail : Sys2Proof.W32) :
    Moves.outcome w s (execDoorbell c q tail u) := by
  unfold execDoorbell
  repeat'
    first
    | with_reducible assumption
    | with_reducible exact Moves.fault
    | with_reducible refine Moves.next ?_
    | with_reducible refine State.whereAnswers_moves (Within.trans (by decide : Within 0 36527643053884) hw) ?_ _ _ (fun _ _ => ?_)
    | with_reducible refine State.doorbell_moves (Within.trans (by decide : Within 36527643053884 36527643053884) hw) ?_ _ _ _
    | with_reducible refine Moves.ite ?_ ?_
    | split
    | extract_lets
    | with_reducible refine Moves.getD (Moves.optFindSome (fun _ => ?_)) ?_
    | with_reducible refine Moves.optMap (fun _ => ?_)
    | with_reducible refine Moves.optSndMapSnd ?_
    | with_reducible refine Moves.optSndMap (fun _ => ?_)
    | with_reducible refine Moves.optBind ?_ (fun _ _ => ?_)
    | with_reducible refine Moves.optOf (fun _ => ?_)
    | (with_reducible refine Moves.foldl ?_ (fun _ _ _ => ?_))
    | (with_reducible refine Moves.foldlFst ?_ (fun _ _ _ => ?_))
    | (with_reducible refine Moves.foldr ?_ (fun _ _ _ => ?_))
    | with_reducible refine Moves.optIte ?_ ?_
    | with_reducible refine Moves.foldlOpt ?_ (fun _ _ _ => ?_)
    | with_reducible refine Moves.optSome ?_
    | with_reducible exact Moves.optNone
    | with_reducible refine Moves.some (by assumption) ?_
    | with_reducible refine Moves.fst (by assumption) ?_
    | with_reducible refine Moves.snd (by assumption) ?_
    | dsimp +zetaDelta only

theorem execNop_moves {w : Nat} {s u : State} (hw : Within 36527643058108 w) (h : Moves w s u) (c : Sys2Proof.CtxId) (q : Sys2Proof.RingId) :
    Moves.outcome w s (execNop c q u) := by
  unfold execNop
  repeat'
    first
    | with_reducible assumption
    | with_reducible exact Moves.fault
    | with_reducible refine Moves.next ?_
    | with_reducible exact Moves.fail
    | with_reducible exact Moves.latch
    | with_reducible refine Moves.done ?_
    | with_reducible refine Moves.await ?_
    | with_reducible refine Moves.park ?_
    | with_reducible refine State.controlRow_moves (Within.trans (by decide : Within 36527643058108 36527643058108) hw) ?_ _ _ _ _ _ (fun _ _ _ => ?_)
    | with_reducible refine Moves.ite ?_ ?_
    | split
    | extract_lets
    | with_reducible refine Moves.getD (Moves.optFindSome (fun _ => ?_)) ?_
    | with_reducible refine Moves.optMap (fun _ => ?_)
    | with_reducible refine Moves.optSndMapSnd ?_
    | with_reducible refine Moves.optSndMap (fun _ => ?_)
    | with_reducible refine Moves.optBind ?_ (fun _ _ => ?_)
    | with_reducible refine Moves.optOf (fun _ => ?_)
    | (with_reducible refine Moves.foldl ?_ (fun _ _ _ => ?_))
    | (with_reducible refine Moves.foldlFst ?_ (fun _ _ _ => ?_))
    | (with_reducible refine Moves.foldr ?_ (fun _ _ _ => ?_))
    | with_reducible refine Moves.optIte ?_ ?_
    | with_reducible refine Moves.foldlOpt ?_ (fun _ _ _ => ?_)
    | with_reducible refine Moves.optSome ?_
    | with_reducible exact Moves.optNone
    | with_reducible refine Moves.some (by assumption) ?_
    | with_reducible refine Moves.fst (by assumption) ?_
    | with_reducible refine Moves.snd (by assumption) ?_
    | dsimp +zetaDelta only

theorem execCmdRingWrite_moves {w : Nat} {s u : State} (hw : Within 36527643053884 w) (h : Moves w s u) (c : Sys2Proof.CtxId) (q : Sys2Proof.RingId) (w' : Sys2Proof.W64) :
    Moves.outcome w s (execCmdRingWrite c q w' u) := by
  unfold execCmdRingWrite
  repeat'
    first
    | with_reducible assumption
    | with_reducible exact Moves.fault
    | with_reducible refine Moves.next ?_
    | with_reducible refine State.whereAnswers_moves (Within.trans (by decide : Within 0 36527643053884) hw) ?_ _ _ (fun _ _ => ?_)
    | with_reducible refine State.writeCmdRing_moves (Within.trans (by decide : Within 36527643053884 36527643053884) hw) ?_ _ _ _
    | with_reducible refine Moves.ite ?_ ?_
    | split
    | extract_lets
    | with_reducible refine Moves.getD (Moves.optFindSome (fun _ => ?_)) ?_
    | with_reducible refine Moves.optMap (fun _ => ?_)
    | with_reducible refine Moves.optSndMapSnd ?_
    | with_reducible refine Moves.optSndMap (fun _ => ?_)
    | with_reducible refine Moves.optBind ?_ (fun _ _ => ?_)
    | with_reducible refine Moves.optOf (fun _ => ?_)
    | (with_reducible refine Moves.foldl ?_ (fun _ _ _ => ?_))
    | (with_reducible refine Moves.foldlFst ?_ (fun _ _ _ => ?_))
    | (with_reducible refine Moves.foldr ?_ (fun _ _ _ => ?_))
    | with_reducible refine Moves.optIte ?_ ?_
    | with_reducible refine Moves.foldlOpt ?_ (fun _ _ _ => ?_)
    | with_reducible refine Moves.optSome ?_
    | with_reducible exact Moves.optNone
    | with_reducible refine Moves.some (by assumption) ?_
    | with_reducible refine Moves.fst (by assumption) ?_
    | with_reducible refine Moves.snd (by assumption) ?_
    | dsimp +zetaDelta only

theorem execCplPtrTail_moves {w : Nat} {s u : State} (hw : Within 4 w) (h : Moves w s u) (c : Sys2Proof.CtxId) (tail : Sys2Proof.W32) :
    Moves.outcome w s (execCplPtrTail c tail u) := by
  unfold execCplPtrTail
  repeat'
    first
    | with_reducible assumption
    | with_reducible exact Moves.fault
    | with_reducible refine Moves.next ?_
    | with_reducible refine State.whereAnswers_moves (Within.trans (by decide : Within 0 4) hw) ?_ _ _ (fun _ _ => ?_)
    | with_reducible refine State.writeCplTail_moves (Within.trans (by decide : Within 4 4) hw) ?_ _ _
    | with_reducible refine Moves.ite ?_ ?_
    | split
    | extract_lets
    | with_reducible refine Moves.getD (Moves.optFindSome (fun _ => ?_)) ?_
    | with_reducible refine Moves.optMap (fun _ => ?_)
    | with_reducible refine Moves.optSndMapSnd ?_
    | with_reducible refine Moves.optSndMap (fun _ => ?_)
    | with_reducible refine Moves.optBind ?_ (fun _ _ => ?_)
    | with_reducible refine Moves.optOf (fun _ => ?_)
    | (with_reducible refine Moves.foldl ?_ (fun _ _ _ => ?_))
    | (with_reducible refine Moves.foldlFst ?_ (fun _ _ _ => ?_))
    | (with_reducible refine Moves.foldr ?_ (fun _ _ _ => ?_))
    | with_reducible refine Moves.optIte ?_ ?_
    | with_reducible refine Moves.foldlOpt ?_ (fun _ _ _ => ?_)
    | with_reducible refine Moves.optSome ?_
    | with_reducible exact Moves.optNone
    | with_reducible refine Moves.some (by assumption) ?_
    | with_reducible refine Moves.fst (by assumption) ?_
    | with_reducible refine Moves.snd (by assumption) ?_
    | dsimp +zetaDelta only

theorem State.writeContactTail_moves {w : Nat} {s u : State} (hw : Within 4 w) (h : Moves w s u) (c : Nat) (tail : Nat) :
    Moves w s (State.writeContactTail u c tail) := by
  unfold State.writeContactTail
  repeat'
    first
    | with_reducible assumption
    | with_reducible refine State.setF_moves (Within.trans (by decide : Within 4 4) hw) ?_ _ _ _
    | with_reducible refine Moves.ite ?_ ?_
    | split
    | extract_lets
    | with_reducible refine Moves.getD (Moves.optFindSome (fun _ => ?_)) ?_
    | with_reducible refine Moves.optMap (fun _ => ?_)
    | with_reducible refine Moves.optSndMapSnd ?_
    | with_reducible refine Moves.optSndMap (fun _ => ?_)
    | with_reducible refine Moves.optBind ?_ (fun _ _ => ?_)
    | with_reducible refine Moves.optOf (fun _ => ?_)
    | (with_reducible refine Moves.foldl ?_ (fun _ _ _ => ?_))
    | (with_reducible refine Moves.foldlFst ?_ (fun _ _ _ => ?_))
    | (with_reducible refine Moves.foldr ?_ (fun _ _ _ => ?_))
    | with_reducible refine Moves.optIte ?_ ?_
    | with_reducible refine Moves.foldlOpt ?_ (fun _ _ _ => ?_)
    | with_reducible refine Moves.optSome ?_
    | with_reducible exact Moves.optNone
    | with_reducible refine Moves.some (by assumption) ?_
    | with_reducible refine Moves.fst (by assumption) ?_
    | with_reducible refine Moves.snd (by assumption) ?_
    | dsimp +zetaDelta only

theorem execContactTail_moves {w : Nat} {s u : State} (hw : Within 4 w) (h : Moves w s u) (c : Sys2Proof.CtxId) (tail : Sys2Proof.W32) :
    Moves.outcome w s (execContactTail c tail u) := by
  unfold execContactTail
  repeat'
    first
    | with_reducible assumption
    | with_reducible exact Moves.fault
    | with_reducible refine Moves.next ?_
    | with_reducible refine State.whereAnswers_moves (Within.trans (by decide : Within 0 4) hw) ?_ _ _ (fun _ _ => ?_)
    | with_reducible refine State.writeContactTail_moves (Within.trans (by decide : Within 4 4) hw) ?_ _ _
    | with_reducible refine Moves.ite ?_ ?_
    | split
    | extract_lets
    | with_reducible refine Moves.getD (Moves.optFindSome (fun _ => ?_)) ?_
    | with_reducible refine Moves.optMap (fun _ => ?_)
    | with_reducible refine Moves.optSndMapSnd ?_
    | with_reducible refine Moves.optSndMap (fun _ => ?_)
    | with_reducible refine Moves.optBind ?_ (fun _ _ => ?_)
    | with_reducible refine Moves.optOf (fun _ => ?_)
    | (with_reducible refine Moves.foldl ?_ (fun _ _ _ => ?_))
    | (with_reducible refine Moves.foldlFst ?_ (fun _ _ _ => ?_))
    | (with_reducible refine Moves.foldr ?_ (fun _ _ _ => ?_))
    | with_reducible refine Moves.optIte ?_ ?_
    | with_reducible refine Moves.foldlOpt ?_ (fun _ _ _ => ?_)
    | with_reducible refine Moves.optSome ?_
    | with_reducible exact Moves.optNone
    | with_reducible refine Moves.some (by assumption) ?_
    | with_reducible refine Moves.fst (by assumption) ?_
    | with_reducible refine Moves.snd (by assumption) ?_
    | dsimp +zetaDelta only

end Sys2Proof.Machine
end

