-- ==== Sys2Proof/Laws/ContextCmdsMoves.lean ====
section
/-! SUPPORT. Sys2Proof/Laws/ContextCmdsMoves.lean: what each operation of Machine/ContextCmds.lean can do to the state: the parts it may change, and that it keeps
the canonical form. -/

namespace Sys2Proof.Machine

theorem State.privilegeSet_moves {w : Nat} {s u : State} (hw : Within 32 w) (h : Moves w s u) (cmd : Command) :
    Moves.verdict w s (State.privilegeSet u cmd) := by
  unfold State.privilegeSet
  repeat'
    first
    | with_reducible assumption
    | with_reducible exact Moves.fail
    | with_reducible exact Moves.latch
    | with_reducible refine Moves.done ?_
    | with_reducible refine Moves.await ?_
    | with_reducible refine Moves.park ?_
    | with_reducible refine State.modCtx_moves (Within.trans (by decide : Within 32 32) hw) ?_ _ _
    | with_reducible refine Moves.ite ?_ ?_
    | split
    | extract_lets
    | with_reducible refine Moves.getD (Moves.optFindSome (fun _ => ?_)) ?_
    | with_reducible refine Moves.optMap (fun _ => ?_)
    | with_reducible refine Moves.optSndMapSnd ?_
    | with_reducible refine Moves.optSndMap (fun _ => ?_)
    | with_reducible refine Moves.optBind ?_ (fun _ _ => ?_)
    | with_reducible refine Moves.optOf (fun _ => ?_)
    | (with_reducible refine Moves.foldl ?_ (fun _ _ _ => ?_))
    | (with_reducible refine Moves.foldlFst ?_ (fun _ _ _ => ?_))
    | (with_reducible refine Moves.foldr ?_ (fun _ _ _ => ?_))
    | with_reducible refine Moves.optIte ?_ ?_
    | with_reducible refine Moves.foldlOpt ?_ (fun _ _ _ => ?_)
    | with_reducible refine Moves.optSome ?_
    | with_reducible exact Moves.optNone
    | with_reducible refine Moves.some (by assumption) ?_
    | with_reducible refine Moves.fst (by assumption) ?_
    | with_reducible refine Moves.snd (by assumption) ?_
    | dsimp +zetaDelta only

theorem execPrivilegeSet_moves {w : Nat} {s u : State} (hw : Within 36527643058108 w) (h : Moves w s u) (c : Sys2Proof.CtxId) (q : Sys2Proof.RingId) :
    Moves.outcome w s (execPrivilegeSet c q u) := by
  unfold execPrivilegeSet
  repeat'
    first
    | with_reducible assumption
    | with_reducible exact Moves.fault
    | with_reducible refine Moves.next ?_
    | with_reducible exact Moves.fail
    | with_reducible exact Moves.latch
    | with_reducible refine Moves.done ?_
    | with_reducible refine Moves.await ?_
    | with_reducible refine Moves.park ?_
    | with_reducible refine State.controlRow_moves (Within.trans (by decide : Within 36527643058108 36527643058108) hw) ?_ _ _ _ _ _ (fun _ _ _ => ?_)
    | with_reducible refine State.privilegeSet_moves (Within.trans (by decide : Within 32 36527643058108) hw) ?_ _
    | with_reducible refine Moves.ite ?_ ?_
    | split
    | extract_lets
    | with_reducible refine Moves.getD (Moves.optFindSome (fun _ => ?_)) ?_
    | with_reducible refine Moves.optMap (fun _ => ?_)
    | with_reducible refine Moves.optSndMapSnd ?_
    | with_reducible refine Moves.optSndMap (fun _ => ?_)
    | with_reducible refine Moves.optBind ?_ (fun _ _ => ?_)
    | with_reducible refine Moves.optOf (fun _ => ?_)
    | (with_reducible refine Moves.foldl ?_ (fun _ _ _ => ?_))
    | (with_reducible refine Moves.foldlFst ?_ (fun _ _ _ => ?_))
    | (with_reducible refine Moves.foldr ?_ (fun _ _ _ => ?_))
    | with_reducible refine Moves.optIte ?_ ?_
    | with_reducible refine Moves.foldlOpt ?_ (fun _ _ _ => ?_)
    | with_reducible refine Moves.optSome ?_
    | with_reducible exact Moves.optNone
    | with_reducible refine Moves.some (by assumption) ?_
    | with_reducible refine Moves.fst (by assumption) ?_
    | with_reducible refine Moves.snd (by assumption) ?_
    | dsimp +zetaDelta only

theorem State.placeAt_moves {w : Nat} {s u : State} (hw : Within 32 w) (h : Moves w s u) (c : Nat) (base : Nat) :
    Moves w s (State.placeAt u c base) := by
  unfold State.placeAt
  repeat'
    first
    | with_reducible assumption
    | with_reducible refine State.modCtx_moves (Within.trans (by decide : Within 32 32) hw) ?_ _ _
    | with_reducible refine Moves.ite ?_ ?_
    | split
    | extract_lets
    | with_reducible refine Moves.getD (Moves.optFindSome (fun _ => ?_)) ?_
    | with_reducible refine Moves.optMap (fun _ => ?_)
    | with_reducible refine Moves.optSndMapSnd ?_
    | with_reducible refine Moves.optSndMap (fun _ => ?_)
    | with_reducible refine Moves.optBind ?_ (fun _ _ => ?_)
    | with_reducible refine Moves.optOf (fun _ => ?_)
    | (with_reducible refine Moves.foldl ?_ (fun _ _ _ => ?_))
    | (with_reducible refine Moves.foldlFst ?_ (fun _ _ _ => ?_))
    | (with_reducible refine Moves.foldr ?_ (fun _ _ _ => ?_))
    | with_reducible refine Moves.optIte ?_ ?_
    | with_reducible refine Moves.foldlOpt ?_ (fun _ _ _ => ?_)
    | with_reducible refine Moves.optSome ?_
    | with_reducible exact Moves.optNone
    | with_reducible refine Moves.some (by assumption) ?_
    | with_reducible refine Moves.fst (by assumption) ?_
    | with_reducible refine Moves.snd (by assumption) ?_
    | dsimp +zetaDelta only

theorem State.moveShare_moves {w : Nat} {s u : State} (hw : Within 1073741824 w) (h : Moves w s u) (src : Nat) (dst : Nat) (n : Nat) :
    Moves w s (State.moveShare u src dst n) := by
  unfold State.moveShare
  repeat'
    first
    | with_reducible assumption
    | with_reducible refine Moves.ite ?_ ?_
    | split
    | extract_lets
    | with_reducible refine Moves.getD (Moves.optFindSome (fun _ => ?_)) ?_
    | with_reducible refine Moves.optMap (fun _ => ?_)
    | with_reducible refine Moves.optSndMapSnd ?_
    | with_reducible refine Moves.optSndMap (fun _ => ?_)
    | with_reducible refine Moves.optBind ?_ (fun _ _ => ?_)
    | with_reducible refine Moves.optOf (fun _ => ?_)
    | (with_reducible refine Moves.foldl ?_ (fun _ _ _ => ?_))
    | (with_reducible refine Moves.foldlFst ?_ (fun _ _ _ => ?_))
    | (with_reducible refine Moves.foldr ?_ (fun _ _ _ => ?_))
    | with_reducible refine Moves.optIte ?_ ?_
    | with_reducible refine Moves.foldlOpt ?_ (fun _ _ _ => ?_)
    | with_reducible refine Moves.optSome ?_
    | with_reducible exact Moves.optNone
    | with_reducible refine Moves.some (by assumption) ?_
    | with_reducible refine Moves.fst (by assumption) ?_
    | with_reducible refine Moves.snd (by assumption) ?_
    | dsimp +zetaDelta only
    | with_reducible refine State.modRegion_moves ?_ (fun _ => ?_)
    | with_reducible refine RM.ite ?_ ?_
    | with_reducible exact RM.refl _ _
    | exact ⟨⟨.rfl, .rfl, .rfl, .rfl, .of hw (by decide)⟩, .same, .same, .same, .same, .rfl, by first | with_reducible exact id | exact fun k => Memory.wf_write k _ _ | exact fun k => Memory.wf_clear k _ _ | exact fun k => Memory.wf_write (Memory.wf_clear k _ _) _ _⟩

theorem State.moveDown_moves {w : Nat} {s u : State} (hw : Within 1073741856 w) (h : Moves w s u) (c : Nat) (a : Nat) (n : Nat) (x4 : Option Nat) :
    Moves w s (State.moveDown u c a n x4) := by
  unfold State.moveDown
  repeat'
    first
    | with_reducible assumption
    | with_reducible refine State.placeAt_moves (Within.trans (by decide : Within 32 1073741856) hw) ?_ _ _
    | with_reducible refine State.moveShare_moves (Within.trans (by decide : Within 1073741824 1073741856) hw) ?_ _ _ _
    | with_reducible refine Moves.ite ?_ ?_
    | split
    | extract_lets
    | with_reducible refine Moves.getD (Moves.optFindSome (fun _ => ?_)) ?_
    | with_reducible refine Moves.optMap (fun _ => ?_)
    | with_reducible refine Moves.optSndMapSnd ?_
    | with_reducible refine Moves.optSndMap (fun _ => ?_)
    | with_reducible refine Moves.optBind ?_ (fun _ _ => ?_)
    | with_reducible refine Moves.optOf (fun _ => ?_)
    | (with_reducible refine Moves.foldl ?_ (fun _ _ _ => ?_))
    | (with_reducible refine Moves.foldlFst ?_ (fun _ _ _ => ?_))
    | (with_reducible refine Moves.foldr ?_ (fun _ _ _ => ?_))
    | with_reducible refine Moves.optIte ?_ ?_
    | with_reducible refine Moves.foldlOpt ?_ (fun _ _ _ => ?_)
    | with_reducible refine Moves.optSome ?_
    | with_reducible exact Moves.optNone
    | with_reducible refine Moves.some (by assumption) ?_
    | with_reducible refine Moves.fst (by assumption) ?_
    | with_reducible refine Moves.snd (by assumption) ?_
    | dsimp +zetaDelta only

theorem State.compact_moves {w : Nat} {s u : State} (hw : Within 1073741856 w) (h : Moves w s u)  :
    Moves w s (State.compact u) := by
  unfold State.compact
  repeat'
    first
    | with_reducible assumption
    | with_reducible refine State.moveDown_moves (Within.trans (by decide : Within 1073741856 1073741856) hw) ?_ _ _ _ _
    | with_reducible refine Moves.ite ?_ ?_
    | split
    | extract_lets
    | with_reducible refine Moves.getD (Moves.optFindSome (fun _ => ?_)) ?_
    | with_reducible refine Moves.optMap (fun _ => ?_)
    | with_reducible refine Moves.optSndMapSnd ?_
    | with_reducible refine Moves.optSndMap (fun _ => ?_)
    | with_reducible refine Moves.optBind ?_ (fun _ _ => ?_)
    | with_reducible refine Moves.optOf (fun _ => ?_)
    | (with_reducible refine Moves.foldl ?_ (fun _ _ _ => ?_))
    | (with_reducible refine Moves.foldlFst ?_ (fun _ _ _ => ?_))
    | (with_reducible refine Moves.foldr ?_ (fun _ _ _ => ?_))
    | with_reducible refine Moves.optIte ?_ ?_
    | with_reducible refine Moves.foldlOpt ?_ (fun _ _ _ => ?_)
    | with_reducible refine Moves.optSome ?_
    | with_reducible exact Moves.optNone
    | with_reducible refine Moves.some (by assumption) ?_
    | with_reducible refine Moves.fst (by assumption) ?_
    | with_reducible refine Moves.snd (by assumption) ?_
    | dsimp +zetaDelta only

theorem State.placeFound_moves {w : Nat} {s u : State} (hw : Within 32 w) (h : Moves w s u) (c : Nat) (x2 : Option Nat) :
    Moves w s (State.placeFound u c x2) := by
  unfold State.placeFound
  repeat'
    first
    | with_reducible assumption
    | with_reducible refine State.modCtx_moves (Within.trans (by decide : Within 32 32) hw) ?_ _ _
    | with_reducible refine State.placeAt_moves (Within.trans (by decide : Within 32 32) hw) ?_ _ _
    | with_reducible refine Moves.ite ?_ ?_
    | split
    | extract_lets
    | with_reducible refine Moves.getD (Moves.optFindSome (fun _ => ?_)) ?_
    | with_reducible refine Moves.optMap (fun _ => ?_)
    | with_reducible refine Moves.optSndMapSnd ?_
    | with_reducible refine Moves.optSndMap (fun _ => ?_)
    | with_reducible refine Moves.optBind ?_ (fun _ _ => ?_)
    | with_reducible refine Moves.optOf (fun _ => ?_)
    | (with_reducible refine Moves.foldl ?_ (fun _ _ _ => ?_))
    | (with_reducible refine Moves.foldlFst ?_ (fun _ _ _ => ?_))
    | (with_reducible refine Moves.foldr ?_ (fun _ _ _ => ?_))
    | with_reducible refine Moves.optIte ?_ ?_
    | with_reducible refine Moves.foldlOpt ?_ (fun _ _ _ => ?_)
    | with_reducible refine Moves.optSome ?_
    | with_reducible exact Moves.optNone
    | with_reducible refine Moves.some (by assumption) ?_
    | with_reducible refine Moves.fst (by assumption) ?_
    | with_reducible refine Moves.snd (by assumption) ?_
    | dsimp +zetaDelta only

theorem State.madeRoom_moves {w : Nat} {s u : State} (hw : Within 1073741856 w) (h : Moves w s u) (c : Nat) :
    Moves w s (State.madeRoom u c) := by
  unfold State.madeRoom
  repeat'
    first
    | with_reducible assumption
    | with_reducible refine State.compact_moves (Within.trans (by decide : Within 1073741856 1073741856) hw) ?_
    | with_reducible refine Moves.ite ?_ ?_
    | split
    | extract_lets
    | with_reducible refine Moves.getD (Moves.optFindSome (fun _ => ?_)) ?_
    | with_reducible refine Moves.optMap (fun _ => ?_)
    | with_reducible refine Moves.optSndMapSnd ?_
    | with_reducible refine Moves.optSndMap (fun _ => ?_)
    | with_reducible refine Moves.optBind ?_ (fun _ _ => ?_)
    | with_reducible refine Moves.optOf (fun _ => ?_)
    | (with_reducible refine Moves.foldl ?_ (fun _ _ _ => ?_))
    | (with_reducible refine Moves.foldlFst ?_ (fun _ _ _ => ?_))
    | (with_reducible refine Moves.foldr ?_ (fun _ _ _ => ?_))
    | with_reducible refine Moves.optIte ?_ ?_
    | with_reducible refine Moves.foldlOpt ?_ (fun _ _ _ => ?_)
    | with_reducible refine Moves.optSome ?_
    | with_reducible exact Moves.optNone
    | with_reducible refine Moves.some (by assumption) ?_
    | with_reducible refine Moves.fst (by assumption) ?_
    | with_reducible refine Moves.snd (by assumption) ?_
    | dsimp +zetaDelta only

theorem State.placeShare_moves {w : Nat} {s u : State} (hw : Within 1073741856 w) (h : Moves w s u) (c : Nat) :
    Moves w s (State.placeShare u c) := by
  unfold State.placeShare
  repeat'
    first
    | with_reducible assumption
    | with_reducible refine State.placeFound_moves (Within.trans (by decide : Within 32 1073741856) hw) ?_ _ _
    | with_reducible refine State.madeRoom_moves (Within.trans (by decide : Within 1073741856 1073741856) hw) ?_ _
    | with_reducible refine Moves.ite ?_ ?_
    | split
    | extract_lets
    | with_reducible refine Moves.getD (Moves.optFindSome (fun _ => ?_)) ?_
    | with_reducible refine Moves.optMap (fun _ => ?_)
    | with_reducible refine Moves.optSndMapSnd ?_
    | with_reducible refine Moves.optSndMap (fun _ => ?_)
    | with_reducible refine Moves.optBind ?_ (fun _ _ => ?_)
    | with_reducible refine Moves.optOf (fun _ => ?_)
    | (with_reducible refine Moves.foldl ?_ (fun _ _ _ => ?_))
    | (with_reducible refine Moves.foldlFst ?_ (fun _ _ _ => ?_))
    | (with_reducible refine Moves.foldr ?_ (fun _ _ _ => ?_))
    | with_reducible refine Moves.optIte ?_ ?_
    | with_reducible refine Moves.foldlOpt ?_ (fun _ _ _ => ?_)
    | with_reducible refine Moves.optSome ?_
    | with_reducible exact Moves.optNone
    | with_reducible refine Moves.some (by assumption) ?_
    | with_reducible refine Moves.fst (by assumption) ?_
    | with_reducible refine Moves.snd (by assumption) ?_
    | dsimp +zetaDelta only

theorem State.resetContact_moves {w : Nat} {s u : State} (hw : Within 12 w) (h : Moves w s u) (c : Nat) :
    Moves w s (State.resetContact u c) := by
  unfold State.resetContact
  repeat'
    first
    | with_reducible assumption
    | with_reducible refine State.resetRegs_moves (Within.trans (by decide : Within 12 12) hw) ?_ _
    | with_reducible refine Moves.ite ?_ ?_
    | split
    | extract_lets
    | with_reducible refine Moves.getD (Moves.optFindSome (fun _ => ?_)) ?_
    | with_reducible refine Moves.optMap (fun _ => ?_)
    | with_reducible refine Moves.optSndMapSnd ?_
    | with_reducible refine Moves.optSndMap (fun _ => ?_)
    | with_reducible refine Moves.optBind ?_ (fun _ _ => ?_)
    | with_reducible refine Moves.optOf (fun _ => ?_)
    | (with_reducible refine Moves.foldl ?_ (fun _ _ _ => ?_))
    | (with_reducible refine Moves.foldlFst ?_ (fun _ _ _ => ?_))
    | (with_reducible refine Moves.foldr ?_ (fun _ _ _ => ?_))
    | with_reducible refine Moves.optIte ?_ ?_
    | with_reducible refine Moves.foldlOpt ?_ (fun _ _ _ => ?_)
    | with_reducible refine Moves.optSome ?_
    | with_reducible exact Moves.optNone
    | with_reducible refine Moves.some (by assumption) ?_
    | with_reducible refine Moves.fst (by assumption) ?_
    | with_reducible refine Moves.snd (by assumption) ?_
    | dsimp +zetaDelta only

theorem State.resetRing_moves {w : Nat} {s u : State} (hw : Within 12 w) (h : Moves w s u) (c : Nat) :
    Moves w s (State.resetRing u c) := by
  unfold State.resetRing
  repeat'
    first
    | with_reducible assumption
    | with_reducible refine State.resetRegs_moves (Within.trans (by decide : Within 12 12) hw) ?_ _
    | with_reducible refine Moves.ite ?_ ?_
    | split
    | extract_lets
    | with_reducible refine Moves.getD (Moves.optFindSome (fun _ => ?_)) ?_
    | with_reducible refine Moves.optMap (fun _ => ?_)
    | with_reducible refine Moves.optSndMapSnd ?_
    | with_reducible refine Moves.optSndMap (fun _ => ?_)
    | with_reducible refine Moves.optBind ?_ (fun _ _ => ?_)
    | with_reducible refine Moves.optOf (fun _ => ?_)
    | (with_reducible refine Moves.foldl ?_ (fun _ _ _ => ?_))
    | (with_reducible refine Moves.foldlFst ?_ (fun _ _ _ => ?_))
    | (with_reducible refine Moves.foldr ?_ (fun _ _ _ => ?_))
    | with_reducible refine Moves.optIte ?_ ?_
    | with_reducible refine Moves.foldlOpt ?_ (fun _ _ _ => ?_)
    | with_reducible refine Moves.optSome ?_
    | with_reducible exact Moves.optNone
    | with_reducible refine Moves.some (by assumption) ?_
    | with_reducible refine Moves.fst (by assumption) ?_
    | with_reducible refine Moves.snd (by assumption) ?_
    | dsimp +zetaDelta only

theorem State.resetEvents_moves {w : Nat} {s u : State} (hw : Within 64 w) (h : Moves w s u) (c : Nat) :
    Moves w s (State.resetEvents u c) := by
  unfold State.resetEvents
  repeat'
    first
    | with_reducible assumption
    | with_reducible refine Moves.ite ?_ ?_
    | split
    | extract_lets
    | with_reducible refine Moves.getD (Moves.optFindSome (fun _ => ?_)) ?_
    | with_reducible refine Moves.optMap (fun _ => ?_)
    | with_reducible refine Moves.optSndMapSnd ?_
    | with_reducible refine Moves.optSndMap (fun _ => ?_)
    | with_reducible refine Moves.optBind ?_ (fun _ _ => ?_)
    | with_reducible refine Moves.optOf (fun _ => ?_)
    | (with_reducible refine Moves.foldl ?_ (fun _ _ _ => ?_))
    | (with_reducible refine Moves.foldlFst ?_ (fun _ _ _ => ?_))
    | (with_reducible refine Moves.foldr ?_ (fun _ _ _ => ?_))
    | with_reducible refine Moves.optIte ?_ ?_
    | with_reducible refine Moves.foldlOpt ?_ (fun _ _ _ => ?_)
    | with_reducible refine Moves.optSome ?_
    | with_reducible exact Moves.optNone
    | with_reducible refine Moves.some (by assumption) ?_
    | with_reducible refine Moves.fst (by assumption) ?_
    | with_reducible refine Moves.snd (by assumption) ?_
    | dsimp +zetaDelta only
    | with_reducible refine Moves.upd ?_ rfl ⟨rfl, rfl, .same, ⟨.of hw (by decide), .rfl, .rfl, .rfl, .rfl⟩, .same, .same, .same⟩ ⟨id, id, id, (by first | with_reducible exact id | exact fun k => Tab.sorted_set k _ _ | exact fun k => Tab.sorted_filter k _ | exact fun k => Tab.sorted_erase k _ | exact fun k => Tab.sorted_map k _ (fun _ => by first | rfl | (split <;> rfl)) | exact fun _ => .nil), id, id, id⟩

theorem State.renewCtx_moves {w : Nat} {s u : State} (hw : Within 108 w) (h : Moves w s u) (c : Nat) (rec : Sys2Proof.Bytes) :
    Moves w s (State.renewCtx u c rec) := by
  unfold State.renewCtx
  repeat'
    first
    | with_reducible assumption
    | with_reducible refine State.modCtx_moves (Within.trans (by decide : Within 32 108) hw) ?_ _ _
    | with_reducible refine State.clearSources_moves (Within.trans (by decide : Within 4 108) hw) ?_ _
    | with_reducible refine State.resetContact_moves (Within.trans (by decide : Within 12 108) hw) ?_ _
    | with_reducible refine State.resetRing_moves (Within.trans (by decide : Within 12 108) hw) ?_ _
    | with_reducible refine State.resetEvents_moves (Within.trans (by decide : Within 64 108) hw) ?_ _
    | with_reducible refine Moves.ite ?_ ?_
    | split
    | extract_lets
    | with_reducible refine Moves.getD (Moves.optFindSome (fun _ => ?_)) ?_
    | with_reducible refine Moves.optMap (fun _ => ?_)
    | with_reducible refine Moves.optSndMapSnd ?_
    | with_reducible refine Moves.optSndMap (fun _ => ?_)
    | with_reducible refine Moves.optBind ?_ (fun _ _ => ?_)
    | with_reducible refine Moves.optOf (fun _ => ?_)
    | (with_reducible refine Moves.foldl ?_ (fun _ _ _ => ?_))
    | (with_reducible refine Moves.foldlFst ?_ (fun _ _ _ => ?_))
    | (with_reducible refine Moves.foldr ?_ (fun _ _ _ => ?_))
    | with_reducible refine Moves.optIte ?_ ?_
    | with_reducible refine Moves.foldlOpt ?_ (fun _ _ _ => ?_)
    | with_reducible refine Moves.optSome ?_
    | with_reducible exact Moves.optNone
    | with_reducible refine Moves.some (by assumption) ?_
    | with_reducible refine Moves.fst (by assumption) ?_
    | with_reducible refine Moves.snd (by assumption) ?_
    | dsimp +zetaDelta only

theorem State.openCtx_moves {w : Nat} {s u : State} (hw : Within 1073741932 w) (h : Moves w s u) (c : Nat) (rec : Sys2Proof.Bytes) :
    Moves w s (State.openCtx u c rec) := by
  unfold State.openCtx
  repeat'
    first
    | with_reducible assumption
    | with_reducible refine State.placeShare_moves (Within.trans (by decide : Within 1073741856 1073741932) hw) ?_ _
    | with_reducible refine State.renewCtx_moves (Within.trans (by decide : Within 108 1073741932) hw) ?_ _ _
    | with_reducible refine Moves.ite ?_ ?_
    | split
    | extract_lets
    | with_reducible refine Moves.getD (Moves.optFindSome (fun _ => ?_)) ?_
    | with_reducible refine Moves.optMap (fun _ => ?_)
    | with_reducible refine Moves.optSndMapSnd ?_
    | with_reducible refine Moves.optSndMap (fun _ => ?_)
    | with_reducible refine Moves.optBind ?_ (fun _ _ => ?_)
    | with_reducible refine Moves.optOf (fun _ => ?_)
    | (with_reducible refine Moves.foldl ?_ (fun _ _ _ => ?_))
    | (with_reducible refine Moves.foldlFst ?_ (fun _ _ _ => ?_))
    | (with_reducible refine Moves.foldr ?_ (fun _ _ _ => ?_))
    | with_reducible refine Moves.optIte ?_ ?_
    | with_reducible refine Moves.foldlOpt ?_ (fun _ _ _ => ?_)
    | with_reducible refine Moves.optSome ?_
    | with_reducible exact Moves.optNone
    | with_reducible refine Moves.some (by assumption) ?_
    | with_reducible refine Moves.fst (by assumption) ?_
    | with_reducible refine Moves.snd (by assumption) ?_
    | dsimp +zetaDelta only

theorem State.contextOpen_moves {w : Nat} {s u : State} (hw : Within 1073741932 w) (h : Moves w s u) (cmd : Command) :
    Moves.verdict w s (State.contextOpen u cmd) := by
  unfold State.contextOpen
  repeat'
    first
    | with_reducible assumption
    | with_reducible exact Moves.fail
    | with_reducible exact Moves.latch
    | with_reducible refine Moves.done ?_
    | with_reducible refine Moves.await ?_
    | with_reducible refine Moves.park ?_
    | with_reducible refine State.openCtx_moves (Within.trans (by decide : Within 1073741932 1073741932) hw) ?_ _ _
    | with_reducible refine Moves.ite ?_ ?_
    | split
    | extract_lets
    | with_reducible refine Moves.getD (Moves.optFindSome (fun _ => ?_)) ?_
    | with_reducible refine Moves.optMap (fun _ => ?_)
    | with_reducible refine Moves.optSndMapSnd ?_
    | with_reducible refine Moves.optSndMap (fun _ => ?_)
    | with_reducible refine Moves.optBind ?_ (fun _ _ => ?_)
    | with_reducible refine Moves.optOf (fun _ => ?_)
    | (with_reducible refine Moves.foldl ?_ (fun _ _ _ => ?_))
    | (with_reducible refine Moves.foldlFst ?_ (fun _ _ _ => ?_))
    | (with_reducible refine Moves.foldr ?_ (fun _ _ _ => ?_))
    | with_reducible refine Moves.optIte ?_ ?_
    | with_reducible refine Moves.foldlOpt ?_ (fun _ _ _ => ?_)
    | with_reducible refine Moves.optSome ?_
    | with_reducible exact Moves.optNone
    | with_reducible refine Moves.some (by assumption) ?_
    | with_reducible refine Moves.fst (by assumption) ?_
    | with_reducible refine Moves.snd (by assumption) ?_
    | dsimp +zetaDelta only

theorem State.releaseAwaits_moves {w : Nat} {s u : State} (hw : Within 3072 w) (h : Moves w s u)  :
    Moves w s (State.releaseAwaits u) := by
  unfold State.releaseAwaits
  repeat'
    first
    | with_reducible assumption
    | with_reducible refine State.ends_moves (Within.trans (by decide : Within 1024 3072) hw) ?_ _
    | with_reducible refine Moves.ite ?_ ?_
    | split
    | extract_lets
    | with_reducible refine Moves.getD (Moves.optFindSome (fun _ => ?_)) ?_
    | with_reducible refine Moves.optMap (fun _ => ?_)
    | with_reducible refine Moves.optSndMapSnd ?_
    | with_reducible refine Moves.optSndMap (fun _ => ?_)
    | with_reducible refine Moves.optBind ?_ (fun _ _ => ?_)
    | with_reducible refine Moves.optOf (fun _ => ?_)
    | (with_reducible refine Moves.foldl ?_ (fun _ _ _ => ?_))
    | (with_reducible refine Moves.foldlFst ?_ (fun _ _ _ => ?_))
    | (with_reducible refine Moves.foldr ?_ (fun _ _ _ => ?_))
    | with_reducible refine Moves.optIte ?_ ?_
    | with_reducible refine Moves.foldlOpt ?_ (fun _ _ _ => ?_)
    | with_reducible refine Moves.optSome ?_
    | with_reducible exact Moves.optNone
    | with_reducible refine Moves.some (by assumption) ?_
    | with_reducible refine Moves.fst (by assumption) ?_
    | with_reducible refine Moves.snd (by assumption) ?_
    | dsimp +zetaDelta only
    | with_reducible refine Moves.upd ?_ rfl ⟨rfl, rfl, .same, .same, ⟨.of hw (by decide), .rfl, .rfl, .rfl, .rfl⟩, .same, .same⟩ ⟨id, id, id, id, id, id, id⟩

theorem State.putEntries_moves {w : Nat} {s u : State} (hw : Within 32 w) (h : Moves w s u) (e : Ended) :
    Moves w s (State.putEntries u e) := by
  unfold State.putEntries
  repeat'
    first
    | with_reducible assumption
    | with_reducible refine State.modCtx_moves (Within.trans (by decide : Within 32 32) hw) ?_ _ _
    | with_reducible refine Moves.ite ?_ ?_
    | split
    | extract_lets
    | with_reducible refine Moves.getD (Moves.optFindSome (fun _ => ?_)) ?_
    | with_reducible refine Moves.optMap (fun _ => ?_)
    | with_reducible refine Moves.optSndMapSnd ?_
    | with_reducible refine Moves.optSndMap (fun _ => ?_)
    | with_reducible refine Moves.optBind ?_ (fun _ _ => ?_)
    | with_reducible refine Moves.optOf (fun _ => ?_)
    | (with_reducible refine Moves.foldl ?_ (fun _ _ _ => ?_))
    | (with_reducible refine Moves.foldlFst ?_ (fun _ _ _ => ?_))
    | (with_reducible refine Moves.foldr ?_ (fun _ _ _ => ?_))
    | with_reducible refine Moves.optIte ?_ ?_
    | with_reducible refine Moves.foldlOpt ?_ (fun _ _ _ => ?_)
    | with_reducible refine Moves.optSome ?_
    | with_reducible exact Moves.optNone
    | with_reducible refine Moves.some (by assumption) ?_
    | with_reducible refine Moves.fst (by assumption) ?_
    | with_reducible refine Moves.snd (by assumption) ?_
    | dsimp +zetaDelta only

theorem State.closeCtx_moves {w : Nat} {s u : State} (hw : Within 8300 w) (h : Moves w s u) (c : Nat) :
    Moves w s (State.closeCtx u c) := by
  unfold State.closeCtx
  repeat'
    first
    | with_reducible assumption
    | with_reducible refine State.resetContact_moves (Within.trans (by decide : Within 12 8300) hw) ?_ _
    | with_reducible refine State.resetEvents_moves (Within.trans (by decide : Within 64 8300) hw) ?_ _
    | with_reducible refine Moves.ite ?_ ?_
    | split
    | extract_lets
    | with_reducible refine Moves.getD (Moves.optFindSome (fun _ => ?_)) ?_
    | with_reducible refine Moves.optMap (fun _ => ?_)
    | with_reducible refine Moves.optSndMapSnd ?_
    | with_reducible refine Moves.optSndMap (fun _ => ?_)
    | with_reducible refine Moves.optBind ?_ (fun _ _ => ?_)
    | with_reducible refine Moves.optOf (fun _ => ?_)
    | (with_reducible refine Moves.foldl ?_ (fun _ _ _ => ?_))
    | (with_reducible refine Moves.foldlFst ?_ (fun _ _ _ => ?_))
    | (with_reducible refine Moves.foldr ?_ (fun _ _ _ => ?_))
    | with_reducible refine Moves.optIte ?_ ?_
    | with_reducible refine Moves.foldlOpt ?_ (fun _ _ _ => ?_)
    | with_reducible refine Moves.optSome ?_
    | with_reducible exact Moves.optNone
    | with_reducible refine Moves.some (by assumption) ?_
    | with_reducible refine Moves.fst (by assumption) ?_
    | with_reducible refine Moves.snd (by assumption) ?_
    | dsimp +zetaDelta only
    | with_reducible refine Moves.upd ?_ rfl ⟨rfl, rfl, ⟨.rfl, .rfl, .rfl, .rfl, .of hw (by decide)⟩, .same, ⟨.rfl, .rfl, .of hw (by decide), .rfl, .rfl⟩, .same, .same⟩ ⟨id, id, (by first | with_reducible exact id | exact fun k => Tab.sorted_set k _ _ | exact fun k => Tab.sorted_filter k _ | exact fun k => Tab.sorted_erase k _ | exact fun k => Tab.sorted_map k _ (fun _ => by first | rfl | (split <;> rfl)) | exact fun _ => .nil), id, (by first | with_reducible exact id | exact fun k => Tab.sorted_set k _ _ | exact fun k => Tab.sorted_filter k _ | exact fun k => Tab.sorted_erase k _ | exact fun k => Tab.sorted_map k _ (fun _ => by first | rfl | (split <;> rfl)) | exact fun _ => .nil), id, id⟩

theorem execContextOpen_moves {w : Nat} {s u : State} (hw : Within 36527643058172 w) (h : Moves w s u) (c : Sys2Proof.CtxId) (q : Sys2Proof.RingId) :
    Moves.outcome w s (execContextOpen c q u) := by
  unfold execContextOpen
  repeat'
    first
    | with_reducible assumption
    | with_reducible exact Moves.fault
    | with_reducible refine Moves.next ?_
    | with_reducible exact Moves.fail
    | with_reducible exact Moves.latch
    | with_reducible refine Moves.done ?_
    | with_reducible refine Moves.await ?_
    | with_reducible refine Moves.park ?_
    | with_reducible refine State.controlRow_moves (Within.trans (by decide : Within 36527643058108 36527643058172) hw) ?_ _ _ _ _ _ (fun _ _ _ => ?_)
    | with_reducible refine State.contextOpen_moves (Within.trans (by decide : Within 1073741932 36527643058172) hw) ?_ _
    | with_reducible refine Moves.ite ?_ ?_
    | split
    | extract_lets
    | with_reducible refine Moves.getD (Moves.optFindSome (fun _ => ?_)) ?_
    | with_reducible refine Moves.optMap (fun _ => ?_)
    | with_reducible refine Moves.optSndMapSnd ?_
    | with_reducible refine Moves.optSndMap (fun _ => ?_)
    | with_reducible refine Moves.optBind ?_ (fun _ _ => ?_)
    | with_reducible refine Moves.optOf (fun _ => ?_)
    | (with_reducible refine Moves.foldl ?_ (fun _ _ _ => ?_))
    | (with_reducible refine Moves.foldlFst ?_ (fun _ _ _ => ?_))
    | (with_reducible refine Moves.foldr ?_ (fun _ _ _ => ?_))
    | with_reducible refine Moves.optIte ?_ ?_
    | with_reducible refine Moves.foldlOpt ?_ (fun _ _ _ => ?_)
    | with_reducible refine Moves.optSome ?_
    | with_reducible exact Moves.optNone
    | with_reducible refine Moves.some (by assumption) ?_
    | with_reducible refine Moves.fst (by assumption) ?_
    | with_reducible refine Moves.snd (by assumption) ?_
    | dsimp +zetaDelta only

theorem State.applyShare_moves {w : Nat} {s u : State} (hw : Within 1073741856 w) (h : Moves w s u) (c : Nat) (rec : Sys2Proof.Bytes) :
    Moves w s (State.applyShare u c rec) := by
  unfold State.applyShare
  repeat'
    first
    | with_reducible assumption
    | with_reducible refine State.modCtx_moves (Within.trans (by decide : Within 32 1073741856) hw) ?_ _ _
    | with_reducible refine State.placeShare_moves (Within.trans (by decide : Within 1073741856 1073741856) hw) ?_ _
    | with_reducible refine Moves.ite ?_ ?_
    | split
    | extract_lets
    | with_reducible refine Moves.getD (Moves.optFindSome (fun _ => ?_)) ?_
    | with_reducible refine Moves.optMap (fun _ => ?_)
    | with_reducible refine Moves.optSndMapSnd ?_
    | with_reducible refine Moves.optSndMap (fun _ => ?_)
    | with_reducible refine Moves.optBind ?_ (fun _ _ => ?_)
    | with_reducible refine Moves.optOf (fun _ => ?_)
    | (with_reducible refine Moves.foldl ?_ (fun _ _ _ => ?_))
    | (with_reducible refine Moves.foldlFst ?_ (fun _ _ _ => ?_))
    | (with_reducible refine Moves.foldr ?_ (fun _ _ _ => ?_))
    | with_reducible refine Moves.optIte ?_ ?_
    | with_reducible refine Moves.foldlOpt ?_ (fun _ _ _ => ?_)
    | with_reducible refine Moves.optSome ?_
    | with_reducible exact Moves.optNone
    | with_reducible refine Moves.some (by assumption) ?_
    | with_reducible refine Moves.fst (by assumption) ?_
    | with_reducible refine Moves.snd (by assumption) ?_
    | dsimp +zetaDelta only

theorem execShareApply_moves {w : Nat} {s u : State} (hw : Within 1073741856 w) (h : Moves w s u) (c : Sys2Proof.CtxId) :
    Moves.outcome w s (execShareApply c u) := by
  unfold execShareApply
  repeat'
    first
    | with_reducible assumption
    | with_reducible exact Moves.fault
    | with_reducible refine Moves.next ?_
    | with_reducible refine State.applyShare_moves (Within.trans (by decide : Within 1073741856 1073741856) hw) ?_ _ _
    | with_reducible refine Moves.ite ?_ ?_
    | split
    | extract_lets
    | with_reducible refine Moves.getD (Moves.optFindSome (fun _ => ?_)) ?_
    | with_reducible refine Moves.optMap (fun _ => ?_)
    | with_reducible refine Moves.optSndMapSnd ?_
    | with_reducible refine Moves.optSndMap (fun _ => ?_)
    | with_reducible refine Moves.optBind ?_ (fun _ _ => ?_)
    | with_reducible refine Moves.optOf (fun _ => ?_)
    | (with_reducible refine Moves.foldl ?_ (fun _ _ _ => ?_))
    | (with_reducible refine Moves.foldlFst ?_ (fun _ _ _ => ?_))
    | (with_reducible refine Moves.foldr ?_ (fun _ _ _ => ?_))
    | with_reducible refine Moves.optIte ?_ ?_
    | with_reducible refine Moves.foldlOpt ?_ (fun _ _ _ => ?_)
    | with_reducible refine Moves.optSome ?_
    | with_reducible exact Moves.optNone
    | with_reducible refine Moves.some (by assumption) ?_
    | with_reducible refine Moves.fst (by assumption) ?_
    | with_reducible refine Moves.snd (by assumption) ?_
    | dsimp +zetaDelta only

theorem State.contextKill_moves {w : Nat} {s u : State} (hw : Within 36527643053884 w) (h : Moves w s u) (cmd : Command) :
    Moves.verdict w s (State.contextKill u cmd) := by
  unfold State.contextKill
  repeat'
    first
    | with_reducible assumption
    | with_reducible exact Moves.fail
    | with_reducible exact Moves.latch
    | with_reducible refine Moves.done ?_
    | with_reducible refine Moves.await ?_
    | with_reducible refine Moves.park ?_
    | with_reducible refine State.startTeardown_moves (Within.trans (by decide : Within 36527643053884 36527643053884) hw) ?_ _ _ _
    | with_reducible refine Moves.ite ?_ ?_
    | split
    | extract_lets
    | with_reducible refine Moves.getD (Moves.optFindSome (fun _ => ?_)) ?_
    | with_reducible refine Moves.optMap (fun _ => ?_)
    | with_reducible refine Moves.optSndMapSnd ?_
    | with_reducible refine Moves.optSndMap (fun _ => ?_)
    | with_reducible refine Moves.optBind ?_ (fun _ _ => ?_)
    | with_reducible refine Moves.optOf (fun _ => ?_)
    | (with_reducible refine Moves.foldl ?_ (fun _ _ _ => ?_))
    | (with_reducible refine Moves.foldlFst ?_ (fun _ _ _ => ?_))
    | (with_reducible refine Moves.foldr ?_ (fun _ _ _ => ?_))
    | with_reducible refine Moves.optIte ?_ ?_
    | with_reducible refine Moves.foldlOpt ?_ (fun _ _ _ => ?_)
    | with_reducible refine Moves.optSome ?_
    | with_reducible exact Moves.optNone
    | with_reducible refine Moves.some (by assumption) ?_
    | with_reducible refine Moves.fst (by assumption) ?_
    | with_reducible refine Moves.snd (by assumption) ?_
    | dsimp +zetaDelta only

theorem execContextKill_moves {w : Nat} {s u : State} (hw : Within 36527643058108 w) (h : Moves w s u) (c : Sys2Proof.CtxId) (q : Sys2Proof.RingId) :
    Moves.outcome w s (execContextKill c q u) := by
  unfold execContextKill
  repeat'
    first
    | with_reducible assumption
    | with_reducible exact Moves.fault
    | with_reducible refine Moves.next ?_
    | with_reducible exact Moves.fail
    | with_reducible exact Moves.latch
    | with_reducible refine Moves.done ?_
    | with_reducible refine Moves.await ?_
    | with_reducible refine Moves.park ?_
    | with_reducible refine State.controlRow_moves (Within.trans (by decide : Within 36527643058108 36527643058108) hw) ?_ _ _ _ _ _ (fun _ _ _ => ?_)
    | with_reducible refine State.contextKill_moves (Within.trans (by decide : Within 36527643053884 36527643058108) hw) ?_ _
    | with_reducible refine Moves.ite ?_ ?_
    | split
    | extract_lets
    | with_reducible refine Moves.getD (Moves.optFindSome (fun _ => ?_)) ?_
    | with_reducible refine Moves.optMap (fun _ => ?_)
    | with_reducible refine Moves.optSndMapSnd ?_
    | with_reducible refine Moves.optSndMap (fun _ => ?_)
    | with_reducible refine Moves.optBind ?_ (fun _ _ => ?_)
    | with_reducible refine Moves.optOf (fun _ => ?_)
    | (with_reducible refine Moves.foldl ?_ (fun _ _ _ => ?_))
    | (with_reducible refine Moves.foldlFst ?_ (fun _ _ _ => ?_))
    | (with_reducible refine Moves.foldr ?_ (fun _ _ _ => ?_))
    | with_reducible refine Moves.optIte ?_ ?_
    | with_reducible refine Moves.foldlOpt ?_ (fun _ _ _ => ?_)
    | with_reducible refine Moves.optSome ?_
    | with_reducible exact Moves.optNone
    | with_reducible refine Moves.some (by assumption) ?_
    | with_reducible refine Moves.fst (by assumption) ?_
    | with_reducible refine Moves.snd (by assumption) ?_
    | dsimp +zetaDelta only

theorem State.shareSet_moves {w : Nat} {s u : State} (hw : Within 32 w) (h : Moves w s u) (cmd : Command) :
    Moves.verdict w s (State.shareSet u cmd) := by
  unfold State.shareSet
  repeat'
    first
    | with_reducible assumption
    | with_reducible exact Moves.fail
    | with_reducible exact Moves.latch
    | with_reducible refine Moves.done ?_
    | with_reducible refine Moves.await ?_
    | with_reducible refine Moves.park ?_
    | with_reducible refine State.modCtx_moves (Within.trans (by decide : Within 32 32) hw) ?_ _ _
    | with_reducible refine Moves.ite ?_ ?_
    | split
    | extract_lets
    | with_reducible refine Moves.getD (Moves.optFindSome (fun _ => ?_)) ?_
    | with_reducible refine Moves.optMap (fun _ => ?_)
    | with_reducible refine Moves.optSndMapSnd ?_
    | with_reducible refine Moves.optSndMap (fun _ => ?_)
    | with_reducible refine Moves.optBind ?_ (fun _ _ => ?_)
    | with_reducible refine Moves.optOf (fun _ => ?_)
    | (with_reducible refine Moves.foldl ?_ (fun _ _ _ => ?_))
    | (with_reducible refine Moves.foldlFst ?_ (fun _ _ _ => ?_))
    | (with_reducible refine Moves.foldr ?_ (fun _ _ _ => ?_))
    | with_reducible refine Moves.optIte ?_ ?_
    | with_reducible refine Moves.foldlOpt ?_ (fun _ _ _ => ?_)
    | with_reducible refine Moves.optSome ?_
    | with_reducible exact Moves.optNone
    | with_reducible refine Moves.some (by assumption) ?_
    | with_reducible refine Moves.fst (by assumption) ?_
    | with_reducible refine Moves.snd (by assumption) ?_
    | dsimp +zetaDelta only

theorem State.windowWrite_moves {w : Nat} {s u : State} (hw : Within 0 w) (h : Moves w s u) (cmd : Command) :
    Moves.verdict w s (State.windowWrite u cmd) := by
  unfold State.windowWrite
  repeat'
    first
    | with_reducible assumption
    | with_reducible exact Moves.fail
    | with_reducible exact Moves.latch
    | with_reducible refine Moves.done ?_
    | with_reducible refine Moves.await ?_
    | with_reducible refine Moves.park ?_
    | with_reducible refine Moves.ite ?_ ?_
    | split
    | extract_lets
    | with_reducible refine Moves.getD (Moves.optFindSome (fun _ => ?_)) ?_
    | with_reducible refine Moves.optMap (fun _ => ?_)
    | with_reducible refine Moves.optSndMapSnd ?_
    | with_reducible refine Moves.optSndMap (fun _ => ?_)
    | with_reducible refine Moves.optBind ?_ (fun _ _ => ?_)
    | with_reducible refine Moves.optOf (fun _ => ?_)
    | (with_reducible refine Moves.foldl ?_ (fun _ _ _ => ?_))
    | (with_reducible refine Moves.foldlFst ?_ (fun _ _ _ => ?_))
    | (with_reducible refine Moves.foldr ?_ (fun _ _ _ => ?_))
    | with_reducible refine Moves.optIte ?_ ?_
    | with_reducible refine Moves.foldlOpt ?_ (fun _ _ _ => ?_)
    | with_reducible refine Moves.optSome ?_
    | with_reducible exact Moves.optNone
    | with_reducible refine Moves.some (by assumption) ?_
    | with_reducible refine Moves.fst (by assumption) ?_
    | with_reducible refine Moves.snd (by assumption) ?_
    | dsimp +zetaDelta only

theorem State.contextClose_moves {w : Nat} {s u : State} (hw : Within 8300 w) (h : Moves w s u) (cmd : Command) :
    Moves.verdict w s (State.contextClose u cmd) := by
  unfold State.contextClose
  repeat'
    first
    | with_reducible assumption
    | with_reducible exact Moves.fail
    | with_reducible exact Moves.latch
    | with_reducible refine Moves.done ?_
    | with_reducible refine Moves.await ?_
    | with_reducible refine Moves.park ?_
    | with_reducible refine State.closeCtx_moves (Within.trans (by decide : Within 8300 8300) hw) ?_ _
    | with_reducible refine State.modCtx_moves (Within.trans (by decide : Within 32 8300) hw) ?_ _ _
    | with_reducible refine Moves.ite ?_ ?_
    | split
    | extract_lets
    | with_reducible refine Moves.getD (Moves.optFindSome (fun _ => ?_)) ?_
    | with_reducible refine Moves.optMap (fun _ => ?_)
    | with_reducible refine Moves.optSndMapSnd ?_
    | with_reducible refine Moves.optSndMap (fun _ => ?_)
    | with_reducible refine Moves.optBind ?_ (fun _ _ => ?_)
    | with_reducible refine Moves.optOf (fun _ => ?_)
    | (with_reducible refine Moves.foldl ?_ (fun _ _ _ => ?_))
    | (with_reducible refine Moves.foldlFst ?_ (fun _ _ _ => ?_))
    | (with_reducible refine Moves.foldr ?_ (fun _ _ _ => ?_))
    | with_reducible refine Moves.optIte ?_ ?_
    | with_reducible refine Moves.foldlOpt ?_ (fun _ _ _ => ?_)
    | with_reducible refine Moves.optSome ?_
    | with_reducible exact Moves.optNone
    | with_reducible refine Moves.some (by assumption) ?_
    | with_reducible refine Moves.fst (by assumption) ?_
    | with_reducible refine Moves.snd (by assumption) ?_
    | dsimp +zetaDelta only

theorem execContextClose_moves {w : Nat} {s u : State} (hw : Within 36527643066364 w) (h : Moves w s u) (c : Sys2Proof.CtxId) (q : Sys2Proof.RingId) :
    Moves.outcome w s (execContextClose c q u) := by
  unfold execContextClose
  repeat'
    first
    | with_reducible assumption
    | with_reducible exact Moves.fault
    | with_reducible refine Moves.next ?_
    | with_reducible exact Moves.fail
    | with_reducible exact Moves.latch
    | with_reducible refine Moves.done ?_
    | with_reducible refine Moves.await ?_
    | with_reducible refine Moves.park ?_
    | with_reducible refine State.controlRow_moves (Within.trans (by decide : Within 36527643058108 36527643066364) hw) ?_ _ _ _ _ _ (fun _ _ _ => ?_)
    | with_reducible refine State.contextClose_moves (Within.trans (by decide : Within 8300 36527643066364) hw) ?_ _
    | with_reducible refine Moves.ite ?_ ?_
    | split
    | extract_lets
    | with_reducible refine Moves.getD (Moves.optFindSome (fun _ => ?_)) ?_
    | with_reducible refine Moves.optMap (fun _ => ?_)
    | with_reducible refine Moves.optSndMapSnd ?_
    | with_reducible refine Moves.optSndMap (fun _ => ?_)
    | with_reducible refine Moves.optBind ?_ (fun _ _ => ?_)
    | with_reducible refine Moves.optOf (fun _ => ?_)
    | (with_reducible refine Moves.foldl ?_ (fun _ _ _ => ?_))
    | (with_reducible refine Moves.foldlFst ?_ (fun _ _ _ => ?_))
    | (with_reducible refine Moves.foldr ?_ (fun _ _ _ => ?_))
    | with_reducible refine Moves.optIte ?_ ?_
    | with_reducible refine Moves.foldlOpt ?_ (fun _ _ _ => ?_)
    | with_reducible refine Moves.optSome ?_
    | with_reducible exact Moves.optNone
    | with_reducible refine Moves.some (by assumption) ?_
    | with_reducible refine Moves.fst (by assumption) ?_
    | with_reducible refine Moves.snd (by assumption) ?_
    | dsimp +zetaDelta only

theorem execShareSet_moves {w : Nat} {s u : State} (hw : Within 36527643058108 w) (h : Moves w s u) (c : Sys2Proof.CtxId) (q : Sys2Proof.RingId) :
    Moves.outcome w s (execShareSet c q u) := by
  unfold execShareSet
  repeat'
    first
    | with_reducible assumption
    | with_reducible exact Moves.fault
    | with_reducible refine Moves.next ?_
    | with_reducible exact Moves.fail
    | with_reducible exact Moves.latch
    | with_reducible refine Moves.done ?_
    | with_reducible refine Moves.await ?_
    | with_reducible refine Moves.park ?_
    | with_reducible refine State.controlRow_moves (Within.trans (by decide : Within 36527643058108 36527643058108) hw) ?_ _ _ _ _ _ (fun _ _ _ => ?_)
    | with_reducible refine State.shareSet_moves (Within.trans (by decide : Within 32 36527643058108) hw) ?_ _
    | with_reducible refine Moves.ite ?_ ?_
    | split
    | extract_lets
    | with_reducible refine Moves.getD (Moves.optFindSome (fun _ => ?_)) ?_
    | with_reducible refine Moves.optMap (fun _ => ?_)
    | with_reducible refine Moves.optSndMapSnd ?_
    | with_reducible refine Moves.optSndMap (fun _ => ?_)
    | with_reducible refine Moves.optBind ?_ (fun _ _ => ?_)
    | with_reducible refine Moves.optOf (fun _ => ?_)
    | (with_reducible refine Moves.foldl ?_ (fun _ _ _ => ?_))
    | (with_reducible refine Moves.foldlFst ?_ (fun _ _ _ => ?_))
    | (with_reducible refine Moves.foldr ?_ (fun _ _ _ => ?_))
    | with_reducible refine Moves.optIte ?_ ?_
    | with_reducible refine Moves.foldlOpt ?_ (fun _ _ _ => ?_)
    | with_reducible refine Moves.optSome ?_
    | with_reducible exact Moves.optNone
    | with_reducible refine Moves.some (by assumption) ?_
    | with_reducible refine Moves.fst (by assumption) ?_
    | with_reducible refine Moves.snd (by assumption) ?_
    | dsimp +zetaDelta only

theorem execWindowWrite_moves {w : Nat} {s u : State} (hw : Within 36527643058108 w) (h : Moves w s u) (c : Sys2Proof.CtxId) (q : Sys2Proof.RingId) :
    Moves.outcome w s (execWindowWrite c q u) := by
  unfold execWindowWrite
  repeat'
    first
    | with_reducible assumption
    | with_reducible exact Moves.fault
    | with_reducible refine Moves.next ?_
    | with_reducible exact Moves.fail
    | with_reducible exact Moves.latch
    | with_reducible refine Moves.done ?_
    | with_reducible refine Moves.await ?_
    | with_reducible refine Moves.park ?_
    | with_reducible refine State.controlRow_moves (Within.trans (by decide : Within 36527643058108 36527643058108) hw) ?_ _ _ _ _ _ (fun _ _ _ => ?_)
    | with_reducible refine State.windowWrite_moves (Within.trans (by decide : Within 0 36527643058108) hw) ?_ _
    | with_reducible refine Moves.ite ?_ ?_
    | split
    | extract_lets
    | with_reducible refine Moves.getD (Moves.optFindSome (fun _ => ?_)) ?_
    | with_reducible refine Moves.optMap (fun _ => ?_)
    | with_reducible refine Moves.optSndMapSnd ?_
    | with_reducible refine Moves.optSndMap (fun _ => ?_)
    | with_reducible refine Moves.optBind ?_ (fun _ _ => ?_)
    | with_reducible refine Moves.optOf (fun _ => ?_)
    | (with_reducible refine Moves.foldl ?_ (fun _ _ _ => ?_))
    | (with_reducible refine Moves.foldlFst ?_ (fun _ _ _ => ?_))
    | (with_reducible refine Moves.foldr ?_ (fun _ _ _ => ?_))
    | with_reducible refine Moves.optIte ?_ ?_
    | with_reducible refine Moves.foldlOpt ?_ (fun _ _ _ => ?_)
    | with_reducible refine Moves.optSome ?_
    | with_reducible exact Moves.optNone
    | with_reducible refine Moves.some (by assumption) ?_
    | with_reducible refine Moves.fst (by assumption) ?_
    | with_reducible refine Moves.snd (by assumption) ?_
    | dsimp +zetaDelta only

end Sys2Proof.Machine
end

