-- ==== Sys2Proof/Laws/RoutersMoves.lean ====
section
/-! SUPPORT. Sys2Proof/Laws/RoutersMoves.lean: what each operation of Machine/Routers.lean can do to the state: the parts it may change, and that it keeps
the canonical form. -/

namespace Sys2Proof.Machine

theorem State.updateBurn_moves {w : Nat} {s u : State} (hw : Within 44 w) (h : Moves w s u) (c : Nat) (ρ : Nat) (e : BitVec 512) :
    Moves w s (State.updateBurn u c ρ e) := by
  unfold State.updateBurn
  repeat'
    first
    | with_reducible assumption
    | with_reducible refine State.modCtx_moves (Within.trans (by decide : Within 32 44) hw) ?_ _ _
    | with_reducible refine State.bumpF_moves (Within.trans (by decide : Within 12 44) hw) ?_ _ _ _
    | with_reducible refine State.setReg_moves (Within.trans (by decide : Within 4 44) hw) ?_ _ _
    | with_reducible refine Moves.ite ?_ ?_
    | split
    | extract_lets
    | with_reducible refine Moves.getD (Moves.optFindSome (fun _ => ?_)) ?_
    | with_reducible refine Moves.optMap (fun _ => ?_)
    | with_reducible refine Moves.optSndMapSnd ?_
    | with_reducible refine Moves.optSndMap (fun _ => ?_)
    | with_reducible refine Moves.optBind ?_ (fun _ _ => ?_)
    | with_reducible refine Moves.optOf (fun _ => ?_)
    | (with_reducible refine Moves.foldl ?_ (fun _ _ _ => ?_))
    | (with_reducible refine Moves.foldlFst ?_ (fun _ _ _ => ?_))
    | (with_reducible refine Moves.foldr ?_ (fun _ _ _ => ?_))
    | with_reducible refine Moves.optIte ?_ ?_
    | with_reducible refine Moves.foldlOpt ?_ (fun _ _ _ => ?_)
    | with_reducible refine Moves.optSome ?_
    | with_reducible exact Moves.optNone
    | with_reducible refine Moves.some (by assumption) ?_
    | with_reducible refine Moves.fst (by assumption) ?_
    | with_reducible refine Moves.snd (by assumption) ?_
    | dsimp +zetaDelta only

theorem State.countLoads_moves {w : Nat} {s u : State} (hw : Within 32 w) (h : Moves w s u) (e : Ended) :
    Moves w s (State.countLoads u e) := by
  unfold State.countLoads
  repeat'
    first
    | with_reducible assumption
    | with_reducible refine State.modCtx_moves (Within.trans (by decide : Within 32 32) hw) ?_ _ _
    | with_reducible refine Moves.ite ?_ ?_
    | split
    | extract_lets
    | with_reducible refine Moves.getD (Moves.optFindSome (fun _ => ?_)) ?_
    | with_reducible refine Moves.optMap (fun _ => ?_)
    | with_reducible refine Moves.optSndMapSnd ?_
    | with_reducible refine Moves.optSndMap (fun _ => ?_)
    | with_reducible refine Moves.optBind ?_ (fun _ _ => ?_)
    | with_reducible refine Moves.optOf (fun _ => ?_)
    | (with_reducible refine Moves.foldl ?_ (fun _ _ _ => ?_))
    | (with_reducible refine Moves.foldlFst ?_ (fun _ _ _ => ?_))
    | (with_reducible refine Moves.foldr ?_ (fun _ _ _ => ?_))
    | with_reducible refine Moves.optIte ?_ ?_
    | with_reducible refine Moves.foldlOpt ?_ (fun _ _ _ => ?_)
    | with_reducible refine Moves.optSome ?_
    | with_reducible exact Moves.optNone
    | with_reducible refine Moves.some (by assumption) ?_
    | with_reducible refine Moves.fst (by assumption) ?_
    | with_reducible refine Moves.snd (by assumption) ?_
    | dsimp +zetaDelta only

theorem State.updateBurns_moves {w : Nat} {s u : State} (hw : Within 44 w) (h : Moves w s u) (e : Ended) :
    Moves w s (State.updateBurns u e).1 := by
  unfold State.updateBurns
  repeat'
    first
    | with_reducible assumption
    | with_reducible refine State.updateBurn_moves (Within.trans (by decide : Within 44 44) hw) ?_ _ _ _
    | with_reducible refine Moves.ite ?_ ?_
    | split
    | extract_lets
    | with_reducible refine Moves.getD (Moves.optFindSome (fun _ => ?_)) ?_
    | with_reducible refine Moves.optMap (fun _ => ?_)
    | with_reducible refine Moves.optSndMapSnd ?_
    | with_reducible refine Moves.optSndMap (fun _ => ?_)
    | with_reducible refine Moves.optBind ?_ (fun _ _ => ?_)
    | with_reducible refine Moves.optOf (fun _ => ?_)
    | (with_reducible refine Moves.foldl ?_ (fun _ _ _ => ?_))
    | (with_reducible refine Moves.foldlFst ?_ (fun _ _ _ => ?_))
    | (with_reducible refine Moves.foldr ?_ (fun _ _ _ => ?_))
    | with_reducible refine Moves.optIte ?_ ?_
    | with_reducible refine Moves.foldlOpt ?_ (fun _ _ _ => ?_)
    | with_reducible refine Moves.optSome ?_
    | with_reducible exact Moves.optNone
    | with_reducible refine Moves.some (by assumption) ?_
    | with_reducible refine Moves.fst (by assumption) ?_
    | with_reducible refine Moves.snd (by assumption) ?_
    | dsimp +zetaDelta only

theorem State.burnRead_moves {w : Nat} {s u : State} (hw : Within 3221225488 w) (h : Moves w s u) (cmd : Command) :
    Moves.verdict w s (State.burnRead u cmd) := by
  unfold State.burnRead
  repeat'
    first
    | with_reducible assumption
    | with_reducible exact Moves.fail
    | with_reducible exact Moves.latch
    | with_reducible refine Moves.done ?_
    | with_reducible refine Moves.await ?_
    | with_reducible refine Moves.park ?_
    | with_reducible refine State.writeCtx_moves (Within.trans (by decide : Within 3221225488 3221225488) hw) ?_ _ _ _ _
    | with_reducible refine Moves.some ‹State.writeCtx _ _ _ _ _ = some _› (State.writeCtx_moves (Within.trans (by decide : Within 3221225488 3221225488) hw) ?_ _ _ _ _)
    | with_reducible refine Moves.getD (State.writeCtx_moves (Within.trans (by decide : Within 3221225488 3221225488) hw) ?_ _ _ _ _) ?_
    | with_reducible refine Moves.ite ?_ ?_
    | split
    | extract_lets
    | with_reducible refine Moves.getD (Moves.optFindSome (fun _ => ?_)) ?_
    | with_reducible refine Moves.optMap (fun _ => ?_)
    | with_reducible refine Moves.optSndMapSnd ?_
    | with_reducible refine Moves.optSndMap (fun _ => ?_)
    | with_reducible refine Moves.optBind ?_ (fun _ _ => ?_)
    | with_reducible refine Moves.optOf (fun _ => ?_)
    | (with_reducible refine Moves.foldl ?_ (fun _ _ _ => ?_))
    | (with_reducible refine Moves.foldlFst ?_ (fun _ _ _ => ?_))
    | (with_reducible refine Moves.foldr ?_ (fun _ _ _ => ?_))
    | with_reducible refine Moves.optIte ?_ ?_
    | with_reducible refine Moves.foldlOpt ?_ (fun _ _ _ => ?_)
    | with_reducible refine Moves.optSome ?_
    | with_reducible exact Moves.optNone
    | with_reducible refine Moves.some (by assumption) ?_
    | with_reducible refine Moves.fst (by assumption) ?_
    | with_reducible refine Moves.snd (by assumption) ?_
    | dsimp +zetaDelta only

theorem State.burnWrite_moves {w : Nat} {s u : State} (hw : Within 32 w) (h : Moves w s u) (cmd : Command) :
    Moves.verdict w s (State.burnWrite u cmd) := by
  unfold State.burnWrite
  repeat'
    first
    | with_reducible assumption
    | with_reducible exact Moves.fail
    | with_reducible exact Moves.latch
    | with_reducible refine Moves.done ?_
    | with_reducible refine Moves.await ?_
    | with_reducible refine Moves.park ?_
    | with_reducible refine State.modCtx_moves (Within.trans (by decide : Within 32 32) hw) ?_ _ _
    | with_reducible refine Moves.ite ?_ ?_
    | split
    | extract_lets
    | with_reducible refine Moves.getD (Moves.optFindSome (fun _ => ?_)) ?_
    | with_reducible refine Moves.optMap (fun _ => ?_)
    | with_reducible refine Moves.optSndMapSnd ?_
    | with_reducible refine Moves.optSndMap (fun _ => ?_)
    | with_reducible refine Moves.optBind ?_ (fun _ _ => ?_)
    | with_reducible refine Moves.optOf (fun _ => ?_)
    | (with_reducible refine Moves.foldl ?_ (fun _ _ _ => ?_))
    | (with_reducible refine Moves.foldlFst ?_ (fun _ _ _ => ?_))
    | (with_reducible refine Moves.foldr ?_ (fun _ _ _ => ?_))
    | with_reducible refine Moves.optIte ?_ ?_
    | with_reducible refine Moves.foldlOpt ?_ (fun _ _ _ => ?_)
    | with_reducible refine Moves.optSome ?_
    | with_reducible exact Moves.optNone
    | with_reducible refine Moves.some (by assumption) ?_
    | with_reducible refine Moves.fst (by assumption) ?_
    | with_reducible refine Moves.snd (by assumption) ?_
    | dsimp +zetaDelta only

theorem State.putRouter_moves {w : Nat} {s u : State} (hw : Within 1312 w) (h : Moves w s u) (c : Nat) (ρ : Nat) (e : BitVec 512) :
    Moves w s (State.putRouter u c ρ e) := by
  unfold State.putRouter
  repeat'
    first
    | with_reducible assumption
    | with_reducible refine State.modCtx_moves (Within.trans (by decide : Within 32 1312) hw) ?_ _ _
    | with_reducible refine Moves.ite ?_ ?_
    | split
    | extract_lets
    | with_reducible refine Moves.getD (Moves.optFindSome (fun _ => ?_)) ?_
    | with_reducible refine Moves.optMap (fun _ => ?_)
    | with_reducible refine Moves.optSndMapSnd ?_
    | with_reducible refine Moves.optSndMap (fun _ => ?_)
    | with_reducible refine Moves.optBind ?_ (fun _ _ => ?_)
    | with_reducible refine Moves.optOf (fun _ => ?_)
    | (with_reducible refine Moves.foldl ?_ (fun _ _ _ => ?_))
    | (with_reducible refine Moves.foldlFst ?_ (fun _ _ _ => ?_))
    | (with_reducible refine Moves.foldr ?_ (fun _ _ _ => ?_))
    | with_reducible refine Moves.optIte ?_ ?_
    | with_reducible refine Moves.foldlOpt ?_ (fun _ _ _ => ?_)
    | with_reducible refine Moves.optSome ?_
    | with_reducible exact Moves.optNone
    | with_reducible refine Moves.some (by assumption) ?_
    | with_reducible refine Moves.fst (by assumption) ?_
    | with_reducible refine Moves.snd (by assumption) ?_
    | dsimp +zetaDelta only
    | with_reducible refine Moves.upd ?_ rfl ⟨rfl, rfl, .same, ⟨.rfl, .rfl, .of hw (by decide), .rfl, .of hw (by decide)⟩, .same, .same, .same⟩ ⟨id, id, id, id, id, id, id⟩

theorem State.routerWrite_moves {w : Nat} {s u : State} (hw : Within 1312 w) (h : Moves w s u) (cmd : Command) :
    Moves.verdict w s (State.routerWrite u cmd) := by
  unfold State.routerWrite
  repeat'
    first
    | with_reducible assumption
    | with_reducible exact Moves.fail
    | with_reducible exact Moves.latch
    | with_reducible refine Moves.done ?_
    | with_reducible refine Moves.await ?_
    | with_reducible refine Moves.park ?_
    | with_reducible refine State.modCtx_moves (Within.trans (by decide : Within 32 1312) hw) ?_ _ _
    | with_reducible refine State.putRouter_moves (Within.trans (by decide : Within 1312 1312) hw) ?_ _ _ _
    | with_reducible refine Moves.ite ?_ ?_
    | split
    | extract_lets
    | with_reducible refine Moves.getD (Moves.optFindSome (fun _ => ?_)) ?_
    | with_reducible refine Moves.optMap (fun _ => ?_)
    | with_reducible refine Moves.optSndMapSnd ?_
    | with_reducible refine Moves.optSndMap (fun _ => ?_)
    | with_reducible refine Moves.optBind ?_ (fun _ _ => ?_)
    | with_reducible refine Moves.optOf (fun _ => ?_)
    | (with_reducible refine Moves.foldl ?_ (fun _ _ _ => ?_))
    | (with_reducible refine Moves.foldlFst ?_ (fun _ _ _ => ?_))
    | (with_reducible refine Moves.foldr ?_ (fun _ _ _ => ?_))
    | with_reducible refine Moves.optIte ?_ ?_
    | with_reducible refine Moves.foldlOpt ?_ (fun _ _ _ => ?_)
    | with_reducible refine Moves.optSome ?_
    | with_reducible exact Moves.optNone
    | with_reducible refine Moves.some (by assumption) ?_
    | with_reducible refine Moves.fst (by assumption) ?_
    | with_reducible refine Moves.snd (by assumption) ?_
    | dsimp +zetaDelta only

theorem execRouterWrite_moves {w : Nat} {s u : State} (hw : Within 36527643058108 w) (h : Moves w s u) (c : Sys2Proof.CtxId) (q : Sys2Proof.RingId) :
    Moves.outcome w s (execRouterWrite c q u) := by
  unfold execRouterWrite
  repeat'
    first
    | with_reducible assumption
    | with_reducible exact Moves.fault
    | with_reducible refine Moves.next ?_
    | with_reducible exact Moves.fail
    | with_reducible exact Moves.latch
    | with_reducible refine Moves.done ?_
    | with_reducible refine Moves.await ?_
    | with_reducible refine Moves.park ?_
    | with_reducible refine State.controlRow_moves (Within.trans (by decide : Within 36527643058108 36527643058108) hw) ?_ _ _ _ _ _ (fun _ _ _ => ?_)
    | with_reducible refine State.routerWrite_moves (Within.trans (by decide : Within 1312 36527643058108) hw) ?_ _
    | with_reducible refine Moves.ite ?_ ?_
    | split
    | extract_lets
    | with_reducible refine Moves.getD (Moves.optFindSome (fun _ => ?_)) ?_
    | with_reducible refine Moves.optMap (fun _ => ?_)
    | with_reducible refine Moves.optSndMapSnd ?_
    | with_reducible refine Moves.optSndMap (fun _ => ?_)
    | with_reducible refine Moves.optBind ?_ (fun _ _ => ?_)
    | with_reducible refine Moves.optOf (fun _ => ?_)
    | (with_reducible refine Moves.foldl ?_ (fun _ _ _ => ?_))
    | (with_reducible refine Moves.foldlFst ?_ (fun _ _ _ => ?_))
    | (with_reducible refine Moves.foldr ?_ (fun _ _ _ => ?_))
    | with_reducible refine Moves.optIte ?_ ?_
    | with_reducible refine Moves.foldlOpt ?_ (fun _ _ _ => ?_)
    | with_reducible refine Moves.optSome ?_
    | with_reducible exact Moves.optNone
    | with_reducible refine Moves.some (by assumption) ?_
    | with_reducible refine Moves.fst (by assumption) ?_
    | with_reducible refine Moves.snd (by assumption) ?_
    | dsimp +zetaDelta only

theorem State.contextParam_moves {w : Nat} {s u : State} (hw : Within 32 w) (h : Moves w s u) (cmd : Command) :
    Moves.verdict w s (State.contextParam u cmd) := by
  unfold State.contextParam
  repeat'
    first
    | with_reducible assumption
    | with_reducible exact Moves.fail
    | with_reducible exact Moves.latch
    | with_reducible refine Moves.done ?_
    | with_reducible refine Moves.await ?_
    | with_reducible refine Moves.park ?_
    | with_reducible refine State.modCtx_moves (Within.trans (by decide : Within 32 32) hw) ?_ _ _
    | with_reducible refine Moves.ite ?_ ?_
    | split
    | extract_lets
    | with_reducible refine Moves.getD (Moves.optFindSome (fun _ => ?_)) ?_
    | with_reducible refine Moves.optMap (fun _ => ?_)
    | with_reducible refine Moves.optSndMapSnd ?_
    | with_reducible refine Moves.optSndMap (fun _ => ?_)
    | with_reducible refine Moves.optBind ?_ (fun _ _ => ?_)
    | with_reducible refine Moves.optOf (fun _ => ?_)
    | (with_reducible refine Moves.foldl ?_ (fun _ _ _ => ?_))
    | (with_reducible refine Moves.foldlFst ?_ (fun _ _ _ => ?_))
    | (with_reducible refine Moves.foldr ?_ (fun _ _ _ => ?_))
    | with_reducible refine Moves.optIte ?_ ?_
    | with_reducible refine Moves.foldlOpt ?_ (fun _ _ _ => ?_)
    | with_reducible refine Moves.optSome ?_
    | with_reducible exact Moves.optNone
    | with_reducible refine Moves.some (by assumption) ?_
    | with_reducible refine Moves.fst (by assumption) ?_
    | with_reducible refine Moves.snd (by assumption) ?_
    | dsimp +zetaDelta only

theorem execContextParam_moves {w : Nat} {s u : State} (hw : Within 36527643058108 w) (h : Moves w s u) (c : Sys2Proof.CtxId) (q : Sys2Proof.RingId) :
    Moves.outcome w s (execContextParam c q u) := by
  unfold execContextParam
  repeat'
    first
    | with_reducible assumption
    | with_reducible exact Moves.fault
    | with_reducible refine Moves.next ?_
    | with_reducible exact Moves.fail
    | with_reducible exact Moves.latch
    | with_reducible refine Moves.done ?_
    | with_reducible refine Moves.await ?_
    | with_reducible refine Moves.park ?_
    | with_reducible refine State.controlRow_moves (Within.trans (by decide : Within 36527643058108 36527643058108) hw) ?_ _ _ _ _ _ (fun _ _ _ => ?_)
    | with_reducible refine State.contextParam_moves (Within.trans (by decide : Within 32 36527643058108) hw) ?_ _
    | with_reducible refine Moves.ite ?_ ?_
    | split
    | extract_lets
    | with_reducible refine Moves.getD (Moves.optFindSome (fun _ => ?_)) ?_
    | with_reducible refine Moves.optMap (fun _ => ?_)
    | with_reducible refine Moves.optSndMapSnd ?_
    | with_reducible refine Moves.optSndMap (fun _ => ?_)
    | with_reducible refine Moves.optBind ?_ (fun _ _ => ?_)
    | with_reducible refine Moves.optOf (fun _ => ?_)
    | (with_reducible refine Moves.foldl ?_ (fun _ _ _ => ?_))
    | (with_reducible refine Moves.foldlFst ?_ (fun _ _ _ => ?_))
    | (with_reducible refine Moves.foldr ?_ (fun _ _ _ => ?_))
    | with_reducible refine Moves.optIte ?_ ?_
    | with_reducible refine Moves.foldlOpt ?_ (fun _ _ _ => ?_)
    | with_reducible refine Moves.optSome ?_
    | with_reducible exact Moves.optNone
    | with_reducible refine Moves.some (by assumption) ?_
    | with_reducible refine Moves.fst (by assumption) ?_
    | with_reducible refine Moves.snd (by assumption) ?_
    | dsimp +zetaDelta only

theorem execBurnRead_moves {w : Nat} {s u : State} (hw : Within 36527643058108 w) (h : Moves w s u) (c : Sys2Proof.CtxId) (q : Sys2Proof.RingId) :
    Moves.outcome w s (execBurnRead c q u) := by
  unfold execBurnRead
  repeat'
    first
    | with_reducible assumption
    | with_reducible exact Moves.fault
    | with_reducible refine Moves.next ?_
    | with_reducible exact Moves.fail
    | with_reducible exact Moves.latch
    | with_reducible refine Moves.done ?_
    | with_reducible refine Moves.await ?_
    | with_reducible refine Moves.park ?_
    | with_reducible refine State.controlRow_moves (Within.trans (by decide : Within 36527643058108 36527643058108) hw) ?_ _ _ _ _ _ (fun _ _ _ => ?_)
    | with_reducible refine State.burnRead_moves (Within.trans (by decide : Within 3221225488 36527643058108) hw) ?_ _
    | with_reducible refine Moves.ite ?_ ?_
    | split
    | extract_lets
    | with_reducible refine Moves.getD (Moves.optFindSome (fun _ => ?_)) ?_
    | with_reducible refine Moves.optMap (fun _ => ?_)
    | with_reducible refine Moves.optSndMapSnd ?_
    | with_reducible refine Moves.optSndMap (fun _ => ?_)
    | with_reducible refine Moves.optBind ?_ (fun _ _ => ?_)
    | with_reducible refine Moves.optOf (fun _ => ?_)
    | (with_reducible refine Moves.foldl ?_ (fun _ _ _ => ?_))
    | (with_reducible refine Moves.foldlFst ?_ (fun _ _ _ => ?_))
    | (with_reducible refine Moves.foldr ?_ (fun _ _ _ => ?_))
    | with_reducible refine Moves.optIte ?_ ?_
    | with_reducible refine Moves.foldlOpt ?_ (fun _ _ _ => ?_)
    | with_reducible refine Moves.optSome ?_
    | with_reducible exact Moves.optNone
    | with_reducible refine Moves.some (by assumption) ?_
    | with_reducible refine Moves.fst (by assumption) ?_
    | with_reducible refine Moves.snd (by assumption) ?_
    | dsimp +zetaDelta only

theorem execBurnWrite_moves {w : Nat} {s u : State} (hw : Within 36527643058108 w) (h : Moves w s u) (c : Sys2Proof.CtxId) (q : Sys2Proof.RingId) :
    Moves.outcome w s (execBurnWrite c q u) := by
  unfold execBurnWrite
  repeat'
    first
    | with_reducible assumption
    | with_reducible exact Moves.fault
    | with_reducible refine Moves.next ?_
    | with_reducible exact Moves.fail
    | with_reducible exact Moves.latch
    | with_reducible refine Moves.done ?_
    | with_reducible refine Moves.await ?_
    | with_reducible refine Moves.park ?_
    | with_reducible refine State.controlRow_moves (Within.trans (by decide : Within 36527643058108 36527643058108) hw) ?_ _ _ _ _ _ (fun _ _ _ => ?_)
    | with_reducible refine State.burnWrite_moves (Within.trans (by decide : Within 32 36527643058108) hw) ?_ _
    | with_reducible refine Moves.ite ?_ ?_
    | split
    | extract_lets
    | with_reducible refine Moves.getD (Moves.optFindSome (fun _ => ?_)) ?_
    | with_reducible refine Moves.optMap (fun _ => ?_)
    | with_reducible refine Moves.optSndMapSnd ?_
    | with_reducible refine Moves.optSndMap (fun _ => ?_)
    | with_reducible refine Moves.optBind ?_ (fun _ _ => ?_)
    | with_reducible refine Moves.optOf (fun _ => ?_)
    | (with_reducible refine Moves.foldl ?_ (fun _ _ _ => ?_))
    | (with_reducible refine Moves.foldlFst ?_ (fun _ _ _ => ?_))
    | (with_reducible refine Moves.foldr ?_ (fun _ _ _ => ?_))
    | with_reducible refine Moves.optIte ?_ ?_
    | with_reducible refine Moves.foldlOpt ?_ (fun _ _ _ => ?_)
    | with_reducible refine Moves.optSome ?_
    | with_reducible exact Moves.optNone
    | with_reducible refine Moves.some (by assumption) ?_
    | with_reducible refine Moves.fst (by assumption) ?_
    | with_reducible refine Moves.snd (by assumption) ?_
    | dsimp +zetaDelta only

end Sys2Proof.Machine
end

