-- ==== Sys2Proof/Laws/SequencesMoves.lean ====
section
/-! SUPPORT. Sys2Proof/Laws/SequencesMoves.lean: what each operation of Machine/Sequences.lean can do to the state: the parts it may change, and that it keeps
the canonical form. -/

namespace Sys2Proof.Machine

theorem State.allocMany_moves {w : Nat} {s u : State} (hw : Within 32 w) (h : Moves w s u) (c : Nat) (r : Nat) (q : Nat) (x4 : Nat) :
    Moves.optSnd w s (State.allocMany u c r q x4) := by
  induction x4 generalizing u with
  | zero =>
    unfold State.allocMany
    repeat'
      first
      | with_reducible assumption
      | with_reducible exact Moves.optSndNone
      | with_reducible refine Moves.optSndSome ?_
      | with_reducible refine State.allocBasin_moves (Within.trans (by decide : Within 32 32) hw) ?_ _ _ _ _ _ _
      | with_reducible refine Moves.someSnd ‹State.allocBasin _ _ _ _ _ _ _ = some (_, _)› (State.allocBasin_moves (Within.trans (by decide : Within 32 32) hw) ?_ _ _ _ _ _ _)
      | with_reducible refine Moves.ite ?_ ?_
      | split
      | extract_lets
      | with_reducible refine Moves.getD (Moves.optFindSome (fun _ => ?_)) ?_
      | with_reducible refine Moves.optMap (fun _ => ?_)
      | with_reducible refine Moves.optSndMapSnd ?_
      | with_reducible refine Moves.optSndMap (fun _ => ?_)
      | with_reducible refine Moves.optBind ?_ (fun _ _ => ?_)
      | with_reducible refine Moves.optOf (fun _ => ?_)
      | (with_reducible refine Moves.foldl ?_ (fun _ _ _ => ?_))
      | (with_reducible refine Moves.foldlFst ?_ (fun _ _ _ => ?_))
      | (with_reducible refine Moves.foldr ?_ (fun _ _ _ => ?_))
      | with_reducible refine Moves.optIte ?_ ?_
      | with_reducible refine Moves.foldlOpt ?_ (fun _ _ _ => ?_)
      | with_reducible refine Moves.optSome ?_
      | with_reducible exact Moves.optNone
      | with_reducible refine Moves.some (by assumption) ?_
      | with_reducible refine Moves.fst (by assumption) ?_
      | with_reducible refine Moves.snd (by assumption) ?_
      | dsimp +zetaDelta only
  | succ n ih =>
    unfold State.allocMany
    repeat'
      first
      | with_reducible assumption
      | with_reducible apply ih
      | with_reducible exact Moves.optSndNone
      | with_reducible refine Moves.optSndSome ?_
      | with_reducible refine State.allocBasin_moves (Within.trans (by decide : Within 32 32) hw) ?_ _ _ _ _ _ _
      | with_reducible refine Moves.someSnd ‹State.allocBasin _ _ _ _ _ _ _ = some (_, _)› (State.allocBasin_moves (Within.trans (by decide : Within 32 32) hw) ?_ _ _ _ _ _ _)
      | with_reducible refine Moves.ite ?_ ?_
      | split
      | extract_lets
      | with_reducible refine Moves.getD (Moves.optFindSome (fun _ => ?_)) ?_
      | with_reducible refine Moves.optMap (fun _ => ?_)
      | with_reducible refine Moves.optSndMapSnd ?_
      | with_reducible refine Moves.optSndMap (fun _ => ?_)
      | with_reducible refine Moves.optBind ?_ (fun _ _ => ?_)
      | with_reducible refine Moves.optOf (fun _ => ?_)
      | (with_reducible refine Moves.foldl ?_ (fun _ _ _ => ?_))
      | (with_reducible refine Moves.foldlFst ?_ (fun _ _ _ => ?_))
      | (with_reducible refine Moves.foldr ?_ (fun _ _ _ => ?_))
      | with_reducible refine Moves.optIte ?_ ?_
      | with_reducible refine Moves.foldlOpt ?_ (fun _ _ _ => ?_)
      | with_reducible refine Moves.optSome ?_
      | with_reducible exact Moves.optNone
      | with_reducible refine Moves.some (by assumption) ?_
      | with_reducible refine Moves.fst (by assumption) ?_
      | with_reducible refine Moves.snd (by assumption) ?_
      | dsimp +zetaDelta only

theorem State.writeTables_moves {w : Nat} {s u : State} (hw : Within 3221225488 w) (h : Moves w s u) (w' : Tab (BitVec 128)) (c : Nat) (x3 : List Nat) (x4 : List Nat) :
    Moves.opt w s (State.writeTables u w' c x3 x4) := by
  induction x3 generalizing u x4 with
  | nil =>
    unfold State.writeTables
    repeat'
      first
      | with_reducible assumption
      | with_reducible exact Moves.optNone
      | with_reducible refine Moves.optSome ?_
      | with_reducible refine State.basinWrite_moves (Within.trans (by decide : Within 3221225488 3221225488) hw) ?_ _ _ _ _ _
      | with_reducible refine Moves.some ‹State.basinWrite _ _ _ _ _ _ = some _› (State.basinWrite_moves (Within.trans (by decide : Within 3221225488 3221225488) hw) ?_ _ _ _ _ _)
      | with_reducible refine Moves.getD (State.basinWrite_moves (Within.trans (by decide : Within 3221225488 3221225488) hw) ?_ _ _ _ _ _) ?_
      | with_reducible refine Moves.ite ?_ ?_
      | split
      | extract_lets
      | with_reducible refine Moves.getD (Moves.optFindSome (fun _ => ?_)) ?_
      | with_reducible refine Moves.optMap (fun _ => ?_)
      | with_reducible refine Moves.optSndMapSnd ?_
      | with_reducible refine Moves.optSndMap (fun _ => ?_)
      | with_reducible refine Moves.optBind ?_ (fun _ _ => ?_)
      | with_reducible refine Moves.optOf (fun _ => ?_)
      | (with_reducible refine Moves.foldl ?_ (fun _ _ _ => ?_))
      | (with_reducible refine Moves.foldlFst ?_ (fun _ _ _ => ?_))
      | (with_reducible refine Moves.foldr ?_ (fun _ _ _ => ?_))
      | with_reducible refine Moves.optIte ?_ ?_
      | with_reducible refine Moves.foldlOpt ?_ (fun _ _ _ => ?_)
      | with_reducible refine Moves.optSome ?_
      | with_reducible exact Moves.optNone
      | with_reducible refine Moves.some (by assumption) ?_
      | with_reducible refine Moves.fst (by assumption) ?_
      | with_reducible refine Moves.snd (by assumption) ?_
      | dsimp +zetaDelta only
  | cons e l ih =>
    unfold State.writeTables
    repeat'
      first
      | with_reducible assumption
      | with_reducible apply ih
      | with_reducible exact Moves.optNone
      | with_reducible refine Moves.optSome ?_
      | with_reducible refine State.basinWrite_moves (Within.trans (by decide : Within 3221225488 3221225488) hw) ?_ _ _ _ _ _
      | with_reducible refine Moves.some ‹State.basinWrite _ _ _ _ _ _ = some _› (State.basinWrite_moves (Within.trans (by decide : Within 3221225488 3221225488) hw) ?_ _ _ _ _ _)
      | with_reducible refine Moves.getD (State.basinWrite_moves (Within.trans (by decide : Within 3221225488 3221225488) hw) ?_ _ _ _ _ _) ?_
      | with_reducible refine Moves.ite ?_ ?_
      | split
      | extract_lets
      | with_reducible refine Moves.getD (Moves.optFindSome (fun _ => ?_)) ?_
      | with_reducible refine Moves.optMap (fun _ => ?_)
      | with_reducible refine Moves.optSndMapSnd ?_
      | with_reducible refine Moves.optSndMap (fun _ => ?_)
      | with_reducible refine Moves.optBind ?_ (fun _ _ => ?_)
      | with_reducible refine Moves.optOf (fun _ => ?_)
      | (with_reducible refine Moves.foldl ?_ (fun _ _ _ => ?_))
      | (with_reducible refine Moves.foldlFst ?_ (fun _ _ _ => ?_))
      | (with_reducible refine Moves.foldr ?_ (fun _ _ _ => ?_))
      | with_reducible refine Moves.optIte ?_ ?_
      | with_reducible refine Moves.foldlOpt ?_ (fun _ _ _ => ?_)
      | with_reducible refine Moves.optSome ?_
      | with_reducible exact Moves.optNone
      | with_reducible refine Moves.some (by assumption) ?_
      | with_reducible refine Moves.fst (by assumption) ?_
      | with_reducible refine Moves.snd (by assumption) ?_
      | dsimp +zetaDelta only

theorem State.zeroLedgers_moves {w : Nat} {s u : State} (hw : Within 3221225488 w) (h : Moves w s u) (w' : Tab (BitVec 128)) (c : Nat) (ps : Nat) (q : Nat) (hs : List Nat) (x6 : Nat) :
    Moves.opt w s (State.zeroLedgers u w' c ps q hs x6) := by
  induction x6 generalizing u with
  | zero =>
    unfold State.zeroLedgers
    repeat'
      first
      | with_reducible assumption
      | with_reducible exact Moves.optNone
      | with_reducible refine Moves.optSome ?_
      | with_reducible refine State.basinWrite_moves (Within.trans (by decide : Within 3221225488 3221225488) hw) ?_ _ _ _ _ _
      | with_reducible refine Moves.some ‹State.basinWrite _ _ _ _ _ _ = some _› (State.basinWrite_moves (Within.trans (by decide : Within 3221225488 3221225488) hw) ?_ _ _ _ _ _)
      | with_reducible refine Moves.getD (State.basinWrite_moves (Within.trans (by decide : Within 3221225488 3221225488) hw) ?_ _ _ _ _ _) ?_
      | with_reducible refine Moves.ite ?_ ?_
      | split
      | extract_lets
      | with_reducible refine Moves.getD (Moves.optFindSome (fun _ => ?_)) ?_
      | with_reducible refine Moves.optMap (fun _ => ?_)
      | with_reducible refine Moves.optSndMapSnd ?_
      | with_reducible refine Moves.optSndMap (fun _ => ?_)
      | with_reducible refine Moves.optBind ?_ (fun _ _ => ?_)
      | with_reducible refine Moves.optOf (fun _ => ?_)
      | (with_reducible refine Moves.foldl ?_ (fun _ _ _ => ?_))
      | (with_reducible refine Moves.foldlFst ?_ (fun _ _ _ => ?_))
      | (with_reducible refine Moves.foldr ?_ (fun _ _ _ => ?_))
      | with_reducible refine Moves.optIte ?_ ?_
      | with_reducible refine Moves.foldlOpt ?_ (fun _ _ _ => ?_)
      | with_reducible refine Moves.optSome ?_
      | with_reducible exact Moves.optNone
      | with_reducible refine Moves.some (by assumption) ?_
      | with_reducible refine Moves.fst (by assumption) ?_
      | with_reducible refine Moves.snd (by assumption) ?_
      | dsimp +zetaDelta only
      | exact Moves.some ‹_ = some _› (ih h)
  | succ n ih =>
    unfold State.zeroLedgers
    repeat'
      first
      | with_reducible assumption
      | with_reducible apply ih
      | with_reducible exact Moves.optNone
      | with_reducible refine Moves.optSome ?_
      | with_reducible refine State.basinWrite_moves (Within.trans (by decide : Within 3221225488 3221225488) hw) ?_ _ _ _ _ _
      | with_reducible refine Moves.some ‹State.basinWrite _ _ _ _ _ _ = some _› (State.basinWrite_moves (Within.trans (by decide : Within 3221225488 3221225488) hw) ?_ _ _ _ _ _)
      | with_reducible refine Moves.getD (State.basinWrite_moves (Within.trans (by decide : Within 3221225488 3221225488) hw) ?_ _ _ _ _ _) ?_
      | with_reducible refine Moves.ite ?_ ?_
      | split
      | extract_lets
      | with_reducible refine Moves.getD (Moves.optFindSome (fun _ => ?_)) ?_
      | with_reducible refine Moves.optMap (fun _ => ?_)
      | with_reducible refine Moves.optSndMapSnd ?_
      | with_reducible refine Moves.optSndMap (fun _ => ?_)
      | with_reducible refine Moves.optBind ?_ (fun _ _ => ?_)
      | with_reducible refine Moves.optOf (fun _ => ?_)
      | (with_reducible refine Moves.foldl ?_ (fun _ _ _ => ?_))
      | (with_reducible refine Moves.foldlFst ?_ (fun _ _ _ => ?_))
      | (with_reducible refine Moves.foldr ?_ (fun _ _ _ => ?_))
      | with_reducible refine Moves.optIte ?_ ?_
      | with_reducible refine Moves.foldlOpt ?_ (fun _ _ _ => ?_)
      | with_reducible refine Moves.optSome ?_
      | with_reducible exact Moves.optNone
      | with_reducible refine Moves.some (by assumption) ?_
      | with_reducible refine Moves.fst (by assumption) ?_
      | with_reducible refine Moves.snd (by assumption) ?_
      | dsimp +zetaDelta only
      | exact Moves.some ‹_ = some _› (ih h)

theorem State.buildPlane_moves {w : Nat} {s u : State} (hw : Within 3221225488 w) (h : Moves w s u) (w' : Tab (BitVec 128)) (c : Nat) (maxTokens : Nat) (p : Plane) :
    Moves.opt w s (State.buildPlane u w' c maxTokens p) := by
  unfold State.buildPlane
  repeat'
    first
    | with_reducible assumption
    | with_reducible exact Moves.optNone
    | with_reducible refine Moves.optSome ?_
    | with_reducible refine State.writeTables_moves (Within.trans (by decide : Within 3221225488 3221225488) hw) ?_ _ _ _ _
    | with_reducible refine Moves.some ‹State.writeTables _ _ _ _ _ = some _› (State.writeTables_moves (Within.trans (by decide : Within 3221225488 3221225488) hw) ?_ _ _ _ _)
    | with_reducible refine Moves.getD (State.writeTables_moves (Within.trans (by decide : Within 3221225488 3221225488) hw) ?_ _ _ _ _) ?_
    | with_reducible refine State.zeroLedgers_moves (Within.trans (by decide : Within 3221225488 3221225488) hw) ?_ _ _ _ _ _ _
    | with_reducible refine Moves.some ‹State.zeroLedgers _ _ _ _ _ _ _ = some _› (State.zeroLedgers_moves (Within.trans (by decide : Within 3221225488 3221225488) hw) ?_ _ _ _ _ _ _)
    | with_reducible refine Moves.getD (State.zeroLedgers_moves (Within.trans (by decide : Within 3221225488 3221225488) hw) ?_ _ _ _ _ _ _) ?_
    | with_reducible refine Moves.ite ?_ ?_
    | split
    | extract_lets
    | with_reducible refine Moves.getD (Moves.optFindSome (fun _ => ?_)) ?_
    | with_reducible refine Moves.optMap (fun _ => ?_)
    | with_reducible refine Moves.optSndMapSnd ?_
    | with_reducible refine Moves.optSndMap (fun _ => ?_)
    | with_reducible refine Moves.optBind ?_ (fun _ _ => ?_)
    | with_reducible refine Moves.optOf (fun _ => ?_)
    | (with_reducible refine Moves.foldl ?_ (fun _ _ _ => ?_))
    | (with_reducible refine Moves.foldlFst ?_ (fun _ _ _ => ?_))
    | (with_reducible refine Moves.foldr ?_ (fun _ _ _ => ?_))
    | with_reducible refine Moves.optIte ?_ ?_
    | with_reducible refine Moves.foldlOpt ?_ (fun _ _ _ => ?_)
    | with_reducible refine Moves.optSome ?_
    | with_reducible exact Moves.optNone
    | with_reducible refine Moves.some (by assumption) ?_
    | with_reducible refine Moves.fst (by assumption) ?_
    | with_reducible refine Moves.snd (by assumption) ?_
    | dsimp +zetaDelta only

theorem State.allocPlanes_moves {w : Nat} {s u : State} (hw : Within 32 w) (h : Moves w s u) (c : Nat) (r : Nat) (maxTokens : Nat) (x4 : List (Nat × BitVec 512)) :
    Moves.optSnd w s (State.allocPlanes u c r maxTokens x4) := by
  induction x4 generalizing u with
  | nil =>
    unfold State.allocPlanes
    repeat'
      first
      | with_reducible assumption
      | with_reducible exact Moves.optSndNone
      | with_reducible refine Moves.optSndSome ?_
      | with_reducible refine State.allocMany_moves (Within.trans (by decide : Within 32 32) hw) ?_ _ _ _ _
      | with_reducible refine Moves.someSnd ‹State.allocMany _ _ _ _ _ = some (_, _)› (State.allocMany_moves (Within.trans (by decide : Within 32 32) hw) ?_ _ _ _ _)
      | with_reducible refine Moves.ite ?_ ?_
      | split
      | extract_lets
      | with_reducible refine Moves.getD (Moves.optFindSome (fun _ => ?_)) ?_
      | with_reducible refine Moves.optMap (fun _ => ?_)
      | with_reducible refine Moves.optSndMapSnd ?_
      | with_reducible refine Moves.optSndMap (fun _ => ?_)
      | with_reducible refine Moves.optBind ?_ (fun _ _ => ?_)
      | with_reducible refine Moves.optOf (fun _ => ?_)
      | (with_reducible refine Moves.foldl ?_ (fun _ _ _ => ?_))
      | (with_reducible refine Moves.foldlFst ?_ (fun _ _ _ => ?_))
      | (with_reducible refine Moves.foldr ?_ (fun _ _ _ => ?_))
      | with_reducible refine Moves.optIte ?_ ?_
      | with_reducible refine Moves.foldlOpt ?_ (fun _ _ _ => ?_)
      | with_reducible refine Moves.optSome ?_
      | with_reducible exact Moves.optNone
      | with_reducible refine Moves.some (by assumption) ?_
      | with_reducible refine Moves.fst (by assumption) ?_
      | with_reducible refine Moves.snd (by assumption) ?_
      | dsimp +zetaDelta only
  | cons e l ih =>
    unfold State.allocPlanes
    repeat'
      first
      | with_reducible assumption
      | with_reducible apply ih
      | with_reducible exact Moves.optSndNone
      | with_reducible refine Moves.optSndSome ?_
      | with_reducible refine State.allocMany_moves (Within.trans (by decide : Within 32 32) hw) ?_ _ _ _ _
      | with_reducible refine Moves.someSnd ‹State.allocMany _ _ _ _ _ = some (_, _)› (State.allocMany_moves (Within.trans (by decide : Within 32 32) hw) ?_ _ _ _ _)
      | with_reducible refine Moves.ite ?_ ?_
      | split
      | extract_lets
      | with_reducible refine Moves.getD (Moves.optFindSome (fun _ => ?_)) ?_
      | with_reducible refine Moves.optMap (fun _ => ?_)
      | with_reducible refine Moves.optSndMapSnd ?_
      | with_reducible refine Moves.optSndMap (fun _ => ?_)
      | with_reducible refine Moves.optBind ?_ (fun _ _ => ?_)
      | with_reducible refine Moves.optOf (fun _ => ?_)
      | (with_reducible refine Moves.foldl ?_ (fun _ _ _ => ?_))
      | (with_reducible refine Moves.foldlFst ?_ (fun _ _ _ => ?_))
      | (with_reducible refine Moves.foldr ?_ (fun _ _ _ => ?_))
      | with_reducible refine Moves.optIte ?_ ?_
      | with_reducible refine Moves.foldlOpt ?_ (fun _ _ _ => ?_)
      | with_reducible refine Moves.optSome ?_
      | with_reducible exact Moves.optNone
      | with_reducible refine Moves.some (by assumption) ?_
      | with_reducible refine Moves.fst (by assumption) ?_
      | with_reducible refine Moves.snd (by assumption) ?_
      | dsimp +zetaDelta only

theorem State.buildPlanes_moves {w : Nat} {s u : State} (hw : Within 3221225520 w) (h : Moves w s u) (w' : Tab (BitVec 128)) (c : Nat) (r : Nat) (budget : Nat) (maxTokens : Nat) :
    Moves.exc w s (State.buildPlanes u w' c r budget maxTokens) := by
  unfold State.buildPlanes
  repeat'
    first
    | with_reducible assumption
    | with_reducible exact Moves.excError
    | with_reducible refine Moves.excOk ?_
    | with_reducible refine State.allocPlanes_moves (Within.trans (by decide : Within 32 3221225520) hw) ?_ _ _ _ _
    | with_reducible refine Moves.someSnd ‹State.allocPlanes _ _ _ _ _ = some (_, _)› (State.allocPlanes_moves (Within.trans (by decide : Within 32 3221225520) hw) ?_ _ _ _ _)
    | with_reducible refine State.buildPlane_moves (Within.trans (by decide : Within 3221225488 3221225520) hw) ?_ _ _ _ _
    | with_reducible refine Moves.some ‹State.buildPlane _ _ _ _ _ = some _› (State.buildPlane_moves (Within.trans (by decide : Within 3221225488 3221225520) hw) ?_ _ _ _ _)
    | with_reducible refine Moves.getD (State.buildPlane_moves (Within.trans (by decide : Within 3221225488 3221225520) hw) ?_ _ _ _ _) ?_
    | with_reducible refine Moves.ite ?_ ?_
    | split
    | extract_lets
    | with_reducible refine Moves.getD (Moves.optFindSome (fun _ => ?_)) ?_
    | with_reducible refine Moves.optMap (fun _ => ?_)
    | with_reducible refine Moves.optSndMapSnd ?_
    | with_reducible refine Moves.optSndMap (fun _ => ?_)
    | with_reducible refine Moves.optBind ?_ (fun _ _ => ?_)
    | with_reducible refine Moves.optOf (fun _ => ?_)
    | (with_reducible refine Moves.foldl ?_ (fun _ _ _ => ?_))
    | (with_reducible refine Moves.foldlFst ?_ (fun _ _ _ => ?_))
    | (with_reducible refine Moves.foldr ?_ (fun _ _ _ => ?_))
    | with_reducible refine Moves.optIte ?_ ?_
    | with_reducible refine Moves.foldlOpt ?_ (fun _ _ _ => ?_)
    | with_reducible refine Moves.optSome ?_
    | with_reducible exact Moves.optNone
    | with_reducible refine Moves.some (by assumption) ?_
    | with_reducible refine Moves.fst (by assumption) ?_
    | with_reducible refine Moves.snd (by assumption) ?_
    | dsimp +zetaDelta only

theorem State.joinNow_moves {w : Nat} {s u : State} (hw : Within 35187593323580 w) (h : Moves w s u) (m : Command) :
    Moves w s (State.joinNow u m) := by
  unfold State.joinNow
  repeat'
    first
    | with_reducible assumption
    | with_reducible refine State.endFail_moves (Within.trans (by decide : Within 1024 35187593323580) hw) ?_ _ _ _ _
    | with_reducible refine State.buildPlanes_moves (Within.trans (by decide : Within 3221225520 35187593323580) hw) ?_ _ _ _ _ _
    | with_reducible refine Moves.ok ‹State.buildPlanes _ _ _ _ _ _ = .ok (_, _)› (State.buildPlanes_moves (Within.trans (by decide : Within 3221225520 35187593323580) hw) ?_ _ _ _ _ _)
    | with_reducible refine State.setSlot_moves (Within.trans (by decide : Within 8192 35187593323580) hw) ?_ _ _
    | with_reducible refine State.exhausted_moves (Within.trans (by decide : Within 35184372088844 35187593323580) hw) ?_ _
    | with_reducible refine State.endDone_moves (Within.trans (by decide : Within 1024 35187593323580) hw) ?_ _ _
    | with_reducible refine State.modCtx_moves (Within.trans (by decide : Within 32 35187593323580) hw) ?_ _ _
    | with_reducible refine Moves.ite ?_ ?_
    | split
    | extract_lets
    | with_reducible refine Moves.getD (Moves.optFindSome (fun _ => ?_)) ?_
    | with_reducible refine Moves.optMap (fun _ => ?_)
    | with_reducible refine Moves.optSndMapSnd ?_
    | with_reducible refine Moves.optSndMap (fun _ => ?_)
    | with_reducible refine Moves.optBind ?_ (fun _ _ => ?_)
    | with_reducible refine Moves.optOf (fun _ => ?_)
    | (with_reducible refine Moves.foldl ?_ (fun _ _ _ => ?_))
    | (with_reducible refine Moves.foldlFst ?_ (fun _ _ _ => ?_))
    | (with_reducible refine Moves.foldr ?_ (fun _ _ _ => ?_))
    | with_reducible refine Moves.optIte ?_ ?_
    | with_reducible refine Moves.foldlOpt ?_ (fun _ _ _ => ?_)
    | with_reducible refine Moves.optSome ?_
    | with_reducible exact Moves.optNone
    | with_reducible refine Moves.some (by assumption) ?_
    | with_reducible refine Moves.fst (by assumption) ?_
    | with_reducible refine Moves.snd (by assumption) ?_
    | dsimp +zetaDelta only

theorem State.parkSeq_moves {w : Nat} {s u : State} (hw : Within 32 w) (h : Moves w s u) (m : Command) :
    Moves w s (State.parkSeq u m) := by
  unfold State.parkSeq
  repeat'
    first
    | with_reducible assumption
    | with_reducible refine State.modCtx_moves (Within.trans (by decide : Within 32 32) hw) ?_ _ _
    | with_reducible refine Moves.ite ?_ ?_
    | split
    | extract_lets
    | with_reducible refine Moves.getD (Moves.optFindSome (fun _ => ?_)) ?_
    | with_reducible refine Moves.optMap (fun _ => ?_)
    | with_reducible refine Moves.optSndMapSnd ?_
    | with_reducible refine Moves.optSndMap (fun _ => ?_)
    | with_reducible refine Moves.optBind ?_ (fun _ _ => ?_)
    | with_reducible refine Moves.optOf (fun _ => ?_)
    | (with_reducible refine Moves.foldl ?_ (fun _ _ _ => ?_))
    | (with_reducible refine Moves.foldlFst ?_ (fun _ _ _ => ?_))
    | (with_reducible refine Moves.foldr ?_ (fun _ _ _ => ?_))
    | with_reducible refine Moves.optIte ?_ ?_
    | with_reducible refine Moves.foldlOpt ?_ (fun _ _ _ => ?_)
    | with_reducible refine Moves.optSome ?_
    | with_reducible exact Moves.optNone
    | with_reducible refine Moves.some (by assumption) ?_
    | with_reducible refine Moves.fst (by assumption) ?_
    | with_reducible refine Moves.snd (by assumption) ?_
    | dsimp +zetaDelta only

theorem State.seqUpdate_moves {w : Nat} {s u : State} (hw : Within 32 w) (h : Moves w s u) (m : Command) :
    Moves.verdict w s (State.seqUpdate u m) := by
  unfold State.seqUpdate
  repeat'
    first
    | with_reducible assumption
    | with_reducible exact Moves.fail
    | with_reducible exact Moves.latch
    | with_reducible refine Moves.done ?_
    | with_reducible refine Moves.await ?_
    | with_reducible refine Moves.park ?_
    | with_reducible refine State.parkSeq_moves (Within.trans (by decide : Within 32 32) hw) ?_ _
    | with_reducible refine Moves.ite ?_ ?_
    | split
    | extract_lets
    | with_reducible refine Moves.getD (Moves.optFindSome (fun _ => ?_)) ?_
    | with_reducible refine Moves.optMap (fun _ => ?_)
    | with_reducible refine Moves.optSndMapSnd ?_
    | with_reducible refine Moves.optSndMap (fun _ => ?_)
    | with_reducible refine Moves.optBind ?_ (fun _ _ => ?_)
    | with_reducible refine Moves.optOf (fun _ => ?_)
    | (with_reducible refine Moves.foldl ?_ (fun _ _ _ => ?_))
    | (with_reducible refine Moves.foldlFst ?_ (fun _ _ _ => ?_))
    | (with_reducible refine Moves.foldr ?_ (fun _ _ _ => ?_))
    | with_reducible refine Moves.optIte ?_ ?_
    | with_reducible refine Moves.foldlOpt ?_ (fun _ _ _ => ?_)
    | with_reducible refine Moves.optSome ?_
    | with_reducible exact Moves.optNone
    | with_reducible refine Moves.some (by assumption) ?_
    | with_reducible refine Moves.fst (by assumption) ?_
    | with_reducible refine Moves.snd (by assumption) ?_
    | dsimp +zetaDelta only

theorem State.updateNow_moves {w : Nat} {s u : State} (hw : Within 9248 w) (h : Moves w s u) (m : Command) :
    Moves w s (State.updateNow u m) := by
  unfold State.updateNow
  repeat'
    first
    | with_reducible assumption
    | with_reducible refine State.endDone_moves (Within.trans (by decide : Within 1024 9248) hw) ?_ _ _
    | with_reducible refine State.modCtx_moves (Within.trans (by decide : Within 32 9248) hw) ?_ _ _
    | with_reducible refine State.setSlot_moves (Within.trans (by decide : Within 8192 9248) hw) ?_ _ _
    | with_reducible refine Moves.ite ?_ ?_
    | split
    | extract_lets
    | with_reducible refine Moves.getD (Moves.optFindSome (fun _ => ?_)) ?_
    | with_reducible refine Moves.optMap (fun _ => ?_)
    | with_reducible refine Moves.optSndMapSnd ?_
    | with_reducible refine Moves.optSndMap (fun _ => ?_)
    | with_reducible refine Moves.optBind ?_ (fun _ _ => ?_)
    | with_reducible refine Moves.optOf (fun _ => ?_)
    | (with_reducible refine Moves.foldl ?_ (fun _ _ _ => ?_))
    | (with_reducible refine Moves.foldlFst ?_ (fun _ _ _ => ?_))
    | (with_reducible refine Moves.foldr ?_ (fun _ _ _ => ?_))
    | with_reducible refine Moves.optIte ?_ ?_
    | with_reducible refine Moves.foldlOpt ?_ (fun _ _ _ => ?_)
    | with_reducible refine Moves.optSome ?_
    | with_reducible exact Moves.optNone
    | with_reducible refine Moves.some (by assumption) ?_
    | with_reducible refine Moves.fst (by assumption) ?_
    | with_reducible refine Moves.snd (by assumption) ?_
    | dsimp +zetaDelta only

theorem State.reserve_moves {w : Nat} {s u : State} (hw : Within 8192 w) (h : Moves w s u) (m : Command) :
    Moves w s (State.reserve u m) := by
  unfold State.reserve
  repeat'
    first
    | with_reducible assumption
    | with_reducible refine State.setSlot_moves (Within.trans (by decide : Within 8192 8192) hw) ?_ _ _
    | with_reducible refine Moves.ite ?_ ?_
    | split
    | extract_lets
    | with_reducible refine Moves.getD (Moves.optFindSome (fun _ => ?_)) ?_
    | with_reducible refine Moves.optMap (fun _ => ?_)
    | with_reducible refine Moves.optSndMapSnd ?_
    | with_reducible refine Moves.optSndMap (fun _ => ?_)
    | with_reducible refine Moves.optBind ?_ (fun _ _ => ?_)
    | with_reducible refine Moves.optOf (fun _ => ?_)
    | (with_reducible refine Moves.foldl ?_ (fun _ _ _ => ?_))
    | (with_reducible refine Moves.foldlFst ?_ (fun _ _ _ => ?_))
    | (with_reducible refine Moves.foldr ?_ (fun _ _ _ => ?_))
    | with_reducible refine Moves.optIte ?_ ?_
    | with_reducible refine Moves.foldlOpt ?_ (fun _ _ _ => ?_)
    | with_reducible refine Moves.optSome ?_
    | with_reducible exact Moves.optNone
    | with_reducible refine Moves.some (by assumption) ?_
    | with_reducible refine Moves.fst (by assumption) ?_
    | with_reducible refine Moves.snd (by assumption) ?_
    | dsimp +zetaDelta only

theorem State.seqJoin_moves {w : Nat} {s u : State} (hw : Within 8224 w) (h : Moves w s u) (m : Command) :
    Moves.verdict w s (State.seqJoin u m) := by
  unfold State.seqJoin
  repeat'
    first
    | with_reducible assumption
    | with_reducible exact Moves.fail
    | with_reducible exact Moves.latch
    | with_reducible refine Moves.done ?_
    | with_reducible refine Moves.await ?_
    | with_reducible refine Moves.park ?_
    | with_reducible refine State.parkSeq_moves (Within.trans (by decide : Within 32 8224) hw) ?_ _
    | with_reducible refine State.reserve_moves (Within.trans (by decide : Within 8192 8224) hw) ?_ _
    | with_reducible refine Moves.ite ?_ ?_
    | split
    | extract_lets
    | with_reducible refine Moves.getD (Moves.optFindSome (fun _ => ?_)) ?_
    | with_reducible refine Moves.optMap (fun _ => ?_)
    | with_reducible refine Moves.optSndMapSnd ?_
    | with_reducible refine Moves.optSndMap (fun _ => ?_)
    | with_reducible refine Moves.optBind ?_ (fun _ _ => ?_)
    | with_reducible refine Moves.optOf (fun _ => ?_)
    | (with_reducible refine Moves.foldl ?_ (fun _ _ _ => ?_))
    | (with_reducible refine Moves.foldlFst ?_ (fun _ _ _ => ?_))
    | (with_reducible refine Moves.foldr ?_ (fun _ _ _ => ?_))
    | with_reducible refine Moves.optIte ?_ ?_
    | with_reducible refine Moves.foldlOpt ?_ (fun _ _ _ => ?_)
    | with_reducible refine Moves.optSome ?_
    | with_reducible exact Moves.optNone
    | with_reducible refine Moves.some (by assumption) ?_
    | with_reducible refine Moves.fst (by assumption) ?_
    | with_reducible refine Moves.snd (by assumption) ?_
    | dsimp +zetaDelta only

theorem execSeqJoin_moves {w : Nat} {s u : State} (hw : Within 36527643066300 w) (h : Moves w s u) (c : Sys2Proof.CtxId) (q : Sys2Proof.RingId) :
    Moves.outcome w s (execSeqJoin c q u) := by
  unfold execSeqJoin
  repeat'
    first
    | with_reducible assumption
    | with_reducible exact Moves.fault
    | with_reducible refine Moves.next ?_
    | with_reducible exact Moves.fail
    | with_reducible exact Moves.latch
    | with_reducible refine Moves.done ?_
    | with_reducible refine Moves.await ?_
    | with_reducible refine Moves.park ?_
    | with_reducible refine State.controlRow_moves (Within.trans (by decide : Within 36527643058108 36527643066300) hw) ?_ _ _ _ _ _ (fun _ _ _ => ?_)
    | with_reducible refine State.seqJoin_moves (Within.trans (by decide : Within 8224 36527643066300) hw) ?_ _
    | with_reducible refine Moves.ite ?_ ?_
    | split
    | extract_lets
    | with_reducible refine Moves.getD (Moves.optFindSome (fun _ => ?_)) ?_
    | with_reducible refine Moves.optMap (fun _ => ?_)
    | with_reducible refine Moves.optSndMapSnd ?_
    | with_reducible refine Moves.optSndMap (fun _ => ?_)
    | with_reducible refine Moves.optBind ?_ (fun _ _ => ?_)
    | with_reducible refine Moves.optOf (fun _ => ?_)
    | (with_reducible refine Moves.foldl ?_ (fun _ _ _ => ?_))
    | (with_reducible refine Moves.foldlFst ?_ (fun _ _ _ => ?_))
    | (with_reducible refine Moves.foldr ?_ (fun _ _ _ => ?_))
    | with_reducible refine Moves.optIte ?_ ?_
    | with_reducible refine Moves.foldlOpt ?_ (fun _ _ _ => ?_)
    | with_reducible refine Moves.optSome ?_
    | with_reducible exact Moves.optNone
    | with_reducible refine Moves.some (by assumption) ?_
    | with_reducible refine Moves.fst (by assumption) ?_
    | with_reducible refine Moves.snd (by assumption) ?_
    | dsimp +zetaDelta only

theorem State.leaveNow_moves {w : Nat} {s u : State} (hw : Within 9248 w) (h : Moves w s u) (m : Command) :
    Moves w s (State.leaveNow u m) := by
  unfold State.leaveNow
  repeat'
    first
    | with_reducible assumption
    | with_reducible refine State.modCtx_moves (Within.trans (by decide : Within 32 9248) hw) ?_ _ _
    | with_reducible refine State.endDone_moves (Within.trans (by decide : Within 1024 9248) hw) ?_ _ _
    | with_reducible refine State.setSlot_moves (Within.trans (by decide : Within 8192 9248) hw) ?_ _ _
    | with_reducible refine Moves.ite ?_ ?_
    | split
    | extract_lets
    | with_reducible refine Moves.getD (Moves.optFindSome (fun _ => ?_)) ?_
    | with_reducible refine Moves.optMap (fun _ => ?_)
    | with_reducible refine Moves.optSndMapSnd ?_
    | with_reducible refine Moves.optSndMap (fun _ => ?_)
    | with_reducible refine Moves.optBind ?_ (fun _ _ => ?_)
    | with_reducible refine Moves.optOf (fun _ => ?_)
    | (with_reducible refine Moves.foldl ?_ (fun _ _ _ => ?_))
    | (with_reducible refine Moves.foldlFst ?_ (fun _ _ _ => ?_))
    | (with_reducible refine Moves.foldr ?_ (fun _ _ _ => ?_))
    | with_reducible refine Moves.optIte ?_ ?_
    | with_reducible refine Moves.foldlOpt ?_ (fun _ _ _ => ?_)
    | with_reducible refine Moves.optSome ?_
    | with_reducible exact Moves.optNone
    | with_reducible refine Moves.some (by assumption) ?_
    | with_reducible refine Moves.fst (by assumption) ?_
    | with_reducible refine Moves.snd (by assumption) ?_
    | dsimp +zetaDelta only

theorem execSeqUpdate_moves {w : Nat} {s u : State} (hw : Within 36527643058108 w) (h : Moves w s u) (c : Sys2Proof.CtxId) (q : Sys2Proof.RingId) :
    Moves.outcome w s (execSeqUpdate c q u) := by
  unfold execSeqUpdate
  repeat'
    first
    | with_reducible assumption
    | with_reducible exact Moves.fault
    | with_reducible refine Moves.next ?_
    | with_reducible exact Moves.fail
    | with_reducible exact Moves.latch
    | with_reducible refine Moves.done ?_
    | with_reducible refine Moves.await ?_
    | with_reducible refine Moves.park ?_
    | with_reducible refine State.controlRow_moves (Within.trans (by decide : Within 36527643058108 36527643058108) hw) ?_ _ _ _ _ _ (fun _ _ _ => ?_)
    | with_reducible refine State.seqUpdate_moves (Within.trans (by decide : Within 32 36527643058108) hw) ?_ _
    | with_reducible refine Moves.ite ?_ ?_
    | split
    | extract_lets
    | with_reducible refine Moves.getD (Moves.optFindSome (fun _ => ?_)) ?_
    | with_reducible refine Moves.optMap (fun _ => ?_)
    | with_reducible refine Moves.optSndMapSnd ?_
    | with_reducible refine Moves.optSndMap (fun _ => ?_)
    | with_reducible refine Moves.optBind ?_ (fun _ _ => ?_)
    | with_reducible refine Moves.optOf (fun _ => ?_)
    | (with_reducible refine Moves.foldl ?_ (fun _ _ _ => ?_))
    | (with_reducible refine Moves.foldlFst ?_ (fun _ _ _ => ?_))
    | (with_reducible refine Moves.foldr ?_ (fun _ _ _ => ?_))
    | with_reducible refine Moves.optIte ?_ ?_
    | with_reducible refine Moves.foldlOpt ?_ (fun _ _ _ => ?_)
    | with_reducible refine Moves.optSome ?_
    | with_reducible exact Moves.optNone
    | with_reducible refine Moves.some (by assumption) ?_
    | with_reducible refine Moves.fst (by assumption) ?_
    | with_reducible refine Moves.snd (by assumption) ?_
    | dsimp +zetaDelta only

theorem State.seqLeave_moves {w : Nat} {s u : State} (hw : Within 8224 w) (h : Moves w s u) (m : Command) :
    Moves.verdict w s (State.seqLeave u m) := by
  unfold State.seqLeave
  repeat'
    first
    | with_reducible assumption
    | with_reducible exact Moves.fail
    | with_reducible exact Moves.latch
    | with_reducible refine Moves.done ?_
    | with_reducible refine Moves.await ?_
    | with_reducible refine Moves.park ?_
    | with_reducible refine State.parkSeq_moves (Within.trans (by decide : Within 32 8224) hw) ?_ _
    | with_reducible refine State.setSlot_moves (Within.trans (by decide : Within 8192 8224) hw) ?_ _ _
    | with_reducible refine Moves.ite ?_ ?_
    | split
    | extract_lets
    | with_reducible refine Moves.getD (Moves.optFindSome (fun _ => ?_)) ?_
    | with_reducible refine Moves.optMap (fun _ => ?_)
    | with_reducible refine Moves.optSndMapSnd ?_
    | with_reducible refine Moves.optSndMap (fun _ => ?_)
    | with_reducible refine Moves.optBind ?_ (fun _ _ => ?_)
    | with_reducible refine Moves.optOf (fun _ => ?_)
    | (with_reducible refine Moves.foldl ?_ (fun _ _ _ => ?_))
    | (with_reducible refine Moves.foldlFst ?_ (fun _ _ _ => ?_))
    | (with_reducible refine Moves.foldr ?_ (fun _ _ _ => ?_))
    | with_reducible refine Moves.optIte ?_ ?_
    | with_reducible refine Moves.foldlOpt ?_ (fun _ _ _ => ?_)
    | with_reducible refine Moves.optSome ?_
    | with_reducible exact Moves.optNone
    | with_reducible refine Moves.some (by assumption) ?_
    | with_reducible refine Moves.fst (by assumption) ?_
    | with_reducible refine Moves.snd (by assumption) ?_
    | dsimp +zetaDelta only

theorem execSeqLeave_moves {w : Nat} {s u : State} (hw : Within 36527643066300 w) (h : Moves w s u) (c : Sys2Proof.CtxId) (q : Sys2Proof.RingId) :
    Moves.outcome w s (execSeqLeave c q u) := by
  unfold execSeqLeave
  repeat'
    first
    | with_reducible assumption
    | with_reducible exact Moves.fault
    | with_reducible refine Moves.next ?_
    | with_reducible exact Moves.fail
    | with_reducible exact Moves.latch
    | with_reducible refine Moves.done ?_
    | with_reducible refine Moves.await ?_
    | with_reducible refine Moves.park ?_
    | with_reducible refine State.controlRow_moves (Within.trans (by decide : Within 36527643058108 36527643066300) hw) ?_ _ _ _ _ _ (fun _ _ _ => ?_)
    | with_reducible refine State.seqLeave_moves (Within.trans (by decide : Within 8224 36527643066300) hw) ?_ _
    | with_reducible refine Moves.ite ?_ ?_
    | split
    | extract_lets
    | with_reducible refine Moves.getD (Moves.optFindSome (fun _ => ?_)) ?_
    | with_reducible refine Moves.optMap (fun _ => ?_)
    | with_reducible refine Moves.optSndMapSnd ?_
    | with_reducible refine Moves.optSndMap (fun _ => ?_)
    | with_reducible refine Moves.optBind ?_ (fun _ _ => ?_)
    | with_reducible refine Moves.optOf (fun _ => ?_)
    | (with_reducible refine Moves.foldl ?_ (fun _ _ _ => ?_))
    | (with_reducible refine Moves.foldlFst ?_ (fun _ _ _ => ?_))
    | (with_reducible refine Moves.foldr ?_ (fun _ _ _ => ?_))
    | with_reducible refine Moves.optIte ?_ ?_
    | with_reducible refine Moves.foldlOpt ?_ (fun _ _ _ => ?_)
    | with_reducible refine Moves.optSome ?_
    | with_reducible exact Moves.optNone
    | with_reducible refine Moves.some (by assumption) ?_
    | with_reducible refine Moves.fst (by assumption) ?_
    | with_reducible refine Moves.snd (by assumption) ?_
    | dsimp +zetaDelta only

end Sys2Proof.Machine
end

