-- ==== Sys2Proof/Laws/PlateCheckMoves.lean ====
section
/-! SUPPORT. Sys2Proof/Laws/PlateCheckMoves.lean: what each operation of Machine/PlateCheck.lean can do to the state: the parts it may change, and that it keeps
the canonical form. -/

namespace Sys2Proof.Machine

theorem State.plateLoad_moves {w : Nat} {s u : State} (hw : Within 32 w) (h : Moves w s u) (cmd : Command) :
    Moves.verdict w s (State.plateLoad u cmd) := by
  unfold State.plateLoad
  repeat'
    first
    | with_reducible assumption
    | with_reducible exact Moves.fail
    | with_reducible exact Moves.latch
    | with_reducible refine Moves.done ?_
    | with_reducible refine Moves.await ?_
    | with_reducible refine Moves.park ?_
    | with_reducible refine State.modCtx_moves (Within.trans (by decide : Within 32 32) hw) ?_ _ _
    | with_reducible refine Moves.ite ?_ ?_
    | split
    | extract_lets
    | with_reducible refine Moves.getD (Moves.optFindSome (fun _ => ?_)) ?_
    | with_reducible refine Moves.optMap (fun _ => ?_)
    | with_reducible refine Moves.optSndMapSnd ?_
    | with_reducible refine Moves.optSndMap (fun _ => ?_)
    | with_reducible refine Moves.optBind ?_ (fun _ _ => ?_)
    | with_reducible refine Moves.optOf (fun _ => ?_)
    | (with_reducible refine Moves.foldl ?_ (fun _ _ _ => ?_))
    | (with_reducible refine Moves.foldlFst ?_ (fun _ _ _ => ?_))
    | (with_reducible refine Moves.foldr ?_ (fun _ _ _ => ?_))
    | with_reducible refine Moves.optIte ?_ ?_
    | with_reducible refine Moves.foldlOpt ?_ (fun _ _ _ => ?_)
    | with_reducible refine Moves.optSome ?_
    | with_reducible exact Moves.optNone
    | with_reducible refine Moves.some (by assumption) ?_
    | with_reducible refine Moves.fst (by assumption) ?_
    | with_reducible refine Moves.snd (by assumption) ?_
    | dsimp +zetaDelta only

theorem execPlateLoad_moves {w : Nat} {s u : State} (hw : Within 36527643058108 w) (h : Moves w s u) (c : Sys2Proof.CtxId) (q : Sys2Proof.RingId) :
    Moves.outcome w s (execPlateLoad c q u) := by
  unfold execPlateLoad
  repeat'
    first
    | with_reducible assumption
    | with_reducible exact Moves.fault
    | with_reducible refine Moves.next ?_
    | with_reducible exact Moves.fail
    | with_reducible exact Moves.latch
    | with_reducible refine Moves.done ?_
    | with_reducible refine Moves.await ?_
    | with_reducible refine Moves.park ?_
    | with_reducible refine State.controlRow_moves (Within.trans (by decide : Within 36527643058108 36527643058108) hw) ?_ _ _ _ _ _ (fun _ _ _ => ?_)
    | with_reducible refine State.plateLoad_moves (Within.trans (by decide : Within 32 36527643058108) hw) ?_ _
    | with_reducible refine Moves.ite ?_ ?_
    | split
    | extract_lets
    | with_reducible refine Moves.getD (Moves.optFindSome (fun _ => ?_)) ?_
    | with_reducible refine Moves.optMap (fun _ => ?_)
    | with_reducible refine Moves.optSndMapSnd ?_
    | with_reducible refine Moves.optSndMap (fun _ => ?_)
    | with_reducible refine Moves.optBind ?_ (fun _ _ => ?_)
    | with_reducible refine Moves.optOf (fun _ => ?_)
    | (with_reducible refine Moves.foldl ?_ (fun _ _ _ => ?_))
    | (with_reducible refine Moves.foldlFst ?_ (fun _ _ _ => ?_))
    | (with_reducible refine Moves.foldr ?_ (fun _ _ _ => ?_))
    | with_reducible refine Moves.optIte ?_ ?_
    | with_reducible refine Moves.foldlOpt ?_ (fun _ _ _ => ?_)
    | with_reducible refine Moves.optSome ?_
    | with_reducible exact Moves.optNone
    | with_reducible refine Moves.some (by assumption) ?_
    | with_reducible refine Moves.fst (by assumption) ?_
    | with_reducible refine Moves.snd (by assumption) ?_
    | dsimp +zetaDelta only

theorem State.plateDrop_moves {w : Nat} {s u : State} (hw : Within 32 w) (h : Moves w s u) (cmd : Command) :
    Moves.verdict w s (State.plateDrop u cmd) := by
  unfold State.plateDrop
  repeat'
    first
    | with_reducible assumption
    | with_reducible exact Moves.fail
    | with_reducible exact Moves.latch
    | with_reducible refine Moves.done ?_
    | with_reducible refine Moves.await ?_
    | with_reducible refine Moves.park ?_
    | with_reducible refine State.modCtx_moves (Within.trans (by decide : Within 32 32) hw) ?_ _ _
    | with_reducible refine Moves.ite ?_ ?_
    | split
    | extract_lets
    | with_reducible refine Moves.getD (Moves.optFindSome (fun _ => ?_)) ?_
    | with_reducible refine Moves.optMap (fun _ => ?_)
    | with_reducible refine Moves.optSndMapSnd ?_
    | with_reducible refine Moves.optSndMap (fun _ => ?_)
    | with_reducible refine Moves.optBind ?_ (fun _ _ => ?_)
    | with_reducible refine Moves.optOf (fun _ => ?_)
    | (with_reducible refine Moves.foldl ?_ (fun _ _ _ => ?_))
    | (with_reducible refine Moves.foldlFst ?_ (fun _ _ _ => ?_))
    | (with_reducible refine Moves.foldr ?_ (fun _ _ _ => ?_))
    | with_reducible refine Moves.optIte ?_ ?_
    | with_reducible refine Moves.foldlOpt ?_ (fun _ _ _ => ?_)
    | with_reducible refine Moves.optSome ?_
    | with_reducible exact Moves.optNone
    | with_reducible refine Moves.some (by assumption) ?_
    | with_reducible refine Moves.fst (by assumption) ?_
    | with_reducible refine Moves.snd (by assumption) ?_
    | dsimp +zetaDelta only

theorem execPlateDrop_moves {w : Nat} {s u : State} (hw : Within 36527643058108 w) (h : Moves w s u) (c : Sys2Proof.CtxId) (q : Sys2Proof.RingId) :
    Moves.outcome w s (execPlateDrop c q u) := by
  unfold execPlateDrop
  repeat'
    first
    | with_reducible assumption
    | with_reducible exact Moves.fault
    | with_reducible refine Moves.next ?_
    | with_reducible exact Moves.fail
    | with_reducible exact Moves.latch
    | with_reducible refine Moves.done ?_
    | with_reducible refine Moves.await ?_
    | with_reducible refine Moves.park ?_
    | with_reducible refine State.controlRow_moves (Within.trans (by decide : Within 36527643058108 36527643058108) hw) ?_ _ _ _ _ _ (fun _ _ _ => ?_)
    | with_reducible refine State.plateDrop_moves (Within.trans (by decide : Within 32 36527643058108) hw) ?_ _
    | with_reducible refine Moves.ite ?_ ?_
    | split
    | extract_lets
    | with_reducible refine Moves.getD (Moves.optFindSome (fun _ => ?_)) ?_
    | with_reducible refine Moves.optMap (fun _ => ?_)
    | with_reducible refine Moves.optSndMapSnd ?_
    | with_reducible refine Moves.optSndMap (fun _ => ?_)
    | with_reducible refine Moves.optBind ?_ (fun _ _ => ?_)
    | with_reducible refine Moves.optOf (fun _ => ?_)
    | (with_reducible refine Moves.foldl ?_ (fun _ _ _ => ?_))
    | (with_reducible refine Moves.foldlFst ?_ (fun _ _ _ => ?_))
    | (with_reducible refine Moves.foldr ?_ (fun _ _ _ => ?_))
    | with_reducible refine Moves.optIte ?_ ?_
    | with_reducible refine Moves.foldlOpt ?_ (fun _ _ _ => ?_)
    | with_reducible refine Moves.optSome ?_
    | with_reducible exact Moves.optNone
    | with_reducible refine Moves.some (by assumption) ?_
    | with_reducible refine Moves.fst (by assumption) ?_
    | with_reducible refine Moves.snd (by assumption) ?_
    | dsimp +zetaDelta only

theorem State.runCheck_moves {w : Nat} {s u : State} (hw : Within 0 w) (h : Moves w s u) (cmd : Command) :
    Moves.verdict w s (State.runCheck u cmd) := by
  unfold State.runCheck
  repeat'
    first
    | with_reducible assumption
    | with_reducible exact Moves.fail
    | with_reducible exact Moves.latch
    | with_reducible refine Moves.done ?_
    | with_reducible refine Moves.await ?_
    | with_reducible refine Moves.park ?_
    | with_reducible refine Moves.ite ?_ ?_
    | split
    | extract_lets
    | with_reducible refine Moves.getD (Moves.optFindSome (fun _ => ?_)) ?_
    | with_reducible refine Moves.optMap (fun _ => ?_)
    | with_reducible refine Moves.optSndMapSnd ?_
    | with_reducible refine Moves.optSndMap (fun _ => ?_)
    | with_reducible refine Moves.optBind ?_ (fun _ _ => ?_)
    | with_reducible refine Moves.optOf (fun _ => ?_)
    | (with_reducible refine Moves.foldl ?_ (fun _ _ _ => ?_))
    | (with_reducible refine Moves.foldlFst ?_ (fun _ _ _ => ?_))
    | (with_reducible refine Moves.foldr ?_ (fun _ _ _ => ?_))
    | with_reducible refine Moves.optIte ?_ ?_
    | with_reducible refine Moves.foldlOpt ?_ (fun _ _ _ => ?_)
    | with_reducible refine Moves.optSome ?_
    | with_reducible exact Moves.optNone
    | with_reducible refine Moves.some (by assumption) ?_
    | with_reducible refine Moves.fst (by assumption) ?_
    | with_reducible refine Moves.snd (by assumption) ?_
    | dsimp +zetaDelta only

theorem execCombineRun_moves {w : Nat} {s u : State} (hw : Within 36527643058108 w) (h : Moves w s u) (c : Sys2Proof.CtxId) (q : Sys2Proof.RingId) :
    Moves.outcome w s (execCombineRun c q u) := by
  unfold execCombineRun
  repeat'
    first
    | with_reducible assumption
    | with_reducible exact Moves.fault
    | with_reducible refine Moves.next ?_
    | with_reducible exact Moves.fail
    | with_reducible exact Moves.latch
    | with_reducible refine Moves.done ?_
    | with_reducible refine Moves.await ?_
    | with_reducible refine Moves.park ?_
    | with_reducible refine State.claimRow_moves (Within.trans (by decide : Within 36527643058108 36527643058108) hw) ?_ _ _ _ _ _ (fun _ _ _ => ?_)
    | with_reducible refine State.runCheck_moves (Within.trans (by decide : Within 0 36527643058108) hw) ?_ _
    | with_reducible refine Moves.ite ?_ ?_
    | split
    | extract_lets
    | with_reducible refine Moves.getD (Moves.optFindSome (fun _ => ?_)) ?_
    | with_reducible refine Moves.optMap (fun _ => ?_)
    | with_reducible refine Moves.optSndMapSnd ?_
    | with_reducible refine Moves.optSndMap (fun _ => ?_)
    | with_reducible refine Moves.optBind ?_ (fun _ _ => ?_)
    | with_reducible refine Moves.optOf (fun _ => ?_)
    | (with_reducible refine Moves.foldl ?_ (fun _ _ _ => ?_))
    | (with_reducible refine Moves.foldlFst ?_ (fun _ _ _ => ?_))
    | (with_reducible refine Moves.foldr ?_ (fun _ _ _ => ?_))
    | with_reducible refine Moves.optIte ?_ ?_
    | with_reducible refine Moves.foldlOpt ?_ (fun _ _ _ => ?_)
    | with_reducible refine Moves.optSome ?_
    | with_reducible exact Moves.optNone
    | with_reducible refine Moves.some (by assumption) ?_
    | with_reducible refine Moves.fst (by assumption) ?_
    | with_reducible refine Moves.snd (by assumption) ?_
    | dsimp +zetaDelta only

theorem execLayerRun_moves {w : Nat} {s u : State} (hw : Within 36527643058108 w) (h : Moves w s u) (c : Sys2Proof.CtxId) (q : Sys2Proof.RingId) :
    Moves.outcome w s (execLayerRun c q u) := by
  unfold execLayerRun
  repeat'
    first
    | with_reducible assumption
    | with_reducible exact Moves.fault
    | with_reducible refine Moves.next ?_
    | with_reducible exact Moves.fail
    | with_reducible exact Moves.latch
    | with_reducible refine Moves.done ?_
    | with_reducible refine Moves.await ?_
    | with_reducible refine Moves.park ?_
    | with_reducible refine State.claimRow_moves (Within.trans (by decide : Within 36527643058108 36527643058108) hw) ?_ _ _ _ _ _ (fun _ _ _ => ?_)
    | with_reducible refine State.runCheck_moves (Within.trans (by decide : Within 0 36527643058108) hw) ?_ _
    | with_reducible refine Moves.ite ?_ ?_
    | split
    | extract_lets
    | with_reducible refine Moves.getD (Moves.optFindSome (fun _ => ?_)) ?_
    | with_reducible refine Moves.optMap (fun _ => ?_)
    | with_reducible refine Moves.optSndMapSnd ?_
    | with_reducible refine Moves.optSndMap (fun _ => ?_)
    | with_reducible refine Moves.optBind ?_ (fun _ _ => ?_)
    | with_reducible refine Moves.optOf (fun _ => ?_)
    | (with_reducible refine Moves.foldl ?_ (fun _ _ _ => ?_))
    | (with_reducible refine Moves.foldlFst ?_ (fun _ _ _ => ?_))
    | (with_reducible refine Moves.foldr ?_ (fun _ _ _ => ?_))
    | with_reducible refine Moves.optIte ?_ ?_
    | with_reducible refine Moves.foldlOpt ?_ (fun _ _ _ => ?_)
    | with_reducible refine Moves.optSome ?_
    | with_reducible exact Moves.optNone
    | with_reducible refine Moves.some (by assumption) ?_
    | with_reducible refine Moves.fst (by assumption) ?_
    | with_reducible refine Moves.snd (by assumption) ?_
    | dsimp +zetaDelta only

end Sys2Proof.Machine
end

