-- ==== Sys2Proof/Laws/CallsMoves.lean ====
section
/-! SUPPORT. Sys2Proof/Laws/CallsMoves.lean: what each operation of Machine/Calls.lean can do to the state: the parts it may change, and that it keeps
the canonical form. -/

namespace Sys2Proof.Machine

theorem State.silence_moves {w : Nat} {s u : State} (hw : Within 2570593241941276 w) (h : Moves w s u) (seq : Sys2Proof.W32) (r : Nat) (g : Nat) (b : Busy) (tc : Nat) :
    Moves w s (State.silence u seq r g b tc) := by
  unfold State.silence
  repeat'
    first
    | with_reducible assumption
    | with_reducible refine State.sumScribble_moves (Within.trans (by decide : Within 3238002704 2570593241941276) hw) ?_ _ _ _
    | with_reducible refine State.modGroup_moves (Within.trans (by decide : Within 16384 2570593241941276) hw) ?_ _ _
    | with_reducible refine State.halt_moves (Within.trans (by decide : Within 37314675885324 2570593241941276) hw) ?_ _ _ _ _ _ _
    | with_reducible refine State.modRR_moves (Within.trans (by decide : Within 256 2570593241941276) hw) ?_ _ _ _
    | with_reducible refine State.reach_moves (Within.trans (by decide : Within 2568459700142092 2570593241941276) hw) ?_ _ _
    | with_reducible refine Moves.ite ?_ ?_
    | split
    | extract_lets
    | with_reducible refine Moves.getD (Moves.optFindSome (fun _ => ?_)) ?_
    | with_reducible refine Moves.optMap (fun _ => ?_)
    | with_reducible refine Moves.optSndMapSnd ?_
    | with_reducible refine Moves.optSndMap (fun _ => ?_)
    | with_reducible refine Moves.optBind ?_ (fun _ _ => ?_)
    | with_reducible refine Moves.optOf (fun _ => ?_)
    | (with_reducible refine Moves.foldl ?_ (fun _ _ _ => ?_))
    | (with_reducible refine Moves.foldlFst ?_ (fun _ _ _ => ?_))
    | (with_reducible refine Moves.foldr ?_ (fun _ _ _ => ?_))
    | with_reducible refine Moves.optIte ?_ ?_
    | with_reducible refine Moves.foldlOpt ?_ (fun _ _ _ => ?_)
    | with_reducible refine Moves.optSome ?_
    | with_reducible exact Moves.optNone
    | with_reducible refine Moves.some (by assumption) ?_
    | with_reducible refine Moves.fst (by assumption) ?_
    | with_reducible refine Moves.snd (by assumption) ?_
    | dsimp +zetaDelta only

theorem State.modCall_moves {w : Nat} {s u : State} (hw : Within 16384 w) (h : Moves w s u) (g : Nat) (f : Call → Call) :
    Moves w s (State.modCall u g f) := by
  unfold State.modCall
  repeat'
    first
    | with_reducible assumption
    | with_reducible refine State.modGroup_moves (Within.trans (by decide : Within 16384 16384) hw) ?_ _ _
    | with_reducible refine Moves.ite ?_ ?_
    | split
    | extract_lets
    | with_reducible refine Moves.getD (Moves.optFindSome (fun _ => ?_)) ?_
    | with_reducible refine Moves.optMap (fun _ => ?_)
    | with_reducible refine Moves.optSndMapSnd ?_
    | with_reducible refine Moves.optSndMap (fun _ => ?_)
    | with_reducible refine Moves.optBind ?_ (fun _ _ => ?_)
    | with_reducible refine Moves.optOf (fun _ => ?_)
    | (with_reducible refine Moves.foldl ?_ (fun _ _ _ => ?_))
    | (with_reducible refine Moves.foldlFst ?_ (fun _ _ _ => ?_))
    | (with_reducible refine Moves.foldr ?_ (fun _ _ _ => ?_))
    | with_reducible refine Moves.optIte ?_ ?_
    | with_reducible refine Moves.foldlOpt ?_ (fun _ _ _ => ?_)
    | with_reducible refine Moves.optSome ?_
    | with_reducible exact Moves.optNone
    | with_reducible refine Moves.some (by assumption) ?_
    | with_reducible refine Moves.fst (by assumption) ?_
    | with_reducible refine Moves.snd (by assumption) ?_
    | dsimp +zetaDelta only

theorem State.sendSlab_moves {w : Nat} {s u : State} (hw : Within 68719493120 w) (h : Moves w s u) (g : Nat) (tree : Nat) (dir : Nat) (m : Nat) (pkt : Sys2Proof.Bytes) :
    Moves w s (State.sendSlab u g tree dir m pkt) := by
  unfold State.sendSlab
  repeat'
    first
    | with_reducible assumption
    | with_reducible refine State.modCall_moves (Within.trans (by decide : Within 16384 68719493120) hw) ?_ _ _
    | with_reducible refine State.sendMember_moves (Within.trans (by decide : Within 68719476736 68719493120) hw) ?_ _ _ _
    | with_reducible refine Moves.ite ?_ ?_
    | split
    | extract_lets
    | with_reducible refine Moves.getD (Moves.optFindSome (fun _ => ?_)) ?_
    | with_reducible refine Moves.optMap (fun _ => ?_)
    | with_reducible refine Moves.optSndMapSnd ?_
    | with_reducible refine Moves.optSndMap (fun _ => ?_)
    | with_reducible refine Moves.optBind ?_ (fun _ _ => ?_)
    | with_reducible refine Moves.optOf (fun _ => ?_)
    | (with_reducible refine Moves.foldl ?_ (fun _ _ _ => ?_))
    | (with_reducible refine Moves.foldlFst ?_ (fun _ _ _ => ?_))
    | (with_reducible refine Moves.foldr ?_ (fun _ _ _ => ?_))
    | with_reducible refine Moves.optIte ?_ ?_
    | with_reducible refine Moves.foldlOpt ?_ (fun _ _ _ => ?_)
    | with_reducible refine Moves.optSome ?_
    | with_reducible exact Moves.optNone
    | with_reducible refine Moves.some (by assumption) ?_
    | with_reducible refine Moves.fst (by assumption) ?_
    | with_reducible refine Moves.snd (by assumption) ?_
    | dsimp +zetaDelta only

theorem State.writeDests_moves {w : Nat} {s u : State} (hw : Within 3221225488 w) (h : Moves w s u) (k : Call) (op : Nat) (t : Nat) (vs : List Fp) :
    Moves w s (State.writeDests u k op t vs) := by
  unfold State.writeDests
  repeat'
    first
    | with_reducible assumption
    | with_reducible refine State.sumWrite_moves (Within.trans (by decide : Within 3221225488 3221225488) hw) ?_ _ _ _ _
    | with_reducible refine Moves.ite ?_ ?_
    | split
    | extract_lets
    | with_reducible refine Moves.getD (Moves.optFindSome (fun _ => ?_)) ?_
    | with_reducible refine Moves.optMap (fun _ => ?_)
    | with_reducible refine Moves.optSndMapSnd ?_
    | with_reducible refine Moves.optSndMap (fun _ => ?_)
    | with_reducible refine Moves.optBind ?_ (fun _ _ => ?_)
    | with_reducible refine Moves.optOf (fun _ => ?_)
    | (with_reducible refine Moves.foldl ?_ (fun _ _ _ => ?_))
    | (with_reducible refine Moves.foldlFst ?_ (fun _ _ _ => ?_))
    | (with_reducible refine Moves.foldr ?_ (fun _ _ _ => ?_))
    | with_reducible refine Moves.optIte ?_ ?_
    | with_reducible refine Moves.foldlOpt ?_ (fun _ _ _ => ?_)
    | with_reducible refine Moves.optSome ?_
    | with_reducible exact Moves.optNone
    | with_reducible refine Moves.some (by assumption) ?_
    | with_reducible refine Moves.fst (by assumption) ?_
    | with_reducible refine Moves.snd (by assumption) ?_
    | dsimp +zetaDelta only

theorem State.resultSlab_moves {w : Nat} {s u : State} (hw : Within 71940718608 w) (h : Moves w s u) (g : Nat) (tree : Nat) (j : Nat) (payload : Sys2Proof.Bytes) :
    Moves w s (State.resultSlab u g tree j payload) := by
  unfold State.resultSlab
  repeat'
    first
    | with_reducible assumption
    | with_reducible refine State.writeDests_moves (Within.trans (by decide : Within 3221225488 71940718608) hw) ?_ _ _ _ _
    | with_reducible refine State.modCall_moves (Within.trans (by decide : Within 16384 71940718608) hw) ?_ _ _
    | with_reducible refine State.sendSlab_moves (Within.trans (by decide : Within 68719493120 71940718608) hw) ?_ _ _ _ _ _
    | with_reducible refine Moves.ite ?_ ?_
    | split
    | extract_lets
    | with_reducible refine Moves.getD (Moves.optFindSome (fun _ => ?_)) ?_
    | with_reducible refine Moves.optMap (fun _ => ?_)
    | with_reducible refine Moves.optSndMapSnd ?_
    | with_reducible refine Moves.optSndMap (fun _ => ?_)
    | with_reducible refine Moves.optBind ?_ (fun _ _ => ?_)
    | with_reducible refine Moves.optOf (fun _ => ?_)
    | (with_reducible refine Moves.foldl ?_ (fun _ _ _ => ?_))
    | (with_reducible refine Moves.foldlFst ?_ (fun _ _ _ => ?_))
    | (with_reducible refine Moves.foldr ?_ (fun _ _ _ => ?_))
    | with_reducible refine Moves.optIte ?_ ?_
    | with_reducible refine Moves.foldlOpt ?_ (fun _ _ _ => ?_)
    | with_reducible refine Moves.optSome ?_
    | with_reducible exact Moves.optNone
    | with_reducible refine Moves.some (by assumption) ?_
    | with_reducible refine Moves.fst (by assumption) ?_
    | with_reducible refine Moves.snd (by assumption) ?_
    | dsimp +zetaDelta only

theorem State.formSlabs_moves {w : Nat} {s u : State} (hw : Within 71940718608 w) (h : Moves w s u) (g : Nat) (tree : Nat) (x3 : Nat) :
    Moves w s (State.formSlabs u g tree x3) := by
  induction x3 generalizing u with
  | zero =>
    unfold State.formSlabs
    repeat'
      first
      | with_reducible assumption
      | with_reducible refine State.modCall_moves (Within.trans (by decide : Within 16384 71940718608) hw) ?_ _ _
      | with_reducible refine State.sendSlab_moves (Within.trans (by decide : Within 68719493120 71940718608) hw) ?_ _ _ _ _ _
      | with_reducible refine State.resultSlab_moves (Within.trans (by decide : Within 71940718608 71940718608) hw) ?_ _ _ _ _
      | with_reducible refine Moves.ite ?_ ?_
      | split
      | extract_lets
      | with_reducible refine Moves.getD (Moves.optFindSome (fun _ => ?_)) ?_
      | with_reducible refine Moves.optMap (fun _ => ?_)
      | with_reducible refine Moves.optSndMapSnd ?_
      | with_reducible refine Moves.optSndMap (fun _ => ?_)
      | with_reducible refine Moves.optBind ?_ (fun _ _ => ?_)
      | with_reducible refine Moves.optOf (fun _ => ?_)
      | (with_reducible refine Moves.foldl ?_ (fun _ _ _ => ?_))
      | (with_reducible refine Moves.foldlFst ?_ (fun _ _ _ => ?_))
      | (with_reducible refine Moves.foldr ?_ (fun _ _ _ => ?_))
      | with_reducible refine Moves.optIte ?_ ?_
      | with_reducible refine Moves.foldlOpt ?_ (fun _ _ _ => ?_)
      | with_reducible refine Moves.optSome ?_
      | with_reducible exact Moves.optNone
      | with_reducible refine Moves.some (by assumption) ?_
      | with_reducible refine Moves.fst (by assumption) ?_
      | with_reducible refine Moves.snd (by assumption) ?_
      | dsimp +zetaDelta only
  | succ n ih =>
    unfold State.formSlabs
    repeat'
      first
      | with_reducible assumption
      | with_reducible apply ih
      | with_reducible refine State.modCall_moves (Within.trans (by decide : Within 16384 71940718608) hw) ?_ _ _
      | with_reducible refine State.sendSlab_moves (Within.trans (by decide : Within 68719493120 71940718608) hw) ?_ _ _ _ _ _
      | with_reducible refine State.resultSlab_moves (Within.trans (by decide : Within 71940718608 71940718608) hw) ?_ _ _ _ _
      | with_reducible refine Moves.ite ?_ ?_
      | split
      | extract_lets
      | with_reducible refine Moves.getD (Moves.optFindSome (fun _ => ?_)) ?_
      | with_reducible refine Moves.optMap (fun _ => ?_)
      | with_reducible refine Moves.optSndMapSnd ?_
      | with_reducible refine Moves.optSndMap (fun _ => ?_)
      | with_reducible refine Moves.optBind ?_ (fun _ _ => ?_)
      | with_reducible refine Moves.optOf (fun _ => ?_)
      | (with_reducible refine Moves.foldl ?_ (fun _ _ _ => ?_))
      | (with_reducible refine Moves.foldlFst ?_ (fun _ _ _ => ?_))
      | (with_reducible refine Moves.foldr ?_ (fun _ _ _ => ?_))
      | with_reducible refine Moves.optIte ?_ ?_
      | with_reducible refine Moves.foldlOpt ?_ (fun _ _ _ => ?_)
      | with_reducible refine Moves.optSome ?_
      | with_reducible exact Moves.optNone
      | with_reducible refine Moves.some (by assumption) ?_
      | with_reducible refine Moves.fst (by assumption) ?_
      | with_reducible refine Moves.snd (by assumption) ?_
      | dsimp +zetaDelta only

theorem State.endOpen_moves {w : Nat} {s u : State} (hw : Within 256 w) (h : Moves w s u) (seq : Sys2Proof.W32) (g : Nat) (op : Nat) :
    Moves w s (State.endOpen u seq g op) := by
  unfold State.endOpen
  repeat'
    first
    | with_reducible assumption
    | with_reducible refine State.modRR_moves (Within.trans (by decide : Within 256 256) hw) ?_ _ _ _
    | with_reducible refine Moves.ite ?_ ?_
    | split
    | extract_lets
    | with_reducible refine Moves.getD (Moves.optFindSome (fun _ => ?_)) ?_
    | with_reducible refine Moves.optMap (fun _ => ?_)
    | with_reducible refine Moves.optSndMapSnd ?_
    | with_reducible refine Moves.optSndMap (fun _ => ?_)
    | with_reducible refine Moves.optBind ?_ (fun _ _ => ?_)
    | with_reducible refine Moves.optOf (fun _ => ?_)
    | (with_reducible refine Moves.foldl ?_ (fun _ _ _ => ?_))
    | (with_reducible refine Moves.foldlFst ?_ (fun _ _ _ => ?_))
    | (with_reducible refine Moves.foldr ?_ (fun _ _ _ => ?_))
    | with_reducible refine Moves.optIte ?_ ?_
    | with_reducible refine Moves.foldlOpt ?_ (fun _ _ _ => ?_)
    | with_reducible refine Moves.optSome ?_
    | with_reducible exact Moves.optNone
    | with_reducible refine Moves.some (by assumption) ?_
    | with_reducible refine Moves.fst (by assumption) ?_
    | with_reducible refine Moves.snd (by assumption) ?_
    | dsimp +zetaDelta only

theorem State.haltOpen_moves {w : Nat} {s u : State} (hw : Within 37314675885324 w) (h : Moves w s u) (seq : Sys2Proof.W32) (g : Nat) (mask : Nat) (code : Nat) :
    Moves w s (State.haltOpen u seq g mask code) := by
  unfold State.haltOpen
  repeat'
    first
    | with_reducible assumption
    | with_reducible refine State.haltRegion_moves (Within.trans (by decide : Within 37314675885324 37314675885324) hw) ?_ _ _ _ _
    | with_reducible refine State.halt_moves (Within.trans (by decide : Within 37314675885324 37314675885324) hw) ?_ _ _ _ _ _ _
    | with_reducible refine State.modRR_moves (Within.trans (by decide : Within 256 37314675885324) hw) ?_ _ _ _
    | with_reducible refine Moves.ite ?_ ?_
    | split
    | extract_lets
    | with_reducible refine Moves.getD (Moves.optFindSome (fun _ => ?_)) ?_
    | with_reducible refine Moves.optMap (fun _ => ?_)
    | with_reducible refine Moves.optSndMapSnd ?_
    | with_reducible refine Moves.optSndMap (fun _ => ?_)
    | with_reducible refine Moves.optBind ?_ (fun _ _ => ?_)
    | with_reducible refine Moves.optOf (fun _ => ?_)
    | (with_reducible refine Moves.foldl ?_ (fun _ _ _ => ?_))
    | (with_reducible refine Moves.foldlFst ?_ (fun _ _ _ => ?_))
    | (with_reducible refine Moves.foldr ?_ (fun _ _ _ => ?_))
    | with_reducible refine Moves.optIte ?_ ?_
    | with_reducible refine Moves.foldlOpt ?_ (fun _ _ _ => ?_)
    | with_reducible refine Moves.optSome ?_
    | with_reducible exact Moves.optNone
    | with_reducible refine Moves.some (by assumption) ?_
    | with_reducible refine Moves.fst (by assumption) ?_
    | with_reducible refine Moves.snd (by assumption) ?_
    | dsimp +zetaDelta only

theorem State.dropCall_moves {w : Nat} {s u : State} (hw : Within 37314675885324 w) (h : Moves w s u) (g : Nat) (status : Nat) (diff : Nat) :
    Moves w s (State.dropCall u g status diff) := by
  unfold State.dropCall
  repeat'
    first
    | with_reducible assumption
    | with_reducible refine State.modGroup_moves (Within.trans (by decide : Within 16384 37314675885324) hw) ?_ _ _
    | with_reducible refine State.ends_moves (Within.trans (by decide : Within 1024 37314675885324) hw) ?_ _
    | with_reducible refine State.endOpen_moves (Within.trans (by decide : Within 256 37314675885324) hw) ?_ _ _ _
    | with_reducible refine State.modRun_moves (Within.trans (by decide : Within 256 37314675885324) hw) ?_ _ _
    | with_reducible refine State.haltOpen_moves (Within.trans (by decide : Within 37314675885324 37314675885324) hw) ?_ _ _ _ _
    | with_reducible refine Moves.ite ?_ ?_
    | split
    | extract_lets
    | with_reducible refine Moves.getD (Moves.optFindSome (fun _ => ?_)) ?_
    | with_reducible refine Moves.optMap (fun _ => ?_)
    | with_reducible refine Moves.optSndMapSnd ?_
    | with_reducible refine Moves.optSndMap (fun _ => ?_)
    | with_reducible refine Moves.optBind ?_ (fun _ _ => ?_)
    | with_reducible refine Moves.optOf (fun _ => ?_)
    | (with_reducible refine Moves.foldl ?_ (fun _ _ _ => ?_))
    | (with_reducible refine Moves.foldlFst ?_ (fun _ _ _ => ?_))
    | (with_reducible refine Moves.foldr ?_ (fun _ _ _ => ?_))
    | with_reducible refine Moves.optIte ?_ ?_
    | with_reducible refine Moves.foldlOpt ?_ (fun _ _ _ => ?_)
    | with_reducible refine Moves.optSome ?_
    | with_reducible exact Moves.optNone
    | with_reducible refine Moves.some (by assumption) ?_
    | with_reducible refine Moves.fst (by assumption) ?_
    | with_reducible refine Moves.snd (by assumption) ?_
    | dsimp +zetaDelta only

theorem State.lateReform_moves {w : Nat} {s u : State} (hw : Within 16384 w) (h : Moves w s u) (g : Nat) :
    Moves w s (State.lateReform u g) := by
  unfold State.lateReform
  repeat'
    first
    | with_reducible assumption
    | with_reducible refine State.modGroup_moves (Within.trans (by decide : Within 16384 16384) hw) ?_ _ _
    | with_reducible refine Moves.ite ?_ ?_
    | split
    | extract_lets
    | with_reducible refine Moves.getD (Moves.optFindSome (fun _ => ?_)) ?_
    | with_reducible refine Moves.optMap (fun _ => ?_)
    | with_reducible refine Moves.optSndMapSnd ?_
    | with_reducible refine Moves.optSndMap (fun _ => ?_)
    | with_reducible refine Moves.optBind ?_ (fun _ _ => ?_)
    | with_reducible refine Moves.optOf (fun _ => ?_)
    | (with_reducible refine Moves.foldl ?_ (fun _ _ _ => ?_))
    | (with_reducible refine Moves.foldlFst ?_ (fun _ _ _ => ?_))
    | (with_reducible refine Moves.foldr ?_ (fun _ _ _ => ?_))
    | with_reducible refine Moves.optIte ?_ ?_
    | with_reducible refine Moves.foldlOpt ?_ (fun _ _ _ => ?_)
    | with_reducible refine Moves.optSome ?_
    | with_reducible exact Moves.optNone
    | with_reducible refine Moves.some (by assumption) ?_
    | with_reducible refine Moves.fst (by assumption) ?_
    | with_reducible refine Moves.snd (by assumption) ?_
    | dsimp +zetaDelta only

theorem State.finishCall_moves {w : Nat} {s u : State} (hw : Within 37314675885324 w) (h : Moves w s u) (g : Nat) (status : Nat) (diff : Nat) :
    Moves w s (State.finishCall u g status diff) := by
  unfold State.finishCall
  repeat'
    first
    | with_reducible assumption
    | with_reducible refine State.dropCall_moves (Within.trans (by decide : Within 37314675885324 37314675885324) hw) ?_ _ _ _
    | with_reducible refine State.modGroup_moves (Within.trans (by decide : Within 16384 37314675885324) hw) ?_ _ _
    | with_reducible refine State.bumpF_moves (Within.trans (by decide : Within 12 37314675885324) hw) ?_ _ _ _
    | with_reducible refine State.contain_moves (Within.trans (by decide : Within 35184372088844 37314675885324) hw) ?_ _ _
    | with_reducible refine State.lateReform_moves (Within.trans (by decide : Within 16384 37314675885324) hw) ?_ _
    | with_reducible refine Moves.ite ?_ ?_
    | split
    | extract_lets
    | with_reducible refine Moves.getD (Moves.optFindSome (fun _ => ?_)) ?_
    | with_reducible refine Moves.optMap (fun _ => ?_)
    | with_reducible refine Moves.optSndMapSnd ?_
    | with_reducible refine Moves.optSndMap (fun _ => ?_)
    | with_reducible refine Moves.optBind ?_ (fun _ _ => ?_)
    | with_reducible refine Moves.optOf (fun _ => ?_)
    | (with_reducible refine Moves.foldl ?_ (fun _ _ _ => ?_))
    | (with_reducible refine Moves.foldlFst ?_ (fun _ _ _ => ?_))
    | (with_reducible refine Moves.foldr ?_ (fun _ _ _ => ?_))
    | with_reducible refine Moves.optIte ?_ ?_
    | with_reducible refine Moves.foldlOpt ?_ (fun _ _ _ => ?_)
    | with_reducible refine Moves.optSome ?_
    | with_reducible exact Moves.optNone
    | with_reducible refine Moves.some (by assumption) ?_
    | with_reducible refine Moves.fst (by assumption) ?_
    | with_reducible refine Moves.snd (by assumption) ?_
    | dsimp +zetaDelta only

theorem State.endGlobals_moves {w : Nat} {s u : State} (hw : Within 256 w) (h : Moves w s u) (g : Nat) (k : Call) :
    Moves w s (State.endGlobals u g k) := by
  unfold State.endGlobals
  repeat'
    first
    | with_reducible assumption
    | with_reducible refine State.modRR_moves (Within.trans (by decide : Within 256 256) hw) ?_ _ _ _
    | with_reducible refine Moves.ite ?_ ?_
    | split
    | extract_lets
    | with_reducible refine Moves.getD (Moves.optFindSome (fun _ => ?_)) ?_
    | with_reducible refine Moves.optMap (fun _ => ?_)
    | with_reducible refine Moves.optSndMapSnd ?_
    | with_reducible refine Moves.optSndMap (fun _ => ?_)
    | with_reducible refine Moves.optBind ?_ (fun _ _ => ?_)
    | with_reducible refine Moves.optOf (fun _ => ?_)
    | (with_reducible refine Moves.foldl ?_ (fun _ _ _ => ?_))
    | (with_reducible refine Moves.foldlFst ?_ (fun _ _ _ => ?_))
    | (with_reducible refine Moves.foldr ?_ (fun _ _ _ => ?_))
    | with_reducible refine Moves.optIte ?_ ?_
    | with_reducible refine Moves.foldlOpt ?_ (fun _ _ _ => ?_)
    | with_reducible refine Moves.optSome ?_
    | with_reducible exact Moves.optNone
    | with_reducible refine Moves.some (by assumption) ?_
    | with_reducible refine Moves.fst (by assumption) ?_
    | with_reducible refine Moves.snd (by assumption) ?_
    | dsimp +zetaDelta only

theorem State.advanceCall_moves {w : Nat} {s u : State} (hw : Within 2570593241941276 w) (h : Moves w s u) (g : Nat) :
    Moves w s (State.advanceCall u g) := by
  unfold State.advanceCall
  repeat'
    first
    | with_reducible assumption
    | with_reducible refine State.silence_moves (Within.trans (by decide : Within 2570593241941276 2570593241941276) hw) ?_ _ _ _ _ _
    | with_reducible refine State.formSlabs_moves (Within.trans (by decide : Within 71940718608 2570593241941276) hw) ?_ _ _ _
    | with_reducible refine State.finishCall_moves (Within.trans (by decide : Within 37314675885324 2570593241941276) hw) ?_ _ _ _
    | with_reducible refine State.endGlobals_moves (Within.trans (by decide : Within 256 2570593241941276) hw) ?_ _ _
    | with_reducible refine Moves.ite ?_ ?_
    | split
    | extract_lets
    | with_reducible refine Moves.getD (Moves.optFindSome (fun _ => ?_)) ?_
    | with_reducible refine Moves.optMap (fun _ => ?_)
    | with_reducible refine Moves.optSndMapSnd ?_
    | with_reducible refine Moves.optSndMap (fun _ => ?_)
    | with_reducible refine Moves.optBind ?_ (fun _ _ => ?_)
    | with_reducible refine Moves.optOf (fun _ => ?_)
    | (with_reducible refine Moves.foldl ?_ (fun _ _ _ => ?_))
    | (with_reducible refine Moves.foldlFst ?_ (fun _ _ _ => ?_))
    | (with_reducible refine Moves.foldr ?_ (fun _ _ _ => ?_))
    | with_reducible refine Moves.optIte ?_ ?_
    | with_reducible refine Moves.foldlOpt ?_ (fun _ _ _ => ?_)
    | with_reducible refine Moves.optSome ?_
    | with_reducible exact Moves.optNone
    | with_reducible refine Moves.some (by assumption) ?_
    | with_reducible refine Moves.fst (by assumption) ?_
    | with_reducible refine Moves.snd (by assumption) ?_
    | dsimp +zetaDelta only

theorem State.sumLocal_moves {w : Nat} {s u : State} (hw : Within 16777216 w) (h : Moves w s u) (k : Call) (op : Nat) :
    Moves w s (State.sumLocal u k op).1 := by
  unfold State.sumLocal
  repeat'
    first
    | with_reducible assumption
    | with_reducible refine Moves.ite ?_ ?_
    | split
    | extract_lets
    | with_reducible refine Moves.getD (Moves.optFindSome (fun _ => ?_)) ?_
    | with_reducible refine Moves.optMap (fun _ => ?_)
    | with_reducible refine Moves.optSndMapSnd ?_
    | with_reducible refine Moves.optSndMap (fun _ => ?_)
    | with_reducible refine Moves.optBind ?_ (fun _ _ => ?_)
    | with_reducible refine Moves.optOf (fun _ => ?_)
    | (with_reducible refine Moves.foldl ?_ (fun _ _ _ => ?_))
    | (with_reducible refine Moves.foldlFst ?_ (fun _ _ _ => ?_))
    | (with_reducible refine Moves.foldr ?_ (fun _ _ _ => ?_))
    | with_reducible refine Moves.optIte ?_ ?_
    | with_reducible refine Moves.foldlOpt ?_ (fun _ _ _ => ?_)
    | with_reducible refine Moves.optSome ?_
    | with_reducible exact Moves.optNone
    | with_reducible refine Moves.some (by assumption) ?_
    | with_reducible refine Moves.fst (by assumption) ?_
    | with_reducible refine Moves.snd (by assumption) ?_
    | dsimp +zetaDelta only
    | with_reducible refine Moves.upd ?_ rfl ⟨rfl, rfl, .same, .same, .same, .same, ⟨.rfl, .rfl, .rfl, .of hw (by decide), .rfl⟩⟩ ⟨id, id, id, id, id, id, id⟩

theorem State.stalePacket_moves {w : Nat} {s u : State} (hw : Within 12 w) (h : Moves w s u)  :
    Moves w s (State.stalePacket u) := by
  unfold State.stalePacket
  repeat'
    first
    | with_reducible assumption
    | with_reducible refine State.bumpF_moves (Within.trans (by decide : Within 12 12) hw) ?_ _ _ _
    | with_reducible refine Moves.ite ?_ ?_
    | split
    | extract_lets
    | with_reducible refine Moves.getD (Moves.optFindSome (fun _ => ?_)) ?_
    | with_reducible refine Moves.optMap (fun _ => ?_)
    | with_reducible refine Moves.optSndMapSnd ?_
    | with_reducible refine Moves.optSndMap (fun _ => ?_)
    | with_reducible refine Moves.optBind ?_ (fun _ _ => ?_)
    | with_reducible refine Moves.optOf (fun _ => ?_)
    | (with_reducible refine Moves.foldl ?_ (fun _ _ _ => ?_))
    | (with_reducible refine Moves.foldlFst ?_ (fun _ _ _ => ?_))
    | (with_reducible refine Moves.foldr ?_ (fun _ _ _ => ?_))
    | with_reducible refine Moves.optIte ?_ ?_
    | with_reducible refine Moves.foldlOpt ?_ (fun _ _ _ => ?_)
    | with_reducible refine Moves.optSome ?_
    | with_reducible exact Moves.optNone
    | with_reducible refine Moves.some (by assumption) ?_
    | with_reducible refine Moves.fst (by assumption) ?_
    | with_reducible refine Moves.snd (by assumption) ?_
    | dsimp +zetaDelta only

theorem State.heard_moves {w : Nat} {s u : State} (hw : Within 16384 w) (h : Moves w s u) (g : Nat) (m : Nat) :
    Moves w s (State.heard u g m) := by
  unfold State.heard
  repeat'
    first
    | with_reducible assumption
    | with_reducible refine State.modCall_moves (Within.trans (by decide : Within 16384 16384) hw) ?_ _ _
    | with_reducible refine Moves.ite ?_ ?_
    | split
    | extract_lets
    | with_reducible refine Moves.getD (Moves.optFindSome (fun _ => ?_)) ?_
    | with_reducible refine Moves.optMap (fun _ => ?_)
    | with_reducible refine Moves.optSndMapSnd ?_
    | with_reducible refine Moves.optSndMap (fun _ => ?_)
    | with_reducible refine Moves.optBind ?_ (fun _ _ => ?_)
    | with_reducible refine Moves.optOf (fun _ => ?_)
    | (with_reducible refine Moves.foldl ?_ (fun _ _ _ => ?_))
    | (with_reducible refine Moves.foldlFst ?_ (fun _ _ _ => ?_))
    | (with_reducible refine Moves.foldr ?_ (fun _ _ _ => ?_))
    | with_reducible refine Moves.optIte ?_ ?_
    | with_reducible refine Moves.foldlOpt ?_ (fun _ _ _ => ?_)
    | with_reducible refine Moves.optSome ?_
    | with_reducible exact Moves.optNone
    | with_reducible refine Moves.some (by assumption) ?_
    | with_reducible refine Moves.fst (by assumption) ?_
    | with_reducible refine Moves.snd (by assumption) ?_
    | dsimp +zetaDelta only

theorem State.flushSlabs_moves {w : Nat} {s u : State} (hw : Within 68719493120 w) (h : Moves w s u) (g : Nat) (tree : Nat) (dir : Nat) (m : Nat) (x5 : List (Nat × Nat × Nat × Sys2Proof.Bytes)) :
    Moves w s (State.flushSlabs u g tree dir m x5) := by
  induction x5 generalizing u with
  | nil =>
    unfold State.flushSlabs
    repeat'
      first
      | with_reducible assumption
      | with_reducible refine State.sendSlab_moves (Within.trans (by decide : Within 68719493120 68719493120) hw) ?_ _ _ _ _ _
      | with_reducible refine Moves.ite ?_ ?_
      | split
      | extract_lets
      | with_reducible refine Moves.getD (Moves.optFindSome (fun _ => ?_)) ?_
      | with_reducible refine Moves.optMap (fun _ => ?_)
      | with_reducible refine Moves.optSndMapSnd ?_
      | with_reducible refine Moves.optSndMap (fun _ => ?_)
      | with_reducible refine Moves.optBind ?_ (fun _ _ => ?_)
      | with_reducible refine Moves.optOf (fun _ => ?_)
      | (with_reducible refine Moves.foldl ?_ (fun _ _ _ => ?_))
      | (with_reducible refine Moves.foldlFst ?_ (fun _ _ _ => ?_))
      | (with_reducible refine Moves.foldr ?_ (fun _ _ _ => ?_))
      | with_reducible refine Moves.optIte ?_ ?_
      | with_reducible refine Moves.foldlOpt ?_ (fun _ _ _ => ?_)
      | with_reducible refine Moves.optSome ?_
      | with_reducible exact Moves.optNone
      | with_reducible refine Moves.some (by assumption) ?_
      | with_reducible refine Moves.fst (by assumption) ?_
      | with_reducible refine Moves.snd (by assumption) ?_
      | dsimp +zetaDelta only
  | cons e l ih =>
    unfold State.flushSlabs
    repeat'
      first
      | with_reducible assumption
      | with_reducible apply ih
      | with_reducible refine State.sendSlab_moves (Within.trans (by decide : Within 68719493120 68719493120) hw) ?_ _ _ _ _ _
      | with_reducible refine Moves.ite ?_ ?_
      | split
      | extract_lets
      | with_reducible refine Moves.getD (Moves.optFindSome (fun _ => ?_)) ?_
      | with_reducible refine Moves.optMap (fun _ => ?_)
      | with_reducible refine Moves.optSndMapSnd ?_
      | with_reducible refine Moves.optSndMap (fun _ => ?_)
      | with_reducible refine Moves.optBind ?_ (fun _ _ => ?_)
      | with_reducible refine Moves.optOf (fun _ => ?_)
      | (with_reducible refine Moves.foldl ?_ (fun _ _ _ => ?_))
      | (with_reducible refine Moves.foldlFst ?_ (fun _ _ _ => ?_))
      | (with_reducible refine Moves.foldr ?_ (fun _ _ _ => ?_))
      | with_reducible refine Moves.optIte ?_ ?_
      | with_reducible refine Moves.foldlOpt ?_ (fun _ _ _ => ?_)
      | with_reducible refine Moves.optSome ?_
      | with_reducible exact Moves.optNone
      | with_reducible refine Moves.some (by assumption) ?_
      | with_reducible refine Moves.fst (by assumption) ?_
      | with_reducible refine Moves.snd (by assumption) ?_
      | dsimp +zetaDelta only

theorem State.creditPacket_moves {w : Nat} {s u : State} (hw : Within 2570593241941276 w) (h : Moves w s u) (pkt : Sys2Proof.Bytes) :
    Moves w s (State.creditPacket u pkt) := by
  unfold State.creditPacket
  repeat'
    first
    | with_reducible assumption
    | with_reducible refine State.stalePacket_moves (Within.trans (by decide : Within 12 2570593241941276) hw) ?_
    | with_reducible refine State.modCall_moves (Within.trans (by decide : Within 16384 2570593241941276) hw) ?_ _ _
    | with_reducible refine State.heard_moves (Within.trans (by decide : Within 16384 2570593241941276) hw) ?_ _ _
    | with_reducible refine State.advanceCall_moves (Within.trans (by decide : Within 2570593241941276 2570593241941276) hw) ?_ _
    | with_reducible refine State.flushSlabs_moves (Within.trans (by decide : Within 68719493120 2570593241941276) hw) ?_ _ _ _ _ _
    | with_reducible refine Moves.ite ?_ ?_
    | split
    | extract_lets
    | with_reducible refine Moves.getD (Moves.optFindSome (fun _ => ?_)) ?_
    | with_reducible refine Moves.optMap (fun _ => ?_)
    | with_reducible refine Moves.optSndMapSnd ?_
    | with_reducible refine Moves.optSndMap (fun _ => ?_)
    | with_reducible refine Moves.optBind ?_ (fun _ _ => ?_)
    | with_reducible refine Moves.optOf (fun _ => ?_)
    | (with_reducible refine Moves.foldl ?_ (fun _ _ _ => ?_))
    | (with_reducible refine Moves.foldlFst ?_ (fun _ _ _ => ?_))
    | (with_reducible refine Moves.foldr ?_ (fun _ _ _ => ?_))
    | with_reducible refine Moves.optIte ?_ ?_
    | with_reducible refine Moves.foldlOpt ?_ (fun _ _ _ => ?_)
    | with_reducible refine Moves.optSome ?_
    | with_reducible exact Moves.optNone
    | with_reducible refine Moves.some (by assumption) ?_
    | with_reducible refine Moves.fst (by assumption) ?_
    | with_reducible refine Moves.snd (by assumption) ?_
    | dsimp +zetaDelta only

theorem execConfluenceCredit_moves {w : Nat} {s u : State} (hw : Within 2570593241941276 w) (h : Moves w s u) (r : Sys2Proof.RegionId) (p : Sys2Proof.PortId) (pkt : Sys2Proof.Bytes) :
    Moves.outcome w s (execConfluenceCredit r p pkt u) := by
  unfold execConfluenceCredit
  repeat'
    first
    | with_reducible assumption
    | with_reducible exact Moves.fault
    | with_reducible refine Moves.next ?_
    | with_reducible refine State.creditPacket_moves (Within.trans (by decide : Within 2570593241941276 2570593241941276) hw) ?_ _
    | with_reducible refine State.takeInlet_moves (Within.trans (by decide : Within 137438953484 2570593241941276) hw) ?_ _ _ _
    | with_reducible refine Moves.ite ?_ ?_
    | split
    | extract_lets
    | with_reducible refine Moves.getD (Moves.optFindSome (fun _ => ?_)) ?_
    | with_reducible refine Moves.optMap (fun _ => ?_)
    | with_reducible refine Moves.optSndMapSnd ?_
    | with_reducible refine Moves.optSndMap (fun _ => ?_)
    | with_reducible refine Moves.optBind ?_ (fun _ _ => ?_)
    | with_reducible refine Moves.optOf (fun _ => ?_)
    | (with_reducible refine Moves.foldl ?_ (fun _ _ _ => ?_))
    | (with_reducible refine Moves.foldlFst ?_ (fun _ _ _ => ?_))
    | (with_reducible refine Moves.foldr ?_ (fun _ _ _ => ?_))
    | with_reducible refine Moves.optIte ?_ ?_
    | with_reducible refine Moves.foldlOpt ?_ (fun _ _ _ => ?_)
    | with_reducible refine Moves.optSome ?_
    | with_reducible exact Moves.optNone
    | with_reducible refine Moves.some (by assumption) ?_
    | with_reducible refine Moves.fst (by assumption) ?_
    | with_reducible refine Moves.snd (by assumption) ?_
    | dsimp +zetaDelta only

theorem State.dataPacket_moves {w : Nat} {s u : State} (hw : Within 2570593241941276 w) (h : Moves w s u) (pkt : Sys2Proof.Bytes) :
    Moves w s (State.dataPacket u pkt) := by
  unfold State.dataPacket
  repeat'
    first
    | with_reducible assumption
    | with_reducible refine State.stalePacket_moves (Within.trans (by decide : Within 12 2570593241941276) hw) ?_
    | with_reducible refine State.sendMember_moves (Within.trans (by decide : Within 68719476736 2570593241941276) hw) ?_ _ _ _
    | with_reducible refine State.heard_moves (Within.trans (by decide : Within 16384 2570593241941276) hw) ?_ _ _
    | with_reducible refine State.advanceCall_moves (Within.trans (by decide : Within 2570593241941276 2570593241941276) hw) ?_ _
    | with_reducible refine State.modCall_moves (Within.trans (by decide : Within 16384 2570593241941276) hw) ?_ _ _
    | with_reducible refine State.resultSlab_moves (Within.trans (by decide : Within 71940718608 2570593241941276) hw) ?_ _ _ _ _
    | with_reducible refine Moves.ite ?_ ?_
    | split
    | extract_lets
    | with_reducible refine Moves.getD (Moves.optFindSome (fun _ => ?_)) ?_
    | with_reducible refine Moves.optMap (fun _ => ?_)
    | with_reducible refine Moves.optSndMapSnd ?_
    | with_reducible refine Moves.optSndMap (fun _ => ?_)
    | with_reducible refine Moves.optBind ?_ (fun _ _ => ?_)
    | with_reducible refine Moves.optOf (fun _ => ?_)
    | (with_reducible refine Moves.foldl ?_ (fun _ _ _ => ?_))
    | (with_reducible refine Moves.foldlFst ?_ (fun _ _ _ => ?_))
    | (with_reducible refine Moves.foldr ?_ (fun _ _ _ => ?_))
    | with_reducible refine Moves.optIte ?_ ?_
    | with_reducible refine Moves.foldlOpt ?_ (fun _ _ _ => ?_)
    | with_reducible refine Moves.optSome ?_
    | with_reducible exact Moves.optNone
    | with_reducible refine Moves.some (by assumption) ?_
    | with_reducible refine Moves.fst (by assumption) ?_
    | with_reducible refine Moves.snd (by assumption) ?_
    | dsimp +zetaDelta only

theorem execDataPacket_moves {w : Nat} {s u : State} (hw : Within 2570593241941276 w) (h : Moves w s u) (r : Sys2Proof.RegionId) (p : Sys2Proof.PortId) (pkt : Sys2Proof.Bytes) :
    Moves.outcome w s (execDataPacket r p pkt u) := by
  unfold execDataPacket
  repeat'
    first
    | with_reducible assumption
    | with_reducible exact Moves.fault
    | with_reducible refine Moves.next ?_
    | with_reducible refine State.dataPacket_moves (Within.trans (by decide : Within 2570593241941276 2570593241941276) hw) ?_ _
    | with_reducible refine State.takeInlet_moves (Within.trans (by decide : Within 137438953484 2570593241941276) hw) ?_ _ _ _
    | with_reducible refine Moves.ite ?_ ?_
    | split
    | extract_lets
    | with_reducible refine Moves.getD (Moves.optFindSome (fun _ => ?_)) ?_
    | with_reducible refine Moves.optMap (fun _ => ?_)
    | with_reducible refine Moves.optSndMapSnd ?_
    | with_reducible refine Moves.optSndMap (fun _ => ?_)
    | with_reducible refine Moves.optBind ?_ (fun _ _ => ?_)
    | with_reducible refine Moves.optOf (fun _ => ?_)
    | (with_reducible refine Moves.foldl ?_ (fun _ _ _ => ?_))
    | (with_reducible refine Moves.foldlFst ?_ (fun _ _ _ => ?_))
    | (with_reducible refine Moves.foldr ?_ (fun _ _ _ => ?_))
    | with_reducible refine Moves.optIte ?_ ?_
    | with_reducible refine Moves.foldlOpt ?_ (fun _ _ _ => ?_)
    | with_reducible refine Moves.optSome ?_
    | with_reducible exact Moves.optNone
    | with_reducible refine Moves.some (by assumption) ?_
    | with_reducible refine Moves.fst (by assumption) ?_
    | with_reducible refine Moves.snd (by assumption) ?_
    | dsimp +zetaDelta only

theorem State.startData_moves {w : Nat} {s u : State} (hw : Within 2570593241941276 w) (h : Moves w s u) (g : Nat) :
    Moves w s (State.startData u g) := by
  unfold State.startData
  repeat'
    first
    | with_reducible assumption
    | with_reducible refine State.modCall_moves (Within.trans (by decide : Within 16384 2570593241941276) hw) ?_ _ _
    | with_reducible refine State.silence_moves (Within.trans (by decide : Within 2570593241941276 2570593241941276) hw) ?_ _ _ _ _ _
    | with_reducible refine State.advanceCall_moves (Within.trans (by decide : Within 2570593241941276 2570593241941276) hw) ?_ _
    | with_reducible refine State.endOpen_moves (Within.trans (by decide : Within 256 2570593241941276) hw) ?_ _ _ _
    | with_reducible refine State.sumLocal_moves (Within.trans (by decide : Within 16777216 2570593241941276) hw) ?_ _ _
    | with_reducible refine Moves.fst ‹State.sumLocal _ _ _ = (_, _)› (State.sumLocal_moves (Within.trans (by decide : Within 16777216 2570593241941276) hw) ?_ _ _)
    | with_reducible refine Moves.ite ?_ ?_
    | split
    | extract_lets
    | with_reducible refine Moves.getD (Moves.optFindSome (fun _ => ?_)) ?_
    | with_reducible refine Moves.optMap (fun _ => ?_)
    | with_reducible refine Moves.optSndMapSnd ?_
    | with_reducible refine Moves.optSndMap (fun _ => ?_)
    | with_reducible refine Moves.optBind ?_ (fun _ _ => ?_)
    | with_reducible refine Moves.optOf (fun _ => ?_)
    | (with_reducible refine Moves.foldl ?_ (fun _ _ _ => ?_))
    | (with_reducible refine Moves.foldlFst ?_ (fun _ _ _ => ?_))
    | (with_reducible refine Moves.foldr ?_ (fun _ _ _ => ?_))
    | with_reducible refine Moves.optIte ?_ ?_
    | with_reducible refine Moves.foldlOpt ?_ (fun _ _ _ => ?_)
    | with_reducible refine Moves.optSome ?_
    | with_reducible exact Moves.optNone
    | with_reducible refine Moves.some (by assumption) ?_
    | with_reducible refine Moves.fst (by assumption) ?_
    | with_reducible refine Moves.snd (by assumption) ?_
    | dsimp +zetaDelta only

theorem State.verdict_moves {w : Nat} {s u : State} (hw : Within 2570593241941276 w) (h : Moves w s u) (g : Nat) (tree : Nat) (go : Bool) (diff : Nat) :
    Moves w s (State.verdict u g tree go diff) := by
  unfold State.verdict
  repeat'
    first
    | with_reducible assumption
    | with_reducible refine State.sendMember_moves (Within.trans (by decide : Within 68719476736 2570593241941276) hw) ?_ _ _ _
    | with_reducible refine State.finishCall_moves (Within.trans (by decide : Within 37314675885324 2570593241941276) hw) ?_ _ _ _
    | with_reducible refine State.modCall_moves (Within.trans (by decide : Within 16384 2570593241941276) hw) ?_ _ _
    | with_reducible refine State.startData_moves (Within.trans (by decide : Within 2570593241941276 2570593241941276) hw) ?_ _
    | with_reducible refine Moves.ite ?_ ?_
    | split
    | extract_lets
    | with_reducible refine Moves.getD (Moves.optFindSome (fun _ => ?_)) ?_
    | with_reducible refine Moves.optMap (fun _ => ?_)
    | with_reducible refine Moves.optSndMapSnd ?_
    | with_reducible refine Moves.optSndMap (fun _ => ?_)
    | with_reducible refine Moves.optBind ?_ (fun _ _ => ?_)
    | with_reducible refine Moves.optOf (fun _ => ?_)
    | (with_reducible refine Moves.foldl ?_ (fun _ _ _ => ?_))
    | (with_reducible refine Moves.foldlFst ?_ (fun _ _ _ => ?_))
    | (with_reducible refine Moves.foldr ?_ (fun _ _ _ => ?_))
    | with_reducible refine Moves.optIte ?_ ?_
    | with_reducible refine Moves.foldlOpt ?_ (fun _ _ _ => ?_)
    | with_reducible refine Moves.optSome ?_
    | with_reducible exact Moves.optNone
    | with_reducible refine Moves.some (by assumption) ?_
    | with_reducible refine Moves.fst (by assumption) ?_
    | with_reducible refine Moves.snd (by assumption) ?_
    | dsimp +zetaDelta only

theorem State.tryArm_moves {w : Nat} {s u : State} (hw : Within 2570593241941276 w) (h : Moves w s u) (g : Nat) (tree : Nat) :
    Moves w s (State.tryArm u g tree) := by
  unfold State.tryArm
  repeat'
    first
    | with_reducible assumption
    | with_reducible refine State.sendMember_moves (Within.trans (by decide : Within 68719476736 2570593241941276) hw) ?_ _ _ _
    | with_reducible refine State.verdict_moves (Within.trans (by decide : Within 2570593241941276 2570593241941276) hw) ?_ _ _ _ _
    | with_reducible refine Moves.ite ?_ ?_
    | split
    | extract_lets
    | with_reducible refine Moves.getD (Moves.optFindSome (fun _ => ?_)) ?_
    | with_reducible refine Moves.optMap (fun _ => ?_)
    | with_reducible refine Moves.optSndMapSnd ?_
    | with_reducible refine Moves.optSndMap (fun _ => ?_)
    | with_reducible refine Moves.optBind ?_ (fun _ _ => ?_)
    | with_reducible refine Moves.optOf (fun _ => ?_)
    | (with_reducible refine Moves.foldl ?_ (fun _ _ _ => ?_))
    | (with_reducible refine Moves.foldlFst ?_ (fun _ _ _ => ?_))
    | (with_reducible refine Moves.foldr ?_ (fun _ _ _ => ?_))
    | with_reducible refine Moves.optIte ?_ ?_
    | with_reducible refine Moves.foldlOpt ?_ (fun _ _ _ => ?_)
    | with_reducible refine Moves.optSome ?_
    | with_reducible exact Moves.optNone
    | with_reducible refine Moves.some (by assumption) ?_
    | with_reducible refine Moves.fst (by assumption) ?_
    | with_reducible refine Moves.snd (by assumption) ?_
    | dsimp +zetaDelta only

theorem State.armPacket_moves {w : Nat} {s u : State} (hw : Within 2570593241941276 w) (h : Moves w s u) (pkt : Sys2Proof.Bytes) :
    Moves w s (State.armPacket u pkt) := by
  unfold State.armPacket
  repeat'
    first
    | with_reducible assumption
    | with_reducible refine State.stalePacket_moves (Within.trans (by decide : Within 12 2570593241941276) hw) ?_
    | with_reducible refine State.modGroup_moves (Within.trans (by decide : Within 16384 2570593241941276) hw) ?_ _ _
    | with_reducible refine State.heard_moves (Within.trans (by decide : Within 16384 2570593241941276) hw) ?_ _ _
    | with_reducible refine State.tryArm_moves (Within.trans (by decide : Within 2570593241941276 2570593241941276) hw) ?_ _ _
    | with_reducible refine State.modCall_moves (Within.trans (by decide : Within 16384 2570593241941276) hw) ?_ _ _
    | with_reducible refine Moves.ite ?_ ?_
    | split
    | extract_lets
    | with_reducible refine Moves.getD (Moves.optFindSome (fun _ => ?_)) ?_
    | with_reducible refine Moves.optMap (fun _ => ?_)
    | with_reducible refine Moves.optSndMapSnd ?_
    | with_reducible refine Moves.optSndMap (fun _ => ?_)
    | with_reducible refine Moves.optBind ?_ (fun _ _ => ?_)
    | with_reducible refine Moves.optOf (fun _ => ?_)
    | (with_reducible refine Moves.foldl ?_ (fun _ _ _ => ?_))
    | (with_reducible refine Moves.foldlFst ?_ (fun _ _ _ => ?_))
    | (with_reducible refine Moves.foldr ?_ (fun _ _ _ => ?_))
    | with_reducible refine Moves.optIte ?_ ?_
    | with_reducible refine Moves.foldlOpt ?_ (fun _ _ _ => ?_)
    | with_reducible refine Moves.optSome ?_
    | with_reducible exact Moves.optNone
    | with_reducible refine Moves.some (by assumption) ?_
    | with_reducible refine Moves.fst (by assumption) ?_
    | with_reducible refine Moves.snd (by assumption) ?_
    | dsimp +zetaDelta only

theorem State.verdictPacket_moves {w : Nat} {s u : State} (hw : Within 2570593241941276 w) (h : Moves w s u) (pkt : Sys2Proof.Bytes) :
    Moves w s (State.verdictPacket u pkt) := by
  unfold State.verdictPacket
  repeat'
    first
    | with_reducible assumption
    | with_reducible refine State.stalePacket_moves (Within.trans (by decide : Within 12 2570593241941276) hw) ?_
    | with_reducible refine State.verdict_moves (Within.trans (by decide : Within 2570593241941276 2570593241941276) hw) ?_ _ _ _ _
    | with_reducible refine State.heard_moves (Within.trans (by decide : Within 16384 2570593241941276) hw) ?_ _ _
    | with_reducible refine Moves.ite ?_ ?_
    | split
    | extract_lets
    | with_reducible refine Moves.getD (Moves.optFindSome (fun _ => ?_)) ?_
    | with_reducible refine Moves.optMap (fun _ => ?_)
    | with_reducible refine Moves.optSndMapSnd ?_
    | with_reducible refine Moves.optSndMap (fun _ => ?_)
    | with_reducible refine Moves.optBind ?_ (fun _ _ => ?_)
    | with_reducible refine Moves.optOf (fun _ => ?_)
    | (with_reducible refine Moves.foldl ?_ (fun _ _ _ => ?_))
    | (with_reducible refine Moves.foldlFst ?_ (fun _ _ _ => ?_))
    | (with_reducible refine Moves.foldr ?_ (fun _ _ _ => ?_))
    | with_reducible refine Moves.optIte ?_ ?_
    | with_reducible refine Moves.foldlOpt ?_ (fun _ _ _ => ?_)
    | with_reducible refine Moves.optSome ?_
    | with_reducible exact Moves.optNone
    | with_reducible refine Moves.some (by assumption) ?_
    | with_reducible refine Moves.fst (by assumption) ?_
    | with_reducible refine Moves.snd (by assumption) ?_
    | dsimp +zetaDelta only

theorem State.sendFail_moves {w : Nat} {s u : State} (hw : Within 68719476736 w) (h : Moves w s u) (g : Nat) (failed : Nat) (detector : Nat) :
    Moves w s (State.sendFail u g failed detector) := by
  unfold State.sendFail
  repeat'
    first
    | with_reducible assumption
    | with_reducible refine State.sendMember_moves (Within.trans (by decide : Within 68719476736 68719476736) hw) ?_ _ _ _
    | with_reducible refine Moves.ite ?_ ?_
    | split
    | extract_lets
    | with_reducible refine Moves.getD (Moves.optFindSome (fun _ => ?_)) ?_
    | with_reducible refine Moves.optMap (fun _ => ?_)
    | with_reducible refine Moves.optSndMapSnd ?_
    | with_reducible refine Moves.optSndMap (fun _ => ?_)
    | with_reducible refine Moves.optBind ?_ (fun _ _ => ?_)
    | with_reducible refine Moves.optOf (fun _ => ?_)
    | (with_reducible refine Moves.foldl ?_ (fun _ _ _ => ?_))
    | (with_reducible refine Moves.foldlFst ?_ (fun _ _ _ => ?_))
    | (with_reducible refine Moves.foldr ?_ (fun _ _ _ => ?_))
    | with_reducible refine Moves.optIte ?_ ?_
    | with_reducible refine Moves.foldlOpt ?_ (fun _ _ _ => ?_)
    | with_reducible refine Moves.optSome ?_
    | with_reducible exact Moves.optNone
    | with_reducible refine Moves.some (by assumption) ?_
    | with_reducible refine Moves.fst (by assumption) ?_
    | with_reducible refine Moves.snd (by assumption) ?_
    | dsimp +zetaDelta only

theorem State.drainGroup_moves {w : Nat} {s u : State} (hw : Within 137438953484 w) (h : Moves w s u) (g : Nat) :
    Moves w s (State.drainGroup u g) := by
  unfold State.drainGroup
  repeat'
    first
    | with_reducible assumption
    | with_reducible refine State.levelCheck_moves (Within.trans (by decide : Within 137438953484 137438953484) hw) ?_ _ _
    | with_reducible refine State.modInlet_moves (Within.trans (by decide : Within 137438953472 137438953484) hw) ?_ _ _ _
    | with_reducible refine Moves.ite ?_ ?_
    | split
    | extract_lets
    | with_reducible refine Moves.getD (Moves.optFindSome (fun _ => ?_)) ?_
    | with_reducible refine Moves.optMap (fun _ => ?_)
    | with_reducible refine Moves.optSndMapSnd ?_
    | with_reducible refine Moves.optSndMap (fun _ => ?_)
    | with_reducible refine Moves.optBind ?_ (fun _ _ => ?_)
    | with_reducible refine Moves.optOf (fun _ => ?_)
    | (with_reducible refine Moves.foldl ?_ (fun _ _ _ => ?_))
    | (with_reducible refine Moves.foldlFst ?_ (fun _ _ _ => ?_))
    | (with_reducible refine Moves.foldr ?_ (fun _ _ _ => ?_))
    | with_reducible refine Moves.optIte ?_ ?_
    | with_reducible refine Moves.foldlOpt ?_ (fun _ _ _ => ?_)
    | with_reducible refine Moves.optSome ?_
    | with_reducible exact Moves.optNone
    | with_reducible refine Moves.some (by assumption) ?_
    | with_reducible refine Moves.fst (by assumption) ?_
    | with_reducible refine Moves.snd (by assumption) ?_
    | dsimp +zetaDelta only

theorem State.abortCall_moves {w : Nat} {s u : State} (hw : Within 140677005340 w) (h : Moves w s u) (g : Nat) (failed : Nat) (detector : Nat) :
    Moves w s (State.abortCall u g failed detector) := by
  unfold State.abortCall
  repeat'
    first
    | with_reducible assumption
    | with_reducible refine State.modGroup_moves (Within.trans (by decide : Within 16384 140677005340) hw) ?_ _ _
    | with_reducible refine State.sumScribble_moves (Within.trans (by decide : Within 3238002704 140677005340) hw) ?_ _ _ _
    | with_reducible refine State.modCall_moves (Within.trans (by decide : Within 16384 140677005340) hw) ?_ _ _
    | with_reducible refine State.drainGroup_moves (Within.trans (by decide : Within 137438953484 140677005340) hw) ?_ _
    | with_reducible refine Moves.ite ?_ ?_
    | split
    | extract_lets
    | with_reducible refine Moves.getD (Moves.optFindSome (fun _ => ?_)) ?_
    | with_reducible refine Moves.optMap (fun _ => ?_)
    | with_reducible refine Moves.optSndMapSnd ?_
    | with_reducible refine Moves.optSndMap (fun _ => ?_)
    | with_reducible refine Moves.optBind ?_ (fun _ _ => ?_)
    | with_reducible refine Moves.optOf (fun _ => ?_)
    | (with_reducible refine Moves.foldl ?_ (fun _ _ _ => ?_))
    | (with_reducible refine Moves.foldlFst ?_ (fun _ _ _ => ?_))
    | (with_reducible refine Moves.foldr ?_ (fun _ _ _ => ?_))
    | with_reducible refine Moves.optIte ?_ ?_
    | with_reducible refine Moves.foldlOpt ?_ (fun _ _ _ => ?_)
    | with_reducible refine Moves.optSome ?_
    | with_reducible exact Moves.optNone
    | with_reducible refine Moves.some (by assumption) ?_
    | with_reducible refine Moves.fst (by assumption) ?_
    | with_reducible refine Moves.snd (by assumption) ?_
    | dsimp +zetaDelta only
    | with_reducible refine Moves.upd ?_ rfl ⟨rfl, rfl, .same, .same, ⟨.rfl, .rfl, .rfl, .rfl, .of hw (by decide)⟩, .same, .same⟩ ⟨id, id, id, id, id, id, id⟩

theorem State.failPacket_moves {w : Nat} {s u : State} (hw : Within 209396482076 w) (h : Moves w s u) (pkt : Sys2Proof.Bytes) :
    Moves w s (State.failPacket u pkt) := by
  unfold State.failPacket
  repeat'
    first
    | with_reducible assumption
    | with_reducible refine State.stalePacket_moves (Within.trans (by decide : Within 12 209396482076) hw) ?_
    | with_reducible refine State.modGroup_moves (Within.trans (by decide : Within 16384 209396482076) hw) ?_ _ _
    | with_reducible refine State.sendFail_moves (Within.trans (by decide : Within 68719476736 209396482076) hw) ?_ _ _ _
    | with_reducible refine State.abortCall_moves (Within.trans (by decide : Within 140677005340 209396482076) hw) ?_ _ _ _
    | with_reducible refine Moves.ite ?_ ?_
    | split
    | extract_lets
    | with_reducible refine Moves.getD (Moves.optFindSome (fun _ => ?_)) ?_
    | with_reducible refine Moves.optMap (fun _ => ?_)
    | with_reducible refine Moves.optSndMapSnd ?_
    | with_reducible refine Moves.optSndMap (fun _ => ?_)
    | with_reducible refine Moves.optBind ?_ (fun _ _ => ?_)
    | with_reducible refine Moves.optOf (fun _ => ?_)
    | (with_reducible refine Moves.foldl ?_ (fun _ _ _ => ?_))
    | (with_reducible refine Moves.foldlFst ?_ (fun _ _ _ => ?_))
    | (with_reducible refine Moves.foldr ?_ (fun _ _ _ => ?_))
    | with_reducible refine Moves.optIte ?_ ?_
    | with_reducible refine Moves.foldlOpt ?_ (fun _ _ _ => ?_)
    | with_reducible refine Moves.optSome ?_
    | with_reducible exact Moves.optNone
    | with_reducible refine Moves.some (by assumption) ?_
    | with_reducible refine Moves.fst (by assumption) ?_
    | with_reducible refine Moves.snd (by assumption) ?_
    | dsimp +zetaDelta only

theorem State.keepalivePacket_moves {w : Nat} {s u : State} (hw : Within 16396 w) (h : Moves w s u) (pkt : Sys2Proof.Bytes) :
    Moves w s (State.keepalivePacket u pkt) := by
  unfold State.keepalivePacket
  repeat'
    first
    | with_reducible assumption
    | with_reducible refine State.heard_moves (Within.trans (by decide : Within 16384 16396) hw) ?_ _ _
    | with_reducible refine State.stalePacket_moves (Within.trans (by decide : Within 12 16396) hw) ?_
    | with_reducible refine Moves.ite ?_ ?_
    | split
    | extract_lets
    | with_reducible refine Moves.getD (Moves.optFindSome (fun _ => ?_)) ?_
    | with_reducible refine Moves.optMap (fun _ => ?_)
    | with_reducible refine Moves.optSndMapSnd ?_
    | with_reducible refine Moves.optSndMap (fun _ => ?_)
    | with_reducible refine Moves.optBind ?_ (fun _ _ => ?_)
    | with_reducible refine Moves.optOf (fun _ => ?_)
    | (with_reducible refine Moves.foldl ?_ (fun _ _ _ => ?_))
    | (with_reducible refine Moves.foldlFst ?_ (fun _ _ _ => ?_))
    | (with_reducible refine Moves.foldr ?_ (fun _ _ _ => ?_))
    | with_reducible refine Moves.optIte ?_ ?_
    | with_reducible refine Moves.foldlOpt ?_ (fun _ _ _ => ?_)
    | with_reducible refine Moves.optSome ?_
    | with_reducible exact Moves.optNone
    | with_reducible refine Moves.some (by assumption) ?_
    | with_reducible refine Moves.fst (by assumption) ?_
    | with_reducible refine Moves.snd (by assumption) ?_
    | dsimp +zetaDelta only

theorem State.classZero_moves {w : Nat} {s u : State} (hw : Within 2570593241974044 w) (h : Moves w s u) (pkt : Sys2Proof.Bytes) :
    Moves w s (State.classZero u pkt) := by
  unfold State.classZero
  repeat'
    first
    | with_reducible assumption
    | with_reducible refine State.armPacket_moves (Within.trans (by decide : Within 2570593241941276 2570593241974044) hw) ?_ _
    | with_reducible refine State.verdictPacket_moves (Within.trans (by decide : Within 2570593241941276 2570593241974044) hw) ?_ _
    | with_reducible refine State.dataPacket_moves (Within.trans (by decide : Within 2570593241941276 2570593241974044) hw) ?_ _
    | with_reducible refine State.creditPacket_moves (Within.trans (by decide : Within 2570593241941276 2570593241974044) hw) ?_ _
    | with_reducible refine State.failPacket_moves (Within.trans (by decide : Within 209396482076 2570593241974044) hw) ?_ _
    | with_reducible refine State.keepalivePacket_moves (Within.trans (by decide : Within 16396 2570593241974044) hw) ?_ _
    | with_reducible refine State.stalePacket_moves (Within.trans (by decide : Within 12 2570593241974044) hw) ?_
    | with_reducible refine Moves.ite ?_ ?_
    | split
    | extract_lets
    | with_reducible refine Moves.getD (Moves.optFindSome (fun _ => ?_)) ?_
    | with_reducible refine Moves.optMap (fun _ => ?_)
    | with_reducible refine Moves.optSndMapSnd ?_
    | with_reducible refine Moves.optSndMap (fun _ => ?_)
    | with_reducible refine Moves.optBind ?_ (fun _ _ => ?_)
    | with_reducible refine Moves.optOf (fun _ => ?_)
    | (with_reducible refine Moves.foldl ?_ (fun _ _ _ => ?_))
    | (with_reducible refine Moves.foldlFst ?_ (fun _ _ _ => ?_))
    | (with_reducible refine Moves.foldr ?_ (fun _ _ _ => ?_))
    | with_reducible refine Moves.optIte ?_ ?_
    | with_reducible refine Moves.foldlOpt ?_ (fun _ _ _ => ?_)
    | with_reducible refine Moves.optSome ?_
    | with_reducible exact Moves.optNone
    | with_reducible refine Moves.some (by assumption) ?_
    | with_reducible refine Moves.fst (by assumption) ?_
    | with_reducible refine Moves.snd (by assumption) ?_
    | dsimp +zetaDelta only

theorem State.turnAway_moves {w : Nat} {s u : State} (hw : Within 37314675885324 w) (h : Moves w s u) (g : Nat) :
    Moves w s (State.turnAway u g) := by
  unfold State.turnAway
  repeat'
    first
    | with_reducible assumption
    | with_reducible refine State.dropCall_moves (Within.trans (by decide : Within 37314675885324 37314675885324) hw) ?_ _ _ _
    | with_reducible refine Moves.ite ?_ ?_
    | split
    | extract_lets
    | with_reducible refine Moves.getD (Moves.optFindSome (fun _ => ?_)) ?_
    | with_reducible refine Moves.optMap (fun _ => ?_)
    | with_reducible refine Moves.optSndMapSnd ?_
    | with_reducible refine Moves.optSndMap (fun _ => ?_)
    | with_reducible refine Moves.optBind ?_ (fun _ _ => ?_)
    | with_reducible refine Moves.optOf (fun _ => ?_)
    | (with_reducible refine Moves.foldl ?_ (fun _ _ _ => ?_))
    | (with_reducible refine Moves.foldlFst ?_ (fun _ _ _ => ?_))
    | (with_reducible refine Moves.foldr ?_ (fun _ _ _ => ?_))
    | with_reducible refine Moves.optIte ?_ ?_
    | with_reducible refine Moves.foldlOpt ?_ (fun _ _ _ => ?_)
    | with_reducible refine Moves.optSome ?_
    | with_reducible exact Moves.optNone
    | with_reducible refine Moves.some (by assumption) ?_
    | with_reducible refine Moves.fst (by assumption) ?_
    | with_reducible refine Moves.snd (by assumption) ?_
    | dsimp +zetaDelta only

theorem State.groupBoundary_moves {w : Nat} {s u : State} (hw : Within 37314675885324 w) (h : Moves w s u) (g : Nat) :
    Moves w s (State.groupBoundary u g) := by
  unfold State.groupBoundary
  repeat'
    first
    | with_reducible assumption
    | with_reducible refine State.modGroup_moves (Within.trans (by decide : Within 16384 37314675885324) hw) ?_ _ _
    | with_reducible refine State.pend_moves (Within.trans (by decide : Within 12 37314675885324) hw) ?_ _
    | with_reducible refine State.contain_moves (Within.trans (by decide : Within 35184372088844 37314675885324) hw) ?_ _ _
    | with_reducible refine State.bumpF_moves (Within.trans (by decide : Within 12 37314675885324) hw) ?_ _ _ _
    | with_reducible refine State.setF_moves (Within.trans (by decide : Within 4 37314675885324) hw) ?_ _ _ _
    | with_reducible refine State.turnAway_moves (Within.trans (by decide : Within 37314675885324 37314675885324) hw) ?_ _
    | with_reducible refine State.dropCall_moves (Within.trans (by decide : Within 37314675885324 37314675885324) hw) ?_ _ _ _
    | with_reducible refine Moves.ite ?_ ?_
    | split
    | extract_lets
    | with_reducible refine Moves.getD (Moves.optFindSome (fun _ => ?_)) ?_
    | with_reducible refine Moves.optMap (fun _ => ?_)
    | with_reducible refine Moves.optSndMapSnd ?_
    | with_reducible refine Moves.optSndMap (fun _ => ?_)
    | with_reducible refine Moves.optBind ?_ (fun _ _ => ?_)
    | with_reducible refine Moves.optOf (fun _ => ?_)
    | (with_reducible refine Moves.foldl ?_ (fun _ _ _ => ?_))
    | (with_reducible refine Moves.foldlFst ?_ (fun _ _ _ => ?_))
    | (with_reducible refine Moves.foldr ?_ (fun _ _ _ => ?_))
    | with_reducible refine Moves.optIte ?_ ?_
    | with_reducible refine Moves.foldlOpt ?_ (fun _ _ _ => ?_)
    | with_reducible refine Moves.optSome ?_
    | with_reducible exact Moves.optNone
    | with_reducible refine Moves.some (by assumption) ?_
    | with_reducible refine Moves.fst (by assumption) ?_
    | with_reducible refine Moves.snd (by assumption) ?_
    | dsimp +zetaDelta only

theorem State.issueCall_moves {w : Nat} {s u : State} (hw : Within 17408 w) (h : Moves w s u) (cmd : Command) :
    Moves w s (State.issueCall u cmd) := by
  unfold State.issueCall
  repeat'
    first
    | with_reducible assumption
    | with_reducible refine State.endFail_moves (Within.trans (by decide : Within 1024 17408) hw) ?_ _ _ _ _
    | with_reducible refine State.modGroup_moves (Within.trans (by decide : Within 16384 17408) hw) ?_ _ _
    | with_reducible refine Moves.ite ?_ ?_
    | split
    | extract_lets
    | with_reducible refine Moves.getD (Moves.optFindSome (fun _ => ?_)) ?_
    | with_reducible refine Moves.optMap (fun _ => ?_)
    | with_reducible refine Moves.optSndMapSnd ?_
    | with_reducible refine Moves.optSndMap (fun _ => ?_)
    | with_reducible refine Moves.optBind ?_ (fun _ _ => ?_)
    | with_reducible refine Moves.optOf (fun _ => ?_)
    | (with_reducible refine Moves.foldl ?_ (fun _ _ _ => ?_))
    | (with_reducible refine Moves.foldlFst ?_ (fun _ _ _ => ?_))
    | (with_reducible refine Moves.foldr ?_ (fun _ _ _ => ?_))
    | with_reducible refine Moves.optIte ?_ ?_
    | with_reducible refine Moves.foldlOpt ?_ (fun _ _ _ => ?_)
    | with_reducible refine Moves.optSome ?_
    | with_reducible exact Moves.optNone
    | with_reducible refine Moves.some (by assumption) ?_
    | with_reducible refine Moves.fst (by assumption) ?_
    | with_reducible refine Moves.snd (by assumption) ?_
    | dsimp +zetaDelta only

theorem execVerdictPacket_moves {w : Nat} {s u : State} (hw : Within 2570593241941276 w) (h : Moves w s u) (r : Sys2Proof.RegionId) (p : Sys2Proof.PortId) (pkt : Sys2Proof.Bytes) :
    Moves.outcome w s (execVerdictPacket r p pkt u) := by
  unfold execVerdictPacket
  repeat'
    first
    | with_reducible assumption
    | with_reducible exact Moves.fault
    | with_reducible refine Moves.next ?_
    | with_reducible refine State.verdictPacket_moves (Within.trans (by decide : Within 2570593241941276 2570593241941276) hw) ?_ _
    | with_reducible refine State.takeInlet_moves (Within.trans (by decide : Within 137438953484 2570593241941276) hw) ?_ _ _ _
    | with_reducible refine Moves.ite ?_ ?_
    | split
    | extract_lets
    | with_reducible refine Moves.getD (Moves.optFindSome (fun _ => ?_)) ?_
    | with_reducible refine Moves.optMap (fun _ => ?_)
    | with_reducible refine Moves.optSndMapSnd ?_
    | with_reducible refine Moves.optSndMap (fun _ => ?_)
    | with_reducible refine Moves.optBind ?_ (fun _ _ => ?_)
    | with_reducible refine Moves.optOf (fun _ => ?_)
    | (with_reducible refine Moves.foldl ?_ (fun _ _ _ => ?_))
    | (with_reducible refine Moves.foldlFst ?_ (fun _ _ _ => ?_))
    | (with_reducible refine Moves.foldr ?_ (fun _ _ _ => ?_))
    | with_reducible refine Moves.optIte ?_ ?_
    | with_reducible refine Moves.foldlOpt ?_ (fun _ _ _ => ?_)
    | with_reducible refine Moves.optSome ?_
    | with_reducible exact Moves.optNone
    | with_reducible refine Moves.some (by assumption) ?_
    | with_reducible refine Moves.fst (by assumption) ?_
    | with_reducible refine Moves.snd (by assumption) ?_
    | dsimp +zetaDelta only

theorem execKeepalivePacket_moves {w : Nat} {s u : State} (hw : Within 137438969868 w) (h : Moves w s u) (r : Sys2Proof.RegionId) (p : Sys2Proof.PortId) (pkt : Sys2Proof.Bytes) :
    Moves.outcome w s (execKeepalivePacket r p pkt u) := by
  unfold execKeepalivePacket
  repeat'
    first
    | with_reducible assumption
    | with_reducible exact Moves.fault
    | with_reducible refine Moves.next ?_
    | with_reducible refine State.keepalivePacket_moves (Within.trans (by decide : Within 16396 137438969868) hw) ?_ _
    | with_reducible refine State.takeInlet_moves (Within.trans (by decide : Within 137438953484 137438969868) hw) ?_ _ _ _
    | with_reducible refine Moves.ite ?_ ?_
    | split
    | extract_lets
    | with_reducible refine Moves.getD (Moves.optFindSome (fun _ => ?_)) ?_
    | with_reducible refine Moves.optMap (fun _ => ?_)
    | with_reducible refine Moves.optSndMapSnd ?_
    | with_reducible refine Moves.optSndMap (fun _ => ?_)
    | with_reducible refine Moves.optBind ?_ (fun _ _ => ?_)
    | with_reducible refine Moves.optOf (fun _ => ?_)
    | (with_reducible refine Moves.foldl ?_ (fun _ _ _ => ?_))
    | (with_reducible refine Moves.foldlFst ?_ (fun _ _ _ => ?_))
    | (with_reducible refine Moves.foldr ?_ (fun _ _ _ => ?_))
    | with_reducible refine Moves.optIte ?_ ?_
    | with_reducible refine Moves.foldlOpt ?_ (fun _ _ _ => ?_)
    | with_reducible refine Moves.optSome ?_
    | with_reducible exact Moves.optNone
    | with_reducible refine Moves.some (by assumption) ?_
    | with_reducible refine Moves.fst (by assumption) ?_
    | with_reducible refine Moves.snd (by assumption) ?_
    | dsimp +zetaDelta only

theorem State.soloCall_moves {w : Nat} {s u : State} (hw : Within 3238019088 w) (h : Moves w s u) (g : Nat) (op : Nat) :
    Moves w s (State.soloCall u g op) := by
  unfold State.soloCall
  repeat'
    first
    | with_reducible assumption
    | with_reducible refine State.sumLocal_moves (Within.trans (by decide : Within 16777216 3238019088) hw) ?_ _ _
    | with_reducible refine Moves.fst ‹State.sumLocal _ _ _ = (_, _)› (State.sumLocal_moves (Within.trans (by decide : Within 16777216 3238019088) hw) ?_ _ _)
    | with_reducible refine State.modCall_moves (Within.trans (by decide : Within 16384 3238019088) hw) ?_ _ _
    | with_reducible refine State.writeDests_moves (Within.trans (by decide : Within 3221225488 3238019088) hw) ?_ _ _ _ _
    | with_reducible refine Moves.ite ?_ ?_
    | split
    | extract_lets
    | with_reducible refine Moves.getD (Moves.optFindSome (fun _ => ?_)) ?_
    | with_reducible refine Moves.optMap (fun _ => ?_)
    | with_reducible refine Moves.optSndMapSnd ?_
    | with_reducible refine Moves.optSndMap (fun _ => ?_)
    | with_reducible refine Moves.optBind ?_ (fun _ _ => ?_)
    | with_reducible refine Moves.optOf (fun _ => ?_)
    | (with_reducible refine Moves.foldl ?_ (fun _ _ _ => ?_))
    | (with_reducible refine Moves.foldlFst ?_ (fun _ _ _ => ?_))
    | (with_reducible refine Moves.foldr ?_ (fun _ _ _ => ?_))
    | with_reducible refine Moves.optIte ?_ ?_
    | with_reducible refine Moves.foldlOpt ?_ (fun _ _ _ => ?_)
    | with_reducible refine Moves.optSome ?_
    | with_reducible exact Moves.optNone
    | with_reducible refine Moves.some (by assumption) ?_
    | with_reducible refine Moves.fst (by assumption) ?_
    | with_reducible refine Moves.snd (by assumption) ?_
    | dsimp +zetaDelta only

theorem State.armCall_moves {w : Nat} {s u : State} (hw : Within 2570593241941276 w) (h : Moves w s u) (g : Nat) :
    Moves w s (State.armCall u g) := by
  unfold State.armCall
  repeat'
    first
    | with_reducible assumption
    | with_reducible refine State.modGroup_moves (Within.trans (by decide : Within 16384 2570593241941276) hw) ?_ _ _
    | with_reducible refine State.modCall_moves (Within.trans (by decide : Within 16384 2570593241941276) hw) ?_ _ _
    | with_reducible refine State.tryArm_moves (Within.trans (by decide : Within 2570593241941276 2570593241941276) hw) ?_ _ _
    | with_reducible refine State.soloCall_moves (Within.trans (by decide : Within 3238019088 2570593241941276) hw) ?_ _ _
    | with_reducible refine State.finishCall_moves (Within.trans (by decide : Within 37314675885324 2570593241941276) hw) ?_ _ _ _
    | with_reducible refine State.reach_moves (Within.trans (by decide : Within 2568459700142092 2570593241941276) hw) ?_ _ _
    | with_reducible refine Moves.ite ?_ ?_
    | split
    | extract_lets
    | with_reducible refine Moves.getD (Moves.optFindSome (fun _ => ?_)) ?_
    | with_reducible refine Moves.optMap (fun _ => ?_)
    | with_reducible refine Moves.optSndMapSnd ?_
    | with_reducible refine Moves.optSndMap (fun _ => ?_)
    | with_reducible refine Moves.optBind ?_ (fun _ _ => ?_)
    | with_reducible refine Moves.optOf (fun _ => ?_)
    | (with_reducible refine Moves.foldl ?_ (fun _ _ _ => ?_))
    | (with_reducible refine Moves.foldlFst ?_ (fun _ _ _ => ?_))
    | (with_reducible refine Moves.foldr ?_ (fun _ _ _ => ?_))
    | with_reducible refine Moves.optIte ?_ ?_
    | with_reducible refine Moves.foldlOpt ?_ (fun _ _ _ => ?_)
    | with_reducible refine Moves.optSome ?_
    | with_reducible exact Moves.optNone
    | with_reducible refine Moves.some (by assumption) ?_
    | with_reducible refine Moves.fst (by assumption) ?_
    | with_reducible refine Moves.snd (by assumption) ?_
    | dsimp +zetaDelta only

theorem execCallArm_moves {w : Nat} {s u : State} (hw : Within 2570593241941276 w) (h : Moves w s u) (g : Sys2Proof.GroupId) :
    Moves.outcome w s (execCallArm g u) := by
  unfold execCallArm
  repeat'
    first
    | with_reducible assumption
    | with_reducible exact Moves.fault
    | with_reducible refine Moves.next ?_
    | with_reducible refine State.armCall_moves (Within.trans (by decide : Within 2570593241941276 2570593241941276) hw) ?_ _
    | with_reducible refine Moves.ite ?_ ?_
    | split
    | extract_lets
    | with_reducible refine Moves.getD (Moves.optFindSome (fun _ => ?_)) ?_
    | with_reducible refine Moves.optMap (fun _ => ?_)
    | with_reducible refine Moves.optSndMapSnd ?_
    | with_reducible refine Moves.optSndMap (fun _ => ?_)
    | with_reducible refine Moves.optBind ?_ (fun _ _ => ?_)
    | with_reducible refine Moves.optOf (fun _ => ?_)
    | (with_reducible refine Moves.foldl ?_ (fun _ _ _ => ?_))
    | (with_reducible refine Moves.foldlFst ?_ (fun _ _ _ => ?_))
    | (with_reducible refine Moves.foldr ?_ (fun _ _ _ => ?_))
    | with_reducible refine Moves.optIte ?_ ?_
    | with_reducible refine Moves.foldlOpt ?_ (fun _ _ _ => ?_)
    | with_reducible refine Moves.optSome ?_
    | with_reducible exact Moves.optNone
    | with_reducible refine Moves.some (by assumption) ?_
    | with_reducible refine Moves.fst (by assumption) ?_
    | with_reducible refine Moves.snd (by assumption) ?_
    | dsimp +zetaDelta only

theorem State.confluenceCheck_moves {w : Nat} {s u : State} (hw : Within 0 w) (h : Moves w s u) (cmd : Command) :
    Moves.verdict w s (State.confluenceCheck u cmd) := by
  unfold State.confluenceCheck
  repeat'
    first
    | with_reducible assumption
    | with_reducible exact Moves.fail
    | with_reducible exact Moves.latch
    | with_reducible refine Moves.done ?_
    | with_reducible refine Moves.await ?_
    | with_reducible refine Moves.park ?_
    | with_reducible refine Moves.ite ?_ ?_
    | split
    | extract_lets
    | with_reducible refine Moves.getD (Moves.optFindSome (fun _ => ?_)) ?_
    | with_reducible refine Moves.optMap (fun _ => ?_)
    | with_reducible refine Moves.optSndMapSnd ?_
    | with_reducible refine Moves.optSndMap (fun _ => ?_)
    | with_reducible refine Moves.optBind ?_ (fun _ _ => ?_)
    | with_reducible refine Moves.optOf (fun _ => ?_)
    | (with_reducible refine Moves.foldl ?_ (fun _ _ _ => ?_))
    | (with_reducible refine Moves.foldlFst ?_ (fun _ _ _ => ?_))
    | (with_reducible refine Moves.foldr ?_ (fun _ _ _ => ?_))
    | with_reducible refine Moves.optIte ?_ ?_
    | with_reducible refine Moves.foldlOpt ?_ (fun _ _ _ => ?_)
    | with_reducible refine Moves.optSome ?_
    | with_reducible exact Moves.optNone
    | with_reducible refine Moves.some (by assumption) ?_
    | with_reducible refine Moves.fst (by assumption) ?_
    | with_reducible refine Moves.snd (by assumption) ?_
    | dsimp +zetaDelta only

theorem execConfluence_moves {w : Nat} {s u : State} (hw : Within 36527643058108 w) (h : Moves w s u) (c : Sys2Proof.CtxId) (q : Sys2Proof.RingId) :
    Moves.outcome w s (execConfluence c q u) := by
  unfold execConfluence
  repeat'
    first
    | with_reducible assumption
    | with_reducible exact Moves.fault
    | with_reducible refine Moves.next ?_
    | with_reducible exact Moves.fail
    | with_reducible exact Moves.latch
    | with_reducible refine Moves.done ?_
    | with_reducible refine Moves.await ?_
    | with_reducible refine Moves.park ?_
    | with_reducible refine State.claimRow_moves (Within.trans (by decide : Within 36527643058108 36527643058108) hw) ?_ _ _ _ _ _ (fun _ _ _ => ?_)
    | with_reducible refine State.confluenceCheck_moves (Within.trans (by decide : Within 0 36527643058108) hw) ?_ _
    | with_reducible refine Moves.ite ?_ ?_
    | split
    | extract_lets
    | with_reducible refine Moves.getD (Moves.optFindSome (fun _ => ?_)) ?_
    | with_reducible refine Moves.optMap (fun _ => ?_)
    | with_reducible refine Moves.optSndMapSnd ?_
    | with_reducible refine Moves.optSndMap (fun _ => ?_)
    | with_reducible refine Moves.optBind ?_ (fun _ _ => ?_)
    | with_reducible refine Moves.optOf (fun _ => ?_)
    | (with_reducible refine Moves.foldl ?_ (fun _ _ _ => ?_))
    | (with_reducible refine Moves.foldlFst ?_ (fun _ _ _ => ?_))
    | (with_reducible refine Moves.foldr ?_ (fun _ _ _ => ?_))
    | with_reducible refine Moves.optIte ?_ ?_
    | with_reducible refine Moves.foldlOpt ?_ (fun _ _ _ => ?_)
    | with_reducible refine Moves.optSome ?_
    | with_reducible exact Moves.optNone
    | with_reducible refine Moves.some (by assumption) ?_
    | with_reducible refine Moves.fst (by assumption) ?_
    | with_reducible refine Moves.snd (by assumption) ?_
    | dsimp +zetaDelta only

theorem execFailPacket_moves {w : Nat} {s u : State} (hw : Within 209396482076 w) (h : Moves w s u) (r : Sys2Proof.RegionId) (p : Sys2Proof.PortId) (pkt : Sys2Proof.Bytes) :
    Moves.outcome w s (execFailPacket r p pkt u) := by
  unfold execFailPacket
  repeat'
    first
    | with_reducible assumption
    | with_reducible exact Moves.fault
    | with_reducible refine Moves.next ?_
    | with_reducible refine State.failPacket_moves (Within.trans (by decide : Within 209396482076 209396482076) hw) ?_ _
    | with_reducible refine State.takeInlet_moves (Within.trans (by decide : Within 137438953484 209396482076) hw) ?_ _ _ _
    | with_reducible refine Moves.ite ?_ ?_
    | split
    | extract_lets
    | with_reducible refine Moves.getD (Moves.optFindSome (fun _ => ?_)) ?_
    | with_reducible refine Moves.optMap (fun _ => ?_)
    | with_reducible refine Moves.optSndMapSnd ?_
    | with_reducible refine Moves.optSndMap (fun _ => ?_)
    | with_reducible refine Moves.optBind ?_ (fun _ _ => ?_)
    | with_reducible refine Moves.optOf (fun _ => ?_)
    | (with_reducible refine Moves.foldl ?_ (fun _ _ _ => ?_))
    | (with_reducible refine Moves.foldlFst ?_ (fun _ _ _ => ?_))
    | (with_reducible refine Moves.foldr ?_ (fun _ _ _ => ?_))
    | with_reducible refine Moves.optIte ?_ ?_
    | with_reducible refine Moves.foldlOpt ?_ (fun _ _ _ => ?_)
    | with_reducible refine Moves.optSome ?_
    | with_reducible exact Moves.optNone
    | with_reducible refine Moves.some (by assumption) ?_
    | with_reducible refine Moves.fst (by assumption) ?_
    | with_reducible refine Moves.snd (by assumption) ?_
    | dsimp +zetaDelta only

theorem execArmPacket_moves {w : Nat} {s u : State} (hw : Within 2570593241941276 w) (h : Moves w s u) (r : Sys2Proof.RegionId) (p : Sys2Proof.PortId) (pkt : Sys2Proof.Bytes) :
    Moves.outcome w s (execArmPacket r p pkt u) := by
  unfold execArmPacket
  repeat'
    first
    | with_reducible assumption
    | with_reducible exact Moves.fault
    | with_reducible refine Moves.next ?_
    | with_reducible refine State.armPacket_moves (Within.trans (by decide : Within 2570593241941276 2570593241941276) hw) ?_ _
    | with_reducible refine State.takeInlet_moves (Within.trans (by decide : Within 137438953484 2570593241941276) hw) ?_ _ _ _
    | with_reducible refine Moves.ite ?_ ?_
    | split
    | extract_lets
    | with_reducible refine Moves.getD (Moves.optFindSome (fun _ => ?_)) ?_
    | with_reducible refine Moves.optMap (fun _ => ?_)
    | with_reducible refine Moves.optSndMapSnd ?_
    | with_reducible refine Moves.optSndMap (fun _ => ?_)
    | with_reducible refine Moves.optBind ?_ (fun _ _ => ?_)
    | with_reducible refine Moves.optOf (fun _ => ?_)
    | (with_reducible refine Moves.foldl ?_ (fun _ _ _ => ?_))
    | (with_reducible refine Moves.foldlFst ?_ (fun _ _ _ => ?_))
    | (with_reducible refine Moves.foldr ?_ (fun _ _ _ => ?_))
    | with_reducible refine Moves.optIte ?_ ?_
    | with_reducible refine Moves.foldlOpt ?_ (fun _ _ _ => ?_)
    | with_reducible refine Moves.optSome ?_
    | with_reducible exact Moves.optNone
    | with_reducible refine Moves.some (by assumption) ?_
    | with_reducible refine Moves.fst (by assumption) ?_
    | with_reducible refine Moves.snd (by assumption) ?_
    | dsimp +zetaDelta only

theorem State.keepalives_moves {w : Nat} {s u : State} (hw : Within 68719476736 w) (h : Moves w s u) (g : Nat) :
    Moves w s (State.keepalives u g) := by
  unfold State.keepalives
  repeat'
    first
    | with_reducible assumption
    | with_reducible refine State.sendMember_moves (Within.trans (by decide : Within 68719476736 68719476736) hw) ?_ _ _ _
    | with_reducible refine Moves.ite ?_ ?_
    | split
    | extract_lets
    | with_reducible refine Moves.getD (Moves.optFindSome (fun _ => ?_)) ?_
    | with_reducible refine Moves.optMap (fun _ => ?_)
    | with_reducible refine Moves.optSndMapSnd ?_
    | with_reducible refine Moves.optSndMap (fun _ => ?_)
    | with_reducible refine Moves.optBind ?_ (fun _ _ => ?_)
    | with_reducible refine Moves.optOf (fun _ => ?_)
    | (with_reducible refine Moves.foldl ?_ (fun _ _ _ => ?_))
    | (with_reducible refine Moves.foldlFst ?_ (fun _ _ _ => ?_))
    | (with_reducible refine Moves.foldr ?_ (fun _ _ _ => ?_))
    | with_reducible refine Moves.optIte ?_ ?_
    | with_reducible refine Moves.foldlOpt ?_ (fun _ _ _ => ?_)
    | with_reducible refine Moves.optSome ?_
    | with_reducible exact Moves.optNone
    | with_reducible refine Moves.some (by assumption) ?_
    | with_reducible refine Moves.fst (by assumption) ?_
    | with_reducible refine Moves.snd (by assumption) ?_
    | dsimp +zetaDelta only

theorem execKeepaliveSend_moves {w : Nat} {s u : State} (hw : Within 68719476736 w) (h : Moves w s u) (g : Sys2Proof.GroupId) :
    Moves.outcome w s (execKeepaliveSend g u) := by
  unfold execKeepaliveSend
  repeat'
    first
    | with_reducible assumption
    | with_reducible exact Moves.fault
    | with_reducible refine Moves.next ?_
    | with_reducible refine State.keepalives_moves (Within.trans (by decide : Within 68719476736 68719476736) hw) ?_ _
    | with_reducible refine Moves.ite ?_ ?_
    | split
    | extract_lets
    | with_reducible refine Moves.getD (Moves.optFindSome (fun _ => ?_)) ?_
    | with_reducible refine Moves.optMap (fun _ => ?_)
    | with_reducible refine Moves.optSndMapSnd ?_
    | with_reducible refine Moves.optSndMap (fun _ => ?_)
    | with_reducible refine Moves.optBind ?_ (fun _ _ => ?_)
    | with_reducible refine Moves.optOf (fun _ => ?_)
    | (with_reducible refine Moves.foldl ?_ (fun _ _ _ => ?_))
    | (with_reducible refine Moves.foldlFst ?_ (fun _ _ _ => ?_))
    | (with_reducible refine Moves.foldr ?_ (fun _ _ _ => ?_))
    | with_reducible refine Moves.optIte ?_ ?_
    | with_reducible refine Moves.foldlOpt ?_ (fun _ _ _ => ?_)
    | with_reducible refine Moves.optSome ?_
    | with_reducible exact Moves.optNone
    | with_reducible refine Moves.some (by assumption) ?_
    | with_reducible refine Moves.fst (by assumption) ?_
    | with_reducible refine Moves.snd (by assumption) ?_
    | dsimp +zetaDelta only

theorem State.cfWatchdog_moves {w : Nat} {s u : State} (hw : Within 209396482076 w) (h : Moves w s u) (g : Nat) (m : Nat) :
    Moves w s (State.cfWatchdog u g m) := by
  unfold State.cfWatchdog
  repeat'
    first
    | with_reducible assumption
    | with_reducible refine State.abortCall_moves (Within.trans (by decide : Within 140677005340 209396482076) hw) ?_ _ _ _
    | with_reducible refine State.sendFail_moves (Within.trans (by decide : Within 68719476736 209396482076) hw) ?_ _ _ _
    | with_reducible refine Moves.ite ?_ ?_
    | split
    | extract_lets
    | with_reducible refine Moves.getD (Moves.optFindSome (fun _ => ?_)) ?_
    | with_reducible refine Moves.optMap (fun _ => ?_)
    | with_reducible refine Moves.optSndMapSnd ?_
    | with_reducible refine Moves.optSndMap (fun _ => ?_)
    | with_reducible refine Moves.optBind ?_ (fun _ _ => ?_)
    | with_reducible refine Moves.optOf (fun _ => ?_)
    | (with_reducible refine Moves.foldl ?_ (fun _ _ _ => ?_))
    | (with_reducible refine Moves.foldlFst ?_ (fun _ _ _ => ?_))
    | (with_reducible refine Moves.foldr ?_ (fun _ _ _ => ?_))
    | with_reducible refine Moves.optIte ?_ ?_
    | with_reducible refine Moves.foldlOpt ?_ (fun _ _ _ => ?_)
    | with_reducible refine Moves.optSome ?_
    | with_reducible exact Moves.optNone
    | with_reducible refine Moves.some (by assumption) ?_
    | with_reducible refine Moves.fst (by assumption) ?_
    | with_reducible refine Moves.snd (by assumption) ?_
    | dsimp +zetaDelta only

theorem execConfluenceWatchdog_moves {w : Nat} {s u : State} (hw : Within 209396482076 w) (h : Moves w s u) (g : Sys2Proof.GroupId) (neighbour : Sys2Proof.MemberId) :
    Moves.outcome w s (execConfluenceWatchdog g neighbour u) := by
  unfold execConfluenceWatchdog
  repeat'
    first
    | with_reducible assumption
    | with_reducible exact Moves.fault
    | with_reducible refine Moves.next ?_
    | with_reducible refine State.cfWatchdog_moves (Within.trans (by decide : Within 209396482076 209396482076) hw) ?_ _ _
    | with_reducible refine Moves.ite ?_ ?_
    | split
    | extract_lets
    | with_reducible refine Moves.getD (Moves.optFindSome (fun _ => ?_)) ?_
    | with_reducible refine Moves.optMap (fun _ => ?_)
    | with_reducible refine Moves.optSndMapSnd ?_
    | with_reducible refine Moves.optSndMap (fun _ => ?_)
    | with_reducible refine Moves.optBind ?_ (fun _ _ => ?_)
    | with_reducible refine Moves.optOf (fun _ => ?_)
    | (with_reducible refine Moves.foldl ?_ (fun _ _ _ => ?_))
    | (with_reducible refine Moves.foldlFst ?_ (fun _ _ _ => ?_))
    | (with_reducible refine Moves.foldr ?_ (fun _ _ _ => ?_))
    | with_reducible refine Moves.optIte ?_ ?_
    | with_reducible refine Moves.foldlOpt ?_ (fun _ _ _ => ?_)
    | with_reducible refine Moves.optSome ?_
    | with_reducible exact Moves.optNone
    | with_reducible refine Moves.some (by assumption) ?_
    | with_reducible refine Moves.fst (by assumption) ?_
    | with_reducible refine Moves.snd (by assumption) ?_
    | dsimp +zetaDelta only

end Sys2Proof.Machine
end

