-- ==== Sys2Proof/Laws/CompleteMoves.lean ====
section
/-! SUPPORT. Sys2Proof/Laws/CompleteMoves.lean: what each operation of Machine/Complete.lean can do to the state: the parts it may change, and that it keeps
the canonical form. -/

namespace Sys2Proof.Machine

theorem State.copyEnded_moves {w : Nat} {s u : State} (hw : Within 1024 w) (h : Moves w s u) (k : Copying) :
    Moves w s (State.copyEnded u k) := by
  unfold State.copyEnded
  repeat'
    first
    | with_reducible assumption
    | with_reducible refine Moves.ite ?_ ?_
    | split
    | extract_lets
    | with_reducible refine Moves.getD (Moves.optFindSome (fun _ => ?_)) ?_
    | with_reducible refine Moves.optMap (fun _ => ?_)
    | with_reducible refine Moves.optSndMapSnd ?_
    | with_reducible refine Moves.optSndMap (fun _ => ?_)
    | with_reducible refine Moves.optBind ?_ (fun _ _ => ?_)
    | with_reducible refine Moves.optOf (fun _ => ?_)
    | (with_reducible refine Moves.foldl ?_ (fun _ _ _ => ?_))
    | (with_reducible refine Moves.foldlFst ?_ (fun _ _ _ => ?_))
    | (with_reducible refine Moves.foldr ?_ (fun _ _ _ => ?_))
    | with_reducible refine Moves.optIte ?_ ?_
    | with_reducible refine Moves.foldlOpt ?_ (fun _ _ _ => ?_)
    | with_reducible refine Moves.optSome ?_
    | with_reducible exact Moves.optNone
    | with_reducible refine Moves.some (by assumption) ?_
    | with_reducible refine Moves.fst (by assumption) ?_
    | with_reducible refine Moves.snd (by assumption) ?_
    | dsimp +zetaDelta only
    | with_reducible refine Moves.upd ?_ rfl ⟨rfl, rfl, .same, ⟨.rfl, .rfl, .rfl, .rfl, .of hw (by decide)⟩, .same, .same, .same⟩ ⟨id, id, id, id, id, id, id⟩

theorem State.endCopy_moves {w : Nat} {s u : State} (hw : Within 2568494059881996 w) (h : Moves w s u)  :
    Moves w s (State.endCopy u) := by
  unfold State.endCopy
  repeat'
    first
    | with_reducible assumption
    | with_reducible refine State.copyEnded_moves (Within.trans (by decide : Within 1024 2568494059881996) hw) ?_ _
    | with_reducible refine State.dropCopies_moves (Within.trans (by decide : Within 34359738880 2568494059881996) hw) ?_ _
    | with_reducible refine State.reach_moves (Within.trans (by decide : Within 2568459700142092 2568494059881996) hw) ?_ _ _
    | with_reducible refine Moves.ite ?_ ?_
    | split
    | extract_lets
    | with_reducible refine Moves.getD (Moves.optFindSome (fun _ => ?_)) ?_
    | with_reducible refine Moves.optMap (fun _ => ?_)
    | with_reducible refine Moves.optSndMapSnd ?_
    | with_reducible refine Moves.optSndMap (fun _ => ?_)
    | with_reducible refine Moves.optBind ?_ (fun _ _ => ?_)
    | with_reducible refine Moves.optOf (fun _ => ?_)
    | (with_reducible refine Moves.foldl ?_ (fun _ _ _ => ?_))
    | (with_reducible refine Moves.foldlFst ?_ (fun _ _ _ => ?_))
    | (with_reducible refine Moves.foldr ?_ (fun _ _ _ => ?_))
    | with_reducible refine Moves.optIte ?_ ?_
    | with_reducible refine Moves.foldlOpt ?_ (fun _ _ _ => ?_)
    | with_reducible refine Moves.optSome ?_
    | with_reducible exact Moves.optNone
    | with_reducible refine Moves.some (by assumption) ?_
    | with_reducible refine Moves.fst (by assumption) ?_
    | with_reducible refine Moves.snd (by assumption) ?_
    | dsimp +zetaDelta only

theorem State.writeContact_moves {w : Nat} {s u : State} (hw : Within 35187593314332 w) (h : Moves w s u) (e : Ended) (p : ProofEntry) :
    Moves w s (State.writeContact u e p).1 := by
  unfold State.writeContact
  repeat'
    first
    | with_reducible assumption
    | with_reducible refine State.setF_moves (Within.trans (by decide : Within 4 35187593314332) hw) ?_ _ _ _
    | with_reducible refine State.writeCtx_moves (Within.trans (by decide : Within 3221225488 35187593314332) hw) ?_ _ _ _ _
    | with_reducible refine Moves.some ‹State.writeCtx _ _ _ _ _ = some _› (State.writeCtx_moves (Within.trans (by decide : Within 3221225488 35187593314332) hw) ?_ _ _ _ _)
    | with_reducible refine Moves.getD (State.writeCtx_moves (Within.trans (by decide : Within 3221225488 35187593314332) hw) ?_ _ _ _ _) ?_
    | with_reducible refine State.pend_moves (Within.trans (by decide : Within 12 35187593314332) hw) ?_ _
    | with_reducible refine State.contain_moves (Within.trans (by decide : Within 35184372088844 35187593314332) hw) ?_ _ _
    | with_reducible refine State.bumpF_moves (Within.trans (by decide : Within 12 35187593314332) hw) ?_ _ _ _
    | with_reducible refine Moves.ite ?_ ?_
    | split
    | extract_lets
    | with_reducible refine Moves.getD (Moves.optFindSome (fun _ => ?_)) ?_
    | with_reducible refine Moves.optMap (fun _ => ?_)
    | with_reducible refine Moves.optSndMapSnd ?_
    | with_reducible refine Moves.optSndMap (fun _ => ?_)
    | with_reducible refine Moves.optBind ?_ (fun _ _ => ?_)
    | with_reducible refine Moves.optOf (fun _ => ?_)
    | (with_reducible refine Moves.foldl ?_ (fun _ _ _ => ?_))
    | (with_reducible refine Moves.foldlFst ?_ (fun _ _ _ => ?_))
    | (with_reducible refine Moves.foldr ?_ (fun _ _ _ => ?_))
    | with_reducible refine Moves.optIte ?_ ?_
    | with_reducible refine Moves.foldlOpt ?_ (fun _ _ _ => ?_)
    | with_reducible refine Moves.optSome ?_
    | with_reducible exact Moves.optNone
    | with_reducible refine Moves.some (by assumption) ?_
    | with_reducible refine Moves.fst (by assumption) ?_
    | with_reducible refine Moves.snd (by assumption) ?_
    | dsimp +zetaDelta only

theorem State.writeContacts_moves {w : Nat} {s u : State} (hw : Within 35187593314332 w) (h : Moves w s u) (e : Ended) :
    Moves w s (State.writeContacts u e).1 := by
  unfold State.writeContacts
  repeat'
    first
    | with_reducible assumption
    | with_reducible refine State.writeContact_moves (Within.trans (by decide : Within 35187593314332 35187593314332) hw) ?_ _ _
    | with_reducible refine Moves.fst ‹State.writeContact _ _ _ = (_, _)› (State.writeContact_moves (Within.trans (by decide : Within 35187593314332 35187593314332) hw) ?_ _ _)
    | with_reducible refine Moves.ite ?_ ?_
    | split
    | extract_lets
    | with_reducible refine Moves.getD (Moves.optFindSome (fun _ => ?_)) ?_
    | with_reducible refine Moves.optMap (fun _ => ?_)
    | with_reducible refine Moves.optSndMapSnd ?_
    | with_reducible refine Moves.optSndMap (fun _ => ?_)
    | with_reducible refine Moves.optBind ?_ (fun _ _ => ?_)
    | with_reducible refine Moves.optOf (fun _ => ?_)
    | (with_reducible refine Moves.foldl ?_ (fun _ _ _ => ?_))
    | (with_reducible refine Moves.foldlFst ?_ (fun _ _ _ => ?_))
    | (with_reducible refine Moves.foldr ?_ (fun _ _ _ => ?_))
    | with_reducible refine Moves.optIte ?_ ?_
    | with_reducible refine Moves.foldlOpt ?_ (fun _ _ _ => ?_)
    | with_reducible refine Moves.optSome ?_
    | with_reducible exact Moves.optNone
    | with_reducible refine Moves.some (by assumption) ?_
    | with_reducible refine Moves.fst (by assumption) ?_
    | with_reducible refine Moves.snd (by assumption) ?_
    | dsimp +zetaDelta only

theorem State.boundaryOf_moves {w : Nat} {s u : State} (hw : Within 35187593314364 w) (h : Moves w s u) (e : Ended) :
    Moves w s (State.boundaryOf u e).1 := by
  unfold State.boundaryOf
  repeat'
    first
    | with_reducible assumption
    | with_reducible refine State.sweep_moves (Within.trans (by decide : Within 44 35187593314364) hw) ?_ _
    | with_reducible refine State.writeContacts_moves (Within.trans (by decide : Within 35187593314332 35187593314364) hw) ?_ _
    | with_reducible refine Moves.fst ‹State.writeContacts _ _ = (_, _)› (State.writeContacts_moves (Within.trans (by decide : Within 35187593314332 35187593314364) hw) ?_ _)
    | with_reducible refine State.countLoads_moves (Within.trans (by decide : Within 32 35187593314364) hw) ?_ _
    | with_reducible refine State.updateBurns_moves (Within.trans (by decide : Within 44 35187593314364) hw) ?_ _
    | with_reducible refine Moves.fst ‹State.updateBurns _ _ = (_, _)› (State.updateBurns_moves (Within.trans (by decide : Within 44 35187593314364) hw) ?_ _)
    | with_reducible refine Moves.ite ?_ ?_
    | split
    | extract_lets
    | with_reducible refine Moves.getD (Moves.optFindSome (fun _ => ?_)) ?_
    | with_reducible refine Moves.optMap (fun _ => ?_)
    | with_reducible refine Moves.optSndMapSnd ?_
    | with_reducible refine Moves.optSndMap (fun _ => ?_)
    | with_reducible refine Moves.optBind ?_ (fun _ _ => ?_)
    | with_reducible refine Moves.optOf (fun _ => ?_)
    | (with_reducible refine Moves.foldl ?_ (fun _ _ _ => ?_))
    | (with_reducible refine Moves.foldlFst ?_ (fun _ _ _ => ?_))
    | (with_reducible refine Moves.foldr ?_ (fun _ _ _ => ?_))
    | with_reducible refine Moves.optIte ?_ ?_
    | with_reducible refine Moves.foldlOpt ?_ (fun _ _ _ => ?_)
    | with_reducible refine Moves.optSome ?_
    | with_reducible exact Moves.optNone
    | with_reducible refine Moves.some (by assumption) ?_
    | with_reducible refine Moves.fst (by assumption) ?_
    | with_reducible refine Moves.snd (by assumption) ?_
    | dsimp +zetaDelta only

theorem State.chargeVtime_moves {w : Nat} {s u : State} (hw : Within 32 w) (h : Moves w s u) (e : Ended) :
    Moves w s (State.chargeVtime u e) := by
  unfold State.chargeVtime
  repeat'
    first
    | with_reducible assumption
    | with_reducible refine State.modCtx_moves (Within.trans (by decide : Within 32 32) hw) ?_ _ _
    | with_reducible refine Moves.ite ?_ ?_
    | split
    | extract_lets
    | with_reducible refine Moves.getD (Moves.optFindSome (fun _ => ?_)) ?_
    | with_reducible refine Moves.optMap (fun _ => ?_)
    | with_reducible refine Moves.optSndMapSnd ?_
    | with_reducible refine Moves.optSndMap (fun _ => ?_)
    | with_reducible refine Moves.optBind ?_ (fun _ _ => ?_)
    | with_reducible refine Moves.optOf (fun _ => ?_)
    | (with_reducible refine Moves.foldl ?_ (fun _ _ _ => ?_))
    | (with_reducible refine Moves.foldlFst ?_ (fun _ _ _ => ?_))
    | (with_reducible refine Moves.foldr ?_ (fun _ _ _ => ?_))
    | with_reducible refine Moves.optIte ?_ ?_
    | with_reducible refine Moves.foldlOpt ?_ (fun _ _ _ => ?_)
    | with_reducible refine Moves.optSome ?_
    | with_reducible exact Moves.optNone
    | with_reducible refine Moves.some (by assumption) ?_
    | with_reducible refine Moves.fst (by assumption) ?_
    | with_reducible refine Moves.snd (by assumption) ?_
    | dsimp +zetaDelta only

theorem State.applySignal_moves {w : Nat} {s u : State} (hw : Within 96 w) (h : Moves w s u) (e : Ended) :
    Moves w s (State.applySignal u e) := by
  unfold State.applySignal
  repeat'
    first
    | with_reducible assumption
    | with_reducible refine State.noteWaits_moves (Within.trans (by decide : Within 32 96) hw) ?_
    | with_reducible refine Moves.ite ?_ ?_
    | split
    | extract_lets
    | with_reducible refine Moves.getD (Moves.optFindSome (fun _ => ?_)) ?_
    | with_reducible refine Moves.optMap (fun _ => ?_)
    | with_reducible refine Moves.optSndMapSnd ?_
    | with_reducible refine Moves.optSndMap (fun _ => ?_)
    | with_reducible refine Moves.optBind ?_ (fun _ _ => ?_)
    | with_reducible refine Moves.optOf (fun _ => ?_)
    | (with_reducible refine Moves.foldl ?_ (fun _ _ _ => ?_))
    | (with_reducible refine Moves.foldlFst ?_ (fun _ _ _ => ?_))
    | (with_reducible refine Moves.foldr ?_ (fun _ _ _ => ?_))
    | with_reducible refine Moves.optIte ?_ ?_
    | with_reducible refine Moves.foldlOpt ?_ (fun _ _ _ => ?_)
    | with_reducible refine Moves.optSome ?_
    | with_reducible exact Moves.optNone
    | with_reducible refine Moves.some (by assumption) ?_
    | with_reducible refine Moves.fst (by assumption) ?_
    | with_reducible refine Moves.snd (by assumption) ?_
    | dsimp +zetaDelta only
    | with_reducible refine Moves.upd ?_ rfl ⟨rfl, rfl, .same, ⟨.of hw (by decide), .rfl, .rfl, .rfl, .rfl⟩, .same, .same, .same⟩ ⟨id, id, id, (by first | with_reducible exact id | exact fun k => Tab.sorted_set k _ _ | exact fun k => Tab.sorted_filter k _ | exact fun k => Tab.sorted_erase k _ | exact fun k => Tab.sorted_map k _ (fun _ => by first | rfl | (split <;> rfl)) | exact fun _ => .nil), id, id, id⟩

theorem State.writeCompletion_moves {w : Nat} {s u : State} (hw : Within 36527643058044 w) (h : Moves w s u) (e : Ended) :
    Moves w s (State.writeCompletion u e) := by
  unfold State.writeCompletion
  repeat'
    first
    | with_reducible assumption
    | with_reducible refine State.writeCtx_moves (Within.trans (by decide : Within 3221225488 36527643058044) hw) ?_ _ _ _ _
    | with_reducible refine Moves.some ‹State.writeCtx _ _ _ _ _ = some _› (State.writeCtx_moves (Within.trans (by decide : Within 3221225488 36527643058044) hw) ?_ _ _ _ _)
    | with_reducible refine Moves.getD (State.writeCtx_moves (Within.trans (by decide : Within 3221225488 36527643058044) hw) ?_ _ _ _ _) ?_
    | with_reducible refine State.startTeardown_moves (Within.trans (by decide : Within 36527643053884 36527643058044) hw) ?_ _ _ _
    | with_reducible refine State.contain_moves (Within.trans (by decide : Within 35184372088844 36527643058044) hw) ?_ _ _
    | with_reducible refine State.applySignal_moves (Within.trans (by decide : Within 96 36527643058044) hw) ?_ _
    | with_reducible refine State.putEntries_moves (Within.trans (by decide : Within 32 36527643058044) hw) ?_ _
    | with_reducible refine State.setF_moves (Within.trans (by decide : Within 4 36527643058044) hw) ?_ _ _ _
    | with_reducible refine State.vfEvent_moves (Within.trans (by decide : Within 35184372088844 36527643058044) hw) ?_ _ _
    | with_reducible refine State.pend_moves (Within.trans (by decide : Within 12 36527643058044) hw) ?_ _
    | with_reducible refine Moves.ite ?_ ?_
    | split
    | extract_lets
    | with_reducible refine Moves.getD (Moves.optFindSome (fun _ => ?_)) ?_
    | with_reducible refine Moves.optMap (fun _ => ?_)
    | with_reducible refine Moves.optSndMapSnd ?_
    | with_reducible refine Moves.optSndMap (fun _ => ?_)
    | with_reducible refine Moves.optBind ?_ (fun _ _ => ?_)
    | with_reducible refine Moves.optOf (fun _ => ?_)
    | (with_reducible refine Moves.foldl ?_ (fun _ _ _ => ?_))
    | (with_reducible refine Moves.foldlFst ?_ (fun _ _ _ => ?_))
    | (with_reducible refine Moves.foldr ?_ (fun _ _ _ => ?_))
    | with_reducible refine Moves.optIte ?_ ?_
    | with_reducible refine Moves.foldlOpt ?_ (fun _ _ _ => ?_)
    | with_reducible refine Moves.optSome ?_
    | with_reducible exact Moves.optNone
    | with_reducible refine Moves.some (by assumption) ?_
    | with_reducible refine Moves.fst (by assumption) ?_
    | with_reducible refine Moves.snd (by assumption) ?_
    | dsimp +zetaDelta only
    | with_reducible refine Moves.upd ?_ rfl ⟨rfl, rfl, .same, .same, ⟨.rfl, .of hw (by decide), .rfl, .rfl, .rfl⟩, .same, .same⟩ ⟨id, id, id, id, id, id, id⟩

theorem State.complete_moves {w : Nat} {s u : State} (hw : Within 2569802971111292 w) (h : Moves w s u)  :
    Moves w s (State.complete u) := by
  unfold State.complete
  repeat'
    first
    | with_reducible assumption
    | with_reducible refine State.endCopy_moves (Within.trans (by decide : Within 2568494059881996 2569802971111292) hw) ?_
    | with_reducible refine State.releaseAwaits_moves (Within.trans (by decide : Within 3072 2569802971111292) hw) ?_
    | with_reducible refine State.boundaryOf_moves (Within.trans (by decide : Within 35187593314364 2569802971111292) hw) ?_ _
    | with_reducible refine Moves.fst ‹State.boundaryOf _ _ = (_, _)› (State.boundaryOf_moves (Within.trans (by decide : Within 35187593314364 2569802971111292) hw) ?_ _)
    | with_reducible refine State.chargeVtime_moves (Within.trans (by decide : Within 32 2569802971111292) hw) ?_ _
    | with_reducible refine State.settleIdle_moves (Within.trans (by decide : Within 32 2569802971111292) hw) ?_
    | with_reducible refine State.writeCompletion_moves (Within.trans (by decide : Within 36527643058044 2569802971111292) hw) ?_ _
    | with_reducible refine State.modCtx_moves (Within.trans (by decide : Within 32 2569802971111292) hw) ?_ _ _
    | with_reducible refine Moves.ite ?_ ?_
    | split
    | extract_lets
    | with_reducible refine Moves.getD (Moves.optFindSome (fun _ => ?_)) ?_
    | with_reducible refine Moves.optMap (fun _ => ?_)
    | with_reducible refine Moves.optSndMapSnd ?_
    | with_reducible refine Moves.optSndMap (fun _ => ?_)
    | with_reducible refine Moves.optBind ?_ (fun _ _ => ?_)
    | with_reducible refine Moves.optOf (fun _ => ?_)
    | (with_reducible refine Moves.foldl ?_ (fun _ _ _ => ?_))
    | (with_reducible refine Moves.foldlFst ?_ (fun _ _ _ => ?_))
    | (with_reducible refine Moves.foldr ?_ (fun _ _ _ => ?_))
    | with_reducible refine Moves.optIte ?_ ?_
    | with_reducible refine Moves.foldlOpt ?_ (fun _ _ _ => ?_)
    | with_reducible refine Moves.optSome ?_
    | with_reducible exact Moves.optNone
    | with_reducible refine Moves.some (by assumption) ?_
    | with_reducible refine Moves.fst (by assumption) ?_
    | with_reducible refine Moves.snd (by assumption) ?_
    | dsimp +zetaDelta only
    | with_reducible refine Moves.upd ?_ rfl ⟨rfl, rfl, .same, ⟨.rfl, .rfl, .rfl, .rfl, .of hw (by decide)⟩, .same, .same, .same⟩ ⟨id, id, id, id, id, id, id⟩

theorem execCommandComplete_moves {w : Nat} {s u : State} (hw : Within 2569802971111292 w) (h : Moves w s u)  :
    Moves.outcome w s (execCommandComplete u) := by
  unfold execCommandComplete
  repeat'
    first
    | with_reducible assumption
    | with_reducible exact Moves.fault
    | with_reducible refine Moves.next ?_
    | with_reducible refine State.complete_moves (Within.trans (by decide : Within 2569802971111292 2569802971111292) hw) ?_
    | with_reducible refine Moves.ite ?_ ?_
    | split
    | extract_lets
    | with_reducible refine Moves.getD (Moves.optFindSome (fun _ => ?_)) ?_
    | with_reducible refine Moves.optMap (fun _ => ?_)
    | with_reducible refine Moves.optSndMapSnd ?_
    | with_reducible refine Moves.optSndMap (fun _ => ?_)
    | with_reducible refine Moves.optBind ?_ (fun _ _ => ?_)
    | with_reducible refine Moves.optOf (fun _ => ?_)
    | (with_reducible refine Moves.foldl ?_ (fun _ _ _ => ?_))
    | (with_reducible refine Moves.foldlFst ?_ (fun _ _ _ => ?_))
    | (with_reducible refine Moves.foldr ?_ (fun _ _ _ => ?_))
    | with_reducible refine Moves.optIte ?_ ?_
    | with_reducible refine Moves.foldlOpt ?_ (fun _ _ _ => ?_)
    | with_reducible refine Moves.optSome ?_
    | with_reducible exact Moves.optNone
    | with_reducible refine Moves.some (by assumption) ?_
    | with_reducible refine Moves.fst (by assumption) ?_
    | with_reducible refine Moves.snd (by assumption) ?_
    | dsimp +zetaDelta only

theorem State.writeCplRing_moves {w : Nat} {s u : State} (hw : Within 36527643058044 w) (h : Moves w s u) (c : Nat) (w' : Nat) :
    Moves w s (State.writeCplRing u c w') := by
  unfold State.writeCplRing
  repeat'
    first
    | with_reducible assumption
    | with_reducible refine State.writeRing_moves (Within.trans (by decide : Within 4 36527643058044) hw) ?_ _ _
    | with_reducible refine State.settleIdle_moves (Within.trans (by decide : Within 32 36527643058044) hw) ?_
    | with_reducible refine State.writeCompletion_moves (Within.trans (by decide : Within 36527643058044 36527643058044) hw) ?_ _
    | with_reducible refine State.modCtx_moves (Within.trans (by decide : Within 32 36527643058044) hw) ?_ _ _
    | with_reducible refine Moves.ite ?_ ?_
    | split
    | extract_lets
    | with_reducible refine Moves.getD (Moves.optFindSome (fun _ => ?_)) ?_
    | with_reducible refine Moves.optMap (fun _ => ?_)
    | with_reducible refine Moves.optSndMapSnd ?_
    | with_reducible refine Moves.optSndMap (fun _ => ?_)
    | with_reducible refine Moves.optBind ?_ (fun _ _ => ?_)
    | with_reducible refine Moves.optOf (fun _ => ?_)
    | (with_reducible refine Moves.foldl ?_ (fun _ _ _ => ?_))
    | (with_reducible refine Moves.foldlFst ?_ (fun _ _ _ => ?_))
    | (with_reducible refine Moves.foldr ?_ (fun _ _ _ => ?_))
    | with_reducible refine Moves.optIte ?_ ?_
    | with_reducible refine Moves.foldlOpt ?_ (fun _ _ _ => ?_)
    | with_reducible refine Moves.optSome ?_
    | with_reducible exact Moves.optNone
    | with_reducible refine Moves.some (by assumption) ?_
    | with_reducible refine Moves.fst (by assumption) ?_
    | with_reducible refine Moves.snd (by assumption) ?_
    | dsimp +zetaDelta only

theorem execCplRingEnable_moves {w : Nat} {s u : State} (hw : Within 36527643058044 w) (h : Moves w s u) (c : Sys2Proof.CtxId) (w' : Sys2Proof.W64) :
    Moves.outcome w s (execCplRingEnable c w' u) := by
  unfold execCplRingEnable
  repeat'
    first
    | with_reducible assumption
    | with_reducible exact Moves.fault
    | with_reducible refine Moves.next ?_
    | with_reducible refine State.whereAnswers_moves (Within.trans (by decide : Within 0 36527643058044) hw) ?_ _ _ (fun _ _ => ?_)
    | with_reducible refine State.writeCplRing_moves (Within.trans (by decide : Within 36527643058044 36527643058044) hw) ?_ _ _
    | with_reducible refine Moves.ite ?_ ?_
    | split
    | extract_lets
    | with_reducible refine Moves.getD (Moves.optFindSome (fun _ => ?_)) ?_
    | with_reducible refine Moves.optMap (fun _ => ?_)
    | with_reducible refine Moves.optSndMapSnd ?_
    | with_reducible refine Moves.optSndMap (fun _ => ?_)
    | with_reducible refine Moves.optBind ?_ (fun _ _ => ?_)
    | with_reducible refine Moves.optOf (fun _ => ?_)
    | (with_reducible refine Moves.foldl ?_ (fun _ _ _ => ?_))
    | (with_reducible refine Moves.foldlFst ?_ (fun _ _ _ => ?_))
    | (with_reducible refine Moves.foldr ?_ (fun _ _ _ => ?_))
    | with_reducible refine Moves.optIte ?_ ?_
    | with_reducible refine Moves.foldlOpt ?_ (fun _ _ _ => ?_)
    | with_reducible refine Moves.optSome ?_
    | with_reducible exact Moves.optNone
    | with_reducible refine Moves.some (by assumption) ?_
    | with_reducible refine Moves.fst (by assumption) ?_
    | with_reducible refine Moves.snd (by assumption) ?_
    | dsimp +zetaDelta only

end Sys2Proof.Machine
end

