-- ==== Sys2Proof/Laws/SchedMoves.lean ====
section
/-! SUPPORT. Sys2Proof/Laws/SchedMoves.lean: what each operation of Machine/Sched.lean can do to the state: the parts it may change, and that it keeps
the canonical form. -/

namespace Sys2Proof.Machine

theorem State.beginLoad_moves {w : Nat} {s u : State} (hw : Within 1048608 w) (h : Moves w s u) (c : Nat) (b : Nat) :
    Moves w s (State.beginLoad u c b) := by
  unfold State.beginLoad
  repeat'
    first
    | with_reducible assumption
    | with_reducible refine State.modCtx_moves (Within.trans (by decide : Within 32 1048608) hw) ?_ _ _
    | with_reducible refine State.placeAt_moves (Within.trans (by decide : Within 32 1048608) hw) ?_ _ _
    | with_reducible refine Moves.ite ?_ ?_
    | split
    | extract_lets
    | with_reducible refine Moves.getD (Moves.optFindSome (fun _ => ?_)) ?_
    | with_reducible refine Moves.optMap (fun _ => ?_)
    | with_reducible refine Moves.optSndMapSnd ?_
    | with_reducible refine Moves.optSndMap (fun _ => ?_)
    | with_reducible refine Moves.optBind ?_ (fun _ _ => ?_)
    | with_reducible refine Moves.optOf (fun _ => ?_)
    | (with_reducible refine Moves.foldl ?_ (fun _ _ _ => ?_))
    | (with_reducible refine Moves.foldlFst ?_ (fun _ _ _ => ?_))
    | (with_reducible refine Moves.foldr ?_ (fun _ _ _ => ?_))
    | with_reducible refine Moves.optIte ?_ ?_
    | with_reducible refine Moves.foldlOpt ?_ (fun _ _ _ => ?_)
    | with_reducible refine Moves.optSome ?_
    | with_reducible exact Moves.optNone
    | with_reducible refine Moves.some (by assumption) ?_
    | with_reducible refine Moves.fst (by assumption) ?_
    | with_reducible refine Moves.snd (by assumption) ?_
    | dsimp +zetaDelta only
    | with_reducible refine Moves.upd ?_ rfl ⟨rfl, rfl, .same, .same, .same, ⟨.rfl, .rfl, .rfl, .rfl, .of hw (by decide)⟩, .same⟩ ⟨id, id, id, id, id, id, id⟩

theorem State.loadFound_moves {w : Nat} {s u : State} (hw : Within 5242912 w) (h : Moves w s u) (c : Nat) (x2 : Option Nat) :
    Moves w s (State.loadFound u c x2) := by
  unfold State.loadFound
  repeat'
    first
    | with_reducible assumption
    | with_reducible refine State.beginLoad_moves (Within.trans (by decide : Within 1048608 5242912) hw) ?_ _ _
    | with_reducible refine Moves.ite ?_ ?_
    | split
    | extract_lets
    | with_reducible refine Moves.getD (Moves.optFindSome (fun _ => ?_)) ?_
    | with_reducible refine Moves.optMap (fun _ => ?_)
    | with_reducible refine Moves.optSndMapSnd ?_
    | with_reducible refine Moves.optSndMap (fun _ => ?_)
    | with_reducible refine Moves.optBind ?_ (fun _ _ => ?_)
    | with_reducible refine Moves.optOf (fun _ => ?_)
    | (with_reducible refine Moves.foldl ?_ (fun _ _ _ => ?_))
    | (with_reducible refine Moves.foldlFst ?_ (fun _ _ _ => ?_))
    | (with_reducible refine Moves.foldr ?_ (fun _ _ _ => ?_))
    | with_reducible refine Moves.optIte ?_ ?_
    | with_reducible refine Moves.foldlOpt ?_ (fun _ _ _ => ?_)
    | with_reducible refine Moves.optSome ?_
    | with_reducible exact Moves.optNone
    | with_reducible refine Moves.some (by assumption) ?_
    | with_reducible refine Moves.fst (by assumption) ?_
    | with_reducible refine Moves.snd (by assumption) ?_
    | dsimp +zetaDelta only
    | with_reducible refine Moves.upd ?_ rfl ⟨rfl, rfl, .same, .same, .same, ⟨.rfl, .rfl, .rfl, .rfl, .of hw (by decide)⟩, ⟨.rfl, .of hw (by decide), .rfl, .rfl, .rfl⟩⟩ ⟨id, id, id, id, id, id, id⟩

theorem execRegBucketWrite_moves {w : Nat} {s u : State} (hw : Within 4 w) (h : Moves w s u) (link : Bool) (part : Fin 8) (w' : Sys2Proof.W64) :
    Moves.outcome w s (execRegBucketWrite link part w' u) := by
  unfold execRegBucketWrite
  repeat'
    first
    | with_reducible assumption
    | with_reducible exact Moves.fault
    | with_reducible refine Moves.next ?_
    | with_reducible refine State.whereAnswers_moves (Within.trans (by decide : Within 0 4) hw) ?_ _ _ (fun _ _ => ?_)
    | with_reducible refine State.writePlain_moves (Within.trans (by decide : Within 4 4) hw) ?_ _ _
    | with_reducible refine Moves.ite ?_ ?_
    | split
    | extract_lets
    | with_reducible refine Moves.getD (Moves.optFindSome (fun _ => ?_)) ?_
    | with_reducible refine Moves.optMap (fun _ => ?_)
    | with_reducible refine Moves.optSndMapSnd ?_
    | with_reducible refine Moves.optSndMap (fun _ => ?_)
    | with_reducible refine Moves.optBind ?_ (fun _ _ => ?_)
    | with_reducible refine Moves.optOf (fun _ => ?_)
    | (with_reducible refine Moves.foldl ?_ (fun _ _ _ => ?_))
    | (with_reducible refine Moves.foldlFst ?_ (fun _ _ _ => ?_))
    | (with_reducible refine Moves.foldr ?_ (fun _ _ _ => ?_))
    | with_reducible refine Moves.optIte ?_ ?_
    | with_reducible refine Moves.foldlOpt ?_ (fun _ _ _ => ?_)
    | with_reducible refine Moves.optSome ?_
    | with_reducible exact Moves.optNone
    | with_reducible refine Moves.some (by assumption) ?_
    | with_reducible refine Moves.fst (by assumption) ?_
    | with_reducible refine Moves.snd (by assumption) ?_
    | dsimp +zetaDelta only

theorem State.issueCopy_moves {w : Nat} {s u : State} (hw : Within 36527643053884 w) (h : Moves w s u) (m : Command) :
    Moves w s (State.issueCopy u m) := by
  unfold State.issueCopy
  repeat'
    first
    | with_reducible assumption
    | with_reducible refine State.startTeardown_moves (Within.trans (by decide : Within 36527643053884 36527643053884) hw) ?_ _ _ _
    | with_reducible refine State.runCopy_moves (Within.trans (by decide : Within 35221953052700 36527643053884) hw) ?_ _
    | with_reducible refine Moves.ite ?_ ?_
    | split
    | extract_lets
    | with_reducible refine Moves.getD (Moves.optFindSome (fun _ => ?_)) ?_
    | with_reducible refine Moves.optMap (fun _ => ?_)
    | with_reducible refine Moves.optSndMapSnd ?_
    | with_reducible refine Moves.optSndMap (fun _ => ?_)
    | with_reducible refine Moves.optBind ?_ (fun _ _ => ?_)
    | with_reducible refine Moves.optOf (fun _ => ?_)
    | (with_reducible refine Moves.foldl ?_ (fun _ _ _ => ?_))
    | (with_reducible refine Moves.foldlFst ?_ (fun _ _ _ => ?_))
    | (with_reducible refine Moves.foldr ?_ (fun _ _ _ => ?_))
    | with_reducible refine Moves.optIte ?_ ?_
    | with_reducible refine Moves.foldlOpt ?_ (fun _ _ _ => ?_)
    | with_reducible refine Moves.optSome ?_
    | with_reducible exact Moves.optNone
    | with_reducible refine Moves.some (by assumption) ?_
    | with_reducible refine Moves.fst (by assumption) ?_
    | with_reducible refine Moves.snd (by assumption) ?_
    | dsimp +zetaDelta only
    | with_reducible refine Moves.upd ?_ rfl ⟨rfl, rfl, .same, ⟨.rfl, .rfl, .rfl, .of hw (by decide), .rfl⟩, .same, .same, .same⟩ ⟨id, id, id, id, id, id, id⟩

theorem State.issueSet_moves {w : Nat} {s u : State} (hw : Within 256 w) (h : Moves w s u) (m : Command) :
    Moves w s (State.issueSet u m) := by
  unfold State.issueSet
  repeat'
    first
    | with_reducible assumption
    | with_reducible refine Moves.ite ?_ ?_
    | split
    | extract_lets
    | with_reducible refine Moves.getD (Moves.optFindSome (fun _ => ?_)) ?_
    | with_reducible refine Moves.optMap (fun _ => ?_)
    | with_reducible refine Moves.optSndMapSnd ?_
    | with_reducible refine Moves.optSndMap (fun _ => ?_)
    | with_reducible refine Moves.optBind ?_ (fun _ _ => ?_)
    | with_reducible refine Moves.optOf (fun _ => ?_)
    | (with_reducible refine Moves.foldl ?_ (fun _ _ _ => ?_))
    | (with_reducible refine Moves.foldlFst ?_ (fun _ _ _ => ?_))
    | (with_reducible refine Moves.foldr ?_ (fun _ _ _ => ?_))
    | with_reducible refine Moves.optIte ?_ ?_
    | with_reducible refine Moves.foldlOpt ?_ (fun _ _ _ => ?_)
    | with_reducible refine Moves.optSome ?_
    | with_reducible exact Moves.optNone
    | with_reducible refine Moves.some (by assumption) ?_
    | with_reducible refine Moves.fst (by assumption) ?_
    | with_reducible refine Moves.snd (by assumption) ?_
    | dsimp +zetaDelta only
    | with_reducible refine Moves.upd ?_ rfl ⟨rfl, rfl, .same, ⟨.rfl, .rfl, .of hw (by decide), .rfl, .rfl⟩, .same, .same, .same⟩ ⟨id, id, id, id, id, id, id⟩

theorem State.issue_moves {w : Nat} {s u : State} (hw : Within 36527643053884 w) (h : Moves w s u) (m : Command) :
    Moves w s (State.issue u m) := by
  unfold State.issue
  repeat'
    first
    | with_reducible assumption
    | with_reducible refine State.issueCall_moves (Within.trans (by decide : Within 17408 36527643053884) hw) ?_ _
    | with_reducible refine State.issueCopy_moves (Within.trans (by decide : Within 36527643053884 36527643053884) hw) ?_ _
    | with_reducible refine State.issueSet_moves (Within.trans (by decide : Within 256 36527643053884) hw) ?_ _
    | with_reducible refine State.popHead_moves (Within.trans (by decide : Within 36527643053884 36527643053884) hw) ?_ _ _
    | with_reducible refine State.modCtx_moves (Within.trans (by decide : Within 32 36527643053884) hw) ?_ _ _
    | with_reducible refine Moves.ite ?_ ?_
    | split
    | extract_lets
    | with_reducible refine Moves.getD (Moves.optFindSome (fun _ => ?_)) ?_
    | with_reducible refine Moves.optMap (fun _ => ?_)
    | with_reducible refine Moves.optSndMapSnd ?_
    | with_reducible refine Moves.optSndMap (fun _ => ?_)
    | with_reducible refine Moves.optBind ?_ (fun _ _ => ?_)
    | with_reducible refine Moves.optOf (fun _ => ?_)
    | (with_reducible refine Moves.foldl ?_ (fun _ _ _ => ?_))
    | (with_reducible refine Moves.foldlFst ?_ (fun _ _ _ => ?_))
    | (with_reducible refine Moves.foldr ?_ (fun _ _ _ => ?_))
    | with_reducible refine Moves.optIte ?_ ?_
    | with_reducible refine Moves.foldlOpt ?_ (fun _ _ _ => ?_)
    | with_reducible refine Moves.optSome ?_
    | with_reducible exact Moves.optNone
    | with_reducible refine Moves.some (by assumption) ?_
    | with_reducible refine Moves.fst (by assumption) ?_
    | with_reducible refine Moves.snd (by assumption) ?_
    | dsimp +zetaDelta only

theorem State.tryLoad_moves {w : Nat} {s u : State} (hw : Within 5242912 w) (h : Moves w s u)  :
    Moves w s (State.tryLoad u) := by
  unfold State.tryLoad
  repeat'
    first
    | with_reducible assumption
    | with_reducible refine State.loadFound_moves (Within.trans (by decide : Within 5242912 5242912) hw) ?_ _ _
    | with_reducible refine Moves.ite ?_ ?_
    | split
    | extract_lets
    | with_reducible refine Moves.getD (Moves.optFindSome (fun _ => ?_)) ?_
    | with_reducible refine Moves.optMap (fun _ => ?_)
    | with_reducible refine Moves.optSndMapSnd ?_
    | with_reducible refine Moves.optSndMap (fun _ => ?_)
    | with_reducible refine Moves.optBind ?_ (fun _ _ => ?_)
    | with_reducible refine Moves.optOf (fun _ => ?_)
    | (with_reducible refine Moves.foldl ?_ (fun _ _ _ => ?_))
    | (with_reducible refine Moves.foldlFst ?_ (fun _ _ _ => ?_))
    | (with_reducible refine Moves.foldr ?_ (fun _ _ _ => ?_))
    | with_reducible refine Moves.optIte ?_ ?_
    | with_reducible refine Moves.foldlOpt ?_ (fun _ _ _ => ?_)
    | with_reducible refine Moves.optSome ?_
    | with_reducible exact Moves.optNone
    | with_reducible refine Moves.some (by assumption) ?_
    | with_reducible refine Moves.fst (by assumption) ?_
    | with_reducible refine Moves.snd (by assumption) ?_
    | dsimp +zetaDelta only

theorem execRelocationDone_moves {w : Nat} {s u : State} (hw : Within 1078984736 w) (h : Moves w s u)  :
    Moves.outcome w s (execRelocationDone u) := by
  unfold execRelocationDone
  repeat'
    first
    | with_reducible assumption
    | with_reducible exact Moves.fault
    | with_reducible refine Moves.next ?_
    | with_reducible refine State.tryLoad_moves (Within.trans (by decide : Within 5242912 1078984736) hw) ?_
    | with_reducible refine State.compact_moves (Within.trans (by decide : Within 1073741856 1078984736) hw) ?_
    | with_reducible refine Moves.ite ?_ ?_
    | split
    | extract_lets
    | with_reducible refine Moves.getD (Moves.optFindSome (fun _ => ?_)) ?_
    | with_reducible refine Moves.optMap (fun _ => ?_)
    | with_reducible refine Moves.optSndMapSnd ?_
    | with_reducible refine Moves.optSndMap (fun _ => ?_)
    | with_reducible refine Moves.optBind ?_ (fun _ _ => ?_)
    | with_reducible refine Moves.optOf (fun _ => ?_)
    | (with_reducible refine Moves.foldl ?_ (fun _ _ _ => ?_))
    | (with_reducible refine Moves.foldlFst ?_ (fun _ _ _ => ?_))
    | (with_reducible refine Moves.foldr ?_ (fun _ _ _ => ?_))
    | with_reducible refine Moves.optIte ?_ ?_
    | with_reducible refine Moves.foldlOpt ?_ (fun _ _ _ => ?_)
    | with_reducible refine Moves.optSome ?_
    | with_reducible exact Moves.optNone
    | with_reducible refine Moves.some (by assumption) ?_
    | with_reducible refine Moves.fst (by assumption) ?_
    | with_reducible refine Moves.snd (by assumption) ?_
    | dsimp +zetaDelta only
    | with_reducible refine Moves.upd ?_ rfl ⟨rfl, rfl, .same, .same, .same, .same, ⟨.rfl, .of hw (by decide), .rfl, .rfl, .rfl⟩⟩ ⟨id, id, id, id, id, id, id⟩

theorem State.writeImage_moves {w : Nat} {s u : State} (hw : Within 3221225488 w) (h : Moves w s u) (c : Nat) :
    Moves.opt w s (State.writeImage u c) := by
  unfold State.writeImage
  repeat'
    first
    | with_reducible assumption
    | with_reducible exact Moves.optNone
    | with_reducible refine Moves.optSome ?_
    | with_reducible refine State.writeCtx_moves (Within.trans (by decide : Within 3221225488 3221225488) hw) ?_ _ _ _ _
    | with_reducible refine Moves.some ‹State.writeCtx _ _ _ _ _ = some _› (State.writeCtx_moves (Within.trans (by decide : Within 3221225488 3221225488) hw) ?_ _ _ _ _)
    | with_reducible refine Moves.getD (State.writeCtx_moves (Within.trans (by decide : Within 3221225488 3221225488) hw) ?_ _ _ _ _) ?_
    | with_reducible refine Moves.ite ?_ ?_
    | split
    | extract_lets
    | with_reducible refine Moves.getD (Moves.optFindSome (fun _ => ?_)) ?_
    | with_reducible refine Moves.optMap (fun _ => ?_)
    | with_reducible refine Moves.optSndMapSnd ?_
    | with_reducible refine Moves.optSndMap (fun _ => ?_)
    | with_reducible refine Moves.optBind ?_ (fun _ _ => ?_)
    | with_reducible refine Moves.optOf (fun _ => ?_)
    | (with_reducible refine Moves.foldl ?_ (fun _ _ _ => ?_))
    | (with_reducible refine Moves.foldlFst ?_ (fun _ _ _ => ?_))
    | (with_reducible refine Moves.foldr ?_ (fun _ _ _ => ?_))
    | with_reducible refine Moves.optIte ?_ ?_
    | with_reducible refine Moves.foldlOpt ?_ (fun _ _ _ => ?_)
    | with_reducible refine Moves.optSome ?_
    | with_reducible exact Moves.optNone
    | with_reducible refine Moves.some (by assumption) ?_
    | with_reducible refine Moves.fst (by assumption) ?_
    | with_reducible refine Moves.snd (by assumption) ?_
    | dsimp +zetaDelta only

theorem State.saveDone_moves {w : Nat} {s u : State} (hw : Within 36527647248188 w) (h : Moves w s u) (c : Nat) :
    Moves w s (State.saveDone u c) := by
  unfold State.saveDone
  repeat'
    first
    | with_reducible assumption
    | with_reducible refine State.writeImage_moves (Within.trans (by decide : Within 3221225488 36527647248188) hw) ?_ _
    | with_reducible refine Moves.some ‹State.writeImage _ _ = some _› (State.writeImage_moves (Within.trans (by decide : Within 3221225488 36527647248188) hw) ?_ _)
    | with_reducible refine Moves.getD (State.writeImage_moves (Within.trans (by decide : Within 3221225488 36527647248188) hw) ?_ _) ?_
    | with_reducible refine State.tryLoad_moves (Within.trans (by decide : Within 5242912 36527647248188) hw) ?_
    | with_reducible refine State.startTeardown_moves (Within.trans (by decide : Within 36527643053884 36527647248188) hw) ?_ _ _ _
    | with_reducible refine State.modCtx_moves (Within.trans (by decide : Within 32 36527647248188) hw) ?_ _ _
    | with_reducible refine Moves.ite ?_ ?_
    | split
    | extract_lets
    | with_reducible refine Moves.getD (Moves.optFindSome (fun _ => ?_)) ?_
    | with_reducible refine Moves.optMap (fun _ => ?_)
    | with_reducible refine Moves.optSndMapSnd ?_
    | with_reducible refine Moves.optSndMap (fun _ => ?_)
    | with_reducible refine Moves.optBind ?_ (fun _ _ => ?_)
    | with_reducible refine Moves.optOf (fun _ => ?_)
    | (with_reducible refine Moves.foldl ?_ (fun _ _ _ => ?_))
    | (with_reducible refine Moves.foldlFst ?_ (fun _ _ _ => ?_))
    | (with_reducible refine Moves.foldr ?_ (fun _ _ _ => ?_))
    | with_reducible refine Moves.optIte ?_ ?_
    | with_reducible refine Moves.foldlOpt ?_ (fun _ _ _ => ?_)
    | with_reducible refine Moves.optSome ?_
    | with_reducible exact Moves.optNone
    | with_reducible refine Moves.some (by assumption) ?_
    | with_reducible refine Moves.fst (by assumption) ?_
    | with_reducible refine Moves.snd (by assumption) ?_
    | dsimp +zetaDelta only
    | with_reducible refine Moves.upd ?_ rfl ⟨rfl, rfl, .same, .same, .same, .same, ⟨.of hw (by decide), .rfl, .rfl, .rfl, .rfl⟩⟩ ⟨id, id, id, id, id, id, id⟩

theorem execContextSaveDone_moves {w : Nat} {s u : State} (hw : Within 36527647248188 w) (h : Moves w s u) (c : Sys2Proof.CtxId) (bad : Option Sys2Proof.TransferFault) :
    Moves.outcome w s (execContextSaveDone c bad u) := by
  unfold execContextSaveDone
  repeat'
    first
    | with_reducible assumption
    | with_reducible exact Moves.fault
    | with_reducible refine Moves.next ?_
    | with_reducible refine State.saveDone_moves (Within.trans (by decide : Within 36527647248188 36527647248188) hw) ?_ _
    | with_reducible refine State.tryLoad_moves (Within.trans (by decide : Within 5242912 36527647248188) hw) ?_
    | with_reducible refine State.startTeardown_moves (Within.trans (by decide : Within 36527643053884 36527647248188) hw) ?_ _ _ _
    | with_reducible refine Moves.ite ?_ ?_
    | split
    | extract_lets
    | with_reducible refine Moves.getD (Moves.optFindSome (fun _ => ?_)) ?_
    | with_reducible refine Moves.optMap (fun _ => ?_)
    | with_reducible refine Moves.optSndMapSnd ?_
    | with_reducible refine Moves.optSndMap (fun _ => ?_)
    | with_reducible refine Moves.optBind ?_ (fun _ _ => ?_)
    | with_reducible refine Moves.optOf (fun _ => ?_)
    | (with_reducible refine Moves.foldl ?_ (fun _ _ _ => ?_))
    | (with_reducible refine Moves.foldlFst ?_ (fun _ _ _ => ?_))
    | (with_reducible refine Moves.foldr ?_ (fun _ _ _ => ?_))
    | with_reducible refine Moves.optIte ?_ ?_
    | with_reducible refine Moves.foldlOpt ?_ (fun _ _ _ => ?_)
    | with_reducible refine Moves.optSome ?_
    | with_reducible exact Moves.optNone
    | with_reducible refine Moves.some (by assumption) ?_
    | with_reducible refine Moves.fst (by assumption) ?_
    | with_reducible refine Moves.snd (by assumption) ?_
    | dsimp +zetaDelta only

theorem State.loadDone_moves {w : Nat} {s u : State} (hw : Within 36527643053884 w) (h : Moves w s u) (c : Nat) :
    Moves w s (State.loadDone u c) := by
  unfold State.loadDone
  repeat'
    first
    | with_reducible assumption
    | with_reducible refine State.modCtx_moves (Within.trans (by decide : Within 32 36527643053884) hw) ?_ _ _
    | with_reducible refine State.startTeardown_moves (Within.trans (by decide : Within 36527643053884 36527643053884) hw) ?_ _ _ _
    | with_reducible refine Moves.ite ?_ ?_
    | split
    | extract_lets
    | with_reducible refine Moves.getD (Moves.optFindSome (fun _ => ?_)) ?_
    | with_reducible refine Moves.optMap (fun _ => ?_)
    | with_reducible refine Moves.optSndMapSnd ?_
    | with_reducible refine Moves.optSndMap (fun _ => ?_)
    | with_reducible refine Moves.optBind ?_ (fun _ _ => ?_)
    | with_reducible refine Moves.optOf (fun _ => ?_)
    | (with_reducible refine Moves.foldl ?_ (fun _ _ _ => ?_))
    | (with_reducible refine Moves.foldlFst ?_ (fun _ _ _ => ?_))
    | (with_reducible refine Moves.foldr ?_ (fun _ _ _ => ?_))
    | with_reducible refine Moves.optIte ?_ ?_
    | with_reducible refine Moves.foldlOpt ?_ (fun _ _ _ => ?_)
    | with_reducible refine Moves.optSome ?_
    | with_reducible exact Moves.optNone
    | with_reducible refine Moves.some (by assumption) ?_
    | with_reducible refine Moves.fst (by assumption) ?_
    | with_reducible refine Moves.snd (by assumption) ?_
    | dsimp +zetaDelta only
    | with_reducible refine Moves.upd ?_ rfl ⟨rfl, rfl, .same, .same, .same, ⟨.rfl, .rfl, .rfl, .rfl, .of hw (by decide)⟩, .same⟩ ⟨id, id, id, id, id, id, id⟩

theorem execContextLoadDone_moves {w : Nat} {s u : State} (hw : Within 36527643053884 w) (h : Moves w s u) (c : Sys2Proof.CtxId) (bad : Option Sys2Proof.TransferFault) :
    Moves.outcome w s (execContextLoadDone c bad u) := by
  unfold execContextLoadDone
  repeat'
    first
    | with_reducible assumption
    | with_reducible exact Moves.fault
    | with_reducible refine Moves.next ?_
    | with_reducible refine State.loadDone_moves (Within.trans (by decide : Within 36527643053884 36527643053884) hw) ?_ _
    | with_reducible refine State.startTeardown_moves (Within.trans (by decide : Within 36527643053884 36527643053884) hw) ?_ _ _ _
    | with_reducible refine Moves.ite ?_ ?_
    | split
    | extract_lets
    | with_reducible refine Moves.getD (Moves.optFindSome (fun _ => ?_)) ?_
    | with_reducible refine Moves.optMap (fun _ => ?_)
    | with_reducible refine Moves.optSndMapSnd ?_
    | with_reducible refine Moves.optSndMap (fun _ => ?_)
    | with_reducible refine Moves.optBind ?_ (fun _ _ => ?_)
    | with_reducible refine Moves.optOf (fun _ => ?_)
    | (with_reducible refine Moves.foldl ?_ (fun _ _ _ => ?_))
    | (with_reducible refine Moves.foldlFst ?_ (fun _ _ _ => ?_))
    | (with_reducible refine Moves.foldr ?_ (fun _ _ _ => ?_))
    | with_reducible refine Moves.optIte ?_ ?_
    | with_reducible refine Moves.foldlOpt ?_ (fun _ _ _ => ?_)
    | with_reducible refine Moves.optSome ?_
    | with_reducible exact Moves.optNone
    | with_reducible refine Moves.some (by assumption) ?_
    | with_reducible refine Moves.fst (by assumption) ?_
    | with_reducible refine Moves.snd (by assumption) ?_
    | dsimp +zetaDelta only

theorem State.wrapVtime_moves {w : Nat} {s u : State} (hw : Within 32 w) (h : Moves w s u)  :
    Moves w s (State.wrapVtime u) := by
  unfold State.wrapVtime
  repeat'
    first
    | with_reducible assumption
    | with_reducible refine State.modCtx_moves (Within.trans (by decide : Within 32 32) hw) ?_ _ _
    | with_reducible refine Moves.ite ?_ ?_
    | split
    | extract_lets
    | with_reducible refine Moves.getD (Moves.optFindSome (fun _ => ?_)) ?_
    | with_reducible refine Moves.optMap (fun _ => ?_)
    | with_reducible refine Moves.optSndMapSnd ?_
    | with_reducible refine Moves.optSndMap (fun _ => ?_)
    | with_reducible refine Moves.optBind ?_ (fun _ _ => ?_)
    | with_reducible refine Moves.optOf (fun _ => ?_)
    | (with_reducible refine Moves.foldl ?_ (fun _ _ _ => ?_))
    | (with_reducible refine Moves.foldlFst ?_ (fun _ _ _ => ?_))
    | (with_reducible refine Moves.foldr ?_ (fun _ _ _ => ?_))
    | with_reducible refine Moves.optIte ?_ ?_
    | with_reducible refine Moves.foldlOpt ?_ (fun _ _ _ => ?_)
    | with_reducible refine Moves.optSome ?_
    | with_reducible exact Moves.optNone
    | with_reducible refine Moves.some (by assumption) ?_
    | with_reducible refine Moves.fst (by assumption) ?_
    | with_reducible refine Moves.snd (by assumption) ?_
    | dsimp +zetaDelta only

theorem State.evict_moves {w : Nat} {s u : State} (hw : Within 7340076 w) (h : Moves w s u) (c : Nat) (cause : Nat) (l : List Nat) :
    Moves w s (State.evict u c cause l) := by
  unfold State.evict
  repeat'
    first
    | with_reducible assumption
    | with_reducible refine State.setF_moves (Within.trans (by decide : Within 4 7340076) hw) ?_ _ _ _
    | with_reducible refine State.bumpF_moves (Within.trans (by decide : Within 12 7340076) hw) ?_ _ _ _
    | with_reducible refine State.modCtx_moves (Within.trans (by decide : Within 32 7340076) hw) ?_ _ _
    | with_reducible refine State.tryLoad_moves (Within.trans (by decide : Within 5242912 7340076) hw) ?_
    | with_reducible refine Moves.ite ?_ ?_
    | split
    | extract_lets
    | with_reducible refine Moves.getD (Moves.optFindSome (fun _ => ?_)) ?_
    | with_reducible refine Moves.optMap (fun _ => ?_)
    | with_reducible refine Moves.optSndMapSnd ?_
    | with_reducible refine Moves.optSndMap (fun _ => ?_)
    | with_reducible refine Moves.optBind ?_ (fun _ _ => ?_)
    | with_reducible refine Moves.optOf (fun _ => ?_)
    | (with_reducible refine Moves.foldl ?_ (fun _ _ _ => ?_))
    | (with_reducible refine Moves.foldlFst ?_ (fun _ _ _ => ?_))
    | (with_reducible refine Moves.foldr ?_ (fun _ _ _ => ?_))
    | with_reducible refine Moves.optIte ?_ ?_
    | with_reducible refine Moves.foldlOpt ?_ (fun _ _ _ => ?_)
    | with_reducible refine Moves.optSome ?_
    | with_reducible exact Moves.optNone
    | with_reducible refine Moves.some (by assumption) ?_
    | with_reducible refine Moves.fst (by assumption) ?_
    | with_reducible refine Moves.snd (by assumption) ?_
    | dsimp +zetaDelta only
    | with_reducible refine Moves.upd ?_ rfl ⟨rfl, rfl, .same, .same, .same, ⟨.rfl, .rfl, .rfl, .rfl, .of hw (by decide)⟩, ⟨.of hw (by decide), .rfl, .rfl, .rfl, .rfl⟩⟩ ⟨id, id, id, id, id, id, id⟩

theorem State.openSupervisor_moves {w : Nat} {s u : State} (hw : Within 1073741932 w) (h : Moves w s u)  :
    Moves w s (State.openSupervisor u) := by
  unfold State.openSupervisor
  repeat'
    first
    | with_reducible assumption
    | with_reducible refine State.openCtx_moves (Within.trans (by decide : Within 1073741932 1073741932) hw) ?_ _ _
    | with_reducible refine Moves.ite ?_ ?_
    | split
    | extract_lets
    | with_reducible refine Moves.getD (Moves.optFindSome (fun _ => ?_)) ?_
    | with_reducible refine Moves.optMap (fun _ => ?_)
    | with_reducible refine Moves.optSndMapSnd ?_
    | with_reducible refine Moves.optSndMap (fun _ => ?_)
    | with_reducible refine Moves.optBind ?_ (fun _ _ => ?_)
    | with_reducible refine Moves.optOf (fun _ => ?_)
    | (with_reducible refine Moves.foldl ?_ (fun _ _ _ => ?_))
    | (with_reducible refine Moves.foldlFst ?_ (fun _ _ _ => ?_))
    | (with_reducible refine Moves.foldr ?_ (fun _ _ _ => ?_))
    | with_reducible refine Moves.optIte ?_ ?_
    | with_reducible refine Moves.foldlOpt ?_ (fun _ _ _ => ?_)
    | with_reducible refine Moves.optSome ?_
    | with_reducible exact Moves.optNone
    | with_reducible refine Moves.some (by assumption) ?_
    | with_reducible refine Moves.fst (by assumption) ?_
    | with_reducible refine Moves.snd (by assumption) ?_
    | dsimp +zetaDelta only

theorem State.zeroShare_moves {w : Nat} {s u : State} (hw : Within 1073741824 w) (h : Moves w s u) (b : Nat × Nat) :
    Moves w s (State.zeroShare u b) := by
  unfold State.zeroShare
  repeat'
    first
    | with_reducible assumption
    | with_reducible refine Moves.ite ?_ ?_
    | split
    | extract_lets
    | with_reducible refine Moves.getD (Moves.optFindSome (fun _ => ?_)) ?_
    | with_reducible refine Moves.optMap (fun _ => ?_)
    | with_reducible refine Moves.optSndMapSnd ?_
    | with_reducible refine Moves.optSndMap (fun _ => ?_)
    | with_reducible refine Moves.optBind ?_ (fun _ _ => ?_)
    | with_reducible refine Moves.optOf (fun _ => ?_)
    | (with_reducible refine Moves.foldl ?_ (fun _ _ _ => ?_))
    | (with_reducible refine Moves.foldlFst ?_ (fun _ _ _ => ?_))
    | (with_reducible refine Moves.foldr ?_ (fun _ _ _ => ?_))
    | with_reducible refine Moves.optIte ?_ ?_
    | with_reducible refine Moves.foldlOpt ?_ (fun _ _ _ => ?_)
    | with_reducible refine Moves.optSome ?_
    | with_reducible exact Moves.optNone
    | with_reducible refine Moves.some (by assumption) ?_
    | with_reducible refine Moves.fst (by assumption) ?_
    | with_reducible refine Moves.snd (by assumption) ?_
    | dsimp +zetaDelta only
    | with_reducible refine State.modRegion_moves ?_ (fun _ => ?_)
    | with_reducible refine RM.ite ?_ ?_
    | with_reducible exact RM.refl _ _
    | exact ⟨⟨.rfl, .rfl, .rfl, .rfl, .of hw (by decide)⟩, .same, .same, .same, .same, .rfl, by first | with_reducible exact id | exact fun k => Memory.wf_write k _ _ | exact fun k => Memory.wf_clear k _ _ | exact fun k => Memory.wf_write (Memory.wf_clear k _ _) _ _⟩

theorem State.withoutShares_moves {w : Nat} {s u : State} (hw : Within 32 w) (h : Moves w s u) (l : List Nat) :
    Moves w s (State.withoutShares u l) := by
  unfold State.withoutShares
  repeat'
    first
    | with_reducible assumption
    | with_reducible refine State.modCtx_moves (Within.trans (by decide : Within 32 32) hw) ?_ _ _
    | with_reducible refine Moves.ite ?_ ?_
    | split
    | extract_lets
    | with_reducible refine Moves.getD (Moves.optFindSome (fun _ => ?_)) ?_
    | with_reducible refine Moves.optMap (fun _ => ?_)
    | with_reducible refine Moves.optSndMapSnd ?_
    | with_reducible refine Moves.optSndMap (fun _ => ?_)
    | with_reducible refine Moves.optBind ?_ (fun _ _ => ?_)
    | with_reducible refine Moves.optOf (fun _ => ?_)
    | (with_reducible refine Moves.foldl ?_ (fun _ _ _ => ?_))
    | (with_reducible refine Moves.foldlFst ?_ (fun _ _ _ => ?_))
    | (with_reducible refine Moves.foldr ?_ (fun _ _ _ => ?_))
    | with_reducible refine Moves.optIte ?_ ?_
    | with_reducible refine Moves.foldlOpt ?_ (fun _ _ _ => ?_)
    | with_reducible refine Moves.optSome ?_
    | with_reducible exact Moves.optNone
    | with_reducible refine Moves.some (by assumption) ?_
    | with_reducible refine Moves.fst (by assumption) ?_
    | with_reducible refine Moves.snd (by assumption) ?_
    | dsimp +zetaDelta only

theorem State.refill_moves {w : Nat} {s u : State} (hw : Within 12884901888 w) (h : Moves w s u) (r : Nat) :
    Moves w s (State.refill u r) := by
  unfold State.refill
  repeat'
    first
    | with_reducible assumption
    | with_reducible refine Moves.ite ?_ ?_
    | split
    | extract_lets
    | with_reducible refine Moves.getD (Moves.optFindSome (fun _ => ?_)) ?_
    | with_reducible refine Moves.optMap (fun _ => ?_)
    | with_reducible refine Moves.optSndMapSnd ?_
    | with_reducible refine Moves.optSndMap (fun _ => ?_)
    | with_reducible refine Moves.optBind ?_ (fun _ _ => ?_)
    | with_reducible refine Moves.optOf (fun _ => ?_)
    | (with_reducible refine Moves.foldl ?_ (fun _ _ _ => ?_))
    | (with_reducible refine Moves.foldlFst ?_ (fun _ _ _ => ?_))
    | (with_reducible refine Moves.foldr ?_ (fun _ _ _ => ?_))
    | with_reducible refine Moves.optIte ?_ ?_
    | with_reducible refine Moves.foldlOpt ?_ (fun _ _ _ => ?_)
    | with_reducible refine Moves.optSome ?_
    | with_reducible exact Moves.optNone
    | with_reducible refine Moves.some (by assumption) ?_
    | with_reducible refine Moves.fst (by assumption) ?_
    | with_reducible refine Moves.snd (by assumption) ?_
    | dsimp +zetaDelta only
    | with_reducible refine State.modRegion_moves ?_ (fun _ => ?_)
    | with_reducible refine RM.ite ?_ ?_
    | with_reducible exact RM.refl _ _
    | exact ⟨.same, ⟨.rfl, .of hw (by decide), .of hw (by decide), .rfl, .rfl⟩, .same, .same, .same, .rfl, id⟩

theorem execRegulatorRefill_moves {w : Nat} {s u : State} (hw : Within 12884901888 w) (h : Moves w s u) (r : Sys2Proof.RegionId) :
    Moves.outcome w s (execRegulatorRefill r u) := by
  unfold execRegulatorRefill
  repeat'
    first
    | with_reducible assumption
    | with_reducible exact Moves.fault
    | with_reducible refine Moves.next ?_
    | with_reducible refine State.refill_moves (Within.trans (by decide : Within 12884901888 12884901888) hw) ?_ _
    | with_reducible refine Moves.ite ?_ ?_
    | split
    | extract_lets
    | with_reducible refine Moves.getD (Moves.optFindSome (fun _ => ?_)) ?_
    | with_reducible refine Moves.optMap (fun _ => ?_)
    | with_reducible refine Moves.optSndMapSnd ?_
    | with_reducible refine Moves.optSndMap (fun _ => ?_)
    | with_reducible refine Moves.optBind ?_ (fun _ _ => ?_)
    | with_reducible refine Moves.optOf (fun _ => ?_)
    | (with_reducible refine Moves.foldl ?_ (fun _ _ _ => ?_))
    | (with_reducible refine Moves.foldlFst ?_ (fun _ _ _ => ?_))
    | (with_reducible refine Moves.foldr ?_ (fun _ _ _ => ?_))
    | with_reducible refine Moves.optIte ?_ ?_
    | with_reducible refine Moves.foldlOpt ?_ (fun _ _ _ => ?_)
    | with_reducible refine Moves.optSome ?_
    | with_reducible exact Moves.optNone
    | with_reducible refine Moves.some (by assumption) ?_
    | with_reducible refine Moves.fst (by assumption) ?_
    | with_reducible refine Moves.snd (by assumption) ?_
    | dsimp +zetaDelta only

theorem execCreditWaitTimeout_moves {w : Nat} {s u : State} (hw : Within 36527643053884 w) (h : Moves w s u) (c : Sys2Proof.CtxId) (q : Sys2Proof.RingId) :
    Moves.outcome w s (execCreditWaitTimeout c q u) := by
  unfold execCreditWaitTimeout
  repeat'
    first
    | with_reducible assumption
    | with_reducible exact Moves.fault
    | with_reducible refine Moves.next ?_
    | with_reducible exact Moves.fail
    | with_reducible exact Moves.latch
    | with_reducible refine Moves.done ?_
    | with_reducible refine Moves.await ?_
    | with_reducible refine Moves.park ?_
    | with_reducible refine State.settleIdle_moves (Within.trans (by decide : Within 32 36527643053884) hw) ?_
    | with_reducible refine State.settle_moves (Within.trans (by decide : Within 36527643053884 36527643053884) hw) ?_ _ _ ?_
    | with_reducible refine Moves.ite ?_ ?_
    | split
    | extract_lets
    | with_reducible refine Moves.getD (Moves.optFindSome (fun _ => ?_)) ?_
    | with_reducible refine Moves.optMap (fun _ => ?_)
    | with_reducible refine Moves.optSndMapSnd ?_
    | with_reducible refine Moves.optSndMap (fun _ => ?_)
    | with_reducible refine Moves.optBind ?_ (fun _ _ => ?_)
    | with_reducible refine Moves.optOf (fun _ => ?_)
    | (with_reducible refine Moves.foldl ?_ (fun _ _ _ => ?_))
    | (with_reducible refine Moves.foldlFst ?_ (fun _ _ _ => ?_))
    | (with_reducible refine Moves.foldr ?_ (fun _ _ _ => ?_))
    | with_reducible refine Moves.optIte ?_ ?_
    | with_reducible refine Moves.foldlOpt ?_ (fun _ _ _ => ?_)
    | with_reducible refine Moves.optSome ?_
    | with_reducible exact Moves.optNone
    | with_reducible refine Moves.some (by assumption) ?_
    | with_reducible refine Moves.fst (by assumption) ?_
    | with_reducible refine Moves.snd (by assumption) ?_
    | dsimp +zetaDelta only

theorem State.issueLoop_moves {w : Nat} {s u : State} (hw : Within 36527643053884 w) (h : Moves w s u) (x1 : Nat) :
    Moves w s (State.issueLoop u x1) := by
  induction x1 generalizing u with
  | zero =>
    unfold State.issueLoop
    repeat'
      first
      | with_reducible assumption
      | with_reducible refine State.issue_moves (Within.trans (by decide : Within 36527643053884 36527643053884) hw) ?_ _
      | with_reducible refine Moves.ite ?_ ?_
      | split
      | extract_lets
      | with_reducible refine Moves.getD (Moves.optFindSome (fun _ => ?_)) ?_
      | with_reducible refine Moves.optMap (fun _ => ?_)
      | with_reducible refine Moves.optSndMapSnd ?_
      | with_reducible refine Moves.optSndMap (fun _ => ?_)
      | with_reducible refine Moves.optBind ?_ (fun _ _ => ?_)
      | with_reducible refine Moves.optOf (fun _ => ?_)
      | (with_reducible refine Moves.foldl ?_ (fun _ _ _ => ?_))
      | (with_reducible refine Moves.foldlFst ?_ (fun _ _ _ => ?_))
      | (with_reducible refine Moves.foldr ?_ (fun _ _ _ => ?_))
      | with_reducible refine Moves.optIte ?_ ?_
      | with_reducible refine Moves.foldlOpt ?_ (fun _ _ _ => ?_)
      | with_reducible refine Moves.optSome ?_
      | with_reducible exact Moves.optNone
      | with_reducible refine Moves.some (by assumption) ?_
      | with_reducible refine Moves.fst (by assumption) ?_
      | with_reducible refine Moves.snd (by assumption) ?_
      | dsimp +zetaDelta only
  | succ n ih =>
    unfold State.issueLoop
    repeat'
      first
      | with_reducible assumption
      | with_reducible apply ih
      | with_reducible refine State.issue_moves (Within.trans (by decide : Within 36527643053884 36527643053884) hw) ?_ _
      | with_reducible refine Moves.ite ?_ ?_
      | split
      | extract_lets
      | with_reducible refine Moves.getD (Moves.optFindSome (fun _ => ?_)) ?_
      | with_reducible refine Moves.optMap (fun _ => ?_)
      | with_reducible refine Moves.optSndMapSnd ?_
      | with_reducible refine Moves.optSndMap (fun _ => ?_)
      | with_reducible refine Moves.optBind ?_ (fun _ _ => ?_)
      | with_reducible refine Moves.optOf (fun _ => ?_)
      | (with_reducible refine Moves.foldl ?_ (fun _ _ _ => ?_))
      | (with_reducible refine Moves.foldlFst ?_ (fun _ _ _ => ?_))
      | (with_reducible refine Moves.foldr ?_ (fun _ _ _ => ?_))
      | with_reducible refine Moves.optIte ?_ ?_
      | with_reducible refine Moves.foldlOpt ?_ (fun _ _ _ => ?_)
      | with_reducible refine Moves.optSome ?_
      | with_reducible exact Moves.optNone
      | with_reducible refine Moves.some (by assumption) ?_
      | with_reducible refine Moves.fst (by assumption) ?_
      | with_reducible refine Moves.snd (by assumption) ?_
      | dsimp +zetaDelta only

theorem State.boundary_moves {w : Nat} {s u : State} (hw : Within 35187593323580 w) (h : Moves w s u) (c : Nat) (step : Nat) :
    Moves w s (State.boundary u c step) := by
  unfold State.boundary
  repeat'
    first
    | with_reducible assumption
    | with_reducible refine State.modCtx_moves (Within.trans (by decide : Within 32 35187593323580) hw) ?_ _ _
    | with_reducible refine State.joinNow_moves (Within.trans (by decide : Within 35187593323580 35187593323580) hw) ?_ _
    | with_reducible refine State.updateNow_moves (Within.trans (by decide : Within 9248 35187593323580) hw) ?_ _
    | with_reducible refine State.leaveNow_moves (Within.trans (by decide : Within 9248 35187593323580) hw) ?_ _
    | with_reducible refine Moves.ite ?_ ?_
    | split
    | extract_lets
    | with_reducible refine Moves.getD (Moves.optFindSome (fun _ => ?_)) ?_
    | with_reducible refine Moves.optMap (fun _ => ?_)
    | with_reducible refine Moves.optSndMapSnd ?_
    | with_reducible refine Moves.optSndMap (fun _ => ?_)
    | with_reducible refine Moves.optBind ?_ (fun _ _ => ?_)
    | with_reducible refine Moves.optOf (fun _ => ?_)
    | (with_reducible refine Moves.foldl ?_ (fun _ _ _ => ?_))
    | (with_reducible refine Moves.foldlFst ?_ (fun _ _ _ => ?_))
    | (with_reducible refine Moves.foldr ?_ (fun _ _ _ => ?_))
    | with_reducible refine Moves.optIte ?_ ?_
    | with_reducible refine Moves.foldlOpt ?_ (fun _ _ _ => ?_)
    | with_reducible refine Moves.optSome ?_
    | with_reducible exact Moves.optNone
    | with_reducible refine Moves.some (by assumption) ?_
    | with_reducible refine Moves.fst (by assumption) ?_
    | with_reducible refine Moves.snd (by assumption) ?_
    | dsimp +zetaDelta only

theorem State.endTeardown_moves {w : Nat} {s u : State} (hw : Within 36527643066236 w) (h : Moves w s u) (c : Nat) :
    Moves w s (State.endTeardown u c) := by
  unfold State.endTeardown
  repeat'
    first
    | with_reducible assumption
    | with_reducible refine State.writeCompletion_moves (Within.trans (by decide : Within 36527643058044 36527643066236) hw) ?_ _
    | with_reducible refine State.zeroShare_moves (Within.trans (by decide : Within 1073741824 36527643066236) hw) ?_ _
    | with_reducible refine State.clearSources_moves (Within.trans (by decide : Within 4 36527643066236) hw) ?_ _
    | with_reducible refine State.resetContact_moves (Within.trans (by decide : Within 12 36527643066236) hw) ?_ _
    | with_reducible refine State.resetRing_moves (Within.trans (by decide : Within 12 36527643066236) hw) ?_ _
    | with_reducible refine State.resetEvents_moves (Within.trans (by decide : Within 64 36527643066236) hw) ?_ _
    | with_reducible refine State.settleIdle_moves (Within.trans (by decide : Within 32 36527643066236) hw) ?_
    | with_reducible refine State.pend_moves (Within.trans (by decide : Within 12 36527643066236) hw) ?_ _
    | with_reducible refine State.openSupervisor_moves (Within.trans (by decide : Within 1073741932 36527643066236) hw) ?_
    | with_reducible refine Moves.ite ?_ ?_
    | split
    | extract_lets
    | with_reducible refine Moves.getD (Moves.optFindSome (fun _ => ?_)) ?_
    | with_reducible refine Moves.optMap (fun _ => ?_)
    | with_reducible refine Moves.optSndMapSnd ?_
    | with_reducible refine Moves.optSndMap (fun _ => ?_)
    | with_reducible refine Moves.optBind ?_ (fun _ _ => ?_)
    | with_reducible refine Moves.optOf (fun _ => ?_)
    | (with_reducible refine Moves.foldl ?_ (fun _ _ _ => ?_))
    | (with_reducible refine Moves.foldlFst ?_ (fun _ _ _ => ?_))
    | (with_reducible refine Moves.foldr ?_ (fun _ _ _ => ?_))
    | with_reducible refine Moves.optIte ?_ ?_
    | with_reducible refine Moves.foldlOpt ?_ (fun _ _ _ => ?_)
    | with_reducible refine Moves.optSome ?_
    | with_reducible exact Moves.optNone
    | with_reducible refine Moves.some (by assumption) ?_
    | with_reducible refine Moves.fst (by assumption) ?_
    | with_reducible refine Moves.snd (by assumption) ?_
    | dsimp +zetaDelta only
    | with_reducible refine Moves.upd ?_ rfl ⟨rfl, rfl, ⟨.rfl, .rfl, .rfl, .rfl, .of hw (by decide)⟩, .same, ⟨.of hw (by decide), .of hw (by decide), .of hw (by decide), .rfl, .rfl⟩, .same, .same⟩ ⟨id, id, (by first | with_reducible exact id | exact fun k => Tab.sorted_set k _ _ | exact fun k => Tab.sorted_filter k _ | exact fun k => Tab.sorted_erase k _ | exact fun k => Tab.sorted_map k _ (fun _ => by first | rfl | (split <;> rfl)) | exact fun _ => .nil), id, (by first | with_reducible exact id | exact fun k => Tab.sorted_set k _ _ | exact fun k => Tab.sorted_filter k _ | exact fun k => Tab.sorted_erase k _ | exact fun k => Tab.sorted_map k _ (fun _ => by first | rfl | (split <;> rfl)) | exact fun _ => .nil), id, id⟩

theorem execTeardownEnd_moves {w : Nat} {s u : State} (hw : Within 36527643066236 w) (h : Moves w s u) (c : Sys2Proof.CtxId) :
    Moves.outcome w s (execTeardownEnd c u) := by
  unfold execTeardownEnd
  repeat'
    first
    | with_reducible assumption
    | with_reducible exact Moves.fault
    | with_reducible refine Moves.next ?_
    | with_reducible refine State.endTeardown_moves (Within.trans (by decide : Within 36527643066236 36527643066236) hw) ?_ _
    | with_reducible refine Moves.ite ?_ ?_
    | split
    | extract_lets
    | with_reducible refine Moves.getD (Moves.optFindSome (fun _ => ?_)) ?_
    | with_reducible refine Moves.optMap (fun _ => ?_)
    | with_reducible refine Moves.optSndMapSnd ?_
    | with_reducible refine Moves.optSndMap (fun _ => ?_)
    | with_reducible refine Moves.optBind ?_ (fun _ _ => ?_)
    | with_reducible refine Moves.optOf (fun _ => ?_)
    | (with_reducible refine Moves.foldl ?_ (fun _ _ _ => ?_))
    | (with_reducible refine Moves.foldlFst ?_ (fun _ _ _ => ?_))
    | (with_reducible refine Moves.foldr ?_ (fun _ _ _ => ?_))
    | with_reducible refine Moves.optIte ?_ ?_
    | with_reducible refine Moves.foldlOpt ?_ (fun _ _ _ => ?_)
    | with_reducible refine Moves.optSome ?_
    | with_reducible exact Moves.optNone
    | with_reducible refine Moves.some (by assumption) ?_
    | with_reducible refine Moves.fst (by assumption) ?_
    | with_reducible refine Moves.snd (by assumption) ?_
    | dsimp +zetaDelta only

theorem State.serve_moves {w : Nat} {s u : State} (hw : Within 7340076 w) (h : Moves w s u) (c : Nat) :
    Moves.opt w s (State.serve u c) := by
  unfold State.serve
  repeat'
    first
    | with_reducible assumption
    | with_reducible exact Moves.optNone
    | with_reducible refine Moves.optSome ?_
    | with_reducible refine State.evict_moves (Within.trans (by decide : Within 7340076 7340076) hw) ?_ _ _ _
    | with_reducible refine Moves.ite ?_ ?_
    | split
    | extract_lets
    | with_reducible refine Moves.getD (Moves.optFindSome (fun _ => ?_)) ?_
    | with_reducible refine Moves.optMap (fun _ => ?_)
    | with_reducible refine Moves.optSndMapSnd ?_
    | with_reducible refine Moves.optSndMap (fun _ => ?_)
    | with_reducible refine Moves.optBind ?_ (fun _ _ => ?_)
    | with_reducible refine Moves.optOf (fun _ => ?_)
    | (with_reducible refine Moves.foldl ?_ (fun _ _ _ => ?_))
    | (with_reducible refine Moves.foldlFst ?_ (fun _ _ _ => ?_))
    | (with_reducible refine Moves.foldr ?_ (fun _ _ _ => ?_))
    | with_reducible refine Moves.optIte ?_ ?_
    | with_reducible refine Moves.foldlOpt ?_ (fun _ _ _ => ?_)
    | with_reducible refine Moves.optSome ?_
    | with_reducible exact Moves.optNone
    | with_reducible refine Moves.some (by assumption) ?_
    | with_reducible refine Moves.fst (by assumption) ?_
    | with_reducible refine Moves.snd (by assumption) ?_
    | dsimp +zetaDelta only

theorem State.placeWaiting_moves {w : Nat} {s u : State} (hw : Within 7340076 w) (h : Moves w s u)  :
    Moves w s (State.placeWaiting u) := by
  unfold State.placeWaiting
  repeat'
    first
    | with_reducible assumption
    | with_reducible refine State.tryLoad_moves (Within.trans (by decide : Within 5242912 7340076) hw) ?_
    | with_reducible refine State.serve_moves (Within.trans (by decide : Within 7340076 7340076) hw) ?_ _
    | with_reducible refine Moves.some ‹State.serve _ _ = some _› (State.serve_moves (Within.trans (by decide : Within 7340076 7340076) hw) ?_ _)
    | with_reducible refine Moves.getD (State.serve_moves (Within.trans (by decide : Within 7340076 7340076) hw) ?_ _) ?_
    | with_reducible refine Moves.ite ?_ ?_
    | split
    | extract_lets
    | with_reducible refine Moves.getD (Moves.optFindSome (fun _ => ?_)) ?_
    | with_reducible refine Moves.optMap (fun _ => ?_)
    | with_reducible refine Moves.optSndMapSnd ?_
    | with_reducible refine Moves.optSndMap (fun _ => ?_)
    | with_reducible refine Moves.optBind ?_ (fun _ _ => ?_)
    | with_reducible refine Moves.optOf (fun _ => ?_)
    | (with_reducible refine Moves.foldl ?_ (fun _ _ _ => ?_))
    | (with_reducible refine Moves.foldlFst ?_ (fun _ _ _ => ?_))
    | (with_reducible refine Moves.foldr ?_ (fun _ _ _ => ?_))
    | with_reducible refine Moves.optIte ?_ ?_
    | with_reducible refine Moves.foldlOpt ?_ (fun _ _ _ => ?_)
    | with_reducible refine Moves.optSome ?_
    | with_reducible exact Moves.optNone
    | with_reducible refine Moves.some (by assumption) ?_
    | with_reducible refine Moves.fst (by assumption) ?_
    | with_reducible refine Moves.snd (by assumption) ?_
    | dsimp +zetaDelta only

theorem State.noteBlocked_moves {w : Nat} {s u : State} (hw : Within 32 w) (h : Moves w s u)  :
    Moves w s (State.noteBlocked u) := by
  unfold State.noteBlocked
  repeat'
    first
    | with_reducible assumption
    | with_reducible refine State.modCtx_moves (Within.trans (by decide : Within 32 32) hw) ?_ _ _
    | with_reducible refine Moves.ite ?_ ?_
    | split
    | extract_lets
    | with_reducible refine Moves.getD (Moves.optFindSome (fun _ => ?_)) ?_
    | with_reducible refine Moves.optMap (fun _ => ?_)
    | with_reducible refine Moves.optSndMapSnd ?_
    | with_reducible refine Moves.optSndMap (fun _ => ?_)
    | with_reducible refine Moves.optBind ?_ (fun _ _ => ?_)
    | with_reducible refine Moves.optOf (fun _ => ?_)
    | (with_reducible refine Moves.foldl ?_ (fun _ _ _ => ?_))
    | (with_reducible refine Moves.foldlFst ?_ (fun _ _ _ => ?_))
    | (with_reducible refine Moves.foldr ?_ (fun _ _ _ => ?_))
    | with_reducible refine Moves.optIte ?_ ?_
    | with_reducible refine Moves.foldlOpt ?_ (fun _ _ _ => ?_)
    | with_reducible refine Moves.optSome ?_
    | with_reducible exact Moves.optNone
    | with_reducible refine Moves.some (by assumption) ?_
    | with_reducible refine Moves.fst (by assumption) ?_
    | with_reducible refine Moves.snd (by assumption) ?_
    | dsimp +zetaDelta only

theorem State.refuseUndefined_moves {w : Nat} {s u : State} (hw : Within 36527643058108 w) (h : Moves w s u)  :
    Moves w s (State.refuseUndefined u) := by
  unfold State.refuseUndefined
  repeat'
    first
    | with_reducible assumption
    | with_reducible exact Moves.fail
    | with_reducible exact Moves.latch
    | with_reducible refine Moves.done ?_
    | with_reducible refine Moves.await ?_
    | with_reducible refine Moves.park ?_
    | with_reducible refine State.number_moves (Within.trans (by decide : Within 4224 36527643058108) hw) ?_ _ _ _
    | with_reducible refine Moves.snd ‹State.number _ _ _ _ = (_, _)› (State.number_moves (Within.trans (by decide : Within 4224 36527643058108) hw) ?_ _ _ _)
    | with_reducible refine State.settle_moves (Within.trans (by decide : Within 36527643053884 36527643058108) hw) ?_ _ _ ?_
    | with_reducible refine Moves.ite ?_ ?_
    | split
    | extract_lets
    | with_reducible refine Moves.getD (Moves.optFindSome (fun _ => ?_)) ?_
    | with_reducible refine Moves.optMap (fun _ => ?_)
    | with_reducible refine Moves.optSndMapSnd ?_
    | with_reducible refine Moves.optSndMap (fun _ => ?_)
    | with_reducible refine Moves.optBind ?_ (fun _ _ => ?_)
    | with_reducible refine Moves.optOf (fun _ => ?_)
    | (with_reducible refine Moves.foldl ?_ (fun _ _ _ => ?_))
    | (with_reducible refine Moves.foldlFst ?_ (fun _ _ _ => ?_))
    | (with_reducible refine Moves.foldr ?_ (fun _ _ _ => ?_))
    | with_reducible refine Moves.optIte ?_ ?_
    | with_reducible refine Moves.foldlOpt ?_ (fun _ _ _ => ?_)
    | with_reducible refine Moves.optSome ?_
    | with_reducible exact Moves.optNone
    | with_reducible refine Moves.some (by assumption) ?_
    | with_reducible refine Moves.fst (by assumption) ?_
    | with_reducible refine Moves.snd (by assumption) ?_
    | dsimp +zetaDelta only

theorem State.issuePoint_moves {w : Nat} {s u : State} (hw : Within 36527647252412 w) (h : Moves w s u)  :
    Moves w s (State.issuePoint u) := by
  unfold State.issuePoint
  repeat'
    first
    | with_reducible assumption
    | with_reducible refine State.settleIdle_moves (Within.trans (by decide : Within 32 36527647252412) hw) ?_
    | with_reducible refine State.placeWaiting_moves (Within.trans (by decide : Within 7340076 36527647252412) hw) ?_
    | with_reducible refine State.noteBlocked_moves (Within.trans (by decide : Within 32 36527647252412) hw) ?_
    | with_reducible refine State.issueLoop_moves (Within.trans (by decide : Within 36527643053884 36527647252412) hw) ?_ _
    | with_reducible refine State.wrapVtime_moves (Within.trans (by decide : Within 32 36527647252412) hw) ?_
    | with_reducible refine State.refuseUndefined_moves (Within.trans (by decide : Within 36527643058108 36527647252412) hw) ?_
    | with_reducible refine Moves.ite ?_ ?_
    | split
    | extract_lets
    | with_reducible refine Moves.getD (Moves.optFindSome (fun _ => ?_)) ?_
    | with_reducible refine Moves.optMap (fun _ => ?_)
    | with_reducible refine Moves.optSndMapSnd ?_
    | with_reducible refine Moves.optSndMap (fun _ => ?_)
    | with_reducible refine Moves.optBind ?_ (fun _ _ => ?_)
    | with_reducible refine Moves.optOf (fun _ => ?_)
    | (with_reducible refine Moves.foldl ?_ (fun _ _ _ => ?_))
    | (with_reducible refine Moves.foldlFst ?_ (fun _ _ _ => ?_))
    | (with_reducible refine Moves.foldr ?_ (fun _ _ _ => ?_))
    | with_reducible refine Moves.optIte ?_ ?_
    | with_reducible refine Moves.foldlOpt ?_ (fun _ _ _ => ?_)
    | with_reducible refine Moves.optSome ?_
    | with_reducible exact Moves.optNone
    | with_reducible refine Moves.some (by assumption) ?_
    | with_reducible refine Moves.fst (by assumption) ?_
    | with_reducible refine Moves.snd (by assumption) ?_
    | dsimp +zetaDelta only

theorem execIssuePoint_moves {w : Nat} {s u : State} (hw : Within 36527647252412 w) (h : Moves w s u)  :
    Moves.outcome w s (execIssuePoint u) := by
  unfold execIssuePoint
  repeat'
    first
    | with_reducible assumption
    | with_reducible exact Moves.fault
    | with_reducible refine Moves.next ?_
    | with_reducible refine State.issuePoint_moves (Within.trans (by decide : Within 36527647252412 36527647252412) hw) ?_
    | with_reducible refine Moves.ite ?_ ?_
    | split
    | extract_lets
    | with_reducible refine Moves.getD (Moves.optFindSome (fun _ => ?_)) ?_
    | with_reducible refine Moves.optMap (fun _ => ?_)
    | with_reducible refine Moves.optSndMapSnd ?_
    | with_reducible refine Moves.optSndMap (fun _ => ?_)
    | with_reducible refine Moves.optBind ?_ (fun _ _ => ?_)
    | with_reducible refine Moves.optOf (fun _ => ?_)
    | (with_reducible refine Moves.foldl ?_ (fun _ _ _ => ?_))
    | (with_reducible refine Moves.foldlFst ?_ (fun _ _ _ => ?_))
    | (with_reducible refine Moves.foldr ?_ (fun _ _ _ => ?_))
    | with_reducible refine Moves.optIte ?_ ?_
    | with_reducible refine Moves.foldlOpt ?_ (fun _ _ _ => ?_)
    | with_reducible refine Moves.optSome ?_
    | with_reducible exact Moves.optNone
    | with_reducible refine Moves.some (by assumption) ?_
    | with_reducible refine Moves.fst (by assumption) ?_
    | with_reducible refine Moves.snd (by assumption) ?_
    | dsimp +zetaDelta only

theorem State.claimCheck_moves {w : Nat} {s u : State} (hw : Within 0 w) (h : Moves w s u) (m : Command) :
    Moves.verdict w s (State.claimCheck u m) := by
  unfold State.claimCheck
  repeat'
    first
    | with_reducible assumption
    | with_reducible exact Moves.fail
    | with_reducible exact Moves.latch
    | with_reducible refine Moves.done ?_
    | with_reducible refine Moves.await ?_
    | with_reducible refine Moves.park ?_
    | with_reducible refine State.confluenceCheck_moves (Within.trans (by decide : Within 0 0) hw) ?_ _
    | with_reducible refine State.copyCheck_moves (Within.trans (by decide : Within 0 0) hw) ?_ _
    | with_reducible refine State.runCheck_moves (Within.trans (by decide : Within 0 0) hw) ?_ _
    | with_reducible refine Moves.ite ?_ ?_
    | split
    | extract_lets
    | with_reducible refine Moves.getD (Moves.optFindSome (fun _ => ?_)) ?_
    | with_reducible refine Moves.optMap (fun _ => ?_)
    | with_reducible refine Moves.optSndMapSnd ?_
    | with_reducible refine Moves.optSndMap (fun _ => ?_)
    | with_reducible refine Moves.optBind ?_ (fun _ _ => ?_)
    | with_reducible refine Moves.optOf (fun _ => ?_)
    | (with_reducible refine Moves.foldl ?_ (fun _ _ _ => ?_))
    | (with_reducible refine Moves.foldlFst ?_ (fun _ _ _ => ?_))
    | (with_reducible refine Moves.foldr ?_ (fun _ _ _ => ?_))
    | with_reducible refine Moves.optIte ?_ ?_
    | with_reducible refine Moves.foldlOpt ?_ (fun _ _ _ => ?_)
    | with_reducible refine Moves.optSome ?_
    | with_reducible exact Moves.optNone
    | with_reducible refine Moves.some (by assumption) ?_
    | with_reducible refine Moves.fst (by assumption) ?_
    | with_reducible refine Moves.snd (by assumption) ?_
    | dsimp +zetaDelta only

theorem execStepBoundary_moves {w : Nat} {s u : State} (hw : Within 35187593323580 w) (h : Moves w s u) (c : Sys2Proof.CtxId) (step : BitVec 16) :
    Moves.outcome w s (execStepBoundary c step u) := by
  unfold execStepBoundary
  repeat'
    first
    | with_reducible assumption
    | with_reducible exact Moves.fault
    | with_reducible refine Moves.next ?_
    | with_reducible refine State.boundary_moves (Within.trans (by decide : Within 35187593323580 35187593323580) hw) ?_ _ _
    | with_reducible refine Moves.ite ?_ ?_
    | split
    | extract_lets
    | with_reducible refine Moves.getD (Moves.optFindSome (fun _ => ?_)) ?_
    | with_reducible refine Moves.optMap (fun _ => ?_)
    | with_reducible refine Moves.optSndMapSnd ?_
    | with_reducible refine Moves.optSndMap (fun _ => ?_)
    | with_reducible refine Moves.optBind ?_ (fun _ _ => ?_)
    | with_reducible refine Moves.optOf (fun _ => ?_)
    | (with_reducible refine Moves.foldl ?_ (fun _ _ _ => ?_))
    | (with_reducible refine Moves.foldlFst ?_ (fun _ _ _ => ?_))
    | (with_reducible refine Moves.foldr ?_ (fun _ _ _ => ?_))
    | with_reducible refine Moves.optIte ?_ ?_
    | with_reducible refine Moves.foldlOpt ?_ (fun _ _ _ => ?_)
    | with_reducible refine Moves.optSome ?_
    | with_reducible exact Moves.optNone
    | with_reducible refine Moves.some (by assumption) ?_
    | with_reducible refine Moves.fst (by assumption) ?_
    | with_reducible refine Moves.snd (by assumption) ?_
    | dsimp +zetaDelta only

theorem execRtBudgetRefill_moves {w : Nat} {s u : State} (hw : Within 32 w) (h : Moves w s u) (c : Sys2Proof.CtxId) :
    Moves.outcome w s (execRtBudgetRefill c u) := by
  unfold execRtBudgetRefill
  repeat'
    first
    | with_reducible assumption
    | with_reducible exact Moves.fault
    | with_reducible refine Moves.next ?_
    | with_reducible refine State.modCtx_moves (Within.trans (by decide : Within 32 32) hw) ?_ _ _
    | with_reducible refine Moves.ite ?_ ?_
    | split
    | extract_lets
    | with_reducible refine Moves.getD (Moves.optFindSome (fun _ => ?_)) ?_
    | with_reducible refine Moves.optMap (fun _ => ?_)
    | with_reducible refine Moves.optSndMapSnd ?_
    | with_reducible refine Moves.optSndMap (fun _ => ?_)
    | with_reducible refine Moves.optBind ?_ (fun _ _ => ?_)
    | with_reducible refine Moves.optOf (fun _ => ?_)
    | (with_reducible refine Moves.foldl ?_ (fun _ _ _ => ?_))
    | (with_reducible refine Moves.foldlFst ?_ (fun _ _ _ => ?_))
    | (with_reducible refine Moves.foldr ?_ (fun _ _ _ => ?_))
    | with_reducible refine Moves.optIte ?_ ?_
    | with_reducible refine Moves.foldlOpt ?_ (fun _ _ _ => ?_)
    | with_reducible refine Moves.optSome ?_
    | with_reducible exact Moves.optNone
    | with_reducible refine Moves.some (by assumption) ?_
    | with_reducible refine Moves.fst (by assumption) ?_
    | with_reducible refine Moves.snd (by assumption) ?_
    | dsimp +zetaDelta only

end Sys2Proof.Machine
end

