-- ==== Sys2Proof/Laws/TimelineMoves.lean ====
section
/-! SUPPORT. Sys2Proof/Laws/TimelineMoves.lean: what each operation of Machine/Timeline.lean can do to the state: the parts it may change, and that it keeps
the canonical form. -/

namespace Sys2Proof.Machine

theorem State.badBundle_moves {w : Nat} {s u : State} (hw : Within 2570590003938572 w) (h : Moves w s u) (seq : Sys2Proof.W32) (r : Nat) (g : RegionRun) (t : Nat) :
    Moves w s (State.badBundle u seq r g t) := by
  unfold State.badBundle
  repeat'
    first
    | with_reducible assumption
    | with_reducible refine State.halt_moves (Within.trans (by decide : Within 37314675885324 2570590003938572) hw) ?_ _ _ _ _ _ _
    | with_reducible refine State.contain_moves (Within.trans (by decide : Within 35184372088844 2570590003938572) hw) ?_ _ _
    | with_reducible refine State.reach_moves (Within.trans (by decide : Within 2568459700142092 2570590003938572) hw) ?_ _ _
    | with_reducible refine Moves.ite ?_ ?_
    | split
    | extract_lets
    | with_reducible refine Moves.getD (Moves.optFindSome (fun _ => ?_)) ?_
    | with_reducible refine Moves.optMap (fun _ => ?_)
    | with_reducible refine Moves.optSndMapSnd ?_
    | with_reducible refine Moves.optSndMap (fun _ => ?_)
    | with_reducible refine Moves.optBind ?_ (fun _ _ => ?_)
    | with_reducible refine Moves.optOf (fun _ => ?_)
    | (with_reducible refine Moves.foldl ?_ (fun _ _ _ => ?_))
    | (with_reducible refine Moves.foldlFst ?_ (fun _ _ _ => ?_))
    | (with_reducible refine Moves.foldr ?_ (fun _ _ _ => ?_))
    | with_reducible refine Moves.optIte ?_ ?_
    | with_reducible refine Moves.foldlOpt ?_ (fun _ _ _ => ?_)
    | with_reducible refine Moves.optSome ?_
    | with_reducible exact Moves.optNone
    | with_reducible refine Moves.some (by assumption) ?_
    | with_reducible refine Moves.fst (by assumption) ?_
    | with_reducible refine Moves.snd (by assumption) ?_
    | dsimp +zetaDelta only

theorem State.chargeCredit_moves {w : Nat} {s u : State} (hw : Within 32768 w) (h : Moves w s u) (x : Run) :
    Moves w s (State.chargeCredit u x) := by
  unfold State.chargeCredit
  repeat'
    first
    | with_reducible assumption
    | with_reducible refine Moves.ite ?_ ?_
    | split
    | extract_lets
    | with_reducible refine Moves.getD (Moves.optFindSome (fun _ => ?_)) ?_
    | with_reducible refine Moves.optMap (fun _ => ?_)
    | with_reducible refine Moves.optSndMapSnd ?_
    | with_reducible refine Moves.optSndMap (fun _ => ?_)
    | with_reducible refine Moves.optBind ?_ (fun _ _ => ?_)
    | with_reducible refine Moves.optOf (fun _ => ?_)
    | (with_reducible refine Moves.foldl ?_ (fun _ _ _ => ?_))
    | (with_reducible refine Moves.foldlFst ?_ (fun _ _ _ => ?_))
    | (with_reducible refine Moves.foldr ?_ (fun _ _ _ => ?_))
    | with_reducible refine Moves.optIte ?_ ?_
    | with_reducible refine Moves.foldlOpt ?_ (fun _ _ _ => ?_)
    | with_reducible refine Moves.optSome ?_
    | with_reducible exact Moves.optNone
    | with_reducible refine Moves.some (by assumption) ?_
    | with_reducible refine Moves.fst (by assumption) ?_
    | with_reducible refine Moves.snd (by assumption) ?_
    | dsimp +zetaDelta only
    | with_reducible refine Moves.upd ?_ rfl ⟨rfl, rfl, .same, .same, ⟨.rfl, .rfl, .rfl, .rfl, .of hw (by decide)⟩, .same, .same⟩ ⟨id, id, id, id, id, id, id⟩

theorem State.noteLate_moves {w : Nat} {s u : State} (hw : Within 879609302220812 w) (h : Moves w s u) (r : Nat) (c : Nat) (d : Nat) :
    Moves w s (State.noteLate u r c d) := by
  unfold State.noteLate
  repeat'
    first
    | with_reducible assumption
    | with_reducible refine State.bumpF_moves (Within.trans (by decide : Within 12 879609302220812) hw) ?_ _ _ _
    | with_reducible refine State.vfEvent_moves (Within.trans (by decide : Within 35184372088844 879609302220812) hw) ?_ _ _
    | with_reducible refine State.count_moves (Within.trans (by decide : Within 35184372088844 879609302220812) hw) ?_ _ _ _
    | with_reducible refine State.contain_moves (Within.trans (by decide : Within 35184372088844 879609302220812) hw) ?_ _ _
    | with_reducible refine Moves.ite ?_ ?_
    | split
    | extract_lets
    | with_reducible refine Moves.getD (Moves.optFindSome (fun _ => ?_)) ?_
    | with_reducible refine Moves.optMap (fun _ => ?_)
    | with_reducible refine Moves.optSndMapSnd ?_
    | with_reducible refine Moves.optSndMap (fun _ => ?_)
    | with_reducible refine Moves.optBind ?_ (fun _ _ => ?_)
    | with_reducible refine Moves.optOf (fun _ => ?_)
    | (with_reducible refine Moves.foldl ?_ (fun _ _ _ => ?_))
    | (with_reducible refine Moves.foldlFst ?_ (fun _ _ _ => ?_))
    | (with_reducible refine Moves.foldr ?_ (fun _ _ _ => ?_))
    | with_reducible refine Moves.optIte ?_ ?_
    | with_reducible refine Moves.foldlOpt ?_ (fun _ _ _ => ?_)
    | with_reducible refine Moves.optSome ?_
    | with_reducible exact Moves.optNone
    | with_reducible refine Moves.some (by assumption) ?_
    | with_reducible refine Moves.fst (by assumption) ?_
    | with_reducible refine Moves.snd (by assumption) ?_
    | dsimp +zetaDelta only
    | with_reducible refine State.modRegion_moves ?_ (fun _ => ?_)
    | with_reducible refine RM.ite ?_ ?_
    | with_reducible exact RM.refl _ _
    | exact ⟨.same, .same, .same, .same, ⟨.rfl, .rfl, .of hw (by decide), .of hw (by decide), .rfl⟩, .rfl, id⟩

theorem State.startRegion_moves {w : Nat} {s u : State} (hw : Within 3131431128400140 w) (h : Moves w s u) (x : Run) (r : Nat) (g : RegionRun) (tc : Nat) :
    Moves w s (State.startRegion u x r g tc) := by
  unfold State.startRegion
  repeat'
    first
    | with_reducible assumption
    | with_reducible refine State.noteLate_moves (Within.trans (by decide : Within 879609302220812 3131431128400140) hw) ?_ _ _ _
    | with_reducible refine State.reach_moves (Within.trans (by decide : Within 2568459700142092 3131431128400140) hw) ?_ _ _
    | with_reducible refine State.vfEvent_moves (Within.trans (by decide : Within 35184372088844 3131431128400140) hw) ?_ _ _
    | with_reducible refine State.count_moves (Within.trans (by decide : Within 35184372088844 3131431128400140) hw) ?_ _ _ _
    | with_reducible refine State.modRR_moves (Within.trans (by decide : Within 256 3131431128400140) hw) ?_ _ _ _
    | with_reducible refine Moves.ite ?_ ?_
    | split
    | extract_lets
    | with_reducible refine Moves.getD (Moves.optFindSome (fun _ => ?_)) ?_
    | with_reducible refine Moves.optMap (fun _ => ?_)
    | with_reducible refine Moves.optSndMapSnd ?_
    | with_reducible refine Moves.optSndMap (fun _ => ?_)
    | with_reducible refine Moves.optBind ?_ (fun _ _ => ?_)
    | with_reducible refine Moves.optOf (fun _ => ?_)
    | (with_reducible refine Moves.foldl ?_ (fun _ _ _ => ?_))
    | (with_reducible refine Moves.foldlFst ?_ (fun _ _ _ => ?_))
    | (with_reducible refine Moves.foldr ?_ (fun _ _ _ => ?_))
    | with_reducible refine Moves.optIte ?_ ?_
    | with_reducible refine Moves.foldlOpt ?_ (fun _ _ _ => ?_)
    | with_reducible refine Moves.optSome ?_
    | with_reducible exact Moves.optNone
    | with_reducible refine Moves.some (by assumption) ?_
    | with_reducible refine Moves.fst (by assumption) ?_
    | with_reducible refine Moves.snd (by assumption) ?_
    | dsimp +zetaDelta only
    | with_reducible refine State.modRegion_moves ?_ (fun _ => ?_)
    | with_reducible refine RM.ite ?_ ?_
    | with_reducible exact RM.refl _ _
    | exact ⟨.same, ⟨.rfl, .of hw (by decide), .rfl, .of hw (by decide), .rfl⟩, .same, .same, .same, .rfl, id⟩

theorem State.openBundle_moves {w : Nat} {s u : State} (hw : Within 2568459700142348 w) (h : Moves w s u) (seq : Sys2Proof.W32) (r : Nat) (g : RegionRun) (t : Nat) :
    Moves w s (State.openBundle u seq r g t) := by
  unfold State.openBundle
  repeat'
    first
    | with_reducible assumption
    | with_reducible refine State.count_moves (Within.trans (by decide : Within 35184372088844 2568459700142348) hw) ?_ _ _ _
    | with_reducible refine State.reach_moves (Within.trans (by decide : Within 2568459700142092 2568459700142348) hw) ?_ _ _
    | with_reducible refine State.vfEvent_moves (Within.trans (by decide : Within 35184372088844 2568459700142348) hw) ?_ _ _
    | with_reducible refine State.modRR_moves (Within.trans (by decide : Within 256 2568459700142348) hw) ?_ _ _ _
    | with_reducible refine Moves.ite ?_ ?_
    | split
    | extract_lets
    | with_reducible refine Moves.getD (Moves.optFindSome (fun _ => ?_)) ?_
    | with_reducible refine Moves.optMap (fun _ => ?_)
    | with_reducible refine Moves.optSndMapSnd ?_
    | with_reducible refine Moves.optSndMap (fun _ => ?_)
    | with_reducible refine Moves.optBind ?_ (fun _ _ => ?_)
    | with_reducible refine Moves.optOf (fun _ => ?_)
    | (with_reducible refine Moves.foldl ?_ (fun _ _ _ => ?_))
    | (with_reducible refine Moves.foldlFst ?_ (fun _ _ _ => ?_))
    | (with_reducible refine Moves.foldr ?_ (fun _ _ _ => ?_))
    | with_reducible refine Moves.optIte ?_ ?_
    | with_reducible refine Moves.foldlOpt ?_ (fun _ _ _ => ?_)
    | with_reducible refine Moves.optSome ?_
    | with_reducible exact Moves.optNone
    | with_reducible refine Moves.some (by assumption) ?_
    | with_reducible refine Moves.fst (by assumption) ?_
    | with_reducible refine Moves.snd (by assumption) ?_
    | dsimp +zetaDelta only

theorem State.passNops_moves {w : Nat} {s u : State} (hw : Within 2570590003938572 w) (h : Moves w s u) (seq : Sys2Proof.W32) (r : Nat) (x3 : Nat) :
    Moves w s (State.passNops u seq r x3) := by
  induction x3 generalizing u with
  | zero =>
    unfold State.passNops
    repeat'
      first
      | with_reducible assumption
      | with_reducible refine State.badBundle_moves (Within.trans (by decide : Within 2570590003938572 2570590003938572) hw) ?_ _ _ _ _
      | with_reducible refine State.modRR_moves (Within.trans (by decide : Within 256 2570590003938572) hw) ?_ _ _ _
      | with_reducible refine State.openBundle_moves (Within.trans (by decide : Within 2568459700142348 2570590003938572) hw) ?_ _ _ _ _
      | with_reducible refine Moves.ite ?_ ?_
      | split
      | extract_lets
      | with_reducible refine Moves.getD (Moves.optFindSome (fun _ => ?_)) ?_
      | with_reducible refine Moves.optMap (fun _ => ?_)
      | with_reducible refine Moves.optSndMapSnd ?_
      | with_reducible refine Moves.optSndMap (fun _ => ?_)
      | with_reducible refine Moves.optBind ?_ (fun _ _ => ?_)
      | with_reducible refine Moves.optOf (fun _ => ?_)
      | (with_reducible refine Moves.foldl ?_ (fun _ _ _ => ?_))
      | (with_reducible refine Moves.foldlFst ?_ (fun _ _ _ => ?_))
      | (with_reducible refine Moves.foldr ?_ (fun _ _ _ => ?_))
      | with_reducible refine Moves.optIte ?_ ?_
      | with_reducible refine Moves.foldlOpt ?_ (fun _ _ _ => ?_)
      | with_reducible refine Moves.optSome ?_
      | with_reducible exact Moves.optNone
      | with_reducible refine Moves.some (by assumption) ?_
      | with_reducible refine Moves.fst (by assumption) ?_
      | with_reducible refine Moves.snd (by assumption) ?_
      | dsimp +zetaDelta only
  | succ n ih =>
    unfold State.passNops
    repeat'
      first
      | with_reducible assumption
      | with_reducible apply ih
      | with_reducible refine State.badBundle_moves (Within.trans (by decide : Within 2570590003938572 2570590003938572) hw) ?_ _ _ _ _
      | with_reducible refine State.modRR_moves (Within.trans (by decide : Within 256 2570590003938572) hw) ?_ _ _ _
      | with_reducible refine State.openBundle_moves (Within.trans (by decide : Within 2568459700142348 2570590003938572) hw) ?_ _ _ _ _
      | with_reducible refine Moves.ite ?_ ?_
      | split
      | extract_lets
      | with_reducible refine Moves.getD (Moves.optFindSome (fun _ => ?_)) ?_
      | with_reducible refine Moves.optMap (fun _ => ?_)
      | with_reducible refine Moves.optSndMapSnd ?_
      | with_reducible refine Moves.optSndMap (fun _ => ?_)
      | with_reducible refine Moves.optBind ?_ (fun _ _ => ?_)
      | with_reducible refine Moves.optOf (fun _ => ?_)
      | (with_reducible refine Moves.foldl ?_ (fun _ _ _ => ?_))
      | (with_reducible refine Moves.foldlFst ?_ (fun _ _ _ => ?_))
      | (with_reducible refine Moves.foldr ?_ (fun _ _ _ => ?_))
      | with_reducible refine Moves.optIte ?_ ?_
      | with_reducible refine Moves.foldlOpt ?_ (fun _ _ _ => ?_)
      | with_reducible refine Moves.optSome ?_
      | with_reducible exact Moves.optNone
      | with_reducible refine Moves.some (by assumption) ?_
      | with_reducible refine Moves.fst (by assumption) ?_
      | with_reducible refine Moves.snd (by assumption) ?_
      | dsimp +zetaDelta only

theorem State.goOn_moves {w : Nat} {s u : State} (hw : Within 2570590003938572 w) (h : Moves w s u) (seq : Sys2Proof.W32) (r : Nat) :
    Moves w s (State.goOn u seq r) := by
  unfold State.goOn
  repeat'
    first
    | with_reducible assumption
    | with_reducible refine State.finishRun_moves (Within.trans (by decide : Within 37314675885324 2570590003938572) hw) ?_ _
    | with_reducible refine State.passNops_moves (Within.trans (by decide : Within 2570590003938572 2570590003938572) hw) ?_ _ _ _
    | with_reducible refine Moves.ite ?_ ?_
    | split
    | extract_lets
    | with_reducible refine Moves.getD (Moves.optFindSome (fun _ => ?_)) ?_
    | with_reducible refine Moves.optMap (fun _ => ?_)
    | with_reducible refine Moves.optSndMapSnd ?_
    | with_reducible refine Moves.optSndMap (fun _ => ?_)
    | with_reducible refine Moves.optBind ?_ (fun _ _ => ?_)
    | with_reducible refine Moves.optOf (fun _ => ?_)
    | (with_reducible refine Moves.foldl ?_ (fun _ _ _ => ?_))
    | (with_reducible refine Moves.foldlFst ?_ (fun _ _ _ => ?_))
    | (with_reducible refine Moves.foldr ?_ (fun _ _ _ => ?_))
    | with_reducible refine Moves.optIte ?_ ?_
    | with_reducible refine Moves.foldlOpt ?_ (fun _ _ _ => ?_)
    | with_reducible refine Moves.optSome ?_
    | with_reducible exact Moves.optNone
    | with_reducible refine Moves.some (by assumption) ?_
    | with_reducible refine Moves.fst (by assumption) ?_
    | with_reducible refine Moves.snd (by assumption) ?_
    | dsimp +zetaDelta only

theorem State.epochStart_moves {w : Nat} {s u : State} (hw : Within 3133561432229132 w) (h : Moves w s u) (seq : Sys2Proof.W32) :
    Moves w s (State.epochStart u seq) := by
  unfold State.epochStart
  repeat'
    first
    | with_reducible assumption
    | with_reducible refine State.endFail_moves (Within.trans (by decide : Within 1024 3133561432229132) hw) ?_ _ _ _ _
    | with_reducible refine State.chargeCredit_moves (Within.trans (by decide : Within 32768 3133561432229132) hw) ?_ _
    | with_reducible refine State.modRun_moves (Within.trans (by decide : Within 256 3133561432229132) hw) ?_ _ _
    | with_reducible refine State.startRegion_moves (Within.trans (by decide : Within 3131431128400140 3133561432229132) hw) ?_ _ _ _ _
    | with_reducible refine State.goOn_moves (Within.trans (by decide : Within 2570590003938572 3133561432229132) hw) ?_ _ _
    | with_reducible refine Moves.ite ?_ ?_
    | split
    | extract_lets
    | with_reducible refine Moves.getD (Moves.optFindSome (fun _ => ?_)) ?_
    | with_reducible refine Moves.optMap (fun _ => ?_)
    | with_reducible refine Moves.optSndMapSnd ?_
    | with_reducible refine Moves.optSndMap (fun _ => ?_)
    | with_reducible refine Moves.optBind ?_ (fun _ _ => ?_)
    | with_reducible refine Moves.optOf (fun _ => ?_)
    | (with_reducible refine Moves.foldl ?_ (fun _ _ _ => ?_))
    | (with_reducible refine Moves.foldlFst ?_ (fun _ _ _ => ?_))
    | (with_reducible refine Moves.foldr ?_ (fun _ _ _ => ?_))
    | with_reducible refine Moves.optIte ?_ ?_
    | with_reducible refine Moves.foldlOpt ?_ (fun _ _ _ => ?_)
    | with_reducible refine Moves.optSome ?_
    | with_reducible exact Moves.optNone
    | with_reducible refine Moves.some (by assumption) ?_
    | with_reducible refine Moves.fst (by assumption) ?_
    | with_reducible refine Moves.snd (by assumption) ?_
    | dsimp +zetaDelta only
    | with_reducible refine Moves.upd ?_ rfl ⟨rfl, rfl, .same, ⟨.rfl, .rfl, .of hw (by decide), .rfl, .rfl⟩, .same, .same, .same⟩ ⟨id, id, id, id, id, id, id⟩

theorem execEpochStart_moves {w : Nat} {s u : State} (hw : Within 3133561432229132 w) (h : Moves w s u) (run : Sys2Proof.W32) :
    Moves.outcome w s (execEpochStart run u) := by
  unfold execEpochStart
  repeat'
    first
    | with_reducible assumption
    | with_reducible exact Moves.fault
    | with_reducible refine Moves.next ?_
    | with_reducible refine State.epochStart_moves (Within.trans (by decide : Within 3133561432229132 3133561432229132) hw) ?_ _
    | with_reducible refine Moves.ite ?_ ?_
    | split
    | extract_lets
    | with_reducible refine Moves.getD (Moves.optFindSome (fun _ => ?_)) ?_
    | with_reducible refine Moves.optMap (fun _ => ?_)
    | with_reducible refine Moves.optSndMapSnd ?_
    | with_reducible refine Moves.optSndMap (fun _ => ?_)
    | with_reducible refine Moves.optBind ?_ (fun _ _ => ?_)
    | with_reducible refine Moves.optOf (fun _ => ?_)
    | (with_reducible refine Moves.foldl ?_ (fun _ _ _ => ?_))
    | (with_reducible refine Moves.foldlFst ?_ (fun _ _ _ => ?_))
    | (with_reducible refine Moves.foldr ?_ (fun _ _ _ => ?_))
    | with_reducible refine Moves.optIte ?_ ?_
    | with_reducible refine Moves.foldlOpt ?_ (fun _ _ _ => ?_)
    | with_reducible refine Moves.optSome ?_
    | with_reducible exact Moves.optNone
    | with_reducible refine Moves.some (by assumption) ?_
    | with_reducible refine Moves.fst (by assumption) ?_
    | with_reducible refine Moves.snd (by assumption) ?_
    | dsimp +zetaDelta only

theorem State.delayParts_moves {w : Nat} {s u : State} (hw : Within 256 w) (h : Moves w s u) (r : Nat) (c : Nat) (d : Nat) (tile : Bool) :
    Moves w s (State.delayParts u r c d tile) := by
  unfold State.delayParts
  repeat'
    first
    | with_reducible assumption
    | with_reducible refine Moves.ite ?_ ?_
    | split
    | extract_lets
    | with_reducible refine Moves.getD (Moves.optFindSome (fun _ => ?_)) ?_
    | with_reducible refine Moves.optMap (fun _ => ?_)
    | with_reducible refine Moves.optSndMapSnd ?_
    | with_reducible refine Moves.optSndMap (fun _ => ?_)
    | with_reducible refine Moves.optBind ?_ (fun _ _ => ?_)
    | with_reducible refine Moves.optOf (fun _ => ?_)
    | (with_reducible refine Moves.foldl ?_ (fun _ _ _ => ?_))
    | (with_reducible refine Moves.foldlFst ?_ (fun _ _ _ => ?_))
    | (with_reducible refine Moves.foldr ?_ (fun _ _ _ => ?_))
    | with_reducible refine Moves.optIte ?_ ?_
    | with_reducible refine Moves.foldlOpt ?_ (fun _ _ _ => ?_)
    | with_reducible refine Moves.optSome ?_
    | with_reducible exact Moves.optNone
    | with_reducible refine Moves.some (by assumption) ?_
    | with_reducible refine Moves.fst (by assumption) ?_
    | with_reducible refine Moves.snd (by assumption) ?_
    | dsimp +zetaDelta only
    | with_reducible refine Moves.upd ?_ rfl ⟨rfl, rfl, .same, ⟨.rfl, .rfl, .of hw (by decide), .rfl, .rfl⟩, .same, .same, .same⟩ ⟨id, id, id, id, id, id, id⟩

theorem State.stallFrom_moves {w : Nat} {s u : State} (hw : Within 3131959409377548 w) (h : Moves w s u) (r : Nat) (c : Nat) (d : Nat) (tile : Bool) :
    Moves w s (State.stallFrom u r c d tile) := by
  unfold State.stallFrom
  repeat'
    first
    | with_reducible assumption
    | with_reducible refine State.delayParts_moves (Within.trans (by decide : Within 256 3131959409377548) hw) ?_ _ _ _ _
    | with_reducible refine State.noteLate_moves (Within.trans (by decide : Within 879609302220812 3131959409377548) hw) ?_ _ _ _
    | with_reducible refine State.reach_moves (Within.trans (by decide : Within 2568459700142092 3131959409377548) hw) ?_ _ _
    | with_reducible refine Moves.ite ?_ ?_
    | split
    | extract_lets
    | with_reducible refine Moves.getD (Moves.optFindSome (fun _ => ?_)) ?_
    | with_reducible refine Moves.optMap (fun _ => ?_)
    | with_reducible refine Moves.optSndMapSnd ?_
    | with_reducible refine Moves.optSndMap (fun _ => ?_)
    | with_reducible refine Moves.optBind ?_ (fun _ _ => ?_)
    | with_reducible refine Moves.optOf (fun _ => ?_)
    | (with_reducible refine Moves.foldl ?_ (fun _ _ _ => ?_))
    | (with_reducible refine Moves.foldlFst ?_ (fun _ _ _ => ?_))
    | (with_reducible refine Moves.foldr ?_ (fun _ _ _ => ?_))
    | with_reducible refine Moves.optIte ?_ ?_
    | with_reducible refine Moves.foldlOpt ?_ (fun _ _ _ => ?_)
    | with_reducible refine Moves.optSome ?_
    | with_reducible exact Moves.optNone
    | with_reducible refine Moves.some (by assumption) ?_
    | with_reducible refine Moves.fst (by assumption) ?_
    | with_reducible refine Moves.snd (by assumption) ?_
    | dsimp +zetaDelta only
    | with_reducible refine State.modRegion_moves ?_ (fun _ => ?_)
    | with_reducible refine RM.ite ?_ ?_
    | with_reducible exact RM.refl _ _
    | exact ⟨.same, .same, ⟨.rfl, .rfl, .rfl, .of hw (by decide), .rfl⟩, .same, .same, .rfl, id⟩

theorem State.haltOp_moves {w : Nat} {s u : State} (hw : Within 35184372089100 w) (h : Moves w s u) (x : Op) (code : Nat) :
    Moves w s (State.haltOp u x code) := by
  unfold State.haltOp
  repeat'
    first
    | with_reducible assumption
    | with_reducible refine State.spread_moves (Within.trans (by decide : Within 35184372089100 35184372089100) hw) ?_ _
    | with_reducible refine State.haltOne_moves (Within.trans (by decide : Within 35184372089100 35184372089100) hw) ?_ _ _ _
    | with_reducible refine Moves.ite ?_ ?_
    | split
    | extract_lets
    | with_reducible refine Moves.getD (Moves.optFindSome (fun _ => ?_)) ?_
    | with_reducible refine Moves.optMap (fun _ => ?_)
    | with_reducible refine Moves.optSndMapSnd ?_
    | with_reducible refine Moves.optSndMap (fun _ => ?_)
    | with_reducible refine Moves.optBind ?_ (fun _ _ => ?_)
    | with_reducible refine Moves.optOf (fun _ => ?_)
    | (with_reducible refine Moves.foldl ?_ (fun _ _ _ => ?_))
    | (with_reducible refine Moves.foldlFst ?_ (fun _ _ _ => ?_))
    | (with_reducible refine Moves.foldr ?_ (fun _ _ _ => ?_))
    | with_reducible refine Moves.optIte ?_ ?_
    | with_reducible refine Moves.foldlOpt ?_ (fun _ _ _ => ?_)
    | with_reducible refine Moves.optSome ?_
    | with_reducible exact Moves.optNone
    | with_reducible refine Moves.some (by assumption) ?_
    | with_reducible refine Moves.fst (by assumption) ?_
    | with_reducible refine Moves.snd (by assumption) ?_
    | dsimp +zetaDelta only

theorem State.startOp_moves {w : Nat} {s u : State} (hw : Within 256 w) (h : Moves w s u) (x : Op) (ends : Option Nat) (writes : List (Nat × List Nat)) (halts : optParam (Option Nat) none) (due : optParam (Option Nat) none) :
    Moves w s (State.startOp u x ends writes halts due) := by
  unfold State.startOp
  repeat'
    first
    | with_reducible assumption
    | with_reducible refine State.modRR_moves (Within.trans (by decide : Within 256 256) hw) ?_ _ _ _
    | with_reducible refine Moves.ite ?_ ?_
    | split
    | extract_lets
    | with_reducible refine Moves.getD (Moves.optFindSome (fun _ => ?_)) ?_
    | with_reducible refine Moves.optMap (fun _ => ?_)
    | with_reducible refine Moves.optSndMapSnd ?_
    | with_reducible refine Moves.optSndMap (fun _ => ?_)
    | with_reducible refine Moves.optBind ?_ (fun _ _ => ?_)
    | with_reducible refine Moves.optOf (fun _ => ?_)
    | (with_reducible refine Moves.foldl ?_ (fun _ _ _ => ?_))
    | (with_reducible refine Moves.foldlFst ?_ (fun _ _ _ => ?_))
    | (with_reducible refine Moves.foldr ?_ (fun _ _ _ => ?_))
    | with_reducible refine Moves.optIte ?_ ?_
    | with_reducible refine Moves.foldlOpt ?_ (fun _ _ _ => ?_)
    | with_reducible refine Moves.optSome ?_
    | with_reducible exact Moves.optNone
    | with_reducible refine Moves.some (by assumption) ?_
    | with_reducible refine Moves.fst (by assumption) ?_
    | with_reducible refine Moves.snd (by assumption) ?_
    | dsimp +zetaDelta only

theorem State.stopAtItem_moves {w : Nat} {s u : State} (hw : Within 256 w) (h : Moves w s u) (x : Op) (i : Nat) (code : Nat) :
    Moves w s (State.stopAtItem u x i code) := by
  unfold State.stopAtItem
  repeat'
    first
    | with_reducible assumption
    | with_reducible refine State.startOp_moves (Within.trans (by decide : Within 256 256) hw) ?_ _ _ _ _ _
    | with_reducible refine Moves.ite ?_ ?_
    | split
    | extract_lets
    | with_reducible refine Moves.getD (Moves.optFindSome (fun _ => ?_)) ?_
    | with_reducible refine Moves.optMap (fun _ => ?_)
    | with_reducible refine Moves.optSndMapSnd ?_
    | with_reducible refine Moves.optSndMap (fun _ => ?_)
    | with_reducible refine Moves.optBind ?_ (fun _ _ => ?_)
    | with_reducible refine Moves.optOf (fun _ => ?_)
    | (with_reducible refine Moves.foldl ?_ (fun _ _ _ => ?_))
    | (with_reducible refine Moves.foldlFst ?_ (fun _ _ _ => ?_))
    | (with_reducible refine Moves.foldr ?_ (fun _ _ _ => ?_))
    | with_reducible refine Moves.optIte ?_ ?_
    | with_reducible refine Moves.foldlOpt ?_ (fun _ _ _ => ?_)
    | with_reducible refine Moves.optSome ?_
    | with_reducible exact Moves.optNone
    | with_reducible refine Moves.some (by assumption) ?_
    | with_reducible refine Moves.fst (by assumption) ?_
    | with_reducible refine Moves.snd (by assumption) ?_
    | dsimp +zetaDelta only

theorem State.modDigest_moves {w : Nat} {s u : State} (hw : Within 256 w) (h : Moves w s u) (x : Op) (ρ : Nat) (f : Digest → Digest) :
    Moves w s (State.modDigest u x ρ f) := by
  unfold State.modDigest
  repeat'
    first
    | with_reducible assumption
    | with_reducible refine State.modRR_moves (Within.trans (by decide : Within 256 256) hw) ?_ _ _ _
    | with_reducible refine Moves.ite ?_ ?_
    | split
    | extract_lets
    | with_reducible refine Moves.getD (Moves.optFindSome (fun _ => ?_)) ?_
    | with_reducible refine Moves.optMap (fun _ => ?_)
    | with_reducible refine Moves.optSndMapSnd ?_
    | with_reducible refine Moves.optSndMap (fun _ => ?_)
    | with_reducible refine Moves.optBind ?_ (fun _ _ => ?_)
    | with_reducible refine Moves.optOf (fun _ => ?_)
    | (with_reducible refine Moves.foldl ?_ (fun _ _ _ => ?_))
    | (with_reducible refine Moves.foldlFst ?_ (fun _ _ _ => ?_))
    | (with_reducible refine Moves.foldr ?_ (fun _ _ _ => ?_))
    | with_reducible refine Moves.optIte ?_ ?_
    | with_reducible refine Moves.foldlOpt ?_ (fun _ _ _ => ?_)
    | with_reducible refine Moves.optSome ?_
    | with_reducible exact Moves.optNone
    | with_reducible refine Moves.some (by assumption) ?_
    | with_reducible refine Moves.fst (by assumption) ?_
    | with_reducible refine Moves.snd (by assumption) ?_
    | dsimp +zetaDelta only

theorem State.runOp_moves {w : Nat} {s u : State} (hw : Within 256 w) (h : Moves w s u) (x : Op) (n : Nat) (writes : List (Nat × List Nat)) :
    Moves w s (State.runOp u x n writes) := by
  unfold State.runOp
  repeat'
    first
    | with_reducible assumption
    | with_reducible refine State.startOp_moves (Within.trans (by decide : Within 256 256) hw) ?_ _ _ _ _ _
    | with_reducible refine Moves.ite ?_ ?_
    | split
    | extract_lets
    | with_reducible refine Moves.getD (Moves.optFindSome (fun _ => ?_)) ?_
    | with_reducible refine Moves.optMap (fun _ => ?_)
    | with_reducible refine Moves.optSndMapSnd ?_
    | with_reducible refine Moves.optSndMap (fun _ => ?_)
    | with_reducible refine Moves.optBind ?_ (fun _ _ => ?_)
    | with_reducible refine Moves.optOf (fun _ => ?_)
    | (with_reducible refine Moves.foldl ?_ (fun _ _ _ => ?_))
    | (with_reducible refine Moves.foldlFst ?_ (fun _ _ _ => ?_))
    | (with_reducible refine Moves.foldr ?_ (fun _ _ _ => ?_))
    | with_reducible refine Moves.optIte ?_ ?_
    | with_reducible refine Moves.foldlOpt ?_ (fun _ _ _ => ?_)
    | with_reducible refine Moves.optSome ?_
    | with_reducible exact Moves.optNone
    | with_reducible refine Moves.some (by assumption) ?_
    | with_reducible refine Moves.fst (by assumption) ?_
    | with_reducible refine Moves.snd (by assumption) ?_
    | dsimp +zetaDelta only

theorem State.closeSlot_moves {w : Nat} {s u : State} (hw : Within 256 w) (h : Moves w s u) (seq : Sys2Proof.W32) (r : Nat) :
    Moves w s (State.closeSlot u seq r) := by
  unfold State.closeSlot
  repeat'
    first
    | with_reducible assumption
    | with_reducible refine State.modRR_moves (Within.trans (by decide : Within 256 256) hw) ?_ _ _ _
    | with_reducible refine Moves.ite ?_ ?_
    | split
    | extract_lets
    | with_reducible refine Moves.getD (Moves.optFindSome (fun _ => ?_)) ?_
    | with_reducible refine Moves.optMap (fun _ => ?_)
    | with_reducible refine Moves.optSndMapSnd ?_
    | with_reducible refine Moves.optSndMap (fun _ => ?_)
    | with_reducible refine Moves.optBind ?_ (fun _ _ => ?_)
    | with_reducible refine Moves.optOf (fun _ => ?_)
    | (with_reducible refine Moves.foldl ?_ (fun _ _ _ => ?_))
    | (with_reducible refine Moves.foldlFst ?_ (fun _ _ _ => ?_))
    | (with_reducible refine Moves.foldr ?_ (fun _ _ _ => ?_))
    | with_reducible refine Moves.optIte ?_ ?_
    | with_reducible refine Moves.foldlOpt ?_ (fun _ _ _ => ?_)
    | with_reducible refine Moves.optSome ?_
    | with_reducible exact Moves.optNone
    | with_reducible refine Moves.some (by assumption) ?_
    | with_reducible refine Moves.fst (by assumption) ?_
    | with_reducible refine Moves.snd (by assumption) ?_
    | dsimp +zetaDelta only

theorem State.noteExcess_moves {w : Nat} {s u : State} (hw : Within 256 w) (h : Moves w s u) (x : Op) :
    Moves w s (State.noteExcess u x) := by
  unfold State.noteExcess
  repeat'
    first
    | with_reducible assumption
    | with_reducible refine State.modRR_moves (Within.trans (by decide : Within 256 256) hw) ?_ _ _ _
    | with_reducible refine Moves.ite ?_ ?_
    | split
    | extract_lets
    | with_reducible refine Moves.getD (Moves.optFindSome (fun _ => ?_)) ?_
    | with_reducible refine Moves.optMap (fun _ => ?_)
    | with_reducible refine Moves.optSndMapSnd ?_
    | with_reducible refine Moves.optSndMap (fun _ => ?_)
    | with_reducible refine Moves.optBind ?_ (fun _ _ => ?_)
    | with_reducible refine Moves.optOf (fun _ => ?_)
    | (with_reducible refine Moves.foldl ?_ (fun _ _ _ => ?_))
    | (with_reducible refine Moves.foldlFst ?_ (fun _ _ _ => ?_))
    | (with_reducible refine Moves.foldr ?_ (fun _ _ _ => ?_))
    | with_reducible refine Moves.optIte ?_ ?_
    | with_reducible refine Moves.foldlOpt ?_ (fun _ _ _ => ?_)
    | with_reducible refine Moves.optSome ?_
    | with_reducible exact Moves.optNone
    | with_reducible refine Moves.some (by assumption) ?_
    | with_reducible refine Moves.fst (by assumption) ?_
    | with_reducible refine Moves.snd (by assumption) ?_
    | dsimp +zetaDelta only

theorem State.plateOp_moves {w : Nat} {s u : State} (hw : Within 2570627604827964 w) (h : Moves w s u) (seq : Sys2Proof.W32) (r : Nat) (sel : SlotOp → Bool) (f : State → Op → State) (hf : ∀ v x, Moves w s v → Moves w s (f v x)) :
    Moves w s (State.plateOp u seq r sel f) := by
  unfold State.plateOp
  repeat'
    first
    | with_reducible assumption
    | with_reducible refine hf _ _ ?_
    | with_reducible refine State.badBundle_moves (Within.trans (by decide : Within 2570590003938572 2570627604827964) hw) ?_ _ _ _ _
    | with_reducible refine State.openBundle_moves (Within.trans (by decide : Within 2568459700142348 2570627604827964) hw) ?_ _ _ _ _
    | with_reducible refine State.goOn_moves (Within.trans (by decide : Within 2570590003938572 2570627604827964) hw) ?_ _ _
    | with_reducible refine State.closeSlot_moves (Within.trans (by decide : Within 256 2570627604827964) hw) ?_ _ _
    | with_reducible refine State.haltOp_moves (Within.trans (by decide : Within 35184372089100 2570627604827964) hw) ?_ _ _
    | with_reducible refine State.startTeardown_moves (Within.trans (by decide : Within 36527643053884 2570627604827964) hw) ?_ _ _ _
    | with_reducible refine State.noteExcess_moves (Within.trans (by decide : Within 256 2570627604827964) hw) ?_ _
    | with_reducible refine Moves.ite ?_ ?_
    | split
    | extract_lets
    | with_reducible refine Moves.getD (Moves.optFindSome (fun _ => ?_)) ?_
    | with_reducible refine Moves.optMap (fun _ => ?_)
    | with_reducible refine Moves.optSndMapSnd ?_
    | with_reducible refine Moves.optSndMap (fun _ => ?_)
    | with_reducible refine Moves.optBind ?_ (fun _ _ => ?_)
    | with_reducible refine Moves.optOf (fun _ => ?_)
    | (with_reducible refine Moves.foldl ?_ (fun _ _ _ => ?_))
    | (with_reducible refine Moves.foldlFst ?_ (fun _ _ _ => ?_))
    | (with_reducible refine Moves.foldr ?_ (fun _ _ _ => ?_))
    | with_reducible refine Moves.optIte ?_ ?_
    | with_reducible refine Moves.foldlOpt ?_ (fun _ _ _ => ?_)
    | with_reducible refine Moves.optSome ?_
    | with_reducible exact Moves.optNone
    | with_reducible refine Moves.some (by assumption) ?_
    | with_reducible refine Moves.fst (by assumption) ?_
    | with_reducible refine Moves.snd (by assumption) ?_
    | dsimp +zetaDelta only

theorem State.endOp_moves {w : Nat} {s u : State} (hw : Within 2568459700142348 w) (h : Moves w s u) (x : Op) :
    Moves w s (State.endOp u x) := by
  unfold State.endOp
  repeat'
    first
    | with_reducible assumption
    | with_reducible refine State.modRR_moves (Within.trans (by decide : Within 256 2568459700142348) hw) ?_ _ _ _
    | with_reducible refine State.reach_moves (Within.trans (by decide : Within 2568459700142092 2568459700142348) hw) ?_ _ _
    | with_reducible refine Moves.ite ?_ ?_
    | split
    | extract_lets
    | with_reducible refine Moves.getD (Moves.optFindSome (fun _ => ?_)) ?_
    | with_reducible refine Moves.optMap (fun _ => ?_)
    | with_reducible refine Moves.optSndMapSnd ?_
    | with_reducible refine Moves.optSndMap (fun _ => ?_)
    | with_reducible refine Moves.optBind ?_ (fun _ _ => ?_)
    | with_reducible refine Moves.optOf (fun _ => ?_)
    | (with_reducible refine Moves.foldl ?_ (fun _ _ _ => ?_))
    | (with_reducible refine Moves.foldlFst ?_ (fun _ _ _ => ?_))
    | (with_reducible refine Moves.foldr ?_ (fun _ _ _ => ?_))
    | with_reducible refine Moves.optIte ?_ ?_
    | with_reducible refine Moves.foldlOpt ?_ (fun _ _ _ => ?_)
    | with_reducible refine Moves.optSome ?_
    | with_reducible exact Moves.optNone
    | with_reducible refine Moves.some (by assumption) ?_
    | with_reducible refine Moves.fst (by assumption) ?_
    | with_reducible refine Moves.snd (by assumption) ?_
    | dsimp +zetaDelta only

theorem execProofEmit_moves {w : Nat} {s u : State} (hw : Within 2570627604827964 w) (h : Moves w s u) (run : Sys2Proof.W32) (r : Sys2Proof.RegionId) :
    Moves.outcome w s (execProofEmit run r u) := by
  unfold execProofEmit
  repeat'
    first
    | with_reducible assumption
    | with_reducible exact Moves.fault
    | with_reducible refine Moves.next ?_
    | with_reducible refine State.plateOp_moves (Within.trans (by decide : Within 2570627604827964 2570627604827964) hw) ?_ _ _ _ _ (fun _ _ _ => ?_)
    | with_reducible refine State.runOp_moves (Within.trans (by decide : Within 256 2570627604827964) hw) ?_ _ _ _
    | with_reducible refine Moves.ite ?_ ?_
    | split
    | extract_lets
    | with_reducible refine Moves.getD (Moves.optFindSome (fun _ => ?_)) ?_
    | with_reducible refine Moves.optMap (fun _ => ?_)
    | with_reducible refine Moves.optSndMapSnd ?_
    | with_reducible refine Moves.optSndMap (fun _ => ?_)
    | with_reducible refine Moves.optBind ?_ (fun _ _ => ?_)
    | with_reducible refine Moves.optOf (fun _ => ?_)
    | (with_reducible refine Moves.foldl ?_ (fun _ _ _ => ?_))
    | (with_reducible refine Moves.foldlFst ?_ (fun _ _ _ => ?_))
    | (with_reducible refine Moves.foldr ?_ (fun _ _ _ => ?_))
    | with_reducible refine Moves.optIte ?_ ?_
    | with_reducible refine Moves.foldlOpt ?_ (fun _ _ _ => ?_)
    | with_reducible refine Moves.optSome ?_
    | with_reducible exact Moves.optNone
    | with_reducible refine Moves.some (by assumption) ?_
    | with_reducible refine Moves.fst (by assumption) ?_
    | with_reducible refine Moves.snd (by assumption) ?_
    | dsimp +zetaDelta only

theorem execSignal_moves {w : Nat} {s u : State} (hw : Within 2570627604827964 w) (h : Moves w s u) (run : Sys2Proof.W32) (r : Sys2Proof.RegionId) :
    Moves.outcome w s (execSignal run r u) := by
  unfold execSignal
  repeat'
    first
    | with_reducible assumption
    | with_reducible exact Moves.fault
    | with_reducible refine Moves.next ?_
    | with_reducible refine State.plateOp_moves (Within.trans (by decide : Within 2570627604827964 2570627604827964) hw) ?_ _ _ _ _ (fun _ _ _ => ?_)
    | with_reducible refine State.runOp_moves (Within.trans (by decide : Within 256 2570627604827964) hw) ?_ _ _ _
    | with_reducible refine State.signal_moves (Within.trans (by decide : Within 35184372088844 2570627604827964) hw) ?_ _ _
    | with_reducible refine Moves.ite ?_ ?_
    | split
    | extract_lets
    | with_reducible refine Moves.getD (Moves.optFindSome (fun _ => ?_)) ?_
    | with_reducible refine Moves.optMap (fun _ => ?_)
    | with_reducible refine Moves.optSndMapSnd ?_
    | with_reducible refine Moves.optSndMap (fun _ => ?_)
    | with_reducible refine Moves.optBind ?_ (fun _ _ => ?_)
    | with_reducible refine Moves.optOf (fun _ => ?_)
    | (with_reducible refine Moves.foldl ?_ (fun _ _ _ => ?_))
    | (with_reducible refine Moves.foldlFst ?_ (fun _ _ _ => ?_))
    | (with_reducible refine Moves.foldr ?_ (fun _ _ _ => ?_))
    | with_reducible refine Moves.optIte ?_ ?_
    | with_reducible refine Moves.foldlOpt ?_ (fun _ _ _ => ?_)
    | with_reducible refine Moves.optSome ?_
    | with_reducible exact Moves.optNone
    | with_reducible refine Moves.some (by assumption) ?_
    | with_reducible refine Moves.fst (by assumption) ?_
    | with_reducible refine Moves.snd (by assumption) ?_
    | dsimp +zetaDelta only

theorem State.opEnd_moves {w : Nat} {s u : State} (hw : Within 2570624363676940 w) (h : Moves w s u) (seq : Sys2Proof.W32) (r : Nat) (u' : Nat) :
    Moves w s (State.opEnd u seq r u') := by
  unfold State.opEnd
  repeat'
    first
    | with_reducible assumption
    | with_reducible refine State.endPorts_moves (Within.trans (by decide : Within 34359738368 2570624363676940) hw) ?_ _ _
    | with_reducible refine State.reach_moves (Within.trans (by decide : Within 2568459700142092 2570624363676940) hw) ?_ _ _
    | with_reducible refine State.modRR_moves (Within.trans (by decide : Within 256 2570624363676940) hw) ?_ _ _ _
    | with_reducible refine State.spread_moves (Within.trans (by decide : Within 35184372089100 2570624363676940) hw) ?_ _
    | with_reducible refine State.haltOne_moves (Within.trans (by decide : Within 35184372089100 2570624363676940) hw) ?_ _ _ _
    | with_reducible refine State.goOn_moves (Within.trans (by decide : Within 2570590003938572 2570624363676940) hw) ?_ _ _
    | with_reducible refine Moves.ite ?_ ?_
    | split
    | extract_lets
    | with_reducible refine Moves.getD (Moves.optFindSome (fun _ => ?_)) ?_
    | with_reducible refine Moves.optMap (fun _ => ?_)
    | with_reducible refine Moves.optSndMapSnd ?_
    | with_reducible refine Moves.optSndMap (fun _ => ?_)
    | with_reducible refine Moves.optBind ?_ (fun _ _ => ?_)
    | with_reducible refine Moves.optOf (fun _ => ?_)
    | (with_reducible refine Moves.foldl ?_ (fun _ _ _ => ?_))
    | (with_reducible refine Moves.foldlFst ?_ (fun _ _ _ => ?_))
    | (with_reducible refine Moves.foldr ?_ (fun _ _ _ => ?_))
    | with_reducible refine Moves.optIte ?_ ?_
    | with_reducible refine Moves.foldlOpt ?_ (fun _ _ _ => ?_)
    | with_reducible refine Moves.optSome ?_
    | with_reducible exact Moves.optNone
    | with_reducible refine Moves.some (by assumption) ?_
    | with_reducible refine Moves.fst (by assumption) ?_
    | with_reducible refine Moves.snd (by assumption) ?_
    | dsimp +zetaDelta only

theorem execOperationEnd_moves {w : Nat} {s u : State} (hw : Within 2570624363676940 w) (h : Moves w s u) (run : Sys2Proof.W32) (r : Sys2Proof.RegionId) (u' : Sys2Proof.UnitId) :
    Moves.outcome w s (execOperationEnd run r u' u) := by
  unfold execOperationEnd
  repeat'
    first
    | with_reducible assumption
    | with_reducible exact Moves.fault
    | with_reducible refine Moves.next ?_
    | with_reducible refine State.opEnd_moves (Within.trans (by decide : Within 2570624363676940 2570624363676940) hw) ?_ _ _ _
    | with_reducible refine Moves.ite ?_ ?_
    | split
    | extract_lets
    | with_reducible refine Moves.getD (Moves.optFindSome (fun _ => ?_)) ?_
    | with_reducible refine Moves.optMap (fun _ => ?_)
    | with_reducible refine Moves.optSndMapSnd ?_
    | with_reducible refine Moves.optSndMap (fun _ => ?_)
    | with_reducible refine Moves.optBind ?_ (fun _ _ => ?_)
    | with_reducible refine Moves.optOf (fun _ => ?_)
    | (with_reducible refine Moves.foldl ?_ (fun _ _ _ => ?_))
    | (with_reducible refine Moves.foldlFst ?_ (fun _ _ _ => ?_))
    | (with_reducible refine Moves.foldr ?_ (fun _ _ _ => ?_))
    | with_reducible refine Moves.optIte ?_ ?_
    | with_reducible refine Moves.foldlOpt ?_ (fun _ _ _ => ?_)
    | with_reducible refine Moves.optSome ?_
    | with_reducible exact Moves.optNone
    | with_reducible refine Moves.some (by assumption) ?_
    | with_reducible refine Moves.fst (by assumption) ?_
    | with_reducible refine Moves.snd (by assumption) ?_
    | dsimp +zetaDelta only

theorem State.release_moves {w : Nat} {s u : State} (hw : Within 3131959409377548 w) (h : Moves w s u) (r : Nat) (x : Sys2Proof.Crossing) (d : Nat) :
    Moves w s (State.release u r x d) := by
  unfold State.release
  repeat'
    first
    | with_reducible assumption
    | with_reducible refine State.reach_moves (Within.trans (by decide : Within 2568459700142092 3131959409377548) hw) ?_ _ _
    | with_reducible refine State.stallFrom_moves (Within.trans (by decide : Within 3131959409377548 3131959409377548) hw) ?_ _ _ _ _
    | with_reducible refine Moves.ite ?_ ?_
    | split
    | extract_lets
    | with_reducible refine Moves.getD (Moves.optFindSome (fun _ => ?_)) ?_
    | with_reducible refine Moves.optMap (fun _ => ?_)
    | with_reducible refine Moves.optSndMapSnd ?_
    | with_reducible refine Moves.optSndMap (fun _ => ?_)
    | with_reducible refine Moves.optBind ?_ (fun _ _ => ?_)
    | with_reducible refine Moves.optOf (fun _ => ?_)
    | (with_reducible refine Moves.foldl ?_ (fun _ _ _ => ?_))
    | (with_reducible refine Moves.foldlFst ?_ (fun _ _ _ => ?_))
    | (with_reducible refine Moves.foldr ?_ (fun _ _ _ => ?_))
    | with_reducible refine Moves.optIte ?_ ?_
    | with_reducible refine Moves.foldlOpt ?_ (fun _ _ _ => ?_)
    | with_reducible refine Moves.optSome ?_
    | with_reducible exact Moves.optNone
    | with_reducible refine Moves.some (by assumption) ?_
    | with_reducible refine Moves.fst (by assumption) ?_
    | with_reducible refine Moves.snd (by assumption) ?_
    | dsimp +zetaDelta only

theorem State.endPlate_moves {w : Nat} {s u : State} (hw : Within 2570627604827964 w) (h : Moves w s u) (seq : Sys2Proof.W32) (r : Nat) :
    Moves w s (State.endPlate u seq r) := by
  unfold State.endPlate
  repeat'
    first
    | with_reducible assumption
    | with_reducible refine State.plateOp_moves (Within.trans (by decide : Within 2570627604827964 2570627604827964) hw) ?_ _ _ _ _ (fun _ _ _ => ?_)
    | with_reducible refine State.endOp_moves (Within.trans (by decide : Within 2568459700142348 2570627604827964) hw) ?_ _
    | with_reducible refine Moves.ite ?_ ?_
    | split
    | extract_lets
    | with_reducible refine Moves.getD (Moves.optFindSome (fun _ => ?_)) ?_
    | with_reducible refine Moves.optMap (fun _ => ?_)
    | with_reducible refine Moves.optSndMapSnd ?_
    | with_reducible refine Moves.optSndMap (fun _ => ?_)
    | with_reducible refine Moves.optBind ?_ (fun _ _ => ?_)
    | with_reducible refine Moves.optOf (fun _ => ?_)
    | (with_reducible refine Moves.foldl ?_ (fun _ _ _ => ?_))
    | (with_reducible refine Moves.foldlFst ?_ (fun _ _ _ => ?_))
    | (with_reducible refine Moves.foldr ?_ (fun _ _ _ => ?_))
    | with_reducible refine Moves.optIte ?_ ?_
    | with_reducible refine Moves.foldlOpt ?_ (fun _ _ _ => ?_)
    | with_reducible refine Moves.optSome ?_
    | with_reducible exact Moves.optNone
    | with_reducible refine Moves.some (by assumption) ?_
    | with_reducible refine Moves.fst (by assumption) ?_
    | with_reducible refine Moves.snd (by assumption) ?_
    | dsimp +zetaDelta only

theorem execEndPlate_moves {w : Nat} {s u : State} (hw : Within 2570627604827964 w) (h : Moves w s u) (run : Sys2Proof.W32) (r : Sys2Proof.RegionId) :
    Moves.outcome w s (execEndPlate run r u) := by
  unfold execEndPlate
  repeat'
    first
    | with_reducible assumption
    | with_reducible exact Moves.fault
    | with_reducible refine Moves.next ?_
    | with_reducible refine State.endPlate_moves (Within.trans (by decide : Within 2570627604827964 2570627604827964) hw) ?_ _ _
    | with_reducible refine Moves.ite ?_ ?_
    | split
    | extract_lets
    | with_reducible refine Moves.getD (Moves.optFindSome (fun _ => ?_)) ?_
    | with_reducible refine Moves.optMap (fun _ => ?_)
    | with_reducible refine Moves.optSndMapSnd ?_
    | with_reducible refine Moves.optSndMap (fun _ => ?_)
    | with_reducible refine Moves.optBind ?_ (fun _ _ => ?_)
    | with_reducible refine Moves.optOf (fun _ => ?_)
    | (with_reducible refine Moves.foldl ?_ (fun _ _ _ => ?_))
    | (with_reducible refine Moves.foldlFst ?_ (fun _ _ _ => ?_))
    | (with_reducible refine Moves.foldr ?_ (fun _ _ _ => ?_))
    | with_reducible refine Moves.optIte ?_ ?_
    | with_reducible refine Moves.foldlOpt ?_ (fun _ _ _ => ?_)
    | with_reducible refine Moves.optSome ?_
    | with_reducible exact Moves.optNone
    | with_reducible refine Moves.some (by assumption) ?_
    | with_reducible refine Moves.fst (by assumption) ?_
    | with_reducible refine Moves.snd (by assumption) ?_
    | dsimp +zetaDelta only

theorem State.setCnt_moves {w : Nat} {s u : State} (hw : Within 256 w) (h : Moves w s u) (x : Op) :
    Moves w s (State.setCnt u x) := by
  unfold State.setCnt
  repeat'
    first
    | with_reducible assumption
    | with_reducible refine State.runOp_moves (Within.trans (by decide : Within 256 256) hw) ?_ _ _ _
    | with_reducible refine Moves.ite ?_ ?_
    | split
    | extract_lets
    | with_reducible refine Moves.getD (Moves.optFindSome (fun _ => ?_)) ?_
    | with_reducible refine Moves.optMap (fun _ => ?_)
    | with_reducible refine Moves.optSndMapSnd ?_
    | with_reducible refine Moves.optSndMap (fun _ => ?_)
    | with_reducible refine Moves.optBind ?_ (fun _ _ => ?_)
    | with_reducible refine Moves.optOf (fun _ => ?_)
    | (with_reducible refine Moves.foldl ?_ (fun _ _ _ => ?_))
    | (with_reducible refine Moves.foldlFst ?_ (fun _ _ _ => ?_))
    | (with_reducible refine Moves.foldr ?_ (fun _ _ _ => ?_))
    | with_reducible refine Moves.optIte ?_ ?_
    | with_reducible refine Moves.foldlOpt ?_ (fun _ _ _ => ?_)
    | with_reducible refine Moves.optSome ?_
    | with_reducible exact Moves.optNone
    | with_reducible refine Moves.some (by assumption) ?_
    | with_reducible refine Moves.fst (by assumption) ?_
    | with_reducible refine Moves.snd (by assumption) ?_
    | dsimp +zetaDelta only

theorem execSetCnt_moves {w : Nat} {s u : State} (hw : Within 2570627604827964 w) (h : Moves w s u) (run : Sys2Proof.W32) (r : Sys2Proof.RegionId) :
    Moves.outcome w s (execSetCnt run r u) := by
  unfold execSetCnt
  repeat'
    first
    | with_reducible assumption
    | with_reducible exact Moves.fault
    | with_reducible refine Moves.next ?_
    | with_reducible refine State.plateOp_moves (Within.trans (by decide : Within 2570627604827964 2570627604827964) hw) ?_ _ _ _ _ (fun _ _ _ => ?_)
    | with_reducible refine State.setCnt_moves (Within.trans (by decide : Within 256 2570627604827964) hw) ?_ _
    | with_reducible refine Moves.ite ?_ ?_
    | split
    | extract_lets
    | with_reducible refine Moves.getD (Moves.optFindSome (fun _ => ?_)) ?_
    | with_reducible refine Moves.optMap (fun _ => ?_)
    | with_reducible refine Moves.optSndMapSnd ?_
    | with_reducible refine Moves.optSndMap (fun _ => ?_)
    | with_reducible refine Moves.optBind ?_ (fun _ _ => ?_)
    | with_reducible refine Moves.optOf (fun _ => ?_)
    | (with_reducible refine Moves.foldl ?_ (fun _ _ _ => ?_))
    | (with_reducible refine Moves.foldlFst ?_ (fun _ _ _ => ?_))
    | (with_reducible refine Moves.foldr ?_ (fun _ _ _ => ?_))
    | with_reducible refine Moves.optIte ?_ ?_
    | with_reducible refine Moves.foldlOpt ?_ (fun _ _ _ => ?_)
    | with_reducible refine Moves.optSome ?_
    | with_reducible exact Moves.optNone
    | with_reducible refine Moves.some (by assumption) ?_
    | with_reducible refine Moves.fst (by assumption) ?_
    | with_reducible refine Moves.snd (by assumption) ?_
    | dsimp +zetaDelta only

theorem State.loopOp_moves {w : Nat} {s u : State} (hw : Within 256 w) (h : Moves w s u) (x : Op) :
    Moves w s (State.loopOp u x) := by
  unfold State.loopOp
  repeat'
    first
    | with_reducible assumption
    | with_reducible refine State.modRR_moves (Within.trans (by decide : Within 256 256) hw) ?_ _ _ _
    | with_reducible refine Moves.ite ?_ ?_
    | split
    | extract_lets
    | with_reducible refine Moves.getD (Moves.optFindSome (fun _ => ?_)) ?_
    | with_reducible refine Moves.optMap (fun _ => ?_)
    | with_reducible refine Moves.optSndMapSnd ?_
    | with_reducible refine Moves.optSndMap (fun _ => ?_)
    | with_reducible refine Moves.optBind ?_ (fun _ _ => ?_)
    | with_reducible refine Moves.optOf (fun _ => ?_)
    | (with_reducible refine Moves.foldl ?_ (fun _ _ _ => ?_))
    | (with_reducible refine Moves.foldlFst ?_ (fun _ _ _ => ?_))
    | (with_reducible refine Moves.foldr ?_ (fun _ _ _ => ?_))
    | with_reducible refine Moves.optIte ?_ ?_
    | with_reducible refine Moves.foldlOpt ?_ (fun _ _ _ => ?_)
    | with_reducible refine Moves.optSome ?_
    | with_reducible exact Moves.optNone
    | with_reducible refine Moves.some (by assumption) ?_
    | with_reducible refine Moves.fst (by assumption) ?_
    | with_reducible refine Moves.snd (by assumption) ?_
    | dsimp +zetaDelta only

theorem execLoop_moves {w : Nat} {s u : State} (hw : Within 2570627604827964 w) (h : Moves w s u) (run : Sys2Proof.W32) (r : Sys2Proof.RegionId) :
    Moves.outcome w s (execLoop run r u) := by
  unfold execLoop
  repeat'
    first
    | with_reducible assumption
    | with_reducible exact Moves.fault
    | with_reducible refine Moves.next ?_
    | with_reducible refine State.plateOp_moves (Within.trans (by decide : Within 2570627604827964 2570627604827964) hw) ?_ _ _ _ _ (fun _ _ _ => ?_)
    | with_reducible refine State.loopOp_moves (Within.trans (by decide : Within 256 2570627604827964) hw) ?_ _
    | with_reducible refine Moves.ite ?_ ?_
    | split
    | extract_lets
    | with_reducible refine Moves.getD (Moves.optFindSome (fun _ => ?_)) ?_
    | with_reducible refine Moves.optMap (fun _ => ?_)
    | with_reducible refine Moves.optSndMapSnd ?_
    | with_reducible refine Moves.optSndMap (fun _ => ?_)
    | with_reducible refine Moves.optBind ?_ (fun _ _ => ?_)
    | with_reducible refine Moves.optOf (fun _ => ?_)
    | (with_reducible refine Moves.foldl ?_ (fun _ _ _ => ?_))
    | (with_reducible refine Moves.foldlFst ?_ (fun _ _ _ => ?_))
    | (with_reducible refine Moves.foldr ?_ (fun _ _ _ => ?_))
    | with_reducible refine Moves.optIte ?_ ?_
    | with_reducible refine Moves.foldlOpt ?_ (fun _ _ _ => ?_)
    | with_reducible refine Moves.optSome ?_
    | with_reducible exact Moves.optNone
    | with_reducible refine Moves.some (by assumption) ?_
    | with_reducible refine Moves.fst (by assumption) ?_
    | with_reducible refine Moves.snd (by assumption) ?_
    | dsimp +zetaDelta only

theorem State.slotWait_moves {w : Nat} {s u : State} (hw : Within 35184372088844 w) (h : Moves w s u) (r : Nat) (x : Sys2Proof.Crossing) (d : Nat) :
    Moves w s (State.slotWait u r x d) := by
  unfold State.slotWait
  repeat'
    first
    | with_reducible assumption
    | with_reducible refine State.contain_moves (Within.trans (by decide : Within 35184372088844 35184372088844) hw) ?_ _ _
    | with_reducible refine State.count_moves (Within.trans (by decide : Within 35184372088844 35184372088844) hw) ?_ _ _ _
    | with_reducible refine Moves.ite ?_ ?_
    | split
    | extract_lets
    | with_reducible refine Moves.getD (Moves.optFindSome (fun _ => ?_)) ?_
    | with_reducible refine Moves.optMap (fun _ => ?_)
    | with_reducible refine Moves.optSndMapSnd ?_
    | with_reducible refine Moves.optSndMap (fun _ => ?_)
    | with_reducible refine Moves.optBind ?_ (fun _ _ => ?_)
    | with_reducible refine Moves.optOf (fun _ => ?_)
    | (with_reducible refine Moves.foldl ?_ (fun _ _ _ => ?_))
    | (with_reducible refine Moves.foldlFst ?_ (fun _ _ _ => ?_))
    | (with_reducible refine Moves.foldr ?_ (fun _ _ _ => ?_))
    | with_reducible refine Moves.optIte ?_ ?_
    | with_reducible refine Moves.foldlOpt ?_ (fun _ _ _ => ?_)
    | with_reducible refine Moves.optSome ?_
    | with_reducible exact Moves.optNone
    | with_reducible refine Moves.some (by assumption) ?_
    | with_reducible refine Moves.fst (by assumption) ?_
    | with_reducible refine Moves.snd (by assumption) ?_
    | dsimp +zetaDelta only

theorem execWaitUnits_moves {w : Nat} {s u : State} (hw : Within 2570627604827964 w) (h : Moves w s u) (run : Sys2Proof.W32) (r : Sys2Proof.RegionId) :
    Moves.outcome w s (execWaitUnits run r u) := by
  unfold execWaitUnits
  repeat'
    first
    | with_reducible assumption
    | with_reducible exact Moves.fault
    | with_reducible refine Moves.next ?_
    | with_reducible refine State.plateOp_moves (Within.trans (by decide : Within 2570627604827964 2570627604827964) hw) ?_ _ _ _ _ (fun _ _ _ => ?_)
    | with_reducible refine Moves.ite ?_ ?_
    | split
    | extract_lets
    | with_reducible refine Moves.getD (Moves.optFindSome (fun _ => ?_)) ?_
    | with_reducible refine Moves.optMap (fun _ => ?_)
    | with_reducible refine Moves.optSndMapSnd ?_
    | with_reducible refine Moves.optSndMap (fun _ => ?_)
    | with_reducible refine Moves.optBind ?_ (fun _ _ => ?_)
    | with_reducible refine Moves.optOf (fun _ => ?_)
    | (with_reducible refine Moves.foldl ?_ (fun _ _ _ => ?_))
    | (with_reducible refine Moves.foldlFst ?_ (fun _ _ _ => ?_))
    | (with_reducible refine Moves.foldr ?_ (fun _ _ _ => ?_))
    | with_reducible refine Moves.optIte ?_ ?_
    | with_reducible refine Moves.foldlOpt ?_ (fun _ _ _ => ?_)
    | with_reducible refine Moves.optSome ?_
    | with_reducible exact Moves.optNone
    | with_reducible refine Moves.some (by assumption) ?_
    | with_reducible refine Moves.fst (by assumption) ?_
    | with_reducible refine Moves.snd (by assumption) ?_
    | dsimp +zetaDelta only

theorem execReadTime_moves {w : Nat} {s u : State} (hw : Within 2570627604827964 w) (h : Moves w s u) (run : Sys2Proof.W32) (r : Sys2Proof.RegionId) :
    Moves.outcome w s (execReadTime run r u) := by
  unfold execReadTime
  repeat'
    first
    | with_reducible assumption
    | with_reducible exact Moves.fault
    | with_reducible refine Moves.next ?_
    | with_reducible refine State.plateOp_moves (Within.trans (by decide : Within 2570627604827964 2570627604827964) hw) ?_ _ _ _ _ (fun _ _ _ => ?_)
    | with_reducible refine State.runOp_moves (Within.trans (by decide : Within 256 2570627604827964) hw) ?_ _ _ _
    | with_reducible refine Moves.ite ?_ ?_
    | split
    | extract_lets
    | with_reducible refine Moves.getD (Moves.optFindSome (fun _ => ?_)) ?_
    | with_reducible refine Moves.optMap (fun _ => ?_)
    | with_reducible refine Moves.optSndMapSnd ?_
    | with_reducible refine Moves.optSndMap (fun _ => ?_)
    | with_reducible refine Moves.optBind ?_ (fun _ _ => ?_)
    | with_reducible refine Moves.optOf (fun _ => ?_)
    | (with_reducible refine Moves.foldl ?_ (fun _ _ _ => ?_))
    | (with_reducible refine Moves.foldlFst ?_ (fun _ _ _ => ?_))
    | (with_reducible refine Moves.foldr ?_ (fun _ _ _ => ?_))
    | with_reducible refine Moves.optIte ?_ ?_
    | with_reducible refine Moves.foldlOpt ?_ (fun _ _ _ => ?_)
    | with_reducible refine Moves.optSome ?_
    | with_reducible exact Moves.optNone
    | with_reducible refine Moves.some (by assumption) ?_
    | with_reducible refine Moves.fst (by assumption) ?_
    | with_reducible refine Moves.snd (by assumption) ?_
    | dsimp +zetaDelta only

theorem execReadSensor_moves {w : Nat} {s u : State} (hw : Within 2570627604827964 w) (h : Moves w s u) (run : Sys2Proof.W32) (r : Sys2Proof.RegionId) :
    Moves.outcome w s (execReadSensor run r u) := by
  unfold execReadSensor
  repeat'
    first
    | with_reducible assumption
    | with_reducible exact Moves.fault
    | with_reducible refine Moves.next ?_
    | with_reducible refine State.plateOp_moves (Within.trans (by decide : Within 2570627604827964 2570627604827964) hw) ?_ _ _ _ _ (fun _ _ _ => ?_)
    | with_reducible refine State.runOp_moves (Within.trans (by decide : Within 256 2570627604827964) hw) ?_ _ _ _
    | with_reducible refine State.drew_moves (Within.trans (by decide : Within 16777216 2570627604827964) hw) ?_
    | with_reducible refine Moves.ite ?_ ?_
    | split
    | extract_lets
    | with_reducible refine Moves.getD (Moves.optFindSome (fun _ => ?_)) ?_
    | with_reducible refine Moves.optMap (fun _ => ?_)
    | with_reducible refine Moves.optSndMapSnd ?_
    | with_reducible refine Moves.optSndMap (fun _ => ?_)
    | with_reducible refine Moves.optBind ?_ (fun _ _ => ?_)
    | with_reducible refine Moves.optOf (fun _ => ?_)
    | (with_reducible refine Moves.foldl ?_ (fun _ _ _ => ?_))
    | (with_reducible refine Moves.foldlFst ?_ (fun _ _ _ => ?_))
    | (with_reducible refine Moves.foldr ?_ (fun _ _ _ => ?_))
    | with_reducible refine Moves.optIte ?_ ?_
    | with_reducible refine Moves.foldlOpt ?_ (fun _ _ _ => ?_)
    | with_reducible refine Moves.optSome ?_
    | with_reducible exact Moves.optNone
    | with_reducible refine Moves.some (by assumption) ?_
    | with_reducible refine Moves.fst (by assumption) ?_
    | with_reducible refine Moves.snd (by assumption) ?_
    | dsimp +zetaDelta only

end Sys2Proof.Machine
end

