-- ==== Sys2Proof/Laws/MoversMoves.lean ====
section
/-! SUPPORT. Sys2Proof/Laws/MoversMoves.lean: what each operation of Machine/Movers.lean can do to the state: the parts it may change, and that it keeps
the canonical form. -/

namespace Sys2Proof.Machine

theorem State.request_moves {w : Nat} {s u : State} (hw : Within 35218731827212 w) (h : Moves w s u) (x : Op) (write : Bool) (us : List (Nat × Int × List Nat)) (bank : optParam (Option (Nat × Nat)) none) :
    Moves w s (State.request u x write us bank) := by
  unfold State.request
  repeat'
    first
    | with_reducible assumption
    | with_reducible refine State.count_moves (Within.trans (by decide : Within 35184372088844 35218731827212) hw) ?_ _ _ _
    | with_reducible refine State.modMemPort_moves (Within.trans (by decide : Within 34359738368 35218731827212) hw) ?_ _ _ _
    | with_reducible refine Moves.ite ?_ ?_
    | split
    | extract_lets
    | with_reducible refine Moves.getD (Moves.optFindSome (fun _ => ?_)) ?_
    | with_reducible refine Moves.optMap (fun _ => ?_)
    | with_reducible refine Moves.optSndMapSnd ?_
    | with_reducible refine Moves.optSndMap (fun _ => ?_)
    | with_reducible refine Moves.optBind ?_ (fun _ _ => ?_)
    | with_reducible refine Moves.optOf (fun _ => ?_)
    | (with_reducible refine Moves.foldl ?_ (fun _ _ _ => ?_))
    | (with_reducible refine Moves.foldlFst ?_ (fun _ _ _ => ?_))
    | (with_reducible refine Moves.foldr ?_ (fun _ _ _ => ?_))
    | with_reducible refine Moves.optIte ?_ ?_
    | with_reducible refine Moves.foldlOpt ?_ (fun _ _ _ => ?_)
    | with_reducible refine Moves.optSome ?_
    | with_reducible exact Moves.optNone
    | with_reducible refine Moves.some (by assumption) ?_
    | with_reducible refine Moves.fst (by assumption) ?_
    | with_reducible refine Moves.snd (by assumption) ?_
    | dsimp +zetaDelta only

theorem State.storePrint_moves {w : Nat} {s u : State} (hw : Within 35221953052700 w) (h : Moves w s u) (x : Op) (buffer : Nat) (ρ : Option Nat) (token : Option Nat) (i : Nat) :
    Moves w s (State.storePrint u x buffer ρ token i) := by
  unfold State.storePrint
  repeat'
    first
    | with_reducible assumption
    | with_reducible refine State.request_moves (Within.trans (by decide : Within 35218731827212 35221953052700) hw) ?_ _ _ _ _
    | with_reducible refine State.basinWrite_moves (Within.trans (by decide : Within 3221225488 35221953052700) hw) ?_ _ _ _ _ _
    | with_reducible refine Moves.some ‹State.basinWrite _ _ _ _ _ _ = some _› (State.basinWrite_moves (Within.trans (by decide : Within 3221225488 35221953052700) hw) ?_ _ _ _ _ _)
    | with_reducible refine Moves.getD (State.basinWrite_moves (Within.trans (by decide : Within 3221225488 35221953052700) hw) ?_ _ _ _ _ _) ?_
    | with_reducible refine Moves.ite ?_ ?_
    | split
    | extract_lets
    | with_reducible refine Moves.getD (Moves.optFindSome (fun _ => ?_)) ?_
    | with_reducible refine Moves.optMap (fun _ => ?_)
    | with_reducible refine Moves.optSndMapSnd ?_
    | with_reducible refine Moves.optSndMap (fun _ => ?_)
    | with_reducible refine Moves.optBind ?_ (fun _ _ => ?_)
    | with_reducible refine Moves.optOf (fun _ => ?_)
    | (with_reducible refine Moves.foldl ?_ (fun _ _ _ => ?_))
    | (with_reducible refine Moves.foldlFst ?_ (fun _ _ _ => ?_))
    | (with_reducible refine Moves.foldr ?_ (fun _ _ _ => ?_))
    | with_reducible refine Moves.optIte ?_ ?_
    | with_reducible refine Moves.foldlOpt ?_ (fun _ _ _ => ?_)
    | with_reducible refine Moves.optSome ?_
    | with_reducible exact Moves.optNone
    | with_reducible refine Moves.some (by assumption) ?_
    | with_reducible refine Moves.fst (by assumption) ?_
    | with_reducible refine Moves.snd (by assumption) ?_
    | dsimp +zetaDelta only

theorem State.storeRow_moves {w : Nat} {s u : State} (hw : Within 35221953052700 w) (h : Moves w s u) (x : Op) (i : Nat) :
    Moves w s (State.storeRow u x i) := by
  unfold State.storeRow
  repeat'
    first
    | with_reducible assumption
    | with_reducible refine State.request_moves (Within.trans (by decide : Within 35218731827212 35221953052700) hw) ?_ _ _ _ _
    | with_reducible refine State.rowWrite_moves (Within.trans (by decide : Within 3221225488 35221953052700) hw) ?_ _ _ _ _ _
    | with_reducible refine Moves.some ‹State.rowWrite _ _ _ _ _ _ = some _› (State.rowWrite_moves (Within.trans (by decide : Within 3221225488 35221953052700) hw) ?_ _ _ _ _ _)
    | with_reducible refine Moves.getD (State.rowWrite_moves (Within.trans (by decide : Within 3221225488 35221953052700) hw) ?_ _ _ _ _ _) ?_
    | with_reducible refine Moves.ite ?_ ?_
    | split
    | extract_lets
    | with_reducible refine Moves.getD (Moves.optFindSome (fun _ => ?_)) ?_
    | with_reducible refine Moves.optMap (fun _ => ?_)
    | with_reducible refine Moves.optSndMapSnd ?_
    | with_reducible refine Moves.optSndMap (fun _ => ?_)
    | with_reducible refine Moves.optBind ?_ (fun _ _ => ?_)
    | with_reducible refine Moves.optOf (fun _ => ?_)
    | (with_reducible refine Moves.foldl ?_ (fun _ _ _ => ?_))
    | (with_reducible refine Moves.foldlFst ?_ (fun _ _ _ => ?_))
    | (with_reducible refine Moves.foldr ?_ (fun _ _ _ => ?_))
    | with_reducible refine Moves.optIte ?_ ?_
    | with_reducible refine Moves.foldlOpt ?_ (fun _ _ _ => ?_)
    | with_reducible refine Moves.optSome ?_
    | with_reducible exact Moves.optNone
    | with_reducible refine Moves.some (by assumption) ?_
    | with_reducible refine Moves.fst (by assumption) ?_
    | with_reducible refine Moves.snd (by assumption) ?_
    | dsimp +zetaDelta only

theorem State.loadPrint_moves {w : Nat} {s u : State} (hw : Within 35221953052700 w) (h : Moves w s u) (x : Op) (buffer : Nat) (ρ : Option Nat) (token : Option Nat) (i : Nat) :
    Moves w s (State.loadPrint u x buffer ρ token i) := by
  unfold State.loadPrint
  repeat'
    first
    | with_reducible assumption
    | with_reducible refine State.writeCtx_moves (Within.trans (by decide : Within 3221225488 35221953052700) hw) ?_ _ _ _ _
    | with_reducible refine Moves.some ‹State.writeCtx _ _ _ _ _ = some _› (State.writeCtx_moves (Within.trans (by decide : Within 3221225488 35221953052700) hw) ?_ _ _ _ _)
    | with_reducible refine Moves.getD (State.writeCtx_moves (Within.trans (by decide : Within 3221225488 35221953052700) hw) ?_ _ _ _ _) ?_
    | with_reducible refine State.request_moves (Within.trans (by decide : Within 35218731827212 35221953052700) hw) ?_ _ _ _ _
    | with_reducible refine Moves.ite ?_ ?_
    | split
    | extract_lets
    | with_reducible refine Moves.getD (Moves.optFindSome (fun _ => ?_)) ?_
    | with_reducible refine Moves.optMap (fun _ => ?_)
    | with_reducible refine Moves.optSndMapSnd ?_
    | with_reducible refine Moves.optSndMap (fun _ => ?_)
    | with_reducible refine Moves.optBind ?_ (fun _ _ => ?_)
    | with_reducible refine Moves.optOf (fun _ => ?_)
    | (with_reducible refine Moves.foldl ?_ (fun _ _ _ => ?_))
    | (with_reducible refine Moves.foldlFst ?_ (fun _ _ _ => ?_))
    | (with_reducible refine Moves.foldr ?_ (fun _ _ _ => ?_))
    | with_reducible refine Moves.optIte ?_ ?_
    | with_reducible refine Moves.foldlOpt ?_ (fun _ _ _ => ?_)
    | with_reducible refine Moves.optSome ?_
    | with_reducible exact Moves.optNone
    | with_reducible refine Moves.some (by assumption) ?_
    | with_reducible refine Moves.fst (by assumption) ?_
    | with_reducible refine Moves.snd (by assumption) ?_
    | dsimp +zetaDelta only

theorem State.loadRow_moves {w : Nat} {s u : State} (hw : Within 35221953052700 w) (h : Moves w s u) (x : Op) (i : Nat) :
    Moves w s (State.loadRow u x i) := by
  unfold State.loadRow
  repeat'
    first
    | with_reducible assumption
    | with_reducible refine State.request_moves (Within.trans (by decide : Within 35218731827212 35221953052700) hw) ?_ _ _ _ _
    | with_reducible refine State.setRowToken_moves (Within.trans (by decide : Within 3221225488 35221953052700) hw) ?_ _ _ _ _ _
    | with_reducible refine State.rowWrite_moves (Within.trans (by decide : Within 3221225488 35221953052700) hw) ?_ _ _ _ _ _
    | with_reducible refine Moves.some ‹State.rowWrite _ _ _ _ _ _ = some _› (State.rowWrite_moves (Within.trans (by decide : Within 3221225488 35221953052700) hw) ?_ _ _ _ _ _)
    | with_reducible refine Moves.getD (State.rowWrite_moves (Within.trans (by decide : Within 3221225488 35221953052700) hw) ?_ _ _ _ _ _) ?_
    | with_reducible refine Moves.ite ?_ ?_
    | split
    | extract_lets
    | with_reducible refine Moves.getD (Moves.optFindSome (fun _ => ?_)) ?_
    | with_reducible refine Moves.optMap (fun _ => ?_)
    | with_reducible refine Moves.optSndMapSnd ?_
    | with_reducible refine Moves.optSndMap (fun _ => ?_)
    | with_reducible refine Moves.optBind ?_ (fun _ _ => ?_)
    | with_reducible refine Moves.optOf (fun _ => ?_)
    | (with_reducible refine Moves.foldl ?_ (fun _ _ _ => ?_))
    | (with_reducible refine Moves.foldlFst ?_ (fun _ _ _ => ?_))
    | (with_reducible refine Moves.foldr ?_ (fun _ _ _ => ?_))
    | with_reducible refine Moves.optIte ?_ ?_
    | with_reducible refine Moves.foldlOpt ?_ (fun _ _ _ => ?_)
    | with_reducible refine Moves.optSome ?_
    | with_reducible exact Moves.optNone
    | with_reducible refine Moves.some (by assumption) ?_
    | with_reducible refine Moves.fst (by assumption) ?_
    | with_reducible refine Moves.snd (by assumption) ?_
    | dsimp +zetaDelta only

theorem State.loadRows_moves {w : Nat} {s u : State} (hw : Within 35221953052956 w) (h : Moves w s u) (x : Op) :
    Moves w s (State.loadRows u x) := by
  unfold State.loadRows
  repeat'
    first
    | with_reducible assumption
    | with_reducible refine State.modRR_moves (Within.trans (by decide : Within 256 35221953052956) hw) ?_ _ _ _
    | with_reducible refine State.loadRow_moves (Within.trans (by decide : Within 35221953052700 35221953052956) hw) ?_ _ _
    | with_reducible refine Moves.ite ?_ ?_
    | split
    | extract_lets
    | with_reducible refine Moves.getD (Moves.optFindSome (fun _ => ?_)) ?_
    | with_reducible refine Moves.optMap (fun _ => ?_)
    | with_reducible refine Moves.optSndMapSnd ?_
    | with_reducible refine Moves.optSndMap (fun _ => ?_)
    | with_reducible refine Moves.optBind ?_ (fun _ _ => ?_)
    | with_reducible refine Moves.optOf (fun _ => ?_)
    | (with_reducible refine Moves.foldl ?_ (fun _ _ _ => ?_))
    | (with_reducible refine Moves.foldlFst ?_ (fun _ _ _ => ?_))
    | (with_reducible refine Moves.foldr ?_ (fun _ _ _ => ?_))
    | with_reducible refine Moves.optIte ?_ ?_
    | with_reducible refine Moves.foldlOpt ?_ (fun _ _ _ => ?_)
    | with_reducible refine Moves.optSome ?_
    | with_reducible exact Moves.optNone
    | with_reducible refine Moves.some (by assumption) ?_
    | with_reducible refine Moves.fst (by assumption) ?_
    | with_reducible refine Moves.snd (by assumption) ?_
    | dsimp +zetaDelta only

theorem State.rowLoad_moves {w : Nat} {s u : State} (hw : Within 35221953052956 w) (h : Moves w s u) (x : Op) :
    Moves w s (State.rowLoad u x) := by
  unfold State.rowLoad
  repeat'
    first
    | with_reducible assumption
    | with_reducible refine State.runOp_moves (Within.trans (by decide : Within 256 35221953052956) hw) ?_ _ _ _
    | with_reducible refine State.haltOp_moves (Within.trans (by decide : Within 35184372089100 35221953052956) hw) ?_ _ _
    | with_reducible refine State.loadPrint_moves (Within.trans (by decide : Within 35221953052700 35221953052956) hw) ?_ _ _ _ _ _
    | with_reducible refine State.loadRows_moves (Within.trans (by decide : Within 35221953052956 35221953052956) hw) ?_ _
    | with_reducible refine Moves.ite ?_ ?_
    | split
    | extract_lets
    | with_reducible refine Moves.getD (Moves.optFindSome (fun _ => ?_)) ?_
    | with_reducible refine Moves.optMap (fun _ => ?_)
    | with_reducible refine Moves.optSndMapSnd ?_
    | with_reducible refine Moves.optSndMap (fun _ => ?_)
    | with_reducible refine Moves.optBind ?_ (fun _ _ => ?_)
    | with_reducible refine Moves.optOf (fun _ => ?_)
    | (with_reducible refine Moves.foldl ?_ (fun _ _ _ => ?_))
    | (with_reducible refine Moves.foldlFst ?_ (fun _ _ _ => ?_))
    | (with_reducible refine Moves.foldr ?_ (fun _ _ _ => ?_))
    | with_reducible refine Moves.optIte ?_ ?_
    | with_reducible refine Moves.foldlOpt ?_ (fun _ _ _ => ?_)
    | with_reducible refine Moves.optSome ?_
    | with_reducible exact Moves.optNone
    | with_reducible refine Moves.some (by assumption) ?_
    | with_reducible refine Moves.fst (by assumption) ?_
    | with_reducible refine Moves.snd (by assumption) ?_
    | dsimp +zetaDelta only

theorem execRowLoad_moves {w : Nat} {s u : State} (hw : Within 2570627604827964 w) (h : Moves w s u) (run : Sys2Proof.W32) (r : Sys2Proof.RegionId) (g : Sys2Proof.CellGroupId) :
    Moves.outcome w s (execRowLoad run r g u) := by
  unfold execRowLoad
  repeat'
    first
    | with_reducible assumption
    | with_reducible exact Moves.fault
    | with_reducible refine Moves.next ?_
    | with_reducible refine State.plateOp_moves (Within.trans (by decide : Within 2570627604827964 2570627604827964) hw) ?_ _ _ _ _ (fun _ _ _ => ?_)
    | with_reducible refine State.rowLoad_moves (Within.trans (by decide : Within 35221953052956 2570627604827964) hw) ?_ _
    | with_reducible refine Moves.ite ?_ ?_
    | split
    | extract_lets
    | with_reducible refine Moves.getD (Moves.optFindSome (fun _ => ?_)) ?_
    | with_reducible refine Moves.optMap (fun _ => ?_)
    | with_reducible refine Moves.optSndMapSnd ?_
    | with_reducible refine Moves.optSndMap (fun _ => ?_)
    | with_reducible refine Moves.optBind ?_ (fun _ _ => ?_)
    | with_reducible refine Moves.optOf (fun _ => ?_)
    | (with_reducible refine Moves.foldl ?_ (fun _ _ _ => ?_))
    | (with_reducible refine Moves.foldlFst ?_ (fun _ _ _ => ?_))
    | (with_reducible refine Moves.foldr ?_ (fun _ _ _ => ?_))
    | with_reducible refine Moves.optIte ?_ ?_
    | with_reducible refine Moves.foldlOpt ?_ (fun _ _ _ => ?_)
    | with_reducible refine Moves.optSome ?_
    | with_reducible exact Moves.optNone
    | with_reducible refine Moves.some (by assumption) ?_
    | with_reducible refine Moves.fst (by assumption) ?_
    | with_reducible refine Moves.snd (by assumption) ?_
    | dsimp +zetaDelta only

theorem State.rowStore_moves {w : Nat} {s u : State} (hw : Within 35221953052956 w) (h : Moves w s u) (x : Op) :
    Moves w s (State.rowStore u x) := by
  unfold State.rowStore
  repeat'
    first
    | with_reducible assumption
    | with_reducible refine State.haltOp_moves (Within.trans (by decide : Within 35184372089100 35221953052956) hw) ?_ _ _
    | with_reducible refine State.runOp_moves (Within.trans (by decide : Within 256 35221953052956) hw) ?_ _ _ _
    | with_reducible refine State.storePrint_moves (Within.trans (by decide : Within 35221953052700 35221953052956) hw) ?_ _ _ _ _ _
    | with_reducible refine State.storeRow_moves (Within.trans (by decide : Within 35221953052700 35221953052956) hw) ?_ _ _
    | with_reducible refine Moves.ite ?_ ?_
    | split
    | extract_lets
    | with_reducible refine Moves.getD (Moves.optFindSome (fun _ => ?_)) ?_
    | with_reducible refine Moves.optMap (fun _ => ?_)
    | with_reducible refine Moves.optSndMapSnd ?_
    | with_reducible refine Moves.optSndMap (fun _ => ?_)
    | with_reducible refine Moves.optBind ?_ (fun _ _ => ?_)
    | with_reducible refine Moves.optOf (fun _ => ?_)
    | (with_reducible refine Moves.foldl ?_ (fun _ _ _ => ?_))
    | (with_reducible refine Moves.foldlFst ?_ (fun _ _ _ => ?_))
    | (with_reducible refine Moves.foldr ?_ (fun _ _ _ => ?_))
    | with_reducible refine Moves.optIte ?_ ?_
    | with_reducible refine Moves.foldlOpt ?_ (fun _ _ _ => ?_)
    | with_reducible refine Moves.optSome ?_
    | with_reducible exact Moves.optNone
    | with_reducible refine Moves.some (by assumption) ?_
    | with_reducible refine Moves.fst (by assumption) ?_
    | with_reducible refine Moves.snd (by assumption) ?_
    | dsimp +zetaDelta only

theorem execRowStore_moves {w : Nat} {s u : State} (hw : Within 2570627604827964 w) (h : Moves w s u) (run : Sys2Proof.W32) (r : Sys2Proof.RegionId) (g : Sys2Proof.CellGroupId) :
    Moves.outcome w s (execRowStore run r g u) := by
  unfold execRowStore
  repeat'
    first
    | with_reducible assumption
    | with_reducible exact Moves.fault
    | with_reducible refine Moves.next ?_
    | with_reducible refine State.plateOp_moves (Within.trans (by decide : Within 2570627604827964 2570627604827964) hw) ?_ _ _ _ _ (fun _ _ _ => ?_)
    | with_reducible refine State.rowStore_moves (Within.trans (by decide : Within 35221953052956 2570627604827964) hw) ?_ _
    | with_reducible refine Moves.ite ?_ ?_
    | split
    | extract_lets
    | with_reducible refine Moves.getD (Moves.optFindSome (fun _ => ?_)) ?_
    | with_reducible refine Moves.optMap (fun _ => ?_)
    | with_reducible refine Moves.optSndMapSnd ?_
    | with_reducible refine Moves.optSndMap (fun _ => ?_)
    | with_reducible refine Moves.optBind ?_ (fun _ _ => ?_)
    | with_reducible refine Moves.optOf (fun _ => ?_)
    | (with_reducible refine Moves.foldl ?_ (fun _ _ _ => ?_))
    | (with_reducible refine Moves.foldlFst ?_ (fun _ _ _ => ?_))
    | (with_reducible refine Moves.foldr ?_ (fun _ _ _ => ?_))
    | with_reducible refine Moves.optIte ?_ ?_
    | with_reducible refine Moves.foldlOpt ?_ (fun _ _ _ => ?_)
    | with_reducible refine Moves.optSome ?_
    | with_reducible exact Moves.optNone
    | with_reducible refine Moves.some (by assumption) ?_
    | with_reducible refine Moves.fst (by assumption) ?_
    | with_reducible refine Moves.snd (by assumption) ?_
    | dsimp +zetaDelta only

end Sys2Proof.Machine
end

