-- ==== Sys2Proof/Laws/ScoringMoves.lean ====
section
/-! SUPPORT. Sys2Proof/Laws/ScoringMoves.lean: what each operation of Machine/Scoring.lean can do to the state: the parts it may change, and that it keeps
the canonical form. -/

namespace Sys2Proof.Machine

theorem State.putAt_moves {w : Nat} {s u : State} (hw : Within 3221225488 w) (h : Moves w s u) (x : Op) (e : Nat) (off : Nat) (bs : Sys2Proof.Bytes) :
    Moves w s (State.putAt u x e off bs) := by
  unfold State.putAt
  repeat'
    first
    | with_reducible assumption
    | with_reducible refine State.writeCtx_moves (Within.trans (by decide : Within 3221225488 3221225488) hw) ?_ _ _ _ _
    | with_reducible refine Moves.some ‹State.writeCtx _ _ _ _ _ = some _› (State.writeCtx_moves (Within.trans (by decide : Within 3221225488 3221225488) hw) ?_ _ _ _ _)
    | with_reducible refine Moves.getD (State.writeCtx_moves (Within.trans (by decide : Within 3221225488 3221225488) hw) ?_ _ _ _ _) ?_
    | with_reducible refine Moves.ite ?_ ?_
    | split
    | extract_lets
    | with_reducible refine Moves.getD (Moves.optFindSome (fun _ => ?_)) ?_
    | with_reducible refine Moves.optMap (fun _ => ?_)
    | with_reducible refine Moves.optSndMapSnd ?_
    | with_reducible refine Moves.optSndMap (fun _ => ?_)
    | with_reducible refine Moves.optBind ?_ (fun _ _ => ?_)
    | with_reducible refine Moves.optOf (fun _ => ?_)
    | (with_reducible refine Moves.foldl ?_ (fun _ _ _ => ?_))
    | (with_reducible refine Moves.foldlFst ?_ (fun _ _ _ => ?_))
    | (with_reducible refine Moves.foldr ?_ (fun _ _ _ => ?_))
    | with_reducible refine Moves.optIte ?_ ?_
    | with_reducible refine Moves.foldlOpt ?_ (fun _ _ _ => ?_)
    | with_reducible refine Moves.optSome ?_
    | with_reducible exact Moves.optNone
    | with_reducible refine Moves.some (by assumption) ?_
    | with_reducible refine Moves.fst (by assumption) ?_
    | with_reducible refine Moves.snd (by assumption) ?_
    | dsimp +zetaDelta only

theorem State.extTileIn_moves {w : Nat} {s u : State} (hw : Within 35184372089100 w) (h : Moves w s u) (x : Op) :
    Moves w s (State.extTileIn u x) := by
  unfold State.extTileIn
  repeat'
    first
    | with_reducible assumption
    | with_reducible refine State.haltOp_moves (Within.trans (by decide : Within 35184372089100 35184372089100) hw) ?_ _ _
    | with_reducible refine State.modRR_moves (Within.trans (by decide : Within 256 35184372089100) hw) ?_ _ _ _
    | with_reducible refine State.startOp_moves (Within.trans (by decide : Within 256 35184372089100) hw) ?_ _ _ _ _ _
    | with_reducible refine Moves.ite ?_ ?_
    | split
    | extract_lets
    | with_reducible refine Moves.getD (Moves.optFindSome (fun _ => ?_)) ?_
    | with_reducible refine Moves.optMap (fun _ => ?_)
    | with_reducible refine Moves.optSndMapSnd ?_
    | with_reducible refine Moves.optSndMap (fun _ => ?_)
    | with_reducible refine Moves.optBind ?_ (fun _ _ => ?_)
    | with_reducible refine Moves.optOf (fun _ => ?_)
    | (with_reducible refine Moves.foldl ?_ (fun _ _ _ => ?_))
    | (with_reducible refine Moves.foldlFst ?_ (fun _ _ _ => ?_))
    | (with_reducible refine Moves.foldr ?_ (fun _ _ _ => ?_))
    | with_reducible refine Moves.optIte ?_ ?_
    | with_reducible refine Moves.foldlOpt ?_ (fun _ _ _ => ?_)
    | with_reducible refine Moves.optSome ?_
    | with_reducible exact Moves.optNone
    | with_reducible refine Moves.some (by assumption) ?_
    | with_reducible refine Moves.fst (by assumption) ?_
    | with_reducible refine Moves.snd (by assumption) ?_
    | dsimp +zetaDelta only

theorem execExtTileIn_moves {w : Nat} {s u : State} (hw : Within 2570627604827964 w) (h : Moves w s u) (run : Sys2Proof.W32) (r : Sys2Proof.RegionId) :
    Moves.outcome w s (execExtTileIn run r u) := by
  unfold execExtTileIn
  repeat'
    first
    | with_reducible assumption
    | with_reducible exact Moves.fault
    | with_reducible refine Moves.next ?_
    | with_reducible refine State.plateOp_moves (Within.trans (by decide : Within 2570627604827964 2570627604827964) hw) ?_ _ _ _ _ (fun _ _ _ => ?_)
    | with_reducible refine State.extTileIn_moves (Within.trans (by decide : Within 35184372089100 2570627604827964) hw) ?_ _
    | with_reducible refine Moves.ite ?_ ?_
    | split
    | extract_lets
    | with_reducible refine Moves.getD (Moves.optFindSome (fun _ => ?_)) ?_
    | with_reducible refine Moves.optMap (fun _ => ?_)
    | with_reducible refine Moves.optSndMapSnd ?_
    | with_reducible refine Moves.optSndMap (fun _ => ?_)
    | with_reducible refine Moves.optBind ?_ (fun _ _ => ?_)
    | with_reducible refine Moves.optOf (fun _ => ?_)
    | (with_reducible refine Moves.foldl ?_ (fun _ _ _ => ?_))
    | (with_reducible refine Moves.foldlFst ?_ (fun _ _ _ => ?_))
    | (with_reducible refine Moves.foldr ?_ (fun _ _ _ => ?_))
    | with_reducible refine Moves.optIte ?_ ?_
    | with_reducible refine Moves.foldlOpt ?_ (fun _ _ _ => ?_)
    | with_reducible refine Moves.optSome ?_
    | with_reducible exact Moves.optNone
    | with_reducible refine Moves.some (by assumption) ?_
    | with_reducible refine Moves.fst (by assumption) ?_
    | with_reducible refine Moves.snd (by assumption) ?_
    | dsimp +zetaDelta only

theorem State.badTag_moves {w : Nat} {s u : State} (hw : Within 35184372088844 w) (h : Moves w s u) (r : Nat) :
    Moves w s (State.badTag u r) := by
  unfold State.badTag
  repeat'
    first
    | with_reducible assumption
    | with_reducible refine State.bumpF_moves (Within.trans (by decide : Within 12 35184372088844) hw) ?_ _ _ _
    | with_reducible refine State.contain_moves (Within.trans (by decide : Within 35184372088844 35184372088844) hw) ?_ _ _
    | with_reducible refine Moves.ite ?_ ?_
    | split
    | extract_lets
    | with_reducible refine Moves.getD (Moves.optFindSome (fun _ => ?_)) ?_
    | with_reducible refine Moves.optMap (fun _ => ?_)
    | with_reducible refine Moves.optSndMapSnd ?_
    | with_reducible refine Moves.optSndMap (fun _ => ?_)
    | with_reducible refine Moves.optBind ?_ (fun _ _ => ?_)
    | with_reducible refine Moves.optOf (fun _ => ?_)
    | (with_reducible refine Moves.foldl ?_ (fun _ _ _ => ?_))
    | (with_reducible refine Moves.foldlFst ?_ (fun _ _ _ => ?_))
    | (with_reducible refine Moves.foldr ?_ (fun _ _ _ => ?_))
    | with_reducible refine Moves.optIte ?_ ?_
    | with_reducible refine Moves.foldlOpt ?_ (fun _ _ _ => ?_)
    | with_reducible refine Moves.optSome ?_
    | with_reducible exact Moves.optNone
    | with_reducible refine Moves.some (by assumption) ?_
    | with_reducible refine Moves.fst (by assumption) ?_
    | with_reducible refine Moves.snd (by assumption) ?_
    | dsimp +zetaDelta only

theorem State.stopOp_moves {w : Nat} {s u : State} (hw : Within 37314675885324 w) (h : Moves w s u) (seq : Sys2Proof.W32) (r : Nat) (b : Busy) (o : SlotOp) (code : Nat) (tc : Nat) :
    Moves w s (State.stopOp u seq r b o code tc) := by
  unfold State.stopOp
  repeat'
    first
    | with_reducible assumption
    | with_reducible refine State.halt_moves (Within.trans (by decide : Within 37314675885324 37314675885324) hw) ?_ _ _ _ _ _ _
    | with_reducible refine State.modRR_moves (Within.trans (by decide : Within 256 37314675885324) hw) ?_ _ _ _
    | with_reducible refine Moves.ite ?_ ?_
    | split
    | extract_lets
    | with_reducible refine Moves.getD (Moves.optFindSome (fun _ => ?_)) ?_
    | with_reducible refine Moves.optMap (fun _ => ?_)
    | with_reducible refine Moves.optSndMapSnd ?_
    | with_reducible refine Moves.optSndMap (fun _ => ?_)
    | with_reducible refine Moves.optBind ?_ (fun _ _ => ?_)
    | with_reducible refine Moves.optOf (fun _ => ?_)
    | (with_reducible refine Moves.foldl ?_ (fun _ _ _ => ?_))
    | (with_reducible refine Moves.foldlFst ?_ (fun _ _ _ => ?_))
    | (with_reducible refine Moves.foldr ?_ (fun _ _ _ => ?_))
    | with_reducible refine Moves.optIte ?_ ?_
    | with_reducible refine Moves.foldlOpt ?_ (fun _ _ _ => ?_)
    | with_reducible refine Moves.optSome ?_
    | with_reducible exact Moves.optNone
    | with_reducible refine Moves.some (by assumption) ?_
    | with_reducible refine Moves.fst (by assumption) ?_
    | with_reducible refine Moves.snd (by assumption) ?_
    | dsimp +zetaDelta only

theorem State.extLate_moves {w : Nat} {s u : State} (hw : Within 2570590003938572 w) (h : Moves w s u) (seq : Sys2Proof.W32) (r : Nat) (g : RegionRun) (b : Busy) :
    Moves w s (State.extLate u seq r g b) := by
  unfold State.extLate
  repeat'
    first
    | with_reducible assumption
    | with_reducible refine State.stopOp_moves (Within.trans (by decide : Within 37314675885324 2570590003938572) hw) ?_ _ _ _ _ _ _
    | with_reducible refine State.contain_moves (Within.trans (by decide : Within 35184372088844 2570590003938572) hw) ?_ _ _
    | with_reducible refine State.reach_moves (Within.trans (by decide : Within 2568459700142092 2570590003938572) hw) ?_ _ _
    | with_reducible refine Moves.ite ?_ ?_
    | split
    | extract_lets
    | with_reducible refine Moves.getD (Moves.optFindSome (fun _ => ?_)) ?_
    | with_reducible refine Moves.optMap (fun _ => ?_)
    | with_reducible refine Moves.optSndMapSnd ?_
    | with_reducible refine Moves.optSndMap (fun _ => ?_)
    | with_reducible refine Moves.optBind ?_ (fun _ _ => ?_)
    | with_reducible refine Moves.optOf (fun _ => ?_)
    | (with_reducible refine Moves.foldl ?_ (fun _ _ _ => ?_))
    | (with_reducible refine Moves.foldlFst ?_ (fun _ _ _ => ?_))
    | (with_reducible refine Moves.foldr ?_ (fun _ _ _ => ?_))
    | with_reducible refine Moves.optIte ?_ ?_
    | with_reducible refine Moves.foldlOpt ?_ (fun _ _ _ => ?_)
    | with_reducible refine Moves.optSome ?_
    | with_reducible exact Moves.optNone
    | with_reducible refine Moves.some (by assumption) ?_
    | with_reducible refine Moves.fst (by assumption) ?_
    | with_reducible refine Moves.snd (by assumption) ?_
    | dsimp +zetaDelta only

theorem State.markBad_moves {w : Nat} {s u : State} (hw : Within 2147483648 w) (h : Moves w s u) (w' : Tab (BitVec 128)) (r : Nat) (a : Nat) (bad : List Nat) :
    Moves w s (State.markBad u w' r a bad) := by
  unfold State.markBad
  repeat'
    first
    | with_reducible assumption
    | with_reducible refine Moves.ite ?_ ?_
    | split
    | extract_lets
    | with_reducible refine Moves.getD (Moves.optFindSome (fun _ => ?_)) ?_
    | with_reducible refine Moves.optMap (fun _ => ?_)
    | with_reducible refine Moves.optSndMapSnd ?_
    | with_reducible refine Moves.optSndMap (fun _ => ?_)
    | with_reducible refine Moves.optBind ?_ (fun _ _ => ?_)
    | with_reducible refine Moves.optOf (fun _ => ?_)
    | (with_reducible refine Moves.foldl ?_ (fun _ _ _ => ?_))
    | (with_reducible refine Moves.foldlFst ?_ (fun _ _ _ => ?_))
    | (with_reducible refine Moves.foldr ?_ (fun _ _ _ => ?_))
    | with_reducible refine Moves.optIte ?_ ?_
    | with_reducible refine Moves.foldlOpt ?_ (fun _ _ _ => ?_)
    | with_reducible refine Moves.optSome ?_
    | with_reducible exact Moves.optNone
    | with_reducible refine Moves.some (by assumption) ?_
    | with_reducible refine Moves.fst (by assumption) ?_
    | with_reducible refine Moves.snd (by assumption) ?_
    | dsimp +zetaDelta only
    | with_reducible refine State.modRegion_moves ?_ (fun _ => ?_)
    | with_reducible refine RM.ite ?_ ?_
    | with_reducible exact RM.refl _ _
    | exact ⟨.same, ⟨.of hw (by decide), .rfl, .rfl, .rfl, .rfl⟩, .same, .same, .same, .rfl, id⟩

theorem State.extBlock_moves {w : Nat} {s u : State} (hw : Within 3133543178585372 w) (h : Moves w s u) (r : Nat) (tag : Nat) (units : Sys2Proof.Bytes) (par : Sys2Proof.TilePar) :
    Moves w s (State.extBlock u r tag units par) := by
  unfold State.extBlock
  repeat'
    first
    | with_reducible assumption
    | with_reducible refine State.badTag_moves (Within.trans (by decide : Within 35184372088844 3133543178585372) hw) ?_ _
    | with_reducible refine State.extLate_moves (Within.trans (by decide : Within 2570590003938572 3133543178585372) hw) ?_ _ _ _ _
    | with_reducible refine State.stopOp_moves (Within.trans (by decide : Within 37314675885324 3133543178585372) hw) ?_ _ _ _ _ _ _
    | with_reducible refine State.contain_moves (Within.trans (by decide : Within 35184372088844 3133543178585372) hw) ?_ _ _
    | with_reducible refine State.stallFrom_moves (Within.trans (by decide : Within 3131959409377548 3133543178585372) hw) ?_ _ _ _ _
    | with_reducible refine State.bumpF_moves (Within.trans (by decide : Within 12 3133543178585372) hw) ?_ _ _ _
    | with_reducible refine State.markBad_moves (Within.trans (by decide : Within 2147483648 3133543178585372) hw) ?_ _ _ _ _
    | with_reducible refine State.putAt_moves (Within.trans (by decide : Within 3221225488 3133543178585372) hw) ?_ _ _ _ _
    | with_reducible refine State.modRR_moves (Within.trans (by decide : Within 256 3133543178585372) hw) ?_ _ _ _
    | with_reducible refine Moves.ite ?_ ?_
    | split
    | extract_lets
    | with_reducible refine Moves.getD (Moves.optFindSome (fun _ => ?_)) ?_
    | with_reducible refine Moves.optMap (fun _ => ?_)
    | with_reducible refine Moves.optSndMapSnd ?_
    | with_reducible refine Moves.optSndMap (fun _ => ?_)
    | with_reducible refine Moves.optBind ?_ (fun _ _ => ?_)
    | with_reducible refine Moves.optOf (fun _ => ?_)
    | (with_reducible refine Moves.foldl ?_ (fun _ _ _ => ?_))
    | (with_reducible refine Moves.foldlFst ?_ (fun _ _ _ => ?_))
    | (with_reducible refine Moves.foldr ?_ (fun _ _ _ => ?_))
    | with_reducible refine Moves.optIte ?_ ?_
    | with_reducible refine Moves.foldlOpt ?_ (fun _ _ _ => ?_)
    | with_reducible refine Moves.optSome ?_
    | with_reducible exact Moves.optNone
    | with_reducible refine Moves.some (by assumption) ?_
    | with_reducible refine Moves.fst (by assumption) ?_
    | with_reducible refine Moves.snd (by assumption) ?_
    | dsimp +zetaDelta only
    | with_reducible refine State.modRegion_moves ?_ (fun _ => ?_)
    | with_reducible refine RM.ite ?_ ?_
    | with_reducible exact RM.refl _ _
    | exact ⟨.same, .same, .same, .same, .same, .of hw (by decide), id⟩

theorem execExtScoreBlock_moves {w : Nat} {s u : State} (hw : Within 3133543178585372 w) (h : Moves w s u) (r : Sys2Proof.RegionId) (tag : Sys2Proof.W64) (units : Sys2Proof.Bytes) (par : Sys2Proof.TilePar) :
    Moves.outcome w s (execExtScoreBlock r tag units par u) := by
  unfold execExtScoreBlock
  repeat'
    first
    | with_reducible assumption
    | with_reducible exact Moves.fault
    | with_reducible refine Moves.next ?_
    | with_reducible refine State.extBlock_moves (Within.trans (by decide : Within 3133543178585372 3133543178585372) hw) ?_ _ _ _ _
    | with_reducible refine Moves.ite ?_ ?_
    | split
    | extract_lets
    | with_reducible refine Moves.getD (Moves.optFindSome (fun _ => ?_)) ?_
    | with_reducible refine Moves.optMap (fun _ => ?_)
    | with_reducible refine Moves.optSndMapSnd ?_
    | with_reducible refine Moves.optSndMap (fun _ => ?_)
    | with_reducible refine Moves.optBind ?_ (fun _ _ => ?_)
    | with_reducible refine Moves.optOf (fun _ => ?_)
    | (with_reducible refine Moves.foldl ?_ (fun _ _ _ => ?_))
    | (with_reducible refine Moves.foldlFst ?_ (fun _ _ _ => ?_))
    | (with_reducible refine Moves.foldr ?_ (fun _ _ _ => ?_))
    | with_reducible refine Moves.optIte ?_ ?_
    | with_reducible refine Moves.foldlOpt ?_ (fun _ _ _ => ?_)
    | with_reducible refine Moves.optSome ?_
    | with_reducible exact Moves.optNone
    | with_reducible refine Moves.some (by assumption) ?_
    | with_reducible refine Moves.fst (by assumption) ?_
    | with_reducible refine Moves.snd (by assumption) ?_
    | dsimp +zetaDelta only

theorem State.extTimeout_moves {w : Nat} {s u : State} (hw : Within 2570590003938572 w) (h : Moves w s u) (seq : Sys2Proof.W32) (r : Nat) :
    Moves w s (State.extTimeout u seq r) := by
  unfold State.extTimeout
  repeat'
    first
    | with_reducible assumption
    | with_reducible refine State.extLate_moves (Within.trans (by decide : Within 2570590003938572 2570590003938572) hw) ?_ _ _ _ _
    | with_reducible refine Moves.ite ?_ ?_
    | split
    | extract_lets
    | with_reducible refine Moves.getD (Moves.optFindSome (fun _ => ?_)) ?_
    | with_reducible refine Moves.optMap (fun _ => ?_)
    | with_reducible refine Moves.optSndMapSnd ?_
    | with_reducible refine Moves.optSndMap (fun _ => ?_)
    | with_reducible refine Moves.optBind ?_ (fun _ _ => ?_)
    | with_reducible refine Moves.optOf (fun _ => ?_)
    | (with_reducible refine Moves.foldl ?_ (fun _ _ _ => ?_))
    | (with_reducible refine Moves.foldlFst ?_ (fun _ _ _ => ?_))
    | (with_reducible refine Moves.foldr ?_ (fun _ _ _ => ?_))
    | with_reducible refine Moves.optIte ?_ ?_
    | with_reducible refine Moves.foldlOpt ?_ (fun _ _ _ => ?_)
    | with_reducible refine Moves.optSome ?_
    | with_reducible exact Moves.optNone
    | with_reducible refine Moves.some (by assumption) ?_
    | with_reducible refine Moves.fst (by assumption) ?_
    | with_reducible refine Moves.snd (by assumption) ?_
    | dsimp +zetaDelta only

theorem execExtTileTimeout_moves {w : Nat} {s u : State} (hw : Within 2570590003938572 w) (h : Moves w s u) (run : Sys2Proof.W32) (r : Sys2Proof.RegionId) :
    Moves.outcome w s (execExtTileTimeout run r u) := by
  unfold execExtTileTimeout
  repeat'
    first
    | with_reducible assumption
    | with_reducible exact Moves.fault
    | with_reducible refine Moves.next ?_
    | with_reducible refine State.extTimeout_moves (Within.trans (by decide : Within 2570590003938572 2570590003938572) hw) ?_ _ _
    | with_reducible refine Moves.ite ?_ ?_
    | split
    | extract_lets
    | with_reducible refine Moves.getD (Moves.optFindSome (fun _ => ?_)) ?_
    | with_reducible refine Moves.optMap (fun _ => ?_)
    | with_reducible refine Moves.optSndMapSnd ?_
    | with_reducible refine Moves.optSndMap (fun _ => ?_)
    | with_reducible refine Moves.optBind ?_ (fun _ _ => ?_)
    | with_reducible refine Moves.optOf (fun _ => ?_)
    | (with_reducible refine Moves.foldl ?_ (fun _ _ _ => ?_))
    | (with_reducible refine Moves.foldlFst ?_ (fun _ _ _ => ?_))
    | (with_reducible refine Moves.foldr ?_ (fun _ _ _ => ?_))
    | with_reducible refine Moves.optIte ?_ ?_
    | with_reducible refine Moves.foldlOpt ?_ (fun _ _ _ => ?_)
    | with_reducible refine Moves.optSome ?_
    | with_reducible exact Moves.optNone
    | with_reducible refine Moves.some (by assumption) ?_
    | with_reducible refine Moves.fst (by assumption) ?_
    | with_reducible refine Moves.snd (by assumption) ?_
    | dsimp +zetaDelta only

theorem State.arrayFault_moves {w : Nat} {s u : State} (hw : Within 247633875586876 w) (h : Moves w s u) (x : Op) (bad : Sys2Proof.ArrayBad) :
    Moves w s (State.arrayFault u x bad) := by
  unfold State.arrayFault
  repeat'
    first
    | with_reducible assumption
    | with_reducible refine State.setF_moves (Within.trans (by decide : Within 4 247633875586876) hw) ?_ _ _ _
    | with_reducible refine State.escalate_moves (Within.trans (by decide : Within 35184372088844 247633875586876) hw) ?_ _ _ _
    | with_reducible refine State.haltOp_moves (Within.trans (by decide : Within 35184372089100 247633875586876) hw) ?_ _ _
    | with_reducible refine State.startTeardown_moves (Within.trans (by decide : Within 36527643053884 247633875586876) hw) ?_ _ _ _
    | with_reducible refine Moves.ite ?_ ?_
    | split
    | extract_lets
    | with_reducible refine Moves.getD (Moves.optFindSome (fun _ => ?_)) ?_
    | with_reducible refine Moves.optMap (fun _ => ?_)
    | with_reducible refine Moves.optSndMapSnd ?_
    | with_reducible refine Moves.optSndMap (fun _ => ?_)
    | with_reducible refine Moves.optBind ?_ (fun _ _ => ?_)
    | with_reducible refine Moves.optOf (fun _ => ?_)
    | (with_reducible refine Moves.foldl ?_ (fun _ _ _ => ?_))
    | (with_reducible refine Moves.foldlFst ?_ (fun _ _ _ => ?_))
    | (with_reducible refine Moves.foldr ?_ (fun _ _ _ => ?_))
    | with_reducible refine Moves.optIte ?_ ?_
    | with_reducible refine Moves.foldlOpt ?_ (fun _ _ _ => ?_)
    | with_reducible refine Moves.optSome ?_
    | with_reducible exact Moves.optNone
    | with_reducible refine Moves.some (by assumption) ?_
    | with_reducible refine Moves.fst (by assumption) ?_
    | with_reducible refine Moves.snd (by assumption) ?_
    | dsimp +zetaDelta only
    | with_reducible refine State.modRegion_moves ?_ (fun _ => ?_)
    | with_reducible refine RM.ite ?_ ?_
    | with_reducible exact RM.refl _ _
    | exact ⟨.same, .same, .same, .same, ⟨.of hw (by decide), .of hw (by decide), .rfl, .rfl, .rfl⟩, .rfl, id⟩

theorem State.stageLoad_moves {w : Nat} {s u : State} (hw : Within 247633875586876 w) (h : Moves w s u) (bad : Option Sys2Proof.ArrayBad) (x : Op) :
    Moves w s (State.stageLoad u bad x) := by
  unfold State.stageLoad
  repeat'
    first
    | with_reducible assumption
    | with_reducible refine State.arrayFault_moves (Within.trans (by decide : Within 247633875586876 247633875586876) hw) ?_ _ _
    | with_reducible refine State.modCtx_moves (Within.trans (by decide : Within 32 247633875586876) hw) ?_ _ _
    | with_reducible refine State.runOp_moves (Within.trans (by decide : Within 256 247633875586876) hw) ?_ _ _ _
    | with_reducible refine State.request_moves (Within.trans (by decide : Within 35218731827212 247633875586876) hw) ?_ _ _ _ _
    | with_reducible refine Moves.ite ?_ ?_
    | split
    | extract_lets
    | with_reducible refine Moves.getD (Moves.optFindSome (fun _ => ?_)) ?_
    | with_reducible refine Moves.optMap (fun _ => ?_)
    | with_reducible refine Moves.optSndMapSnd ?_
    | with_reducible refine Moves.optSndMap (fun _ => ?_)
    | with_reducible refine Moves.optBind ?_ (fun _ _ => ?_)
    | with_reducible refine Moves.optOf (fun _ => ?_)
    | (with_reducible refine Moves.foldl ?_ (fun _ _ _ => ?_))
    | (with_reducible refine Moves.foldlFst ?_ (fun _ _ _ => ?_))
    | (with_reducible refine Moves.foldr ?_ (fun _ _ _ => ?_))
    | with_reducible refine Moves.optIte ?_ ?_
    | with_reducible refine Moves.foldlOpt ?_ (fun _ _ _ => ?_)
    | with_reducible refine Moves.optSome ?_
    | with_reducible exact Moves.optNone
    | with_reducible refine Moves.some (by assumption) ?_
    | with_reducible refine Moves.fst (by assumption) ?_
    | with_reducible refine Moves.snd (by assumption) ?_
    | dsimp +zetaDelta only

theorem State.score_moves {w : Nat} {s u : State} (hw : Within 247633875586876 w) (h : Moves w s u) (bad : Option Sys2Proof.ArrayBad) (x : Op) :
    Moves w s (State.score u bad x) := by
  unfold State.score
  repeat'
    first
    | with_reducible assumption
    | with_reducible refine State.haltOp_moves (Within.trans (by decide : Within 35184372089100 247633875586876) hw) ?_ _ _
    | with_reducible refine State.startTeardown_moves (Within.trans (by decide : Within 36527643053884 247633875586876) hw) ?_ _ _ _
    | with_reducible refine State.escalate_moves (Within.trans (by decide : Within 35184372088844 247633875586876) hw) ?_ _ _ _
    | with_reducible refine State.arrayFault_moves (Within.trans (by decide : Within 247633875586876 247633875586876) hw) ?_ _ _
    | with_reducible refine State.putAt_moves (Within.trans (by decide : Within 3221225488 247633875586876) hw) ?_ _ _ _ _
    | with_reducible refine State.runOp_moves (Within.trans (by decide : Within 256 247633875586876) hw) ?_ _ _ _
    | with_reducible refine State.count_moves (Within.trans (by decide : Within 35184372088844 247633875586876) hw) ?_ _ _ _
    | with_reducible refine Moves.ite ?_ ?_
    | split
    | extract_lets
    | with_reducible refine Moves.getD (Moves.optFindSome (fun _ => ?_)) ?_
    | with_reducible refine Moves.optMap (fun _ => ?_)
    | with_reducible refine Moves.optSndMapSnd ?_
    | with_reducible refine Moves.optSndMap (fun _ => ?_)
    | with_reducible refine Moves.optBind ?_ (fun _ _ => ?_)
    | with_reducible refine Moves.optOf (fun _ => ?_)
    | (with_reducible refine Moves.foldl ?_ (fun _ _ _ => ?_))
    | (with_reducible refine Moves.foldlFst ?_ (fun _ _ _ => ?_))
    | (with_reducible refine Moves.foldr ?_ (fun _ _ _ => ?_))
    | with_reducible refine Moves.optIte ?_ ?_
    | with_reducible refine Moves.foldlOpt ?_ (fun _ _ _ => ?_)
    | with_reducible refine Moves.optSome ?_
    | with_reducible exact Moves.optNone
    | with_reducible refine Moves.some (by assumption) ?_
    | with_reducible refine Moves.fst (by assumption) ?_
    | with_reducible refine Moves.snd (by assumption) ?_
    | dsimp +zetaDelta only

theorem State.bankSwap_moves {w : Nat} {s u : State} (hw : Within 288 w) (h : Moves w s u) (x : Op) :
    Moves w s (State.bankSwap u x) := by
  unfold State.bankSwap
  repeat'
    first
    | with_reducible assumption
    | with_reducible refine State.runOp_moves (Within.trans (by decide : Within 256 288) hw) ?_ _ _ _
    | with_reducible refine State.modCtx_moves (Within.trans (by decide : Within 32 288) hw) ?_ _ _
    | with_reducible refine Moves.ite ?_ ?_
    | split
    | extract_lets
    | with_reducible refine Moves.getD (Moves.optFindSome (fun _ => ?_)) ?_
    | with_reducible refine Moves.optMap (fun _ => ?_)
    | with_reducible refine Moves.optSndMapSnd ?_
    | with_reducible refine Moves.optSndMap (fun _ => ?_)
    | with_reducible refine Moves.optBind ?_ (fun _ _ => ?_)
    | with_reducible refine Moves.optOf (fun _ => ?_)
    | (with_reducible refine Moves.foldl ?_ (fun _ _ _ => ?_))
    | (with_reducible refine Moves.foldlFst ?_ (fun _ _ _ => ?_))
    | (with_reducible refine Moves.foldr ?_ (fun _ _ _ => ?_))
    | with_reducible refine Moves.optIte ?_ ?_
    | with_reducible refine Moves.foldlOpt ?_ (fun _ _ _ => ?_)
    | with_reducible refine Moves.optSome ?_
    | with_reducible exact Moves.optNone
    | with_reducible refine Moves.some (by assumption) ?_
    | with_reducible refine Moves.fst (by assumption) ?_
    | with_reducible refine Moves.snd (by assumption) ?_
    | dsimp +zetaDelta only

theorem State.latchBurn_moves {w : Nat} {s u : State} (hw : Within 256 w) (h : Moves w s u) (x : Op) (ρ : Nat) :
    Moves w s (State.latchBurn u x ρ) := by
  unfold State.latchBurn
  repeat'
    first
    | with_reducible assumption
    | with_reducible refine State.modDigest_moves (Within.trans (by decide : Within 256 256) hw) ?_ _ _ _
    | with_reducible refine Moves.ite ?_ ?_
    | split
    | extract_lets
    | with_reducible refine Moves.getD (Moves.optFindSome (fun _ => ?_)) ?_
    | with_reducible refine Moves.optMap (fun _ => ?_)
    | with_reducible refine Moves.optSndMapSnd ?_
    | with_reducible refine Moves.optSndMap (fun _ => ?_)
    | with_reducible refine Moves.optBind ?_ (fun _ _ => ?_)
    | with_reducible refine Moves.optOf (fun _ => ?_)
    | (with_reducible refine Moves.foldl ?_ (fun _ _ _ => ?_))
    | (with_reducible refine Moves.foldlFst ?_ (fun _ _ _ => ?_))
    | (with_reducible refine Moves.foldr ?_ (fun _ _ _ => ?_))
    | with_reducible refine Moves.optIte ?_ ?_
    | with_reducible refine Moves.foldlOpt ?_ (fun _ _ _ => ?_)
    | with_reducible refine Moves.optSome ?_
    | with_reducible exact Moves.optNone
    | with_reducible refine Moves.some (by assumption) ?_
    | with_reducible refine Moves.fst (by assumption) ?_
    | with_reducible refine Moves.snd (by assumption) ?_
    | dsimp +zetaDelta only

theorem State.scoreStore_moves {w : Nat} {s u : State} (hw : Within 35187593314588 w) (h : Moves w s u) (x : Op) :
    Moves w s (State.scoreStore u x) := by
  unfold State.scoreStore
  repeat'
    first
    | with_reducible assumption
    | with_reducible refine State.haltOp_moves (Within.trans (by decide : Within 35184372089100 35187593314588) hw) ?_ _ _
    | with_reducible refine State.putAt_moves (Within.trans (by decide : Within 3221225488 35187593314588) hw) ?_ _ _ _ _
    | with_reducible refine State.modRR_moves (Within.trans (by decide : Within 256 35187593314588) hw) ?_ _ _ _
    | with_reducible refine State.bumpF_moves (Within.trans (by decide : Within 12 35187593314588) hw) ?_ _ _ _
    | with_reducible refine State.runOp_moves (Within.trans (by decide : Within 256 35187593314588) hw) ?_ _ _ _
    | with_reducible refine State.latchBurn_moves (Within.trans (by decide : Within 256 35187593314588) hw) ?_ _ _
    | with_reducible refine Moves.ite ?_ ?_
    | split
    | extract_lets
    | with_reducible refine Moves.getD (Moves.optFindSome (fun _ => ?_)) ?_
    | with_reducible refine Moves.optMap (fun _ => ?_)
    | with_reducible refine Moves.optSndMapSnd ?_
    | with_reducible refine Moves.optSndMap (fun _ => ?_)
    | with_reducible refine Moves.optBind ?_ (fun _ _ => ?_)
    | with_reducible refine Moves.optOf (fun _ => ?_)
    | (with_reducible refine Moves.foldl ?_ (fun _ _ _ => ?_))
    | (with_reducible refine Moves.foldlFst ?_ (fun _ _ _ => ?_))
    | (with_reducible refine Moves.foldr ?_ (fun _ _ _ => ?_))
    | with_reducible refine Moves.optIte ?_ ?_
    | with_reducible refine Moves.foldlOpt ?_ (fun _ _ _ => ?_)
    | with_reducible refine Moves.optSome ?_
    | with_reducible exact Moves.optNone
    | with_reducible refine Moves.some (by assumption) ?_
    | with_reducible refine Moves.fst (by assumption) ?_
    | with_reducible refine Moves.snd (by assumption) ?_
    | dsimp +zetaDelta only

theorem execStageLoad_moves {w : Nat} {s u : State} (hw : Within 2781733837360956 w) (h : Moves w s u) (run : Sys2Proof.W32) (r : Sys2Proof.RegionId) (bad : Option Sys2Proof.ArrayBad) :
    Moves.outcome w s (execStageLoad run r bad u) := by
  unfold execStageLoad
  repeat'
    first
    | with_reducible assumption
    | with_reducible exact Moves.fault
    | with_reducible refine Moves.next ?_
    | with_reducible refine State.plateOp_moves (Within.trans (by decide : Within 2570627604827964 2781733837360956) hw) ?_ _ _ _ _ (fun _ _ _ => ?_)
    | with_reducible refine State.stageLoad_moves (Within.trans (by decide : Within 247633875586876 2781733837360956) hw) ?_ _ _
    | with_reducible refine Moves.ite ?_ ?_
    | split
    | extract_lets
    | with_reducible refine Moves.getD (Moves.optFindSome (fun _ => ?_)) ?_
    | with_reducible refine Moves.optMap (fun _ => ?_)
    | with_reducible refine Moves.optSndMapSnd ?_
    | with_reducible refine Moves.optSndMap (fun _ => ?_)
    | with_reducible refine Moves.optBind ?_ (fun _ _ => ?_)
    | with_reducible refine Moves.optOf (fun _ => ?_)
    | (with_reducible refine Moves.foldl ?_ (fun _ _ _ => ?_))
    | (with_reducible refine Moves.foldlFst ?_ (fun _ _ _ => ?_))
    | (with_reducible refine Moves.foldr ?_ (fun _ _ _ => ?_))
    | with_reducible refine Moves.optIte ?_ ?_
    | with_reducible refine Moves.foldlOpt ?_ (fun _ _ _ => ?_)
    | with_reducible refine Moves.optSome ?_
    | with_reducible exact Moves.optNone
    | with_reducible refine Moves.some (by assumption) ?_
    | with_reducible refine Moves.fst (by assumption) ?_
    | with_reducible refine Moves.snd (by assumption) ?_
    | dsimp +zetaDelta only

theorem execScoreStore_moves {w : Nat} {s u : State} (hw : Within 2570627604827964 w) (h : Moves w s u) (run : Sys2Proof.W32) (r : Sys2Proof.RegionId) :
    Moves.outcome w s (execScoreStore run r u) := by
  unfold execScoreStore
  repeat'
    first
    | with_reducible assumption
    | with_reducible exact Moves.fault
    | with_reducible refine Moves.next ?_
    | with_reducible refine State.plateOp_moves (Within.trans (by decide : Within 2570627604827964 2570627604827964) hw) ?_ _ _ _ _ (fun _ _ _ => ?_)
    | with_reducible refine State.scoreStore_moves (Within.trans (by decide : Within 35187593314588 2570627604827964) hw) ?_ _
    | with_reducible refine Moves.ite ?_ ?_
    | split
    | extract_lets
    | with_reducible refine Moves.getD (Moves.optFindSome (fun _ => ?_)) ?_
    | with_reducible refine Moves.optMap (fun _ => ?_)
    | with_reducible refine Moves.optSndMapSnd ?_
    | with_reducible refine Moves.optSndMap (fun _ => ?_)
    | with_reducible refine Moves.optBind ?_ (fun _ _ => ?_)
    | with_reducible refine Moves.optOf (fun _ => ?_)
    | (with_reducible refine Moves.foldl ?_ (fun _ _ _ => ?_))
    | (with_reducible refine Moves.foldlFst ?_ (fun _ _ _ => ?_))
    | (with_reducible refine Moves.foldr ?_ (fun _ _ _ => ?_))
    | with_reducible refine Moves.optIte ?_ ?_
    | with_reducible refine Moves.foldlOpt ?_ (fun _ _ _ => ?_)
    | with_reducible refine Moves.optSome ?_
    | with_reducible exact Moves.optNone
    | with_reducible refine Moves.some (by assumption) ?_
    | with_reducible refine Moves.fst (by assumption) ?_
    | with_reducible refine Moves.snd (by assumption) ?_
    | dsimp +zetaDelta only

theorem execScore_moves {w : Nat} {s u : State} (hw : Within 2781733837360956 w) (h : Moves w s u) (run : Sys2Proof.W32) (r : Sys2Proof.RegionId) (bad : Option Sys2Proof.ArrayBad) :
    Moves.outcome w s (execScore run r bad u) := by
  unfold execScore
  repeat'
    first
    | with_reducible assumption
    | with_reducible exact Moves.fault
    | with_reducible refine Moves.next ?_
    | with_reducible refine State.plateOp_moves (Within.trans (by decide : Within 2570627604827964 2781733837360956) hw) ?_ _ _ _ _ (fun _ _ _ => ?_)
    | with_reducible refine State.score_moves (Within.trans (by decide : Within 247633875586876 2781733837360956) hw) ?_ _ _
    | with_reducible refine Moves.ite ?_ ?_
    | split
    | extract_lets
    | with_reducible refine Moves.getD (Moves.optFindSome (fun _ => ?_)) ?_
    | with_reducible refine Moves.optMap (fun _ => ?_)
    | with_reducible refine Moves.optSndMapSnd ?_
    | with_reducible refine Moves.optSndMap (fun _ => ?_)
    | with_reducible refine Moves.optBind ?_ (fun _ _ => ?_)
    | with_reducible refine Moves.optOf (fun _ => ?_)
    | (with_reducible refine Moves.foldl ?_ (fun _ _ _ => ?_))
    | (with_reducible refine Moves.foldlFst ?_ (fun _ _ _ => ?_))
    | (with_reducible refine Moves.foldr ?_ (fun _ _ _ => ?_))
    | with_reducible refine Moves.optIte ?_ ?_
    | with_reducible refine Moves.foldlOpt ?_ (fun _ _ _ => ?_)
    | with_reducible refine Moves.optSome ?_
    | with_reducible exact Moves.optNone
    | with_reducible refine Moves.some (by assumption) ?_
    | with_reducible refine Moves.fst (by assumption) ?_
    | with_reducible refine Moves.snd (by assumption) ?_
    | dsimp +zetaDelta only

theorem execBankSwap_moves {w : Nat} {s u : State} (hw : Within 2570627604827964 w) (h : Moves w s u) (run : Sys2Proof.W32) (r : Sys2Proof.RegionId) :
    Moves.outcome w s (execBankSwap run r u) := by
  unfold execBankSwap
  repeat'
    first
    | with_reducible assumption
    | with_reducible exact Moves.fault
    | with_reducible refine Moves.next ?_
    | with_reducible refine State.plateOp_moves (Within.trans (by decide : Within 2570627604827964 2570627604827964) hw) ?_ _ _ _ _ (fun _ _ _ => ?_)
    | with_reducible refine State.bankSwap_moves (Within.trans (by decide : Within 288 2570627604827964) hw) ?_ _
    | with_reducible refine Moves.ite ?_ ?_
    | split
    | extract_lets
    | with_reducible refine Moves.getD (Moves.optFindSome (fun _ => ?_)) ?_
    | with_reducible refine Moves.optMap (fun _ => ?_)
    | with_reducible refine Moves.optSndMapSnd ?_
    | with_reducible refine Moves.optSndMap (fun _ => ?_)
    | with_reducible refine Moves.optBind ?_ (fun _ _ => ?_)
    | with_reducible refine Moves.optOf (fun _ => ?_)
    | (with_reducible refine Moves.foldl ?_ (fun _ _ _ => ?_))
    | (with_reducible refine Moves.foldlFst ?_ (fun _ _ _ => ?_))
    | (with_reducible refine Moves.foldr ?_ (fun _ _ _ => ?_))
    | with_reducible refine Moves.optIte ?_ ?_
    | with_reducible refine Moves.foldlOpt ?_ (fun _ _ _ => ?_)
    | with_reducible refine Moves.optSome ?_
    | with_reducible exact Moves.optNone
    | with_reducible refine Moves.some (by assumption) ?_
    | with_reducible refine Moves.fst (by assumption) ?_
    | with_reducible refine Moves.snd (by assumption) ?_
    | dsimp +zetaDelta only

end Sys2Proof.Machine
end

