-- ==== Sys2Proof/Laws/SelectionMoves.lean ====
section
/-! SUPPORT. Sys2Proof/Laws/SelectionMoves.lean: what each operation of Machine/Selection.lean can do to the state: the parts it may change, and that it keeps
the canonical form. -/

namespace Sys2Proof.Machine

theorem State.markEntry_moves {w : Nat} {s u : State} (hw : Within 3221225488 w) (h : Moves w s u) (x : Op) (k : Nat) (bit : Nat) (a : Pick) :
    Moves w s (State.markEntry u x k bit a) := by
  unfold State.markEntry
  repeat'
    first
    | with_reducible assumption
    | with_reducible refine State.putAt_moves (Within.trans (by decide : Within 3221225488 3221225488) hw) ?_ _ _ _ _
    | with_reducible refine Moves.ite ?_ ?_
    | split
    | extract_lets
    | with_reducible refine Moves.getD (Moves.optFindSome (fun _ => ?_)) ?_
    | with_reducible refine Moves.optMap (fun _ => ?_)
    | with_reducible refine Moves.optSndMapSnd ?_
    | with_reducible refine Moves.optSndMap (fun _ => ?_)
    | with_reducible refine Moves.optBind ?_ (fun _ _ => ?_)
    | with_reducible refine Moves.optOf (fun _ => ?_)
    | (with_reducible refine Moves.foldl ?_ (fun _ _ _ => ?_))
    | (with_reducible refine Moves.foldlFst ?_ (fun _ _ _ => ?_))
    | (with_reducible refine Moves.foldr ?_ (fun _ _ _ => ?_))
    | with_reducible refine Moves.optIte ?_ ?_
    | with_reducible refine Moves.foldlOpt ?_ (fun _ _ _ => ?_)
    | with_reducible refine Moves.optSome ?_
    | with_reducible exact Moves.optNone
    | with_reducible refine Moves.some (by assumption) ?_
    | with_reducible refine Moves.fst (by assumption) ?_
    | with_reducible refine Moves.snd (by assumption) ?_
    | dsimp +zetaDelta only

theorem State.digestManifest_moves {w : Nat} {s u : State} (hw : Within 256 w) (h : Moves w s u) (x : Op) (ρ : Nat) (pass : Nat) (entry : Nat) (bs : Sys2Proof.Bytes) :
    Moves w s (State.digestManifest u x ρ pass entry bs) := by
  unfold State.digestManifest
  repeat'
    first
    | with_reducible assumption
    | with_reducible refine State.modRR_moves (Within.trans (by decide : Within 256 256) hw) ?_ _ _ _
    | with_reducible refine State.modDigest_moves (Within.trans (by decide : Within 256 256) hw) ?_ _ _ _
    | with_reducible refine Moves.ite ?_ ?_
    | split
    | extract_lets
    | with_reducible refine Moves.getD (Moves.optFindSome (fun _ => ?_)) ?_
    | with_reducible refine Moves.optMap (fun _ => ?_)
    | with_reducible refine Moves.optSndMapSnd ?_
    | with_reducible refine Moves.optSndMap (fun _ => ?_)
    | with_reducible refine Moves.optBind ?_ (fun _ _ => ?_)
    | with_reducible refine Moves.optOf (fun _ => ?_)
    | (with_reducible refine Moves.foldl ?_ (fun _ _ _ => ?_))
    | (with_reducible refine Moves.foldlFst ?_ (fun _ _ _ => ?_))
    | (with_reducible refine Moves.foldr ?_ (fun _ _ _ => ?_))
    | with_reducible refine Moves.optIte ?_ ?_
    | with_reducible refine Moves.foldlOpt ?_ (fun _ _ _ => ?_)
    | with_reducible refine Moves.optSome ?_
    | with_reducible exact Moves.optNone
    | with_reducible refine Moves.some (by assumption) ?_
    | with_reducible refine Moves.fst (by assumption) ?_
    | with_reducible refine Moves.snd (by assumption) ?_
    | dsimp +zetaDelta only

theorem State.sort_moves {w : Nat} {s u : State} (hw : Within 35187593314588 w) (h : Moves w s u) (x : Op) :
    Moves w s (State.sort u x) := by
  unfold State.sort
  repeat'
    first
    | with_reducible assumption
    | with_reducible refine State.haltOp_moves (Within.trans (by decide : Within 35184372089100 35187593314588) hw) ?_ _ _
    | with_reducible refine State.stopAtItem_moves (Within.trans (by decide : Within 256 35187593314588) hw) ?_ _ _ _
    | with_reducible refine State.markEntry_moves (Within.trans (by decide : Within 3221225488 35187593314588) hw) ?_ _ _ _ _
    | with_reducible refine State.digestManifest_moves (Within.trans (by decide : Within 256 35187593314588) hw) ?_ _ _ _ _ _
    | with_reducible refine State.putAt_moves (Within.trans (by decide : Within 3221225488 35187593314588) hw) ?_ _ _ _ _
    | with_reducible refine State.modRR_moves (Within.trans (by decide : Within 256 35187593314588) hw) ?_ _ _ _
    | with_reducible refine State.runOp_moves (Within.trans (by decide : Within 256 35187593314588) hw) ?_ _ _ _
    | with_reducible refine Moves.ite ?_ ?_
    | split
    | extract_lets
    | with_reducible refine Moves.getD (Moves.optFindSome (fun _ => ?_)) ?_
    | with_reducible refine Moves.optMap (fun _ => ?_)
    | with_reducible refine Moves.optSndMapSnd ?_
    | with_reducible refine Moves.optSndMap (fun _ => ?_)
    | with_reducible refine Moves.optBind ?_ (fun _ _ => ?_)
    | with_reducible refine Moves.optOf (fun _ => ?_)
    | (with_reducible refine Moves.foldl ?_ (fun _ _ _ => ?_))
    | (with_reducible refine Moves.foldlFst ?_ (fun _ _ _ => ?_))
    | (with_reducible refine Moves.foldr ?_ (fun _ _ _ => ?_))
    | with_reducible refine Moves.optIte ?_ ?_
    | with_reducible refine Moves.foldlOpt ?_ (fun _ _ _ => ?_)
    | with_reducible refine Moves.optSome ?_
    | with_reducible exact Moves.optNone
    | with_reducible refine Moves.some (by assumption) ?_
    | with_reducible refine Moves.fst (by assumption) ?_
    | with_reducible refine Moves.snd (by assumption) ?_
    | dsimp +zetaDelta only

theorem State.normRecord_moves {w : Nat} {s u : State} (hw : Within 35187593314332 w) (h : Moves w s u) (x : Op) (pos : Nat) :
    Moves w s (State.normRecord u x pos) := by
  unfold State.normRecord
  repeat'
    first
    | with_reducible assumption
    | with_reducible refine State.putAt_moves (Within.trans (by decide : Within 3221225488 35187593314332) hw) ?_ _ _ _ _
    | with_reducible refine State.count_moves (Within.trans (by decide : Within 35184372088844 35187593314332) hw) ?_ _ _ _
    | with_reducible refine Moves.ite ?_ ?_
    | split
    | extract_lets
    | with_reducible refine Moves.getD (Moves.optFindSome (fun _ => ?_)) ?_
    | with_reducible refine Moves.optMap (fun _ => ?_)
    | with_reducible refine Moves.optSndMapSnd ?_
    | with_reducible refine Moves.optSndMap (fun _ => ?_)
    | with_reducible refine Moves.optBind ?_ (fun _ _ => ?_)
    | with_reducible refine Moves.optOf (fun _ => ?_)
    | (with_reducible refine Moves.foldl ?_ (fun _ _ _ => ?_))
    | (with_reducible refine Moves.foldlFst ?_ (fun _ _ _ => ?_))
    | (with_reducible refine Moves.foldr ?_ (fun _ _ _ => ?_))
    | with_reducible refine Moves.optIte ?_ ?_
    | with_reducible refine Moves.foldlOpt ?_ (fun _ _ _ => ?_)
    | with_reducible refine Moves.optSome ?_
    | with_reducible exact Moves.optNone
    | with_reducible refine Moves.some (by assumption) ?_
    | with_reducible refine Moves.fst (by assumption) ?_
    | with_reducible refine Moves.snd (by assumption) ?_
    | dsimp +zetaDelta only

theorem State.normOp_moves {w : Nat} {s u : State} (hw : Within 35187593314588 w) (h : Moves w s u) (x : Op) :
    Moves w s (State.normOp u x) := by
  unfold State.normOp
  repeat'
    first
    | with_reducible assumption
    | with_reducible refine State.haltOp_moves (Within.trans (by decide : Within 35184372089100 35187593314588) hw) ?_ _ _
    | with_reducible refine State.runOp_moves (Within.trans (by decide : Within 256 35187593314588) hw) ?_ _ _ _
    | with_reducible refine State.normRecord_moves (Within.trans (by decide : Within 35187593314332 35187593314588) hw) ?_ _ _
    | with_reducible refine Moves.ite ?_ ?_
    | split
    | extract_lets
    | with_reducible refine Moves.getD (Moves.optFindSome (fun _ => ?_)) ?_
    | with_reducible refine Moves.optMap (fun _ => ?_)
    | with_reducible refine Moves.optSndMapSnd ?_
    | with_reducible refine Moves.optSndMap (fun _ => ?_)
    | with_reducible refine Moves.optBind ?_ (fun _ _ => ?_)
    | with_reducible refine Moves.optOf (fun _ => ?_)
    | (with_reducible refine Moves.foldl ?_ (fun _ _ _ => ?_))
    | (with_reducible refine Moves.foldlFst ?_ (fun _ _ _ => ?_))
    | (with_reducible refine Moves.foldr ?_ (fun _ _ _ => ?_))
    | with_reducible refine Moves.optIte ?_ ?_
    | with_reducible refine Moves.foldlOpt ?_ (fun _ _ _ => ?_)
    | with_reducible refine Moves.optSome ?_
    | with_reducible exact Moves.optNone
    | with_reducible refine Moves.some (by assumption) ?_
    | with_reducible refine Moves.fst (by assumption) ?_
    | with_reducible refine Moves.snd (by assumption) ?_
    | dsimp +zetaDelta only

theorem execNorm_moves {w : Nat} {s u : State} (hw : Within 2570627604827964 w) (h : Moves w s u) (run : Sys2Proof.W32) (r : Sys2Proof.RegionId) (g : Sys2Proof.CellGroupId) :
    Moves.outcome w s (execNorm run r g u) := by
  unfold execNorm
  repeat'
    first
    | with_reducible assumption
    | with_reducible exact Moves.fault
    | with_reducible refine Moves.next ?_
    | with_reducible refine State.plateOp_moves (Within.trans (by decide : Within 2570627604827964 2570627604827964) hw) ?_ _ _ _ _ (fun _ _ _ => ?_)
    | with_reducible refine State.normOp_moves (Within.trans (by decide : Within 35187593314588 2570627604827964) hw) ?_ _
    | with_reducible refine Moves.ite ?_ ?_
    | split
    | extract_lets
    | with_reducible refine Moves.getD (Moves.optFindSome (fun _ => ?_)) ?_
    | with_reducible refine Moves.optMap (fun _ => ?_)
    | with_reducible refine Moves.optSndMapSnd ?_
    | with_reducible refine Moves.optSndMap (fun _ => ?_)
    | with_reducible refine Moves.optBind ?_ (fun _ _ => ?_)
    | with_reducible refine Moves.optOf (fun _ => ?_)
    | (with_reducible refine Moves.foldl ?_ (fun _ _ _ => ?_))
    | (with_reducible refine Moves.foldlFst ?_ (fun _ _ _ => ?_))
    | (with_reducible refine Moves.foldr ?_ (fun _ _ _ => ?_))
    | with_reducible refine Moves.optIte ?_ ?_
    | with_reducible refine Moves.foldlOpt ?_ (fun _ _ _ => ?_)
    | with_reducible refine Moves.optSome ?_
    | with_reducible exact Moves.optNone
    | with_reducible refine Moves.some (by assumption) ?_
    | with_reducible refine Moves.fst (by assumption) ?_
    | with_reducible refine Moves.snd (by assumption) ?_
    | dsimp +zetaDelta only

theorem State.burn_moves {w : Nat} {s u : State} (hw : Within 256 w) (h : Moves w s u) (x : Op) :
    Moves w s (State.burn u x) := by
  unfold State.burn
  repeat'
    first
    | with_reducible assumption
    | with_reducible refine State.runOp_moves (Within.trans (by decide : Within 256 256) hw) ?_ _ _ _
    | with_reducible refine State.modRR_moves (Within.trans (by decide : Within 256 256) hw) ?_ _ _ _
    | with_reducible refine Moves.ite ?_ ?_
    | split
    | extract_lets
    | with_reducible refine Moves.getD (Moves.optFindSome (fun _ => ?_)) ?_
    | with_reducible refine Moves.optMap (fun _ => ?_)
    | with_reducible refine Moves.optSndMapSnd ?_
    | with_reducible refine Moves.optSndMap (fun _ => ?_)
    | with_reducible refine Moves.optBind ?_ (fun _ _ => ?_)
    | with_reducible refine Moves.optOf (fun _ => ?_)
    | (with_reducible refine Moves.foldl ?_ (fun _ _ _ => ?_))
    | (with_reducible refine Moves.foldlFst ?_ (fun _ _ _ => ?_))
    | (with_reducible refine Moves.foldr ?_ (fun _ _ _ => ?_))
    | with_reducible refine Moves.optIte ?_ ?_
    | with_reducible refine Moves.foldlOpt ?_ (fun _ _ _ => ?_)
    | with_reducible refine Moves.optSome ?_
    | with_reducible exact Moves.optNone
    | with_reducible refine Moves.some (by assumption) ?_
    | with_reducible refine Moves.fst (by assumption) ?_
    | with_reducible refine Moves.snd (by assumption) ?_
    | dsimp +zetaDelta only

theorem execBurn_moves {w : Nat} {s u : State} (hw : Within 2570627604827964 w) (h : Moves w s u) (run : Sys2Proof.W32) (r : Sys2Proof.RegionId) (g : Sys2Proof.CellGroupId) :
    Moves.outcome w s (execBurn run r g u) := by
  unfold execBurn
  repeat'
    first
    | with_reducible assumption
    | with_reducible exact Moves.fault
    | with_reducible refine Moves.next ?_
    | with_reducible refine State.plateOp_moves (Within.trans (by decide : Within 2570627604827964 2570627604827964) hw) ?_ _ _ _ _ (fun _ _ _ => ?_)
    | with_reducible refine State.burn_moves (Within.trans (by decide : Within 256 2570627604827964) hw) ?_ _
    | with_reducible refine Moves.ite ?_ ?_
    | split
    | extract_lets
    | with_reducible refine Moves.getD (Moves.optFindSome (fun _ => ?_)) ?_
    | with_reducible refine Moves.optMap (fun _ => ?_)
    | with_reducible refine Moves.optSndMapSnd ?_
    | with_reducible refine Moves.optSndMap (fun _ => ?_)
    | with_reducible refine Moves.optBind ?_ (fun _ _ => ?_)
    | with_reducible refine Moves.optOf (fun _ => ?_)
    | (with_reducible refine Moves.foldl ?_ (fun _ _ _ => ?_))
    | (with_reducible refine Moves.foldlFst ?_ (fun _ _ _ => ?_))
    | (with_reducible refine Moves.foldr ?_ (fun _ _ _ => ?_))
    | with_reducible refine Moves.optIte ?_ ?_
    | with_reducible refine Moves.foldlOpt ?_ (fun _ _ _ => ?_)
    | with_reducible refine Moves.optSome ?_
    | with_reducible exact Moves.optNone
    | with_reducible refine Moves.some (by assumption) ?_
    | with_reducible refine Moves.fst (by assumption) ?_
    | with_reducible refine Moves.snd (by assumption) ?_
    | dsimp +zetaDelta only

theorem execSort_moves {w : Nat} {s u : State} (hw : Within 2570627604827964 w) (h : Moves w s u) (run : Sys2Proof.W32) (r : Sys2Proof.RegionId) (g : Sys2Proof.CellGroupId) :
    Moves.outcome w s (execSort run r g u) := by
  unfold execSort
  repeat'
    first
    | with_reducible assumption
    | with_reducible exact Moves.fault
    | with_reducible refine Moves.next ?_
    | with_reducible refine State.plateOp_moves (Within.trans (by decide : Within 2570627604827964 2570627604827964) hw) ?_ _ _ _ _ (fun _ _ _ => ?_)
    | with_reducible refine State.sort_moves (Within.trans (by decide : Within 35187593314588 2570627604827964) hw) ?_ _
    | with_reducible refine Moves.ite ?_ ?_
    | split
    | extract_lets
    | with_reducible refine Moves.getD (Moves.optFindSome (fun _ => ?_)) ?_
    | with_reducible refine Moves.optMap (fun _ => ?_)
    | with_reducible refine Moves.optSndMapSnd ?_
    | with_reducible refine Moves.optSndMap (fun _ => ?_)
    | with_reducible refine Moves.optBind ?_ (fun _ _ => ?_)
    | with_reducible refine Moves.optOf (fun _ => ?_)
    | (with_reducible refine Moves.foldl ?_ (fun _ _ _ => ?_))
    | (with_reducible refine Moves.foldlFst ?_ (fun _ _ _ => ?_))
    | (with_reducible refine Moves.foldr ?_ (fun _ _ _ => ?_))
    | with_reducible refine Moves.optIte ?_ ?_
    | with_reducible refine Moves.foldlOpt ?_ (fun _ _ _ => ?_)
    | with_reducible refine Moves.optSome ?_
    | with_reducible exact Moves.optNone
    | with_reducible refine Moves.some (by assumption) ?_
    | with_reducible refine Moves.fst (by assumption) ?_
    | with_reducible refine Moves.snd (by assumption) ?_
    | dsimp +zetaDelta only

theorem State.select_moves {w : Nat} {s u : State} (hw : Within 35187593314588 w) (h : Moves w s u) (x : Op) :
    Moves w s (State.select u x) := by
  unfold State.select
  repeat'
    first
    | with_reducible assumption
    | with_reducible refine State.haltOp_moves (Within.trans (by decide : Within 35184372089100 35187593314588) hw) ?_ _ _
    | with_reducible refine State.putAt_moves (Within.trans (by decide : Within 3221225488 35187593314588) hw) ?_ _ _ _ _
    | with_reducible refine State.runOp_moves (Within.trans (by decide : Within 256 35187593314588) hw) ?_ _ _ _
    | with_reducible refine State.stopAtItem_moves (Within.trans (by decide : Within 256 35187593314588) hw) ?_ _ _ _
    | with_reducible refine Moves.ite ?_ ?_
    | split
    | extract_lets
    | with_reducible refine Moves.getD (Moves.optFindSome (fun _ => ?_)) ?_
    | with_reducible refine Moves.optMap (fun _ => ?_)
    | with_reducible refine Moves.optSndMapSnd ?_
    | with_reducible refine Moves.optSndMap (fun _ => ?_)
    | with_reducible refine Moves.optBind ?_ (fun _ _ => ?_)
    | with_reducible refine Moves.optOf (fun _ => ?_)
    | (with_reducible refine Moves.foldl ?_ (fun _ _ _ => ?_))
    | (with_reducible refine Moves.foldlFst ?_ (fun _ _ _ => ?_))
    | (with_reducible refine Moves.foldr ?_ (fun _ _ _ => ?_))
    | with_reducible refine Moves.optIte ?_ ?_
    | with_reducible refine Moves.foldlOpt ?_ (fun _ _ _ => ?_)
    | with_reducible refine Moves.optSome ?_
    | with_reducible exact Moves.optNone
    | with_reducible refine Moves.some (by assumption) ?_
    | with_reducible refine Moves.fst (by assumption) ?_
    | with_reducible refine Moves.snd (by assumption) ?_
    | dsimp +zetaDelta only

theorem execSelect_moves {w : Nat} {s u : State} (hw : Within 2570627604827964 w) (h : Moves w s u) (run : Sys2Proof.W32) (r : Sys2Proof.RegionId) (g : Sys2Proof.CellGroupId) :
    Moves.outcome w s (execSelect run r g u) := by
  unfold execSelect
  repeat'
    first
    | with_reducible assumption
    | with_reducible exact Moves.fault
    | with_reducible refine Moves.next ?_
    | with_reducible refine State.plateOp_moves (Within.trans (by decide : Within 2570627604827964 2570627604827964) hw) ?_ _ _ _ _ (fun _ _ _ => ?_)
    | with_reducible refine State.select_moves (Within.trans (by decide : Within 35187593314588 2570627604827964) hw) ?_ _
    | with_reducible refine Moves.ite ?_ ?_
    | split
    | extract_lets
    | with_reducible refine Moves.getD (Moves.optFindSome (fun _ => ?_)) ?_
    | with_reducible refine Moves.optMap (fun _ => ?_)
    | with_reducible refine Moves.optSndMapSnd ?_
    | with_reducible refine Moves.optSndMap (fun _ => ?_)
    | with_reducible refine Moves.optBind ?_ (fun _ _ => ?_)
    | with_reducible refine Moves.optOf (fun _ => ?_)
    | (with_reducible refine Moves.foldl ?_ (fun _ _ _ => ?_))
    | (with_reducible refine Moves.foldlFst ?_ (fun _ _ _ => ?_))
    | (with_reducible refine Moves.foldr ?_ (fun _ _ _ => ?_))
    | with_reducible refine Moves.optIte ?_ ?_
    | with_reducible refine Moves.foldlOpt ?_ (fun _ _ _ => ?_)
    | with_reducible refine Moves.optSome ?_
    | with_reducible exact Moves.optNone
    | with_reducible refine Moves.some (by assumption) ?_
    | with_reducible refine Moves.fst (by assumption) ?_
    | with_reducible refine Moves.snd (by assumption) ?_
    | dsimp +zetaDelta only

end Sys2Proof.Machine
end

