-- ==== Sys2Proof/Laws/ExchangeMoves.lean ====
section
/-! SUPPORT. Sys2Proof/Laws/ExchangeMoves.lean: what each operation of Machine/Exchange.lean can do to the state: the parts it may change, and that it keeps
the canonical form. -/

namespace Sys2Proof.Machine

theorem State.sendRoom_moves {w : Nat} {s u : State} (hw : Within 3132028128854284 w) (h : Moves w s u) (r : Nat) (p : Nat) :
    Moves w s (State.sendRoom u r p) := by
  unfold State.sendRoom
  repeat'
    first
    | with_reducible assumption
    | with_reducible refine State.modLink_moves (Within.trans (by decide : Within 68719476736 3132028128854284) hw) ?_ _ _ _
    | with_reducible refine State.stallFrom_moves (Within.trans (by decide : Within 3131959409377548 3132028128854284) hw) ?_ _ _ _ _
    | with_reducible refine State.modRR_moves (Within.trans (by decide : Within 256 3132028128854284) hw) ?_ _ _ _
    | with_reducible refine Moves.ite ?_ ?_
    | split
    | extract_lets
    | with_reducible refine Moves.getD (Moves.optFindSome (fun _ => ?_)) ?_
    | with_reducible refine Moves.optMap (fun _ => ?_)
    | with_reducible refine Moves.optSndMapSnd ?_
    | with_reducible refine Moves.optSndMap (fun _ => ?_)
    | with_reducible refine Moves.optBind ?_ (fun _ _ => ?_)
    | with_reducible refine Moves.optOf (fun _ => ?_)
    | (with_reducible refine Moves.foldl ?_ (fun _ _ _ => ?_))
    | (with_reducible refine Moves.foldlFst ?_ (fun _ _ _ => ?_))
    | (with_reducible refine Moves.foldr ?_ (fun _ _ _ => ?_))
    | with_reducible refine Moves.optIte ?_ ?_
    | with_reducible refine Moves.foldlOpt ?_ (fun _ _ _ => ?_)
    | with_reducible refine Moves.optSome ?_
    | with_reducible exact Moves.optNone
    | with_reducible refine Moves.some (by assumption) ?_
    | with_reducible refine Moves.fst (by assumption) ?_
    | with_reducible refine Moves.snd (by assumption) ?_
    | dsimp +zetaDelta only

theorem State.takeEntries_moves {w : Nat} {s u : State} (hw : Within 3221225744 w) (h : Moves w s u) (x : Op) (rec : Nat) (lane : Nat) (i : Nat) (n : Nat) :
    Moves w s (State.takeEntries u x rec lane i n).1 := by
  unfold State.takeEntries
  repeat'
    first
    | with_reducible assumption
    | with_reducible refine State.putAt_moves (Within.trans (by decide : Within 3221225488 3221225744) hw) ?_ _ _ _ _
    | with_reducible refine State.modDigest_moves (Within.trans (by decide : Within 256 3221225744) hw) ?_ _ _ _
    | with_reducible refine Moves.ite ?_ ?_
    | split
    | extract_lets
    | with_reducible refine Moves.getD (Moves.optFindSome (fun _ => ?_)) ?_
    | with_reducible refine Moves.optMap (fun _ => ?_)
    | with_reducible refine Moves.optSndMapSnd ?_
    | with_reducible refine Moves.optSndMap (fun _ => ?_)
    | with_reducible refine Moves.optBind ?_ (fun _ _ => ?_)
    | with_reducible refine Moves.optOf (fun _ => ?_)
    | (with_reducible refine Moves.foldl ?_ (fun _ _ _ => ?_))
    | (with_reducible refine Moves.foldlFst ?_ (fun _ _ _ => ?_))
    | (with_reducible refine Moves.foldr ?_ (fun _ _ _ => ?_))
    | with_reducible refine Moves.optIte ?_ ?_
    | with_reducible refine Moves.foldlOpt ?_ (fun _ _ _ => ?_)
    | with_reducible refine Moves.optSome ?_
    | with_reducible exact Moves.optNone
    | with_reducible refine Moves.some (by assumption) ?_
    | with_reducible refine Moves.fst (by assumption) ?_
    | with_reducible refine Moves.snd (by assumption) ?_
    | dsimp +zetaDelta only

theorem State.outEntries_moves {w : Nat} {s u : State} (hw : Within 3221225744 w) (h : Moves w s u) (x : Op) :
    Moves w s (State.outEntries u x).1 := by
  unfold State.outEntries
  repeat'
    first
    | with_reducible assumption
    | with_reducible refine State.takeEntries_moves (Within.trans (by decide : Within 3221225744 3221225744) hw) ?_ _ _ _ _ _
    | with_reducible refine Moves.fst ‹State.takeEntries _ _ _ _ _ _ = (_, _)› (State.takeEntries_moves (Within.trans (by decide : Within 3221225744 3221225744) hw) ?_ _ _ _ _ _)
    | with_reducible refine Moves.ite ?_ ?_
    | split
    | extract_lets
    | with_reducible refine Moves.getD (Moves.optFindSome (fun _ => ?_)) ?_
    | with_reducible refine Moves.optMap (fun _ => ?_)
    | with_reducible refine Moves.optSndMapSnd ?_
    | with_reducible refine Moves.optSndMap (fun _ => ?_)
    | with_reducible refine Moves.optBind ?_ (fun _ _ => ?_)
    | with_reducible refine Moves.optOf (fun _ => ?_)
    | (with_reducible refine Moves.foldl ?_ (fun _ _ _ => ?_))
    | (with_reducible refine Moves.foldlFst ?_ (fun _ _ _ => ?_))
    | (with_reducible refine Moves.foldr ?_ (fun _ _ _ => ?_))
    | with_reducible refine Moves.optIte ?_ ?_
    | with_reducible refine Moves.foldlOpt ?_ (fun _ _ _ => ?_)
    | with_reducible refine Moves.optSome ?_
    | with_reducible exact Moves.optNone
    | with_reducible refine Moves.some (by assumption) ?_
    | with_reducible refine Moves.fst (by assumption) ?_
    | with_reducible refine Moves.snd (by assumption) ?_
    | dsimp +zetaDelta only

theorem State.outgoing_moves {w : Nat} {s u : State} (hw : Within 3221225744 w) (h : Moves w s u) (x : Op) :
    Moves w s (State.outgoing u x).1 := by
  unfold State.outgoing
  repeat'
    first
    | with_reducible assumption
    | with_reducible refine State.outEntries_moves (Within.trans (by decide : Within 3221225744 3221225744) hw) ?_ _
    | with_reducible refine Moves.fst ‹State.outEntries _ _ = (_, _)› (State.outEntries_moves (Within.trans (by decide : Within 3221225744 3221225744) hw) ?_ _)
    | with_reducible refine Moves.ite ?_ ?_
    | split
    | extract_lets
    | with_reducible refine Moves.getD (Moves.optFindSome (fun _ => ?_)) ?_
    | with_reducible refine Moves.optMap (fun _ => ?_)
    | with_reducible refine Moves.optSndMapSnd ?_
    | with_reducible refine Moves.optSndMap (fun _ => ?_)
    | with_reducible refine Moves.optBind ?_ (fun _ _ => ?_)
    | with_reducible refine Moves.optOf (fun _ => ?_)
    | (with_reducible refine Moves.foldl ?_ (fun _ _ _ => ?_))
    | (with_reducible refine Moves.foldlFst ?_ (fun _ _ _ => ?_))
    | (with_reducible refine Moves.foldr ?_ (fun _ _ _ => ?_))
    | with_reducible refine Moves.optIte ?_ ?_
    | with_reducible refine Moves.foldlOpt ?_ (fun _ _ _ => ?_)
    | with_reducible refine Moves.optSome ?_
    | with_reducible exact Moves.optNone
    | with_reducible refine Moves.some (by assumption) ?_
    | with_reducible refine Moves.fst (by assumption) ?_
    | with_reducible refine Moves.snd (by assumption) ?_
    | dsimp +zetaDelta only

theorem State.noteSent_moves {w : Nat} {s u : State} (hw : Within 256 w) (h : Moves w s u) (x : Op) (q : Outgoing) :
    Moves w s (State.noteSent u x q) := by
  unfold State.noteSent
  repeat'
    first
    | with_reducible assumption
    | with_reducible refine State.modRR_moves (Within.trans (by decide : Within 256 256) hw) ?_ _ _ _
    | with_reducible refine Moves.ite ?_ ?_
    | split
    | extract_lets
    | with_reducible refine Moves.getD (Moves.optFindSome (fun _ => ?_)) ?_
    | with_reducible refine Moves.optMap (fun _ => ?_)
    | with_reducible refine Moves.optSndMapSnd ?_
    | with_reducible refine Moves.optSndMap (fun _ => ?_)
    | with_reducible refine Moves.optBind ?_ (fun _ _ => ?_)
    | with_reducible refine Moves.optOf (fun _ => ?_)
    | (with_reducible refine Moves.foldl ?_ (fun _ _ _ => ?_))
    | (with_reducible refine Moves.foldlFst ?_ (fun _ _ _ => ?_))
    | (with_reducible refine Moves.foldr ?_ (fun _ _ _ => ?_))
    | with_reducible refine Moves.optIte ?_ ?_
    | with_reducible refine Moves.foldlOpt ?_ (fun _ _ _ => ?_)
    | with_reducible refine Moves.optSome ?_
    | with_reducible exact Moves.optNone
    | with_reducible refine Moves.some (by assumption) ?_
    | with_reducible refine Moves.fst (by assumption) ?_
    | with_reducible refine Moves.snd (by assumption) ?_
    | dsimp +zetaDelta only

theorem State.linkSend_moves {w : Nat} {s u : State} (hw : Within 35256312791324 w) (h : Moves w s u) (x : Op) :
    Moves w s (State.linkSend u x) := by
  unfold State.linkSend
  repeat'
    first
    | with_reducible assumption
    | with_reducible refine State.haltOp_moves (Within.trans (by decide : Within 35184372089100 35256312791324) hw) ?_ _ _
    | with_reducible refine State.outgoing_moves (Within.trans (by decide : Within 3221225744 35256312791324) hw) ?_ _
    | with_reducible refine Moves.fst ‹State.outgoing _ _ = (_, _)› (State.outgoing_moves (Within.trans (by decide : Within 3221225744 35256312791324) hw) ?_ _)
    | with_reducible refine State.queuePacket_moves (Within.trans (by decide : Within 68719476736 35256312791324) hw) ?_ _ _ _ _ _
    | with_reducible refine State.count_moves (Within.trans (by decide : Within 35184372088844 35256312791324) hw) ?_ _ _ _
    | with_reducible refine State.noteSent_moves (Within.trans (by decide : Within 256 35256312791324) hw) ?_ _ _
    | with_reducible refine State.startOp_moves (Within.trans (by decide : Within 256 35256312791324) hw) ?_ _ _ _ _ _
    | with_reducible refine State.modLink_moves (Within.trans (by decide : Within 68719476736 35256312791324) hw) ?_ _ _ _
    | with_reducible refine State.runOp_moves (Within.trans (by decide : Within 256 35256312791324) hw) ?_ _ _ _
    | with_reducible refine Moves.ite ?_ ?_
    | split
    | extract_lets
    | with_reducible refine Moves.getD (Moves.optFindSome (fun _ => ?_)) ?_
    | with_reducible refine Moves.optMap (fun _ => ?_)
    | with_reducible refine Moves.optSndMapSnd ?_
    | with_reducible refine Moves.optSndMap (fun _ => ?_)
    | with_reducible refine Moves.optBind ?_ (fun _ _ => ?_)
    | with_reducible refine Moves.optOf (fun _ => ?_)
    | (with_reducible refine Moves.foldl ?_ (fun _ _ _ => ?_))
    | (with_reducible refine Moves.foldlFst ?_ (fun _ _ _ => ?_))
    | (with_reducible refine Moves.foldr ?_ (fun _ _ _ => ?_))
    | with_reducible refine Moves.optIte ?_ ?_
    | with_reducible refine Moves.foldlOpt ?_ (fun _ _ _ => ?_)
    | with_reducible refine Moves.optSome ?_
    | with_reducible exact Moves.optNone
    | with_reducible refine Moves.some (by assumption) ?_
    | with_reducible refine Moves.fst (by assumption) ?_
    | with_reducible refine Moves.snd (by assumption) ?_
    | dsimp +zetaDelta only

theorem execLinkSend_moves {w : Nat} {s u : State} (hw : Within 2570627604827964 w) (h : Moves w s u) (run : Sys2Proof.W32) (r : Sys2Proof.RegionId) (p : Sys2Proof.PortId) :
    Moves.outcome w s (execLinkSend run r p u) := by
  unfold execLinkSend
  repeat'
    first
    | with_reducible assumption
    | with_reducible exact Moves.fault
    | with_reducible refine Moves.next ?_
    | with_reducible refine State.plateOp_moves (Within.trans (by decide : Within 2570627604827964 2570627604827964) hw) ?_ _ _ _ _ (fun _ _ _ => ?_)
    | with_reducible refine State.linkSend_moves (Within.trans (by decide : Within 35256312791324 2570627604827964) hw) ?_ _
    | with_reducible refine Moves.ite ?_ ?_
    | split
    | extract_lets
    | with_reducible refine Moves.getD (Moves.optFindSome (fun _ => ?_)) ?_
    | with_reducible refine Moves.optMap (fun _ => ?_)
    | with_reducible refine Moves.optSndMapSnd ?_
    | with_reducible refine Moves.optSndMap (fun _ => ?_)
    | with_reducible refine Moves.optBind ?_ (fun _ _ => ?_)
    | with_reducible refine Moves.optOf (fun _ => ?_)
    | (with_reducible refine Moves.foldl ?_ (fun _ _ _ => ?_))
    | (with_reducible refine Moves.foldlFst ?_ (fun _ _ _ => ?_))
    | (with_reducible refine Moves.foldr ?_ (fun _ _ _ => ?_))
    | with_reducible refine Moves.optIte ?_ ?_
    | with_reducible refine Moves.foldlOpt ?_ (fun _ _ _ => ?_)
    | with_reducible refine Moves.optSome ?_
    | with_reducible exact Moves.optNone
    | with_reducible refine Moves.some (by assumption) ?_
    | with_reducible refine Moves.fst (by assumption) ?_
    | with_reducible refine Moves.snd (by assumption) ?_
    | dsimp +zetaDelta only

theorem State.haltAt_moves {w : Nat} {s u : State} (hw : Within 35184372089100 w) (h : Moves w s u) (x : Op) (code : Nat) (tc : Nat) :
    Moves w s (State.haltAt u x code tc) := by
  unfold State.haltAt
  repeat'
    first
    | with_reducible assumption
    | with_reducible refine State.spread_moves (Within.trans (by decide : Within 35184372089100 35184372089100) hw) ?_ _
    | with_reducible refine State.haltOne_moves (Within.trans (by decide : Within 35184372089100 35184372089100) hw) ?_ _ _ _
    | with_reducible refine Moves.ite ?_ ?_
    | split
    | extract_lets
    | with_reducible refine Moves.getD (Moves.optFindSome (fun _ => ?_)) ?_
    | with_reducible refine Moves.optMap (fun _ => ?_)
    | with_reducible refine Moves.optSndMapSnd ?_
    | with_reducible refine Moves.optSndMap (fun _ => ?_)
    | with_reducible refine Moves.optBind ?_ (fun _ _ => ?_)
    | with_reducible refine Moves.optOf (fun _ => ?_)
    | (with_reducible refine Moves.foldl ?_ (fun _ _ _ => ?_))
    | (with_reducible refine Moves.foldlFst ?_ (fun _ _ _ => ?_))
    | (with_reducible refine Moves.foldr ?_ (fun _ _ _ => ?_))
    | with_reducible refine Moves.optIte ?_ ?_
    | with_reducible refine Moves.foldlOpt ?_ (fun _ _ _ => ?_)
    | with_reducible refine Moves.optSome ?_
    | with_reducible exact Moves.optNone
    | with_reducible refine Moves.some (by assumption) ?_
    | with_reducible refine Moves.fst (by assumption) ?_
    | with_reducible refine Moves.snd (by assumption) ?_
    | dsimp +zetaDelta only

theorem State.sendFlit_moves {w : Nat} {s u : State} (hw : Within 35459249995788 w) (h : Moves w s u) (r : Nat) (e : Nat) (dest : Nat) (prologue : Nat) (cls : Nat) (data : Sys2Proof.Bytes) :
    Moves w s (State.sendFlit u r e dest prologue cls data) := by
  unfold State.sendFlit
  repeat'
    first
    | with_reducible assumption
    | with_reducible refine State.count_moves (Within.trans (by decide : Within 35184372088844 35459249995788) hw) ?_ _ _ _
    | with_reducible refine State.modEdge_moves (Within.trans (by decide : Within 274877906944 35459249995788) hw) ?_ _ _ _
    | with_reducible refine Moves.ite ?_ ?_
    | split
    | extract_lets
    | with_reducible refine Moves.getD (Moves.optFindSome (fun _ => ?_)) ?_
    | with_reducible refine Moves.optMap (fun _ => ?_)
    | with_reducible refine Moves.optSndMapSnd ?_
    | with_reducible refine Moves.optSndMap (fun _ => ?_)
    | with_reducible refine Moves.optBind ?_ (fun _ _ => ?_)
    | with_reducible refine Moves.optOf (fun _ => ?_)
    | (with_reducible refine Moves.foldl ?_ (fun _ _ _ => ?_))
    | (with_reducible refine Moves.foldlFst ?_ (fun _ _ _ => ?_))
    | (with_reducible refine Moves.foldr ?_ (fun _ _ _ => ?_))
    | with_reducible refine Moves.optIte ?_ ?_
    | with_reducible refine Moves.foldlOpt ?_ (fun _ _ _ => ?_)
    | with_reducible refine Moves.optSome ?_
    | with_reducible exact Moves.optNone
    | with_reducible refine Moves.some (by assumption) ?_
    | with_reducible refine Moves.fst (by assumption) ?_
    | with_reducible refine Moves.snd (by assumption) ?_
    | dsimp +zetaDelta only

theorem State.edgeSend_moves {w : Nat} {s u : State} (hw : Within 35462471221532 w) (h : Moves w s u) (x : Op) :
    Moves w s (State.edgeSend u x) := by
  unfold State.edgeSend
  repeat'
    first
    | with_reducible assumption
    | with_reducible refine State.haltOp_moves (Within.trans (by decide : Within 35184372089100 35462471221532) hw) ?_ _ _
    | with_reducible refine State.outgoing_moves (Within.trans (by decide : Within 3221225744 35462471221532) hw) ?_ _
    | with_reducible refine Moves.fst ‹State.outgoing _ _ = (_, _)› (State.outgoing_moves (Within.trans (by decide : Within 3221225744 35462471221532) hw) ?_ _)
    | with_reducible refine State.sendFlit_moves (Within.trans (by decide : Within 35459249995788 35462471221532) hw) ?_ _ _ _ _ _ _
    | with_reducible refine State.modRR_moves (Within.trans (by decide : Within 256 35462471221532) hw) ?_ _ _ _
    | with_reducible refine State.noteSent_moves (Within.trans (by decide : Within 256 35462471221532) hw) ?_ _ _
    | with_reducible refine State.runOp_moves (Within.trans (by decide : Within 256 35462471221532) hw) ?_ _ _ _
    | with_reducible refine State.count_moves (Within.trans (by decide : Within 35184372088844 35462471221532) hw) ?_ _ _ _
    | with_reducible refine Moves.ite ?_ ?_
    | split
    | extract_lets
    | with_reducible refine Moves.getD (Moves.optFindSome (fun _ => ?_)) ?_
    | with_reducible refine Moves.optMap (fun _ => ?_)
    | with_reducible refine Moves.optSndMapSnd ?_
    | with_reducible refine Moves.optSndMap (fun _ => ?_)
    | with_reducible refine Moves.optBind ?_ (fun _ _ => ?_)
    | with_reducible refine Moves.optOf (fun _ => ?_)
    | (with_reducible refine Moves.foldl ?_ (fun _ _ _ => ?_))
    | (with_reducible refine Moves.foldlFst ?_ (fun _ _ _ => ?_))
    | (with_reducible refine Moves.foldr ?_ (fun _ _ _ => ?_))
    | with_reducible refine Moves.optIte ?_ ?_
    | with_reducible refine Moves.foldlOpt ?_ (fun _ _ _ => ?_)
    | with_reducible refine Moves.optSome ?_
    | with_reducible exact Moves.optNone
    | with_reducible refine Moves.some (by assumption) ?_
    | with_reducible refine Moves.fst (by assumption) ?_
    | with_reducible refine Moves.snd (by assumption) ?_
    | dsimp +zetaDelta only

theorem execEdgeSend_moves {w : Nat} {s u : State} (hw : Within 2570627604827964 w) (h : Moves w s u) (run : Sys2Proof.W32) (r : Sys2Proof.RegionId) :
    Moves.outcome w s (execEdgeSend run r u) := by
  unfold execEdgeSend
  repeat'
    first
    | with_reducible assumption
    | with_reducible exact Moves.fault
    | with_reducible refine Moves.next ?_
    | with_reducible refine State.plateOp_moves (Within.trans (by decide : Within 2570627604827964 2570627604827964) hw) ?_ _ _ _ _ (fun _ _ _ => ?_)
    | with_reducible refine State.edgeSend_moves (Within.trans (by decide : Within 35462471221532 2570627604827964) hw) ?_ _
    | with_reducible refine Moves.ite ?_ ?_
    | split
    | extract_lets
    | with_reducible refine Moves.getD (Moves.optFindSome (fun _ => ?_)) ?_
    | with_reducible refine Moves.optMap (fun _ => ?_)
    | with_reducible refine Moves.optSndMapSnd ?_
    | with_reducible refine Moves.optSndMap (fun _ => ?_)
    | with_reducible refine Moves.optBind ?_ (fun _ _ => ?_)
    | with_reducible refine Moves.optOf (fun _ => ?_)
    | (with_reducible refine Moves.foldl ?_ (fun _ _ _ => ?_))
    | (with_reducible refine Moves.foldlFst ?_ (fun _ _ _ => ?_))
    | (with_reducible refine Moves.foldr ?_ (fun _ _ _ => ?_))
    | with_reducible refine Moves.optIte ?_ ?_
    | with_reducible refine Moves.foldlOpt ?_ (fun _ _ _ => ?_)
    | with_reducible refine Moves.optSome ?_
    | with_reducible exact Moves.optNone
    | with_reducible refine Moves.some (by assumption) ?_
    | with_reducible refine Moves.fst (by assumption) ?_
    | with_reducible refine Moves.snd (by assumption) ?_
    | dsimp +zetaDelta only

theorem State.landItems_moves {w : Nat} {s u : State} (hw : Within 3221225488 w) (h : Moves w s u) (x : Op) (hdr : Sys2Proof.Bytes) (i : Nat) (items : List Sys2Proof.Bytes) :
    Moves w s (State.landItems u x hdr i items) := by
  unfold State.landItems
  repeat'
    first
    | with_reducible assumption
    | with_reducible refine State.writeCtx_moves (Within.trans (by decide : Within 3221225488 3221225488) hw) ?_ _ _ _ _
    | with_reducible refine Moves.some ‹State.writeCtx _ _ _ _ _ = some _› (State.writeCtx_moves (Within.trans (by decide : Within 3221225488 3221225488) hw) ?_ _ _ _ _)
    | with_reducible refine Moves.getD (State.writeCtx_moves (Within.trans (by decide : Within 3221225488 3221225488) hw) ?_ _ _ _ _) ?_
    | with_reducible refine Moves.ite ?_ ?_
    | split
    | extract_lets
    | with_reducible refine Moves.getD (Moves.optFindSome (fun _ => ?_)) ?_
    | with_reducible refine Moves.optMap (fun _ => ?_)
    | with_reducible refine Moves.optSndMapSnd ?_
    | with_reducible refine Moves.optSndMap (fun _ => ?_)
    | with_reducible refine Moves.optBind ?_ (fun _ _ => ?_)
    | with_reducible refine Moves.optOf (fun _ => ?_)
    | (with_reducible refine Moves.foldl ?_ (fun _ _ _ => ?_))
    | (with_reducible refine Moves.foldlFst ?_ (fun _ _ _ => ?_))
    | (with_reducible refine Moves.foldr ?_ (fun _ _ _ => ?_))
    | with_reducible refine Moves.optIte ?_ ?_
    | with_reducible refine Moves.foldlOpt ?_ (fun _ _ _ => ?_)
    | with_reducible refine Moves.optSome ?_
    | with_reducible exact Moves.optNone
    | with_reducible refine Moves.some (by assumption) ?_
    | with_reducible refine Moves.fst (by assumption) ?_
    | with_reducible refine Moves.snd (by assumption) ?_
    | dsimp +zetaDelta only

theorem State.landTransfer_moves {w : Nat} {s u : State} (hw : Within 552977039376 w) (h : Moves w s u) (r : Nat) (j : Nat) :
    Moves w s (State.landTransfer u r j) := by
  unfold State.landTransfer
  repeat'
    first
    | with_reducible assumption
    | with_reducible refine State.landItems_moves (Within.trans (by decide : Within 3221225488 552977039376) hw) ?_ _ _ _ _
    | with_reducible refine Moves.ite ?_ ?_
    | split
    | extract_lets
    | with_reducible refine Moves.getD (Moves.optFindSome (fun _ => ?_)) ?_
    | with_reducible refine Moves.optMap (fun _ => ?_)
    | with_reducible refine Moves.optSndMapSnd ?_
    | with_reducible refine Moves.optSndMap (fun _ => ?_)
    | with_reducible refine Moves.optBind ?_ (fun _ _ => ?_)
    | with_reducible refine Moves.optOf (fun _ => ?_)
    | (with_reducible refine Moves.foldl ?_ (fun _ _ _ => ?_))
    | (with_reducible refine Moves.foldlFst ?_ (fun _ _ _ => ?_))
    | (with_reducible refine Moves.foldr ?_ (fun _ _ _ => ?_))
    | with_reducible refine Moves.optIte ?_ ?_
    | with_reducible refine Moves.foldlOpt ?_ (fun _ _ _ => ?_)
    | with_reducible refine Moves.optSome ?_
    | with_reducible exact Moves.optNone
    | with_reducible refine Moves.some (by assumption) ?_
    | with_reducible refine Moves.fst (by assumption) ?_
    | with_reducible refine Moves.snd (by assumption) ?_
    | dsimp +zetaDelta only
    | with_reducible refine State.modRegion_moves ?_ (fun _ => ?_)
    | with_reducible refine RM.ite ?_ ?_
    | with_reducible exact RM.refl _ _
    | exact ⟨.same, .same, ⟨.rfl, .rfl, .rfl, .of hw (by decide), .rfl⟩, .same, .same, .rfl, id⟩

theorem State.linkLate_moves {w : Nat} {s u : State} (hw : Within 2570590003938572 w) (h : Moves w s u) (x : Op) (b : Busy) (member : Nat) :
    Moves w s (State.linkLate u x b member) := by
  unfold State.linkLate
  repeat'
    first
    | with_reducible assumption
    | with_reducible refine State.stopOp_moves (Within.trans (by decide : Within 37314675885324 2570590003938572) hw) ?_ _ _ _ _ _ _
    | with_reducible refine State.modRR_moves (Within.trans (by decide : Within 256 2570590003938572) hw) ?_ _ _ _
    | with_reducible refine State.reach_moves (Within.trans (by decide : Within 2568459700142092 2570590003938572) hw) ?_ _ _
    | with_reducible refine Moves.ite ?_ ?_
    | split
    | extract_lets
    | with_reducible refine Moves.getD (Moves.optFindSome (fun _ => ?_)) ?_
    | with_reducible refine Moves.optMap (fun _ => ?_)
    | with_reducible refine Moves.optSndMapSnd ?_
    | with_reducible refine Moves.optSndMap (fun _ => ?_)
    | with_reducible refine Moves.optBind ?_ (fun _ _ => ?_)
    | with_reducible refine Moves.optOf (fun _ => ?_)
    | (with_reducible refine Moves.foldl ?_ (fun _ _ _ => ?_))
    | (with_reducible refine Moves.foldlFst ?_ (fun _ _ _ => ?_))
    | (with_reducible refine Moves.foldr ?_ (fun _ _ _ => ?_))
    | with_reducible refine Moves.optIte ?_ ?_
    | with_reducible refine Moves.foldlOpt ?_ (fun _ _ _ => ?_)
    | with_reducible refine Moves.optSome ?_
    | with_reducible exact Moves.optNone
    | with_reducible refine Moves.some (by assumption) ?_
    | with_reducible refine Moves.fst (by assumption) ?_
    | with_reducible refine Moves.snd (by assumption) ?_
    | dsimp +zetaDelta only

theorem State.landDirectory_moves {w : Nat} {s u : State} (hw : Within 3221225488 w) (h : Moves w s u) (x : Op) (key : Nat) (hdr : Sys2Proof.Bytes) :
    Moves w s (State.landDirectory u x key hdr) := by
  unfold State.landDirectory
  repeat'
    first
    | with_reducible assumption
    | with_reducible refine State.putAt_moves (Within.trans (by decide : Within 3221225488 3221225488) hw) ?_ _ _ _ _
    | with_reducible refine Moves.ite ?_ ?_
    | split
    | extract_lets
    | with_reducible refine Moves.getD (Moves.optFindSome (fun _ => ?_)) ?_
    | with_reducible refine Moves.optMap (fun _ => ?_)
    | with_reducible refine Moves.optSndMapSnd ?_
    | with_reducible refine Moves.optSndMap (fun _ => ?_)
    | with_reducible refine Moves.optBind ?_ (fun _ _ => ?_)
    | with_reducible refine Moves.optOf (fun _ => ?_)
    | (with_reducible refine Moves.foldl ?_ (fun _ _ _ => ?_))
    | (with_reducible refine Moves.foldlFst ?_ (fun _ _ _ => ?_))
    | (with_reducible refine Moves.foldr ?_ (fun _ _ _ => ?_))
    | with_reducible refine Moves.optIte ?_ ?_
    | with_reducible refine Moves.foldlOpt ?_ (fun _ _ _ => ?_)
    | with_reducible refine Moves.optSome ?_
    | with_reducible exact Moves.optNone
    | with_reducible refine Moves.some (by assumption) ?_
    | with_reducible refine Moves.fst (by assumption) ?_
    | with_reducible refine Moves.snd (by assumption) ?_
    | dsimp +zetaDelta only

theorem State.takeStream_moves {w : Nat} {s u : State} (hw : Within 35187593314588 w) (h : Moves w s u) (x : Op) (hdr : Sys2Proof.Bytes) (i : Nat) (items : List Sys2Proof.Bytes) :
    Moves w s (State.takeStream u x hdr i items).1 := by
  unfold State.takeStream
  repeat'
    first
    | with_reducible assumption
    | with_reducible refine State.landItems_moves (Within.trans (by decide : Within 3221225488 35187593314588) hw) ?_ _ _ _ _
    | with_reducible refine State.landDirectory_moves (Within.trans (by decide : Within 3221225488 35187593314588) hw) ?_ _ _ _
    | with_reducible refine State.modRR_moves (Within.trans (by decide : Within 256 35187593314588) hw) ?_ _ _ _
    | with_reducible refine State.count_moves (Within.trans (by decide : Within 35184372088844 35187593314588) hw) ?_ _ _ _
    | with_reducible refine Moves.ite ?_ ?_
    | split
    | extract_lets
    | with_reducible refine Moves.getD (Moves.optFindSome (fun _ => ?_)) ?_
    | with_reducible refine Moves.optMap (fun _ => ?_)
    | with_reducible refine Moves.optSndMapSnd ?_
    | with_reducible refine Moves.optSndMap (fun _ => ?_)
    | with_reducible refine Moves.optBind ?_ (fun _ _ => ?_)
    | with_reducible refine Moves.optOf (fun _ => ?_)
    | (with_reducible refine Moves.foldl ?_ (fun _ _ _ => ?_))
    | (with_reducible refine Moves.foldlFst ?_ (fun _ _ _ => ?_))
    | (with_reducible refine Moves.foldr ?_ (fun _ _ _ => ?_))
    | with_reducible refine Moves.optIte ?_ ?_
    | with_reducible refine Moves.foldlOpt ?_ (fun _ _ _ => ?_)
    | with_reducible refine Moves.optSome ?_
    | with_reducible exact Moves.optNone
    | with_reducible refine Moves.some (by assumption) ?_
    | with_reducible refine Moves.fst (by assumption) ?_
    | with_reducible refine Moves.snd (by assumption) ?_
    | dsimp +zetaDelta only

theorem State.settleLink_moves {w : Nat} {s u : State} (hw : Within 2570593225164060 w) (h : Moves w s u) (seq : Sys2Proof.W32) (r : Nat) (p : Nat) :
    Moves w s (State.settleLink u seq r p) := by
  unfold State.settleLink
  repeat'
    first
    | with_reducible assumption
    | with_reducible refine State.modRR_moves (Within.trans (by decide : Within 256 2570593225164060) hw) ?_ _ _ _
    | with_reducible refine State.stopOp_moves (Within.trans (by decide : Within 37314675885324 2570593225164060) hw) ?_ _ _ _ _ _ _
    | with_reducible refine State.linkLate_moves (Within.trans (by decide : Within 2570590003938572 2570593225164060) hw) ?_ _ _ _
    | with_reducible refine State.takeStream_moves (Within.trans (by decide : Within 35187593314588 2570593225164060) hw) ?_ _ _ _ _
    | with_reducible refine Moves.fst ‹State.takeStream _ _ _ _ _ = (_, _)› (State.takeStream_moves (Within.trans (by decide : Within 35187593314588 2570593225164060) hw) ?_ _ _ _ _)
    | with_reducible refine Moves.ite ?_ ?_
    | split
    | extract_lets
    | with_reducible refine Moves.getD (Moves.optFindSome (fun _ => ?_)) ?_
    | with_reducible refine Moves.optMap (fun _ => ?_)
    | with_reducible refine Moves.optSndMapSnd ?_
    | with_reducible refine Moves.optSndMap (fun _ => ?_)
    | with_reducible refine Moves.optBind ?_ (fun _ _ => ?_)
    | with_reducible refine Moves.optOf (fun _ => ?_)
    | (with_reducible refine Moves.foldl ?_ (fun _ _ _ => ?_))
    | (with_reducible refine Moves.foldlFst ?_ (fun _ _ _ => ?_))
    | (with_reducible refine Moves.foldr ?_ (fun _ _ _ => ?_))
    | with_reducible refine Moves.optIte ?_ ?_
    | with_reducible refine Moves.foldlOpt ?_ (fun _ _ _ => ?_)
    | with_reducible refine Moves.optSome ?_
    | with_reducible exact Moves.optNone
    | with_reducible refine Moves.some (by assumption) ?_
    | with_reducible refine Moves.fst (by assumption) ?_
    | with_reducible refine Moves.snd (by assumption) ?_
    | dsimp +zetaDelta only
    | with_reducible refine State.modRegion_moves ?_ (fun _ => ?_)
    | with_reducible refine RM.ite ?_ ?_
    | with_reducible exact RM.refl _ _
    | exact ⟨.same, .same, ⟨.rfl, .rfl, .rfl, .rfl, .of hw (by decide)⟩, .same, .same, .rfl, id⟩

theorem State.linkTimeout_moves {w : Nat} {s u : State} (hw : Within 2570590003938572 w) (h : Moves w s u) (seq : Sys2Proof.W32) (r : Nat) (p : Nat) :
    Moves w s (State.linkTimeout u seq r p) := by
  unfold State.linkTimeout
  repeat'
    first
    | with_reducible assumption
    | with_reducible refine State.linkLate_moves (Within.trans (by decide : Within 2570590003938572 2570590003938572) hw) ?_ _ _ _
    | with_reducible refine Moves.ite ?_ ?_
    | split
    | extract_lets
    | with_reducible refine Moves.getD (Moves.optFindSome (fun _ => ?_)) ?_
    | with_reducible refine Moves.optMap (fun _ => ?_)
    | with_reducible refine Moves.optSndMapSnd ?_
    | with_reducible refine Moves.optSndMap (fun _ => ?_)
    | with_reducible refine Moves.optBind ?_ (fun _ _ => ?_)
    | with_reducible refine Moves.optOf (fun _ => ?_)
    | (with_reducible refine Moves.foldl ?_ (fun _ _ _ => ?_))
    | (with_reducible refine Moves.foldlFst ?_ (fun _ _ _ => ?_))
    | (with_reducible refine Moves.foldr ?_ (fun _ _ _ => ?_))
    | with_reducible refine Moves.optIte ?_ ?_
    | with_reducible refine Moves.foldlOpt ?_ (fun _ _ _ => ?_)
    | with_reducible refine Moves.optSome ?_
    | with_reducible exact Moves.optNone
    | with_reducible refine Moves.some (by assumption) ?_
    | with_reducible refine Moves.fst (by assumption) ?_
    | with_reducible refine Moves.snd (by assumption) ?_
    | dsimp +zetaDelta only

theorem execLinkTimeout_moves {w : Nat} {s u : State} (hw : Within 2570590003938572 w) (h : Moves w s u) (run : Sys2Proof.W32) (r : Sys2Proof.RegionId) (p : Sys2Proof.PortId) :
    Moves.outcome w s (execLinkTimeout run r p u) := by
  unfold execLinkTimeout
  repeat'
    first
    | with_reducible assumption
    | with_reducible exact Moves.fault
    | with_reducible refine Moves.next ?_
    | with_reducible refine State.linkTimeout_moves (Within.trans (by decide : Within 2570590003938572 2570590003938572) hw) ?_ _ _ _
    | with_reducible refine Moves.ite ?_ ?_
    | split
    | extract_lets
    | with_reducible refine Moves.getD (Moves.optFindSome (fun _ => ?_)) ?_
    | with_reducible refine Moves.optMap (fun _ => ?_)
    | with_reducible refine Moves.optSndMapSnd ?_
    | with_reducible refine Moves.optSndMap (fun _ => ?_)
    | with_reducible refine Moves.optBind ?_ (fun _ _ => ?_)
    | with_reducible refine Moves.optOf (fun _ => ?_)
    | (with_reducible refine Moves.foldl ?_ (fun _ _ _ => ?_))
    | (with_reducible refine Moves.foldlFst ?_ (fun _ _ _ => ?_))
    | (with_reducible refine Moves.foldr ?_ (fun _ _ _ => ?_))
    | with_reducible refine Moves.optIte ?_ ?_
    | with_reducible refine Moves.foldlOpt ?_ (fun _ _ _ => ?_)
    | with_reducible refine Moves.optSome ?_
    | with_reducible exact Moves.optNone
    | with_reducible refine Moves.some (by assumption) ?_
    | with_reducible refine Moves.fst (by assumption) ?_
    | with_reducible refine Moves.snd (by assumption) ?_
    | dsimp +zetaDelta only

theorem State.settleRecv_moves {w : Nat} {s u : State} (hw : Within 37317897110812 w) (h : Moves w s u) (seq : Sys2Proof.W32) (r : Nat) :
    Moves w s (State.settleRecv u seq r) := by
  unfold State.settleRecv
  repeat'
    first
    | with_reducible assumption
    | with_reducible refine State.stopOp_moves (Within.trans (by decide : Within 37314675885324 37317897110812) hw) ?_ _ _ _ _ _ _
    | with_reducible refine State.takeStream_moves (Within.trans (by decide : Within 35187593314588 37317897110812) hw) ?_ _ _ _ _
    | with_reducible refine Moves.fst ‹State.takeStream _ _ _ _ _ = (_, _)› (State.takeStream_moves (Within.trans (by decide : Within 35187593314588 37317897110812) hw) ?_ _ _ _ _)
    | with_reducible refine State.modRR_moves (Within.trans (by decide : Within 256 37317897110812) hw) ?_ _ _ _
    | with_reducible refine Moves.ite ?_ ?_
    | split
    | extract_lets
    | with_reducible refine Moves.getD (Moves.optFindSome (fun _ => ?_)) ?_
    | with_reducible refine Moves.optMap (fun _ => ?_)
    | with_reducible refine Moves.optSndMapSnd ?_
    | with_reducible refine Moves.optSndMap (fun _ => ?_)
    | with_reducible refine Moves.optBind ?_ (fun _ _ => ?_)
    | with_reducible refine Moves.optOf (fun _ => ?_)
    | (with_reducible refine Moves.foldl ?_ (fun _ _ _ => ?_))
    | (with_reducible refine Moves.foldlFst ?_ (fun _ _ _ => ?_))
    | (with_reducible refine Moves.foldr ?_ (fun _ _ _ => ?_))
    | with_reducible refine Moves.optIte ?_ ?_
    | with_reducible refine Moves.foldlOpt ?_ (fun _ _ _ => ?_)
    | with_reducible refine Moves.optSome ?_
    | with_reducible exact Moves.optNone
    | with_reducible refine Moves.some (by assumption) ?_
    | with_reducible refine Moves.fst (by assumption) ?_
    | with_reducible refine Moves.snd (by assumption) ?_
    | dsimp +zetaDelta only
    | with_reducible refine State.modRegion_moves ?_ (fun _ => ?_)
    | with_reducible refine RM.ite ?_ ?_
    | with_reducible exact RM.refl _ _
    | exact ⟨.same, .same, ⟨.rfl, .rfl, .rfl, .of hw (by decide), .rfl⟩, .same, .same, .rfl, id⟩

theorem State.edgeRecv_moves {w : Nat} {s u : State} (hw : Within 37317897110812 w) (h : Moves w s u) (x : Op) :
    Moves w s (State.edgeRecv u x) := by
  unfold State.edgeRecv
  repeat'
    first
    | with_reducible assumption
    | with_reducible refine State.haltAt_moves (Within.trans (by decide : Within 35184372089100 37317897110812) hw) ?_ _ _ _
    | with_reducible refine State.haltOp_moves (Within.trans (by decide : Within 35184372089100 37317897110812) hw) ?_ _ _
    | with_reducible refine State.settleRecv_moves (Within.trans (by decide : Within 37317897110812 37317897110812) hw) ?_ _ _
    | with_reducible refine State.startOp_moves (Within.trans (by decide : Within 256 37317897110812) hw) ?_ _ _ _ _ _
    | with_reducible refine Moves.ite ?_ ?_
    | split
    | extract_lets
    | with_reducible refine Moves.getD (Moves.optFindSome (fun _ => ?_)) ?_
    | with_reducible refine Moves.optMap (fun _ => ?_)
    | with_reducible refine Moves.optSndMapSnd ?_
    | with_reducible refine Moves.optSndMap (fun _ => ?_)
    | with_reducible refine Moves.optBind ?_ (fun _ _ => ?_)
    | with_reducible refine Moves.optOf (fun _ => ?_)
    | (with_reducible refine Moves.foldl ?_ (fun _ _ _ => ?_))
    | (with_reducible refine Moves.foldlFst ?_ (fun _ _ _ => ?_))
    | (with_reducible refine Moves.foldr ?_ (fun _ _ _ => ?_))
    | with_reducible refine Moves.optIte ?_ ?_
    | with_reducible refine Moves.foldlOpt ?_ (fun _ _ _ => ?_)
    | with_reducible refine Moves.optSome ?_
    | with_reducible exact Moves.optNone
    | with_reducible refine Moves.some (by assumption) ?_
    | with_reducible refine Moves.fst (by assumption) ?_
    | with_reducible refine Moves.snd (by assumption) ?_
    | dsimp +zetaDelta only

theorem execEdgeRecv_moves {w : Nat} {s u : State} (hw : Within 2570627604827964 w) (h : Moves w s u) (run : Sys2Proof.W32) (r : Sys2Proof.RegionId) :
    Moves.outcome w s (execEdgeRecv run r u) := by
  unfold execEdgeRecv
  repeat'
    first
    | with_reducible assumption
    | with_reducible exact Moves.fault
    | with_reducible refine Moves.next ?_
    | with_reducible refine State.plateOp_moves (Within.trans (by decide : Within 2570627604827964 2570627604827964) hw) ?_ _ _ _ _ (fun _ _ _ => ?_)
    | with_reducible refine State.edgeRecv_moves (Within.trans (by decide : Within 37317897110812 2570627604827964) hw) ?_ _
    | with_reducible refine Moves.ite ?_ ?_
    | split
    | extract_lets
    | with_reducible refine Moves.getD (Moves.optFindSome (fun _ => ?_)) ?_
    | with_reducible refine Moves.optMap (fun _ => ?_)
    | with_reducible refine Moves.optSndMapSnd ?_
    | with_reducible refine Moves.optSndMap (fun _ => ?_)
    | with_reducible refine Moves.optBind ?_ (fun _ _ => ?_)
    | with_reducible refine Moves.optOf (fun _ => ?_)
    | (with_reducible refine Moves.foldl ?_ (fun _ _ _ => ?_))
    | (with_reducible refine Moves.foldlFst ?_ (fun _ _ _ => ?_))
    | (with_reducible refine Moves.foldr ?_ (fun _ _ _ => ?_))
    | with_reducible refine Moves.optIte ?_ ?_
    | with_reducible refine Moves.foldlOpt ?_ (fun _ _ _ => ?_)
    | with_reducible refine Moves.optSome ?_
    | with_reducible exact Moves.optNone
    | with_reducible refine Moves.some (by assumption) ?_
    | with_reducible refine Moves.fst (by assumption) ?_
    | with_reducible refine Moves.snd (by assumption) ?_
    | dsimp +zetaDelta only

theorem State.rowSend_moves {w : Nat} {s u : State} (hw : Within 35187593314588 w) (h : Moves w s u) (x : Op) :
    Moves w s (State.rowSend u x) := by
  unfold State.rowSend
  repeat'
    first
    | with_reducible assumption
    | with_reducible refine State.haltOp_moves (Within.trans (by decide : Within 35184372089100 35187593314588) hw) ?_ _ _
    | with_reducible refine State.outgoing_moves (Within.trans (by decide : Within 3221225744 35187593314588) hw) ?_ _
    | with_reducible refine Moves.fst ‹State.outgoing _ _ = (_, _)› (State.outgoing_moves (Within.trans (by decide : Within 3221225744 35187593314588) hw) ?_ _)
    | with_reducible refine State.noteSent_moves (Within.trans (by decide : Within 256 35187593314588) hw) ?_ _ _
    | with_reducible refine State.takeStream_moves (Within.trans (by decide : Within 35187593314588 35187593314588) hw) ?_ _ _ _ _
    | with_reducible refine Moves.fst ‹State.takeStream _ _ _ _ _ = (_, _)› (State.takeStream_moves (Within.trans (by decide : Within 35187593314588 35187593314588) hw) ?_ _ _ _ _)
    | with_reducible refine State.runOp_moves (Within.trans (by decide : Within 256 35187593314588) hw) ?_ _ _ _
    | with_reducible refine Moves.ite ?_ ?_
    | split
    | extract_lets
    | with_reducible refine Moves.getD (Moves.optFindSome (fun _ => ?_)) ?_
    | with_reducible refine Moves.optMap (fun _ => ?_)
    | with_reducible refine Moves.optSndMapSnd ?_
    | with_reducible refine Moves.optSndMap (fun _ => ?_)
    | with_reducible refine Moves.optBind ?_ (fun _ _ => ?_)
    | with_reducible refine Moves.optOf (fun _ => ?_)
    | (with_reducible refine Moves.foldl ?_ (fun _ _ _ => ?_))
    | (with_reducible refine Moves.foldlFst ?_ (fun _ _ _ => ?_))
    | (with_reducible refine Moves.foldr ?_ (fun _ _ _ => ?_))
    | with_reducible refine Moves.optIte ?_ ?_
    | with_reducible refine Moves.foldlOpt ?_ (fun _ _ _ => ?_)
    | with_reducible refine Moves.optSome ?_
    | with_reducible exact Moves.optNone
    | with_reducible refine Moves.some (by assumption) ?_
    | with_reducible refine Moves.fst (by assumption) ?_
    | with_reducible refine Moves.snd (by assumption) ?_
    | dsimp +zetaDelta only

theorem State.landReleased_moves {w : Nat} {s u : State} (hw : Within 552977039376 w) (h : Moves w s u) (r : Nat) :
    Moves w s (State.landReleased u r) := by
  unfold State.landReleased
  repeat'
    first
    | with_reducible assumption
    | with_reducible refine State.landTransfer_moves (Within.trans (by decide : Within 552977039376 552977039376) hw) ?_ _ _
    | with_reducible refine Moves.ite ?_ ?_
    | split
    | extract_lets
    | with_reducible refine Moves.getD (Moves.optFindSome (fun _ => ?_)) ?_
    | with_reducible refine Moves.optMap (fun _ => ?_)
    | with_reducible refine Moves.optSndMapSnd ?_
    | with_reducible refine Moves.optSndMap (fun _ => ?_)
    | with_reducible refine Moves.optBind ?_ (fun _ _ => ?_)
    | with_reducible refine Moves.optOf (fun _ => ?_)
    | (with_reducible refine Moves.foldl ?_ (fun _ _ _ => ?_))
    | (with_reducible refine Moves.foldlFst ?_ (fun _ _ _ => ?_))
    | (with_reducible refine Moves.foldr ?_ (fun _ _ _ => ?_))
    | with_reducible refine Moves.optIte ?_ ?_
    | with_reducible refine Moves.foldlOpt ?_ (fun _ _ _ => ?_)
    | with_reducible refine Moves.optSome ?_
    | with_reducible exact Moves.optNone
    | with_reducible refine Moves.some (by assumption) ?_
    | with_reducible refine Moves.fst (by assumption) ?_
    | with_reducible refine Moves.snd (by assumption) ?_
    | dsimp +zetaDelta only

theorem State.releaseBath_moves {w : Nat} {s u : State} (hw : Within 3131962630603036 w) (h : Moves w s u) (r : Nat) (x : Sys2Proof.Crossing) (d : Nat) :
    Moves w s (State.releaseBath u r x d) := by
  unfold State.releaseBath
  repeat'
    first
    | with_reducible assumption
    | with_reducible refine State.release_moves (Within.trans (by decide : Within 3131959409377548 3131962630603036) hw) ?_ _ _ _
    | with_reducible refine State.slotWait_moves (Within.trans (by decide : Within 35184372088844 3131962630603036) hw) ?_ _ _ _
    | with_reducible refine State.landReleased_moves (Within.trans (by decide : Within 552977039376 3131962630603036) hw) ?_ _
    | with_reducible refine Moves.ite ?_ ?_
    | split
    | extract_lets
    | with_reducible refine Moves.getD (Moves.optFindSome (fun _ => ?_)) ?_
    | with_reducible refine Moves.optMap (fun _ => ?_)
    | with_reducible refine Moves.optSndMapSnd ?_
    | with_reducible refine Moves.optSndMap (fun _ => ?_)
    | with_reducible refine Moves.optBind ?_ (fun _ _ => ?_)
    | with_reducible refine Moves.optOf (fun _ => ?_)
    | (with_reducible refine Moves.foldl ?_ (fun _ _ _ => ?_))
    | (with_reducible refine Moves.foldlFst ?_ (fun _ _ _ => ?_))
    | (with_reducible refine Moves.foldr ?_ (fun _ _ _ => ?_))
    | with_reducible refine Moves.optIte ?_ ?_
    | with_reducible refine Moves.foldlOpt ?_ (fun _ _ _ => ?_)
    | with_reducible refine Moves.optSome ?_
    | with_reducible exact Moves.optNone
    | with_reducible refine Moves.some (by assumption) ?_
    | with_reducible refine Moves.fst (by assumption) ?_
    | with_reducible refine Moves.snd (by assumption) ?_
    | dsimp +zetaDelta only

theorem State.linkRecv_moves {w : Nat} {s u : State} (hw : Within 2570593225164060 w) (h : Moves w s u) (x : Op) :
    Moves w s (State.linkRecv u x) := by
  unfold State.linkRecv
  repeat'
    first
    | with_reducible assumption
    | with_reducible refine State.haltOp_moves (Within.trans (by decide : Within 35184372089100 2570593225164060) hw) ?_ _ _
    | with_reducible refine State.settleLink_moves (Within.trans (by decide : Within 2570593225164060 2570593225164060) hw) ?_ _ _ _
    | with_reducible refine State.startOp_moves (Within.trans (by decide : Within 256 2570593225164060) hw) ?_ _ _ _ _ _
    | with_reducible refine Moves.ite ?_ ?_
    | split
    | extract_lets
    | with_reducible refine Moves.getD (Moves.optFindSome (fun _ => ?_)) ?_
    | with_reducible refine Moves.optMap (fun _ => ?_)
    | with_reducible refine Moves.optSndMapSnd ?_
    | with_reducible refine Moves.optSndMap (fun _ => ?_)
    | with_reducible refine Moves.optBind ?_ (fun _ _ => ?_)
    | with_reducible refine Moves.optOf (fun _ => ?_)
    | (with_reducible refine Moves.foldl ?_ (fun _ _ _ => ?_))
    | (with_reducible refine Moves.foldlFst ?_ (fun _ _ _ => ?_))
    | (with_reducible refine Moves.foldr ?_ (fun _ _ _ => ?_))
    | with_reducible refine Moves.optIte ?_ ?_
    | with_reducible refine Moves.foldlOpt ?_ (fun _ _ _ => ?_)
    | with_reducible refine Moves.optSome ?_
    | with_reducible exact Moves.optNone
    | with_reducible refine Moves.some (by assumption) ?_
    | with_reducible refine Moves.fst (by assumption) ?_
    | with_reducible refine Moves.snd (by assumption) ?_
    | dsimp +zetaDelta only

theorem execLinkRecv_moves {w : Nat} {s u : State} (hw : Within 2570627604827964 w) (h : Moves w s u) (run : Sys2Proof.W32) (r : Sys2Proof.RegionId) (p : Sys2Proof.PortId) :
    Moves.outcome w s (execLinkRecv run r p u) := by
  unfold execLinkRecv
  repeat'
    first
    | with_reducible assumption
    | with_reducible exact Moves.fault
    | with_reducible refine Moves.next ?_
    | with_reducible refine State.plateOp_moves (Within.trans (by decide : Within 2570627604827964 2570627604827964) hw) ?_ _ _ _ _ (fun _ _ _ => ?_)
    | with_reducible refine State.linkRecv_moves (Within.trans (by decide : Within 2570593225164060 2570627604827964) hw) ?_ _
    | with_reducible refine Moves.ite ?_ ?_
    | split
    | extract_lets
    | with_reducible refine Moves.getD (Moves.optFindSome (fun _ => ?_)) ?_
    | with_reducible refine Moves.optMap (fun _ => ?_)
    | with_reducible refine Moves.optSndMapSnd ?_
    | with_reducible refine Moves.optSndMap (fun _ => ?_)
    | with_reducible refine Moves.optBind ?_ (fun _ _ => ?_)
    | with_reducible refine Moves.optOf (fun _ => ?_)
    | (with_reducible refine Moves.foldl ?_ (fun _ _ _ => ?_))
    | (with_reducible refine Moves.foldlFst ?_ (fun _ _ _ => ?_))
    | (with_reducible refine Moves.foldr ?_ (fun _ _ _ => ?_))
    | with_reducible refine Moves.optIte ?_ ?_
    | with_reducible refine Moves.foldlOpt ?_ (fun _ _ _ => ?_)
    | with_reducible refine Moves.optSome ?_
    | with_reducible exact Moves.optNone
    | with_reducible refine Moves.some (by assumption) ?_
    | with_reducible refine Moves.fst (by assumption) ?_
    | with_reducible refine Moves.snd (by assumption) ?_
    | dsimp +zetaDelta only

theorem execStopBathRelease_moves {w : Nat} {s u : State} (hw : Within 3131962630603036 w) (h : Moves w s u) (r : Sys2Proof.RegionId) (x : Sys2Proof.Crossing) (deficit : Sys2Proof.W32) :
    Moves.outcome w s (execStopBathRelease r x deficit u) := by
  unfold execStopBathRelease
  repeat'
    first
    | with_reducible assumption
    | with_reducible exact Moves.fault
    | with_reducible refine Moves.next ?_
    | with_reducible refine State.releaseBath_moves (Within.trans (by decide : Within 3131962630603036 3131962630603036) hw) ?_ _ _ _
    | with_reducible refine Moves.ite ?_ ?_
    | split
    | extract_lets
    | with_reducible refine Moves.getD (Moves.optFindSome (fun _ => ?_)) ?_
    | with_reducible refine Moves.optMap (fun _ => ?_)
    | with_reducible refine Moves.optSndMapSnd ?_
    | with_reducible refine Moves.optSndMap (fun _ => ?_)
    | with_reducible refine Moves.optBind ?_ (fun _ _ => ?_)
    | with_reducible refine Moves.optOf (fun _ => ?_)
    | (with_reducible refine Moves.foldl ?_ (fun _ _ _ => ?_))
    | (with_reducible refine Moves.foldlFst ?_ (fun _ _ _ => ?_))
    | (with_reducible refine Moves.foldr ?_ (fun _ _ _ => ?_))
    | with_reducible refine Moves.optIte ?_ ?_
    | with_reducible refine Moves.foldlOpt ?_ (fun _ _ _ => ?_)
    | with_reducible refine Moves.optSome ?_
    | with_reducible exact Moves.optNone
    | with_reducible refine Moves.some (by assumption) ?_
    | with_reducible refine Moves.fst (by assumption) ?_
    | with_reducible refine Moves.snd (by assumption) ?_
    | dsimp +zetaDelta only

theorem execRowSend_moves {w : Nat} {s u : State} (hw : Within 2570627604827964 w) (h : Moves w s u) (run : Sys2Proof.W32) (r : Sys2Proof.RegionId) (g : Sys2Proof.CellGroupId) :
    Moves.outcome w s (execRowSend run r g u) := by
  unfold execRowSend
  repeat'
    first
    | with_reducible assumption
    | with_reducible exact Moves.fault
    | with_reducible refine Moves.next ?_
    | with_reducible refine State.plateOp_moves (Within.trans (by decide : Within 2570627604827964 2570627604827964) hw) ?_ _ _ _ _ (fun _ _ _ => ?_)
    | with_reducible refine State.rowSend_moves (Within.trans (by decide : Within 35187593314588 2570627604827964) hw) ?_ _
    | with_reducible refine Moves.ite ?_ ?_
    | split
    | extract_lets
    | with_reducible refine Moves.getD (Moves.optFindSome (fun _ => ?_)) ?_
    | with_reducible refine Moves.optMap (fun _ => ?_)
    | with_reducible refine Moves.optSndMapSnd ?_
    | with_reducible refine Moves.optSndMap (fun _ => ?_)
    | with_reducible refine Moves.optBind ?_ (fun _ _ => ?_)
    | with_reducible refine Moves.optOf (fun _ => ?_)
    | (with_reducible refine Moves.foldl ?_ (fun _ _ _ => ?_))
    | (with_reducible refine Moves.foldlFst ?_ (fun _ _ _ => ?_))
    | (with_reducible refine Moves.foldr ?_ (fun _ _ _ => ?_))
    | with_reducible refine Moves.optIte ?_ ?_
    | with_reducible refine Moves.foldlOpt ?_ (fun _ _ _ => ?_)
    | with_reducible refine Moves.optSome ?_
    | with_reducible exact Moves.optNone
    | with_reducible refine Moves.some (by assumption) ?_
    | with_reducible refine Moves.fst (by assumption) ?_
    | with_reducible refine Moves.snd (by assumption) ?_
    | dsimp +zetaDelta only

end Sys2Proof.Machine
end

