-- ==== Sys2Proof/Laws/HandOverMoves.lean ====
section
/-! SUPPORT. Sys2Proof/Laws/HandOverMoves.lean: what each operation of Machine/HandOver.lean can do to the state: the parts it may change, and that it keeps
the canonical form. -/

namespace Sys2Proof.Machine

theorem State.descriptorTaken_moves {w : Nat} {s u : State} (hw : Within 3138556479144204 w) (h : Moves w s u) (r : Nat) :
    Moves w s (State.descriptorTaken u r) := by
  unfold State.descriptorTaken
  repeat'
    first
    | with_reducible assumption
    | with_reducible refine State.bumpF_moves (Within.trans (by decide : Within 12 3138556479144204) hw) ?_ _ _ _
    | with_reducible refine State.stallFrom_moves (Within.trans (by decide : Within 3131959409377548 3138556479144204) hw) ?_ _ _ _ _
    | with_reducible refine State.modRR_moves (Within.trans (by decide : Within 256 3138556479144204) hw) ?_ _ _ _
    | with_reducible refine Moves.ite ?_ ?_
    | split
    | extract_lets
    | with_reducible refine Moves.getD (Moves.optFindSome (fun _ => ?_)) ?_
    | with_reducible refine Moves.optMap (fun _ => ?_)
    | with_reducible refine Moves.optSndMapSnd ?_
    | with_reducible refine Moves.optSndMap (fun _ => ?_)
    | with_reducible refine Moves.optBind ?_ (fun _ _ => ?_)
    | with_reducible refine Moves.optOf (fun _ => ?_)
    | (with_reducible refine Moves.foldl ?_ (fun _ _ _ => ?_))
    | (with_reducible refine Moves.foldlFst ?_ (fun _ _ _ => ?_))
    | (with_reducible refine Moves.foldr ?_ (fun _ _ _ => ?_))
    | with_reducible refine Moves.optIte ?_ ?_
    | with_reducible refine Moves.foldlOpt ?_ (fun _ _ _ => ?_)
    | with_reducible refine Moves.optSome ?_
    | with_reducible exact Moves.optNone
    | with_reducible refine Moves.some (by assumption) ?_
    | with_reducible refine Moves.fst (by assumption) ?_
    | with_reducible refine Moves.snd (by assumption) ?_
    | dsimp +zetaDelta only
    | with_reducible refine State.modRegion_moves ?_ (fun _ => ?_)
    | with_reducible refine RM.ite ?_ ?_
    | with_reducible exact RM.refl _ _
    | exact ⟨.same, .same, .same, ⟨.of hw (by decide), .of hw (by decide), .rfl, .rfl, .rfl⟩, .same, .rfl, id⟩

theorem execEwDescriptorTaken_moves {w : Nat} {s u : State} (hw : Within 3138556479144204 w) (h : Moves w s u) (r : Sys2Proof.RegionId) :
    Moves.outcome w s (execEwDescriptorTaken r u) := by
  unfold execEwDescriptorTaken
  repeat'
    first
    | with_reducible assumption
    | with_reducible exact Moves.fault
    | with_reducible refine Moves.next ?_
    | with_reducible refine State.descriptorTaken_moves (Within.trans (by decide : Within 3138556479144204 3138556479144204) hw) ?_ _
    | with_reducible refine Moves.ite ?_ ?_
    | split
    | extract_lets
    | with_reducible refine Moves.getD (Moves.optFindSome (fun _ => ?_)) ?_
    | with_reducible refine Moves.optMap (fun _ => ?_)
    | with_reducible refine Moves.optSndMapSnd ?_
    | with_reducible refine Moves.optSndMap (fun _ => ?_)
    | with_reducible refine Moves.optBind ?_ (fun _ _ => ?_)
    | with_reducible refine Moves.optOf (fun _ => ?_)
    | (with_reducible refine Moves.foldl ?_ (fun _ _ _ => ?_))
    | (with_reducible refine Moves.foldlFst ?_ (fun _ _ _ => ?_))
    | (with_reducible refine Moves.foldr ?_ (fun _ _ _ => ?_))
    | with_reducible refine Moves.optIte ?_ ?_
    | with_reducible refine Moves.foldlOpt ?_ (fun _ _ _ => ?_)
    | with_reducible refine Moves.optSome ?_
    | with_reducible exact Moves.optNone
    | with_reducible refine Moves.some (by assumption) ?_
    | with_reducible refine Moves.fst (by assumption) ?_
    | with_reducible refine Moves.snd (by assumption) ?_
    | dsimp +zetaDelta only

theorem State.highWater_moves {w : Nat} {s u : State} (hw : Within 12 w) (h : Moves w s u) (r : Nat) :
    Moves w s (State.highWater u r) := by
  unfold State.highWater
  repeat'
    first
    | with_reducible assumption
    | with_reducible refine State.noteF_moves (Within.trans (by decide : Within 12 12) hw) ?_ _ _ _
    | with_reducible refine Moves.ite ?_ ?_
    | split
    | extract_lets
    | with_reducible refine Moves.getD (Moves.optFindSome (fun _ => ?_)) ?_
    | with_reducible refine Moves.optMap (fun _ => ?_)
    | with_reducible refine Moves.optSndMapSnd ?_
    | with_reducible refine Moves.optSndMap (fun _ => ?_)
    | with_reducible refine Moves.optBind ?_ (fun _ _ => ?_)
    | with_reducible refine Moves.optOf (fun _ => ?_)
    | (with_reducible refine Moves.foldl ?_ (fun _ _ _ => ?_))
    | (with_reducible refine Moves.foldlFst ?_ (fun _ _ _ => ?_))
    | (with_reducible refine Moves.foldr ?_ (fun _ _ _ => ?_))
    | with_reducible refine Moves.optIte ?_ ?_
    | with_reducible refine Moves.foldlOpt ?_ (fun _ _ _ => ?_)
    | with_reducible refine Moves.optSome ?_
    | with_reducible exact Moves.optNone
    | with_reducible refine Moves.some (by assumption) ?_
    | with_reducible refine Moves.fst (by assumption) ?_
    | with_reducible refine Moves.snd (by assumption) ?_
    | dsimp +zetaDelta only

theorem State.freeEach_moves {w : Nat} {s u : State} (hw : Within 32 w) (h : Moves w s u) (x : Op) (whole : Bool) (x3 : Nat) (x4 : List Nat) :
    Moves w s (State.freeEach u x whole x3 x4).1 := by
  induction x4 generalizing u x3 with
  | nil =>
    unfold State.freeEach
    repeat'
      first
      | with_reducible assumption
      | with_reducible refine State.modCtx_moves (Within.trans (by decide : Within 32 32) hw) ?_ _ _
      | with_reducible refine Moves.ite ?_ ?_
      | split
      | extract_lets
      | with_reducible refine Moves.getD (Moves.optFindSome (fun _ => ?_)) ?_
      | with_reducible refine Moves.optMap (fun _ => ?_)
      | with_reducible refine Moves.optSndMapSnd ?_
      | with_reducible refine Moves.optSndMap (fun _ => ?_)
      | with_reducible refine Moves.optBind ?_ (fun _ _ => ?_)
      | with_reducible refine Moves.optOf (fun _ => ?_)
      | (with_reducible refine Moves.foldl ?_ (fun _ _ _ => ?_))
      | (with_reducible refine Moves.foldlFst ?_ (fun _ _ _ => ?_))
      | (with_reducible refine Moves.foldr ?_ (fun _ _ _ => ?_))
      | with_reducible refine Moves.optIte ?_ ?_
      | with_reducible refine Moves.foldlOpt ?_ (fun _ _ _ => ?_)
      | with_reducible refine Moves.optSome ?_
      | with_reducible exact Moves.optNone
      | with_reducible refine Moves.some (by assumption) ?_
      | with_reducible refine Moves.fst (by assumption) ?_
      | with_reducible refine Moves.snd (by assumption) ?_
      | dsimp +zetaDelta only
  | cons e l ih =>
    unfold State.freeEach
    repeat'
      first
      | with_reducible assumption
      | with_reducible apply ih
      | with_reducible refine State.modCtx_moves (Within.trans (by decide : Within 32 32) hw) ?_ _ _
      | with_reducible refine Moves.ite ?_ ?_
      | split
      | extract_lets
      | with_reducible refine Moves.getD (Moves.optFindSome (fun _ => ?_)) ?_
      | with_reducible refine Moves.optMap (fun _ => ?_)
      | with_reducible refine Moves.optSndMapSnd ?_
      | with_reducible refine Moves.optSndMap (fun _ => ?_)
      | with_reducible refine Moves.optBind ?_ (fun _ _ => ?_)
      | with_reducible refine Moves.optOf (fun _ => ?_)
      | (with_reducible refine Moves.foldl ?_ (fun _ _ _ => ?_))
      | (with_reducible refine Moves.foldlFst ?_ (fun _ _ _ => ?_))
      | (with_reducible refine Moves.foldr ?_ (fun _ _ _ => ?_))
      | with_reducible refine Moves.optIte ?_ ?_
      | with_reducible refine Moves.foldlOpt ?_ (fun _ _ _ => ?_)
      | with_reducible refine Moves.optSome ?_
      | with_reducible exact Moves.optNone
      | with_reducible refine Moves.some (by assumption) ?_
      | with_reducible refine Moves.fst (by assumption) ?_
      | with_reducible refine Moves.snd (by assumption) ?_
      | dsimp +zetaDelta only

theorem State.freeLists_moves {w : Nat} {s u : State} (hw : Within 32 w) (h : Moves w s u) (x : Op) (x2 : Nat) (x3 : List (Nat × Nat)) :
    Moves w s (State.freeLists u x x2 x3).1 := by
  induction x3 generalizing u x2 with
  | nil =>
    unfold State.freeLists
    repeat'
      first
      | with_reducible assumption
      | with_reducible refine State.freeEach_moves (Within.trans (by decide : Within 32 32) hw) ?_ _ _ _ _
      | with_reducible refine Moves.fst ‹State.freeEach _ _ _ _ _ = (_, _)› (State.freeEach_moves (Within.trans (by decide : Within 32 32) hw) ?_ _ _ _ _)
      | with_reducible refine State.modCtx_moves (Within.trans (by decide : Within 32 32) hw) ?_ _ _
      | with_reducible refine Moves.ite ?_ ?_
      | split
      | extract_lets
      | with_reducible refine Moves.getD (Moves.optFindSome (fun _ => ?_)) ?_
      | with_reducible refine Moves.optMap (fun _ => ?_)
      | with_reducible refine Moves.optSndMapSnd ?_
      | with_reducible refine Moves.optSndMap (fun _ => ?_)
      | with_reducible refine Moves.optBind ?_ (fun _ _ => ?_)
      | with_reducible refine Moves.optOf (fun _ => ?_)
      | (with_reducible refine Moves.foldl ?_ (fun _ _ _ => ?_))
      | (with_reducible refine Moves.foldlFst ?_ (fun _ _ _ => ?_))
      | (with_reducible refine Moves.foldr ?_ (fun _ _ _ => ?_))
      | with_reducible refine Moves.optIte ?_ ?_
      | with_reducible refine Moves.foldlOpt ?_ (fun _ _ _ => ?_)
      | with_reducible refine Moves.optSome ?_
      | with_reducible exact Moves.optNone
      | with_reducible refine Moves.some (by assumption) ?_
      | with_reducible refine Moves.fst (by assumption) ?_
      | with_reducible refine Moves.snd (by assumption) ?_
      | dsimp +zetaDelta only
  | cons e l ih =>
    unfold State.freeLists
    repeat'
      first
      | with_reducible assumption
      | with_reducible apply ih
      | with_reducible refine State.freeEach_moves (Within.trans (by decide : Within 32 32) hw) ?_ _ _ _ _
      | with_reducible refine Moves.fst ‹State.freeEach _ _ _ _ _ = (_, _)› (State.freeEach_moves (Within.trans (by decide : Within 32 32) hw) ?_ _ _ _ _)
      | with_reducible refine State.modCtx_moves (Within.trans (by decide : Within 32 32) hw) ?_ _ _
      | with_reducible refine Moves.ite ?_ ?_
      | split
      | extract_lets
      | with_reducible refine Moves.getD (Moves.optFindSome (fun _ => ?_)) ?_
      | with_reducible refine Moves.optMap (fun _ => ?_)
      | with_reducible refine Moves.optSndMapSnd ?_
      | with_reducible refine Moves.optSndMap (fun _ => ?_)
      | with_reducible refine Moves.optBind ?_ (fun _ _ => ?_)
      | with_reducible refine Moves.optOf (fun _ => ?_)
      | (with_reducible refine Moves.foldl ?_ (fun _ _ _ => ?_))
      | (with_reducible refine Moves.foldlFst ?_ (fun _ _ _ => ?_))
      | (with_reducible refine Moves.foldr ?_ (fun _ _ _ => ?_))
      | with_reducible refine Moves.optIte ?_ ?_
      | with_reducible refine Moves.foldlOpt ?_ (fun _ _ _ => ?_)
      | with_reducible refine Moves.optSome ?_
      | with_reducible exact Moves.optNone
      | with_reducible refine Moves.some (by assumption) ?_
      | with_reducible refine Moves.fst (by assumption) ?_
      | with_reducible refine Moves.snd (by assumption) ?_
      | dsimp +zetaDelta only

theorem State.fillWeights_moves {w : Nat} {s u : State} (hw : Within 3221225744 w) (h : Moves w s u) (x : Op) :
    Moves w s (State.fillWeights u x) := by
  unfold State.fillWeights
  repeat'
    first
    | with_reducible assumption
    | with_reducible refine State.takeEntries_moves (Within.trans (by decide : Within 3221225744 3221225744) hw) ?_ _ _ _ _ _
    | with_reducible refine Moves.fst ‹State.takeEntries _ _ _ _ _ _ = (_, _)› (State.takeEntries_moves (Within.trans (by decide : Within 3221225744 3221225744) hw) ?_ _ _ _ _ _)
    | with_reducible refine Moves.ite ?_ ?_
    | split
    | extract_lets
    | with_reducible refine Moves.getD (Moves.optFindSome (fun _ => ?_)) ?_
    | with_reducible refine Moves.optMap (fun _ => ?_)
    | with_reducible refine Moves.optSndMapSnd ?_
    | with_reducible refine Moves.optSndMap (fun _ => ?_)
    | with_reducible refine Moves.optBind ?_ (fun _ _ => ?_)
    | with_reducible refine Moves.optOf (fun _ => ?_)
    | (with_reducible refine Moves.foldl ?_ (fun _ _ _ => ?_))
    | (with_reducible refine Moves.foldlFst ?_ (fun _ _ _ => ?_))
    | (with_reducible refine Moves.foldr ?_ (fun _ _ _ => ?_))
    | with_reducible refine Moves.optIte ?_ ?_
    | with_reducible refine Moves.foldlOpt ?_ (fun _ _ _ => ?_)
    | with_reducible refine Moves.optSome ?_
    | with_reducible exact Moves.optNone
    | with_reducible refine Moves.some (by assumption) ?_
    | with_reducible refine Moves.fst (by assumption) ?_
    | with_reducible refine Moves.snd (by assumption) ?_
    | dsimp +zetaDelta only

theorem State.allocAll_moves {w : Nat} {s u : State} (hw : Within 32 w) (h : Moves w s u) (c : Nat) (r : Nat) (x3 : List (Nat × Nat)) :
    Moves w s (State.allocAll u c r x3).1 := by
  induction x3 generalizing u with
  | nil =>
    unfold State.allocAll
    repeat'
      first
      | with_reducible assumption
      | with_reducible refine State.allocBasin_moves (Within.trans (by decide : Within 32 32) hw) ?_ _ _ _ _ _ _
      | with_reducible refine Moves.someSnd ‹State.allocBasin _ _ _ _ _ _ _ = some (_, _)› (State.allocBasin_moves (Within.trans (by decide : Within 32 32) hw) ?_ _ _ _ _ _ _)
      | with_reducible refine Moves.ite ?_ ?_
      | split
      | extract_lets
      | with_reducible refine Moves.getD (Moves.optFindSome (fun _ => ?_)) ?_
      | with_reducible refine Moves.optMap (fun _ => ?_)
      | with_reducible refine Moves.optSndMapSnd ?_
      | with_reducible refine Moves.optSndMap (fun _ => ?_)
      | with_reducible refine Moves.optBind ?_ (fun _ _ => ?_)
      | with_reducible refine Moves.optOf (fun _ => ?_)
      | (with_reducible refine Moves.foldl ?_ (fun _ _ _ => ?_))
      | (with_reducible refine Moves.foldlFst ?_ (fun _ _ _ => ?_))
      | (with_reducible refine Moves.foldr ?_ (fun _ _ _ => ?_))
      | with_reducible refine Moves.optIte ?_ ?_
      | with_reducible refine Moves.foldlOpt ?_ (fun _ _ _ => ?_)
      | with_reducible refine Moves.optSome ?_
      | with_reducible exact Moves.optNone
      | with_reducible refine Moves.some (by assumption) ?_
      | with_reducible refine Moves.fst (by assumption) ?_
      | with_reducible refine Moves.snd (by assumption) ?_
      | dsimp +zetaDelta only
  | cons e l ih =>
    unfold State.allocAll
    repeat'
      first
      | with_reducible assumption
      | with_reducible apply ih
      | with_reducible refine State.allocBasin_moves (Within.trans (by decide : Within 32 32) hw) ?_ _ _ _ _ _ _
      | with_reducible refine Moves.someSnd ‹State.allocBasin _ _ _ _ _ _ _ = some (_, _)› (State.allocBasin_moves (Within.trans (by decide : Within 32 32) hw) ?_ _ _ _ _ _ _)
      | with_reducible refine Moves.ite ?_ ?_
      | split
      | extract_lets
      | with_reducible refine Moves.getD (Moves.optFindSome (fun _ => ?_)) ?_
      | with_reducible refine Moves.optMap (fun _ => ?_)
      | with_reducible refine Moves.optSndMapSnd ?_
      | with_reducible refine Moves.optSndMap (fun _ => ?_)
      | with_reducible refine Moves.optBind ?_ (fun _ _ => ?_)
      | with_reducible refine Moves.optOf (fun _ => ?_)
      | (with_reducible refine Moves.foldl ?_ (fun _ _ _ => ?_))
      | (with_reducible refine Moves.foldlFst ?_ (fun _ _ _ => ?_))
      | (with_reducible refine Moves.foldr ?_ (fun _ _ _ => ?_))
      | with_reducible refine Moves.optIte ?_ ?_
      | with_reducible refine Moves.foldlOpt ?_ (fun _ _ _ => ?_)
      | with_reducible refine Moves.optSome ?_
      | with_reducible exact Moves.optNone
      | with_reducible refine Moves.some (by assumption) ?_
      | with_reducible refine Moves.fst (by assumption) ?_
      | with_reducible refine Moves.snd (by assumption) ?_
      | dsimp +zetaDelta only

theorem State.netMove_moves {w : Nat} {s u : State} (hw : Within 35187593314620 w) (h : Moves w s u) (x : Op) :
    Moves w s (State.netMove u x) := by
  unfold State.netMove
  repeat'
    first
    | with_reducible assumption
    | with_reducible refine State.haltOp_moves (Within.trans (by decide : Within 35184372089100 35187593314620) hw) ?_ _ _
    | with_reducible refine State.fillWeights_moves (Within.trans (by decide : Within 3221225744 35187593314620) hw) ?_ _
    | with_reducible refine State.stopAtItem_moves (Within.trans (by decide : Within 256 35187593314620) hw) ?_ _ _ _
    | with_reducible refine State.allocAll_moves (Within.trans (by decide : Within 32 35187593314620) hw) ?_ _ _ _
    | with_reducible refine Moves.fst ‹State.allocAll _ _ _ _ = (_, _)› (State.allocAll_moves (Within.trans (by decide : Within 32 35187593314620) hw) ?_ _ _ _)
    | with_reducible refine State.exhausted_moves (Within.trans (by decide : Within 35184372088844 35187593314620) hw) ?_ _
    | with_reducible refine State.basinWrite_moves (Within.trans (by decide : Within 3221225488 35187593314620) hw) ?_ _ _ _ _ _
    | with_reducible refine Moves.some ‹State.basinWrite _ _ _ _ _ _ = some _› (State.basinWrite_moves (Within.trans (by decide : Within 3221225488 35187593314620) hw) ?_ _ _ _ _ _)
    | with_reducible refine Moves.getD (State.basinWrite_moves (Within.trans (by decide : Within 3221225488 35187593314620) hw) ?_ _ _ _ _ _) ?_
    | with_reducible refine State.runOp_moves (Within.trans (by decide : Within 256 35187593314620) hw) ?_ _ _ _
    | with_reducible refine State.modRR_moves (Within.trans (by decide : Within 256 35187593314620) hw) ?_ _ _ _
    | with_reducible refine Moves.ite ?_ ?_
    | split
    | extract_lets
    | with_reducible refine Moves.getD (Moves.optFindSome (fun _ => ?_)) ?_
    | with_reducible refine Moves.optMap (fun _ => ?_)
    | with_reducible refine Moves.optSndMapSnd ?_
    | with_reducible refine Moves.optSndMap (fun _ => ?_)
    | with_reducible refine Moves.optBind ?_ (fun _ _ => ?_)
    | with_reducible refine Moves.optOf (fun _ => ?_)
    | (with_reducible refine Moves.foldl ?_ (fun _ _ _ => ?_))
    | (with_reducible refine Moves.foldlFst ?_ (fun _ _ _ => ?_))
    | (with_reducible refine Moves.foldr ?_ (fun _ _ _ => ?_))
    | with_reducible refine Moves.optIte ?_ ?_
    | with_reducible refine Moves.foldlOpt ?_ (fun _ _ _ => ?_)
    | with_reducible refine Moves.optSome ?_
    | with_reducible exact Moves.optNone
    | with_reducible refine Moves.some (by assumption) ?_
    | with_reducible refine Moves.fst (by assumption) ?_
    | with_reducible refine Moves.snd (by assumption) ?_
    | dsimp +zetaDelta only

theorem State.allocEach_moves {w : Nat} {s u : State} (hw : Within 35187593314364 w) (h : Moves w s u) (x : Op) (x2 : Nat) (x3 : Nat) :
    Moves w s (State.allocEach u x x2 x3).1 := by
  induction x3 generalizing u x2 with
  | zero =>
    unfold State.allocEach
    repeat'
      first
      | with_reducible assumption
      | with_reducible refine State.allocBasin_moves (Within.trans (by decide : Within 32 35187593314364) hw) ?_ _ _ _ _ _ _
      | with_reducible refine Moves.someSnd ‹State.allocBasin _ _ _ _ _ _ _ = some (_, _)› (State.allocBasin_moves (Within.trans (by decide : Within 32 35187593314364) hw) ?_ _ _ _ _ _ _)
      | with_reducible refine State.exhausted_moves (Within.trans (by decide : Within 35184372088844 35187593314364) hw) ?_ _
      | with_reducible refine State.writeCtx_moves (Within.trans (by decide : Within 3221225488 35187593314364) hw) ?_ _ _ _ _
      | with_reducible refine Moves.some ‹State.writeCtx _ _ _ _ _ = some _› (State.writeCtx_moves (Within.trans (by decide : Within 3221225488 35187593314364) hw) ?_ _ _ _ _)
      | with_reducible refine Moves.getD (State.writeCtx_moves (Within.trans (by decide : Within 3221225488 35187593314364) hw) ?_ _ _ _ _) ?_
      | with_reducible refine Moves.ite ?_ ?_
      | split
      | extract_lets
      | with_reducible refine Moves.getD (Moves.optFindSome (fun _ => ?_)) ?_
      | with_reducible refine Moves.optMap (fun _ => ?_)
      | with_reducible refine Moves.optSndMapSnd ?_
      | with_reducible refine Moves.optSndMap (fun _ => ?_)
      | with_reducible refine Moves.optBind ?_ (fun _ _ => ?_)
      | with_reducible refine Moves.optOf (fun _ => ?_)
      | (with_reducible refine Moves.foldl ?_ (fun _ _ _ => ?_))
      | (with_reducible refine Moves.foldlFst ?_ (fun _ _ _ => ?_))
      | (with_reducible refine Moves.foldr ?_ (fun _ _ _ => ?_))
      | with_reducible refine Moves.optIte ?_ ?_
      | with_reducible refine Moves.foldlOpt ?_ (fun _ _ _ => ?_)
      | with_reducible refine Moves.optSome ?_
      | with_reducible exact Moves.optNone
      | with_reducible refine Moves.some (by assumption) ?_
      | with_reducible refine Moves.fst (by assumption) ?_
      | with_reducible refine Moves.snd (by assumption) ?_
      | dsimp +zetaDelta only
  | succ n ih =>
    unfold State.allocEach
    repeat'
      first
      | with_reducible assumption
      | with_reducible apply ih
      | with_reducible refine State.allocBasin_moves (Within.trans (by decide : Within 32 35187593314364) hw) ?_ _ _ _ _ _ _
      | with_reducible refine Moves.someSnd ‹State.allocBasin _ _ _ _ _ _ _ = some (_, _)› (State.allocBasin_moves (Within.trans (by decide : Within 32 35187593314364) hw) ?_ _ _ _ _ _ _)
      | with_reducible refine State.exhausted_moves (Within.trans (by decide : Within 35184372088844 35187593314364) hw) ?_ _
      | with_reducible refine State.writeCtx_moves (Within.trans (by decide : Within 3221225488 35187593314364) hw) ?_ _ _ _ _
      | with_reducible refine Moves.some ‹State.writeCtx _ _ _ _ _ = some _› (State.writeCtx_moves (Within.trans (by decide : Within 3221225488 35187593314364) hw) ?_ _ _ _ _)
      | with_reducible refine Moves.getD (State.writeCtx_moves (Within.trans (by decide : Within 3221225488 35187593314364) hw) ?_ _ _ _ _) ?_
      | with_reducible refine Moves.ite ?_ ?_
      | split
      | extract_lets
      | with_reducible refine Moves.getD (Moves.optFindSome (fun _ => ?_)) ?_
      | with_reducible refine Moves.optMap (fun _ => ?_)
      | with_reducible refine Moves.optSndMapSnd ?_
      | with_reducible refine Moves.optSndMap (fun _ => ?_)
      | with_reducible refine Moves.optBind ?_ (fun _ _ => ?_)
      | with_reducible refine Moves.optOf (fun _ => ?_)
      | (with_reducible refine Moves.foldl ?_ (fun _ _ _ => ?_))
      | (with_reducible refine Moves.foldlFst ?_ (fun _ _ _ => ?_))
      | (with_reducible refine Moves.foldr ?_ (fun _ _ _ => ?_))
      | with_reducible refine Moves.optIte ?_ ?_
      | with_reducible refine Moves.foldlOpt ?_ (fun _ _ _ => ?_)
      | with_reducible refine Moves.optSome ?_
      | with_reducible exact Moves.optNone
      | with_reducible refine Moves.some (by assumption) ?_
      | with_reducible refine Moves.fst (by assumption) ?_
      | with_reducible refine Moves.snd (by assumption) ?_
      | dsimp +zetaDelta only

theorem State.bAlloc_moves {w : Nat} {s u : State} (hw : Within 35187593314620 w) (h : Moves w s u) (x : Op) :
    Moves w s (State.bAlloc u x) := by
  unfold State.bAlloc
  repeat'
    first
    | with_reducible assumption
    | with_reducible refine State.haltOp_moves (Within.trans (by decide : Within 35184372089100 35187593314620) hw) ?_ _ _
    | with_reducible refine State.allocEach_moves (Within.trans (by decide : Within 35187593314364 35187593314620) hw) ?_ _ _ _
    | with_reducible refine Moves.fst ‹State.allocEach _ _ _ _ = (_, _)› (State.allocEach_moves (Within.trans (by decide : Within 35187593314364 35187593314620) hw) ?_ _ _ _)
    | with_reducible refine State.runOp_moves (Within.trans (by decide : Within 256 35187593314620) hw) ?_ _ _ _
    | with_reducible refine State.stopAtItem_moves (Within.trans (by decide : Within 256 35187593314620) hw) ?_ _ _ _
    | with_reducible refine Moves.ite ?_ ?_
    | split
    | extract_lets
    | with_reducible refine Moves.getD (Moves.optFindSome (fun _ => ?_)) ?_
    | with_reducible refine Moves.optMap (fun _ => ?_)
    | with_reducible refine Moves.optSndMapSnd ?_
    | with_reducible refine Moves.optSndMap (fun _ => ?_)
    | with_reducible refine Moves.optBind ?_ (fun _ _ => ?_)
    | with_reducible refine Moves.optOf (fun _ => ?_)
    | (with_reducible refine Moves.foldl ?_ (fun _ _ _ => ?_))
    | (with_reducible refine Moves.foldlFst ?_ (fun _ _ _ => ?_))
    | (with_reducible refine Moves.foldr ?_ (fun _ _ _ => ?_))
    | with_reducible refine Moves.optIte ?_ ?_
    | with_reducible refine Moves.foldlOpt ?_ (fun _ _ _ => ?_)
    | with_reducible refine Moves.optSome ?_
    | with_reducible exact Moves.optNone
    | with_reducible refine Moves.some (by assumption) ?_
    | with_reducible refine Moves.fst (by assumption) ?_
    | with_reducible refine Moves.snd (by assumption) ?_
    | dsimp +zetaDelta only

theorem execBAlloc_moves {w : Nat} {s u : State} (hw : Within 2570627604827964 w) (h : Moves w s u) (run : Sys2Proof.W32) (r : Sys2Proof.RegionId) :
    Moves.outcome w s (execBAlloc run r u) := by
  unfold execBAlloc
  repeat'
    first
    | with_reducible assumption
    | with_reducible exact Moves.fault
    | with_reducible refine Moves.next ?_
    | with_reducible refine State.plateOp_moves (Within.trans (by decide : Within 2570627604827964 2570627604827964) hw) ?_ _ _ _ _ (fun _ _ _ => ?_)
    | with_reducible refine State.bAlloc_moves (Within.trans (by decide : Within 35187593314620 2570627604827964) hw) ?_ _
    | with_reducible refine Moves.ite ?_ ?_
    | split
    | extract_lets
    | with_reducible refine Moves.getD (Moves.optFindSome (fun _ => ?_)) ?_
    | with_reducible refine Moves.optMap (fun _ => ?_)
    | with_reducible refine Moves.optSndMapSnd ?_
    | with_reducible refine Moves.optSndMap (fun _ => ?_)
    | with_reducible refine Moves.optBind ?_ (fun _ _ => ?_)
    | with_reducible refine Moves.optOf (fun _ => ?_)
    | (with_reducible refine Moves.foldl ?_ (fun _ _ _ => ?_))
    | (with_reducible refine Moves.foldlFst ?_ (fun _ _ _ => ?_))
    | (with_reducible refine Moves.foldr ?_ (fun _ _ _ => ?_))
    | with_reducible refine Moves.optIte ?_ ?_
    | with_reducible refine Moves.foldlOpt ?_ (fun _ _ _ => ?_)
    | with_reducible refine Moves.optSome ?_
    | with_reducible exact Moves.optNone
    | with_reducible refine Moves.some (by assumption) ?_
    | with_reducible refine Moves.fst (by assumption) ?_
    | with_reducible refine Moves.snd (by assumption) ?_
    | dsimp +zetaDelta only

theorem State.freeTensor_moves {w : Nat} {s u : State} (hw : Within 35184372089132 w) (h : Moves w s u) (x : Op) (whole : Bool) :
    Moves w s (State.freeTensor u x whole) := by
  unfold State.freeTensor
  repeat'
    first
    | with_reducible assumption
    | with_reducible refine State.haltOp_moves (Within.trans (by decide : Within 35184372089100 35184372089132) hw) ?_ _ _
    | with_reducible refine State.freeEach_moves (Within.trans (by decide : Within 32 35184372089132) hw) ?_ _ _ _ _
    | with_reducible refine Moves.fst ‹State.freeEach _ _ _ _ _ = (_, _)› (State.freeEach_moves (Within.trans (by decide : Within 32 35184372089132) hw) ?_ _ _ _ _)
    | with_reducible refine State.runOp_moves (Within.trans (by decide : Within 256 35184372089132) hw) ?_ _ _ _
    | with_reducible refine State.stopAtItem_moves (Within.trans (by decide : Within 256 35184372089132) hw) ?_ _ _ _
    | with_reducible refine Moves.ite ?_ ?_
    | split
    | extract_lets
    | with_reducible refine Moves.getD (Moves.optFindSome (fun _ => ?_)) ?_
    | with_reducible refine Moves.optMap (fun _ => ?_)
    | with_reducible refine Moves.optSndMapSnd ?_
    | with_reducible refine Moves.optSndMap (fun _ => ?_)
    | with_reducible refine Moves.optBind ?_ (fun _ _ => ?_)
    | with_reducible refine Moves.optOf (fun _ => ?_)
    | (with_reducible refine Moves.foldl ?_ (fun _ _ _ => ?_))
    | (with_reducible refine Moves.foldlFst ?_ (fun _ _ _ => ?_))
    | (with_reducible refine Moves.foldr ?_ (fun _ _ _ => ?_))
    | with_reducible refine Moves.optIte ?_ ?_
    | with_reducible refine Moves.foldlOpt ?_ (fun _ _ _ => ?_)
    | with_reducible refine Moves.optSome ?_
    | with_reducible exact Moves.optNone
    | with_reducible refine Moves.some (by assumption) ?_
    | with_reducible refine Moves.fst (by assumption) ?_
    | with_reducible refine Moves.snd (by assumption) ?_
    | dsimp +zetaDelta only

theorem execBRelease_moves {w : Nat} {s u : State} (hw : Within 2570627604827964 w) (h : Moves w s u) (run : Sys2Proof.W32) (r : Sys2Proof.RegionId) :
    Moves.outcome w s (execBRelease run r u) := by
  unfold execBRelease
  repeat'
    first
    | with_reducible assumption
    | with_reducible exact Moves.fault
    | with_reducible refine Moves.next ?_
    | with_reducible refine State.plateOp_moves (Within.trans (by decide : Within 2570627604827964 2570627604827964) hw) ?_ _ _ _ _ (fun _ _ _ => ?_)
    | with_reducible refine State.freeTensor_moves (Within.trans (by decide : Within 35184372089132 2570627604827964) hw) ?_ _ _
    | with_reducible refine Moves.ite ?_ ?_
    | split
    | extract_lets
    | with_reducible refine Moves.getD (Moves.optFindSome (fun _ => ?_)) ?_
    | with_reducible refine Moves.optMap (fun _ => ?_)
    | with_reducible refine Moves.optSndMapSnd ?_
    | with_reducible refine Moves.optSndMap (fun _ => ?_)
    | with_reducible refine Moves.optBind ?_ (fun _ _ => ?_)
    | with_reducible refine Moves.optOf (fun _ => ?_)
    | (with_reducible refine Moves.foldl ?_ (fun _ _ _ => ?_))
    | (with_reducible refine Moves.foldlFst ?_ (fun _ _ _ => ?_))
    | (with_reducible refine Moves.foldr ?_ (fun _ _ _ => ?_))
    | with_reducible refine Moves.optIte ?_ ?_
    | with_reducible refine Moves.foldlOpt ?_ (fun _ _ _ => ?_)
    | with_reducible refine Moves.optSome ?_
    | with_reducible exact Moves.optNone
    | with_reducible refine Moves.some (by assumption) ?_
    | with_reducible refine Moves.fst (by assumption) ?_
    | with_reducible refine Moves.snd (by assumption) ?_
    | dsimp +zetaDelta only

theorem execNetMove_moves {w : Nat} {s u : State} (hw : Within 2570627604827964 w) (h : Moves w s u) (run : Sys2Proof.W32) (r : Sys2Proof.RegionId) :
    Moves.outcome w s (execNetMove run r u) := by
  unfold execNetMove
  repeat'
    first
    | with_reducible assumption
    | with_reducible exact Moves.fault
    | with_reducible refine Moves.next ?_
    | with_reducible refine State.plateOp_moves (Within.trans (by decide : Within 2570627604827964 2570627604827964) hw) ?_ _ _ _ _ (fun _ _ _ => ?_)
    | with_reducible refine State.netMove_moves (Within.trans (by decide : Within 35187593314620 2570627604827964) hw) ?_ _
    | with_reducible refine Moves.ite ?_ ?_
    | split
    | extract_lets
    | with_reducible refine Moves.getD (Moves.optFindSome (fun _ => ?_)) ?_
    | with_reducible refine Moves.optMap (fun _ => ?_)
    | with_reducible refine Moves.optSndMapSnd ?_
    | with_reducible refine Moves.optSndMap (fun _ => ?_)
    | with_reducible refine Moves.optBind ?_ (fun _ _ => ?_)
    | with_reducible refine Moves.optOf (fun _ => ?_)
    | (with_reducible refine Moves.foldl ?_ (fun _ _ _ => ?_))
    | (with_reducible refine Moves.foldlFst ?_ (fun _ _ _ => ?_))
    | (with_reducible refine Moves.foldr ?_ (fun _ _ _ => ?_))
    | with_reducible refine Moves.optIte ?_ ?_
    | with_reducible refine Moves.foldlOpt ?_ (fun _ _ _ => ?_)
    | with_reducible refine Moves.optSome ?_
    | with_reducible exact Moves.optNone
    | with_reducible refine Moves.some (by assumption) ?_
    | with_reducible refine Moves.fst (by assumption) ?_
    | with_reducible refine Moves.snd (by assumption) ?_
    | dsimp +zetaDelta only

theorem State.bHand_moves {w : Nat} {s u : State} (hw : Within 41781441855756 w) (h : Moves w s u) (x : Op) :
    Moves w s (State.bHand u x) := by
  unfold State.bHand
  repeat'
    first
    | with_reducible assumption
    | with_reducible refine State.runOp_moves (Within.trans (by decide : Within 256 41781441855756) hw) ?_ _ _ _
    | with_reducible refine State.modRR_moves (Within.trans (by decide : Within 256 41781441855756) hw) ?_ _ _ _
    | with_reducible refine State.highWater_moves (Within.trans (by decide : Within 12 41781441855756) hw) ?_ _
    | with_reducible refine State.startOp_moves (Within.trans (by decide : Within 256 41781441855756) hw) ?_ _ _ _ _ _
    | with_reducible refine State.contain_moves (Within.trans (by decide : Within 35184372088844 41781441855756) hw) ?_ _ _
    | with_reducible refine Moves.ite ?_ ?_
    | split
    | extract_lets
    | with_reducible refine Moves.getD (Moves.optFindSome (fun _ => ?_)) ?_
    | with_reducible refine Moves.optMap (fun _ => ?_)
    | with_reducible refine Moves.optSndMapSnd ?_
    | with_reducible refine Moves.optSndMap (fun _ => ?_)
    | with_reducible refine Moves.optBind ?_ (fun _ _ => ?_)
    | with_reducible refine Moves.optOf (fun _ => ?_)
    | (with_reducible refine Moves.foldl ?_ (fun _ _ _ => ?_))
    | (with_reducible refine Moves.foldlFst ?_ (fun _ _ _ => ?_))
    | (with_reducible refine Moves.foldr ?_ (fun _ _ _ => ?_))
    | with_reducible refine Moves.optIte ?_ ?_
    | with_reducible refine Moves.foldlOpt ?_ (fun _ _ _ => ?_)
    | with_reducible refine Moves.optSome ?_
    | with_reducible exact Moves.optNone
    | with_reducible refine Moves.some (by assumption) ?_
    | with_reducible refine Moves.fst (by assumption) ?_
    | with_reducible refine Moves.snd (by assumption) ?_
    | dsimp +zetaDelta only
    | with_reducible refine State.modRegion_moves ?_ (fun _ => ?_)
    | with_reducible refine RM.ite ?_ ?_
    | with_reducible exact RM.refl _ _
    | exact ⟨.same, .same, .same, ⟨.of hw (by decide), .of hw (by decide), .rfl, .rfl, .rfl⟩, .same, .rfl, id⟩

theorem execBHand_moves {w : Nat} {s u : State} (hw : Within 2577224674594620 w) (h : Moves w s u) (run : Sys2Proof.W32) (r : Sys2Proof.RegionId) :
    Moves.outcome w s (execBHand run r u) := by
  unfold execBHand
  repeat'
    first
    | with_reducible assumption
    | with_reducible exact Moves.fault
    | with_reducible refine Moves.next ?_
    | with_reducible refine State.plateOp_moves (Within.trans (by decide : Within 2570627604827964 2577224674594620) hw) ?_ _ _ _ _ (fun _ _ _ => ?_)
    | with_reducible refine State.bHand_moves (Within.trans (by decide : Within 41781441855756 2577224674594620) hw) ?_ _
    | with_reducible refine Moves.ite ?_ ?_
    | split
    | extract_lets
    | with_reducible refine Moves.getD (Moves.optFindSome (fun _ => ?_)) ?_
    | with_reducible refine Moves.optMap (fun _ => ?_)
    | with_reducible refine Moves.optSndMapSnd ?_
    | with_reducible refine Moves.optSndMap (fun _ => ?_)
    | with_reducible refine Moves.optBind ?_ (fun _ _ => ?_)
    | with_reducible refine Moves.optOf (fun _ => ?_)
    | (with_reducible refine Moves.foldl ?_ (fun _ _ _ => ?_))
    | (with_reducible refine Moves.foldlFst ?_ (fun _ _ _ => ?_))
    | (with_reducible refine Moves.foldr ?_ (fun _ _ _ => ?_))
    | with_reducible refine Moves.optIte ?_ ?_
    | with_reducible refine Moves.foldlOpt ?_ (fun _ _ _ => ?_)
    | with_reducible refine Moves.optSome ?_
    | with_reducible exact Moves.optNone
    | with_reducible refine Moves.some (by assumption) ?_
    | with_reducible refine Moves.fst (by assumption) ?_
    | with_reducible refine Moves.snd (by assumption) ?_
    | dsimp +zetaDelta only

theorem State.bRefdec_moves {w : Nat} {s u : State} (hw : Within 35184372089132 w) (h : Moves w s u) (x : Op) :
    Moves w s (State.bRefdec u x) := by
  unfold State.bRefdec
  repeat'
    first
    | with_reducible assumption
    | with_reducible refine State.runOp_moves (Within.trans (by decide : Within 256 35184372089132) hw) ?_ _ _ _
    | with_reducible refine State.freeLists_moves (Within.trans (by decide : Within 32 35184372089132) hw) ?_ _ _ _
    | with_reducible refine Moves.fst ‹State.freeLists _ _ _ _ = (_, _)› (State.freeLists_moves (Within.trans (by decide : Within 32 35184372089132) hw) ?_ _ _ _)
    | with_reducible refine State.stopAtItem_moves (Within.trans (by decide : Within 256 35184372089132) hw) ?_ _ _ _
    | with_reducible refine State.freeTensor_moves (Within.trans (by decide : Within 35184372089132 35184372089132) hw) ?_ _ _
    | with_reducible refine Moves.ite ?_ ?_
    | split
    | extract_lets
    | with_reducible refine Moves.getD (Moves.optFindSome (fun _ => ?_)) ?_
    | with_reducible refine Moves.optMap (fun _ => ?_)
    | with_reducible refine Moves.optSndMapSnd ?_
    | with_reducible refine Moves.optSndMap (fun _ => ?_)
    | with_reducible refine Moves.optBind ?_ (fun _ _ => ?_)
    | with_reducible refine Moves.optOf (fun _ => ?_)
    | (with_reducible refine Moves.foldl ?_ (fun _ _ _ => ?_))
    | (with_reducible refine Moves.foldlFst ?_ (fun _ _ _ => ?_))
    | (with_reducible refine Moves.foldr ?_ (fun _ _ _ => ?_))
    | with_reducible refine Moves.optIte ?_ ?_
    | with_reducible refine Moves.foldlOpt ?_ (fun _ _ _ => ?_)
    | with_reducible refine Moves.optSome ?_
    | with_reducible exact Moves.optNone
    | with_reducible refine Moves.some (by assumption) ?_
    | with_reducible refine Moves.fst (by assumption) ?_
    | with_reducible refine Moves.snd (by assumption) ?_
    | dsimp +zetaDelta only

theorem execBRefdec_moves {w : Nat} {s u : State} (hw : Within 2570627604827964 w) (h : Moves w s u) (run : Sys2Proof.W32) (r : Sys2Proof.RegionId) :
    Moves.outcome w s (execBRefdec run r u) := by
  unfold execBRefdec
  repeat'
    first
    | with_reducible assumption
    | with_reducible exact Moves.fault
    | with_reducible refine Moves.next ?_
    | with_reducible refine State.plateOp_moves (Within.trans (by decide : Within 2570627604827964 2570627604827964) hw) ?_ _ _ _ _ (fun _ _ _ => ?_)
    | with_reducible refine State.bRefdec_moves (Within.trans (by decide : Within 35184372089132 2570627604827964) hw) ?_ _
    | with_reducible refine Moves.ite ?_ ?_
    | split
    | extract_lets
    | with_reducible refine Moves.getD (Moves.optFindSome (fun _ => ?_)) ?_
    | with_reducible refine Moves.optMap (fun _ => ?_)
    | with_reducible refine Moves.optSndMapSnd ?_
    | with_reducible refine Moves.optSndMap (fun _ => ?_)
    | with_reducible refine Moves.optBind ?_ (fun _ _ => ?_)
    | with_reducible refine Moves.optOf (fun _ => ?_)
    | (with_reducible refine Moves.foldl ?_ (fun _ _ _ => ?_))
    | (with_reducible refine Moves.foldlFst ?_ (fun _ _ _ => ?_))
    | (with_reducible refine Moves.foldr ?_ (fun _ _ _ => ?_))
    | with_reducible refine Moves.optIte ?_ ?_
    | with_reducible refine Moves.foldlOpt ?_ (fun _ _ _ => ?_)
    | with_reducible refine Moves.optSome ?_
    | with_reducible exact Moves.optNone
    | with_reducible refine Moves.some (by assumption) ?_
    | with_reducible refine Moves.fst (by assumption) ?_
    | with_reducible refine Moves.snd (by assumption) ?_
    | dsimp +zetaDelta only

end Sys2Proof.Machine
end

