-- ==== Sys2Proof/Laws/BringupMoves.lean ====
section
/-! SUPPORT. Sys2Proof/Laws/BringupMoves.lean: what each operation of Machine/Bringup.lean can do to the state: the parts it may change, and that it keeps
the canonical form. -/

namespace Sys2Proof.Machine

theorem State.bench_moves {w : Nat} {s u : State} (hw : Within 35184707633164 w) (h : Moves w s u) (r : Nat) :
    Moves w s (State.bench u r) := by
  unfold State.bench
  repeat'
    first
    | with_reducible assumption
    | with_reducible refine State.contain_moves (Within.trans (by decide : Within 35184372088844 35184707633164) hw) ?_ _ _
    | with_reducible refine Moves.ite ?_ ?_
    | split
    | extract_lets
    | with_reducible refine Moves.getD (Moves.optFindSome (fun _ => ?_)) ?_
    | with_reducible refine Moves.optMap (fun _ => ?_)
    | with_reducible refine Moves.optSndMapSnd ?_
    | with_reducible refine Moves.optSndMap (fun _ => ?_)
    | with_reducible refine Moves.optBind ?_ (fun _ _ => ?_)
    | with_reducible refine Moves.optOf (fun _ => ?_)
    | (with_reducible refine Moves.foldl ?_ (fun _ _ _ => ?_))
    | (with_reducible refine Moves.foldlFst ?_ (fun _ _ _ => ?_))
    | (with_reducible refine Moves.foldr ?_ (fun _ _ _ => ?_))
    | with_reducible refine Moves.optIte ?_ ?_
    | with_reducible refine Moves.foldlOpt ?_ (fun _ _ _ => ?_)
    | with_reducible refine Moves.optSome ?_
    | with_reducible exact Moves.optNone
    | with_reducible refine Moves.some (by assumption) ?_
    | with_reducible refine Moves.fst (by assumption) ?_
    | with_reducible refine Moves.snd (by assumption) ?_
    | dsimp +zetaDelta only
    | with_reducible refine State.modRegion_moves ?_ (fun _ => ?_)
    | with_reducible refine RM.ite ?_ ?_
    | with_reducible exact RM.refl _ _
    | exact ⟨⟨.of hw (by decide), .rfl, .of hw (by decide), .rfl, .rfl⟩, .same, .same, .same, .same, .rfl, id⟩

theorem State.passMs_moves {w : Nat} {s u : State} (hw : Within 2568459700142092 w) (h : Moves w s u) (ms : Nat) :
    Moves w s (State.passMs u ms) := by
  unfold State.passMs
  repeat'
    first
    | with_reducible assumption
    | with_reducible refine State.pass_moves (Within.trans (by decide : Within 2568459700142092 2568459700142092) hw) ?_ _
    | with_reducible refine Moves.ite ?_ ?_
    | split
    | extract_lets
    | with_reducible refine Moves.getD (Moves.optFindSome (fun _ => ?_)) ?_
    | with_reducible refine Moves.optMap (fun _ => ?_)
    | with_reducible refine Moves.optSndMapSnd ?_
    | with_reducible refine Moves.optSndMap (fun _ => ?_)
    | with_reducible refine Moves.optBind ?_ (fun _ _ => ?_)
    | with_reducible refine Moves.optOf (fun _ => ?_)
    | (with_reducible refine Moves.foldl ?_ (fun _ _ _ => ?_))
    | (with_reducible refine Moves.foldlFst ?_ (fun _ _ _ => ?_))
    | (with_reducible refine Moves.foldr ?_ (fun _ _ _ => ?_))
    | with_reducible refine Moves.optIte ?_ ?_
    | with_reducible refine Moves.foldlOpt ?_ (fun _ _ _ => ?_)
    | with_reducible refine Moves.optSome ?_
    | with_reducible exact Moves.optNone
    | with_reducible refine Moves.some (by assumption) ?_
    | with_reducible refine Moves.fst (by assumption) ?_
    | with_reducible refine Moves.snd (by assumption) ?_
    | dsimp +zetaDelta only

theorem State.romStep_moves {w : Nat} {s u : State} (hw : Within 201457676 w) (h : Moves w s u) (res : Sys2Proof.BringupResult) :
    Moves w s (State.romStep u res) := by
  unfold State.romStep
  repeat'
    first
    | with_reducible assumption
    | with_reducible refine State.samplePower_moves (Within.trans (by decide : Within 131072 201457676) hw) ?_
    | with_reducible refine State.setBringState_moves (Within.trans (by decide : Within 12 201457676) hw) ?_ _
    | with_reducible refine State.setF_moves (Within.trans (by decide : Within 4 201457676) hw) ?_ _ _ _
    | with_reducible refine Moves.ite ?_ ?_
    | split
    | extract_lets
    | with_reducible refine Moves.getD (Moves.optFindSome (fun _ => ?_)) ?_
    | with_reducible refine Moves.optMap (fun _ => ?_)
    | with_reducible refine Moves.optSndMapSnd ?_
    | with_reducible refine Moves.optSndMap (fun _ => ?_)
    | with_reducible refine Moves.optBind ?_ (fun _ _ => ?_)
    | with_reducible refine Moves.optOf (fun _ => ?_)
    | (with_reducible refine Moves.foldl ?_ (fun _ _ _ => ?_))
    | (with_reducible refine Moves.foldlFst ?_ (fun _ _ _ => ?_))
    | (with_reducible refine Moves.foldr ?_ (fun _ _ _ => ?_))
    | with_reducible refine Moves.optIte ?_ ?_
    | with_reducible refine Moves.foldlOpt ?_ (fun _ _ _ => ?_)
    | with_reducible refine Moves.optSome ?_
    | with_reducible exact Moves.optNone
    | with_reducible refine Moves.some (by assumption) ?_
    | with_reducible refine Moves.fst (by assumption) ?_
    | with_reducible refine Moves.snd (by assumption) ?_
    | dsimp +zetaDelta only
    | with_reducible refine State.modRegion_moves ?_ (fun _ => ?_)
    | with_reducible refine RM.ite ?_ ?_
    | with_reducible exact RM.refl _ _
    | exact ⟨⟨.of hw (by decide), .of hw (by decide), .rfl, .rfl, .rfl⟩, .same, .same, .same, .same, .rfl, id⟩

theorem State.elect_moves {w : Nat} {s u : State} (hw : Within 4 w) (h : Moves w s u) (l : List Nat) :
    Moves w s (State.elect u l) := by
  unfold State.elect
  repeat'
    first
    | with_reducible assumption
    | with_reducible refine State.setF_moves (Within.trans (by decide : Within 4 4) hw) ?_ _ _ _
    | with_reducible refine Moves.ite ?_ ?_
    | split
    | extract_lets
    | with_reducible refine Moves.getD (Moves.optFindSome (fun _ => ?_)) ?_
    | with_reducible refine Moves.optMap (fun _ => ?_)
    | with_reducible refine Moves.optSndMapSnd ?_
    | with_reducible refine Moves.optSndMap (fun _ => ?_)
    | with_reducible refine Moves.optBind ?_ (fun _ _ => ?_)
    | with_reducible refine Moves.optOf (fun _ => ?_)
    | (with_reducible refine Moves.foldl ?_ (fun _ _ _ => ?_))
    | (with_reducible refine Moves.foldlFst ?_ (fun _ _ _ => ?_))
    | (with_reducible refine Moves.foldr ?_ (fun _ _ _ => ?_))
    | with_reducible refine Moves.optIte ?_ ?_
    | with_reducible refine Moves.foldlOpt ?_ (fun _ _ _ => ?_)
    | with_reducible refine Moves.optSome ?_
    | with_reducible exact Moves.optNone
    | with_reducible refine Moves.some (by assumption) ?_
    | with_reducible refine Moves.fst (by assumption) ?_
    | with_reducible refine Moves.snd (by assumption) ?_
    | dsimp +zetaDelta only

theorem State.recordsStep_moves {w : Nat} {s u : State} (hw : Within 3132028196061452 w) (h : Moves w s u) (res : Sys2Proof.BringupResult) :
    Moves w s (State.recordsStep u res) := by
  unfold State.recordsStep
  repeat'
    first
    | with_reducible assumption
    | with_reducible refine State.isolateAll_moves (Within.trans (by decide : Within 3132028128887052 3132028196061452) hw) ?_
    | with_reducible refine State.contain_moves (Within.trans (by decide : Within 35184372088844 3132028196061452) hw) ?_ _ _
    | with_reducible refine State.notReady_moves (Within.trans (by decide : Within 35184372088844 3132028196061452) hw) ?_
    | with_reducible refine State.showDiffs_moves (Within.trans (by decide : Within 4 3132028196061452) hw) ?_ _
    | with_reducible refine State.setF_moves (Within.trans (by decide : Within 4 3132028196061452) hw) ?_ _ _ _
    | with_reducible refine State.loadDeclared_moves (Within.trans (by decide : Within 4 3132028196061452) hw) ?_ _
    | with_reducible refine State.takeSaved_moves (Within.trans (by decide : Within 65536 3132028196061452) hw) ?_ _
    | with_reducible refine State.takeSlot_moves (Within.trans (by decide : Within 65540 3132028196061452) hw) ?_ _ _
    | with_reducible refine State.setBringState_moves (Within.trans (by decide : Within 12 3132028196061452) hw) ?_ _
    | with_reducible refine State.elect_moves (Within.trans (by decide : Within 4 3132028196061452) hw) ?_ _
    | with_reducible refine Moves.ite ?_ ?_
    | split
    | extract_lets
    | with_reducible refine Moves.getD (Moves.optFindSome (fun _ => ?_)) ?_
    | with_reducible refine Moves.optMap (fun _ => ?_)
    | with_reducible refine Moves.optSndMapSnd ?_
    | with_reducible refine Moves.optSndMap (fun _ => ?_)
    | with_reducible refine Moves.optBind ?_ (fun _ _ => ?_)
    | with_reducible refine Moves.optOf (fun _ => ?_)
    | (with_reducible refine Moves.foldl ?_ (fun _ _ _ => ?_))
    | (with_reducible refine Moves.foldlFst ?_ (fun _ _ _ => ?_))
    | (with_reducible refine Moves.foldr ?_ (fun _ _ _ => ?_))
    | with_reducible refine Moves.optIte ?_ ?_
    | with_reducible refine Moves.foldlOpt ?_ (fun _ _ _ => ?_)
    | with_reducible refine Moves.optSome ?_
    | with_reducible exact Moves.optNone
    | with_reducible refine Moves.some (by assumption) ?_
    | with_reducible refine Moves.fst (by assumption) ?_
    | with_reducible refine Moves.snd (by assumption) ?_
    | dsimp +zetaDelta only
    | with_reducible refine State.modRegion_moves ?_ (fun _ => ?_)
    | with_reducible refine RM.ite ?_ ?_
    | with_reducible exact RM.refl _ _
    | exact ⟨⟨.of hw (by decide), .rfl, .rfl, .rfl, .rfl⟩, .same, .same, .same, .same, .rfl, id⟩
    | with_reducible refine Moves.upd ?_ rfl ⟨rfl, rfl, .same, .same, .same, ⟨.of hw (by decide), .rfl, .rfl, .rfl, .rfl⟩, .same⟩ ⟨id, id, id, id, id, id, id⟩

theorem State.tookMs_moves {w : Nat} {s u : State} (hw : Within 2568459700207628 w) (h : Moves w s u) (ms : Nat) :
    Moves w s (State.tookMs u ms) := by
  unfold State.tookMs
  repeat'
    first
    | with_reducible assumption
    | with_reducible refine State.setF_moves (Within.trans (by decide : Within 4 2568459700207628) hw) ?_ _ _ _
    | with_reducible refine State.passMs_moves (Within.trans (by decide : Within 2568459700142092 2568459700207628) hw) ?_ _
    | with_reducible refine Moves.ite ?_ ?_
    | split
    | extract_lets
    | with_reducible refine Moves.getD (Moves.optFindSome (fun _ => ?_)) ?_
    | with_reducible refine Moves.optMap (fun _ => ?_)
    | with_reducible refine Moves.optSndMapSnd ?_
    | with_reducible refine Moves.optSndMap (fun _ => ?_)
    | with_reducible refine Moves.optBind ?_ (fun _ _ => ?_)
    | with_reducible refine Moves.optOf (fun _ => ?_)
    | (with_reducible refine Moves.foldl ?_ (fun _ _ _ => ?_))
    | (with_reducible refine Moves.foldlFst ?_ (fun _ _ _ => ?_))
    | (with_reducible refine Moves.foldr ?_ (fun _ _ _ => ?_))
    | with_reducible refine Moves.optIte ?_ ?_
    | with_reducible refine Moves.foldlOpt ?_ (fun _ _ _ => ?_)
    | with_reducible refine Moves.optSome ?_
    | with_reducible exact Moves.optNone
    | with_reducible refine Moves.some (by assumption) ?_
    | with_reducible refine Moves.fst (by assumption) ?_
    | with_reducible refine Moves.snd (by assumption) ?_
    | dsimp +zetaDelta only
    | with_reducible refine Moves.upd ?_ rfl ⟨rfl, rfl, .same, .same, .same, ⟨.of hw (by decide), .rfl, .rfl, .rfl, .rfl⟩, .same⟩ ⟨id, id, id, id, id, id, id⟩

theorem State.clocksStep_moves {w : Nat} {s u : State} (hw : Within 35184707633164 w) (h : Moves w s u) (res : Sys2Proof.BringupResult) :
    Moves w s (State.clocksStep u res) := by
  unfold State.clocksStep
  repeat'
    first
    | with_reducible assumption
    | with_reducible refine State.bench_moves (Within.trans (by decide : Within 35184707633164 35184707633164) hw) ?_ _
    | with_reducible refine Moves.ite ?_ ?_
    | split
    | extract_lets
    | with_reducible refine Moves.getD (Moves.optFindSome (fun _ => ?_)) ?_
    | with_reducible refine Moves.optMap (fun _ => ?_)
    | with_reducible refine Moves.optSndMapSnd ?_
    | with_reducible refine Moves.optSndMap (fun _ => ?_)
    | with_reducible refine Moves.optBind ?_ (fun _ _ => ?_)
    | with_reducible refine Moves.optOf (fun _ => ?_)
    | (with_reducible refine Moves.foldl ?_ (fun _ _ _ => ?_))
    | (with_reducible refine Moves.foldlFst ?_ (fun _ _ _ => ?_))
    | (with_reducible refine Moves.foldr ?_ (fun _ _ _ => ?_))
    | with_reducible refine Moves.optIte ?_ ?_
    | with_reducible refine Moves.foldlOpt ?_ (fun _ _ _ => ?_)
    | with_reducible refine Moves.optSome ?_
    | with_reducible exact Moves.optNone
    | with_reducible refine Moves.some (by assumption) ?_
    | with_reducible refine Moves.fst (by assumption) ?_
    | with_reducible refine Moves.snd (by assumption) ?_
    | dsimp +zetaDelta only
    | with_reducible refine State.modRegion_moves ?_ (fun _ => ?_)
    | with_reducible refine RM.ite ?_ ?_
    | with_reducible exact RM.refl _ _
    | exact ⟨⟨.rfl, .rfl, .of hw (by decide), .rfl, .rfl⟩, .same, .same, .same, .same, .rfl, id⟩

theorem State.memoryStep_moves {w : Nat} {s u : State} (hw : Within 44255678627852 w) (h : Moves w s u) (res : Sys2Proof.BringupResult) :
    Moves w s (State.memoryStep u res) := by
  unfold State.memoryStep
  repeat'
    first
    | with_reducible assumption
    | with_reducible refine State.bench_moves (Within.trans (by decide : Within 35184707633164 44255678627852) hw) ?_ _
    | with_reducible refine State.loadDeclared_moves (Within.trans (by decide : Within 4 44255678627852) hw) ?_ _
    | with_reducible refine State.memoryTest_moves (Within.trans (by decide : Within 43980465176588 44255678627852) hw) ?_ _ _
    | with_reducible refine State.beginEdge_moves (Within.trans (by decide : Within 274877906948 44255678627852) hw) ?_ _ _ _
    | with_reducible refine Moves.ite ?_ ?_
    | split
    | extract_lets
    | with_reducible refine Moves.getD (Moves.optFindSome (fun _ => ?_)) ?_
    | with_reducible refine Moves.optMap (fun _ => ?_)
    | with_reducible refine Moves.optSndMapSnd ?_
    | with_reducible refine Moves.optSndMap (fun _ => ?_)
    | with_reducible refine Moves.optBind ?_ (fun _ _ => ?_)
    | with_reducible refine Moves.optOf (fun _ => ?_)
    | (with_reducible refine Moves.foldl ?_ (fun _ _ _ => ?_))
    | (with_reducible refine Moves.foldlFst ?_ (fun _ _ _ => ?_))
    | (with_reducible refine Moves.foldr ?_ (fun _ _ _ => ?_))
    | with_reducible refine Moves.optIte ?_ ?_
    | with_reducible refine Moves.foldlOpt ?_ (fun _ _ _ => ?_)
    | with_reducible refine Moves.optSome ?_
    | with_reducible exact Moves.optNone
    | with_reducible refine Moves.some (by assumption) ?_
    | with_reducible refine Moves.fst (by assumption) ?_
    | with_reducible refine Moves.snd (by assumption) ?_
    | dsimp +zetaDelta only

theorem State.edgesStep_moves {w : Nat} {s u : State} (hw : Within 3132165567840524 w) (h : Moves w s u)  :
    Moves w s (State.edgesStep u) := by
  unfold State.edgesStep
  repeat'
    first
    | with_reducible assumption
    | with_reducible refine State.beginTraining_moves (Within.trans (by decide : Within 3132165567840524 3132165567840524) hw) ?_ _ _ _
    | with_reducible refine State.loadLanes_moves (Within.trans (by decide : Within 4 3132165567840524) hw) ?_ _
    | with_reducible refine Moves.ite ?_ ?_
    | split
    | extract_lets
    | with_reducible refine Moves.getD (Moves.optFindSome (fun _ => ?_)) ?_
    | with_reducible refine Moves.optMap (fun _ => ?_)
    | with_reducible refine Moves.optSndMapSnd ?_
    | with_reducible refine Moves.optSndMap (fun _ => ?_)
    | with_reducible refine Moves.optBind ?_ (fun _ _ => ?_)
    | with_reducible refine Moves.optOf (fun _ => ?_)
    | (with_reducible refine Moves.foldl ?_ (fun _ _ _ => ?_))
    | (with_reducible refine Moves.foldlFst ?_ (fun _ _ _ => ?_))
    | (with_reducible refine Moves.foldr ?_ (fun _ _ _ => ?_))
    | with_reducible refine Moves.optIte ?_ ?_
    | with_reducible refine Moves.foldlOpt ?_ (fun _ _ _ => ?_)
    | with_reducible refine Moves.optSome ?_
    | with_reducible exact Moves.optNone
    | with_reducible refine Moves.some (by assumption) ?_
    | with_reducible refine Moves.fst (by assumption) ?_
    | with_reducible refine Moves.snd (by assumption) ?_
    | dsimp +zetaDelta only

theorem State.computeStep_moves {w : Nat} {s u : State} (hw : Within 43980465111052 w) (h : Moves w s u) (res : Sys2Proof.BringupResult) :
    Moves w s (State.computeStep u res) := by
  unfold State.computeStep
  repeat'
    first
    | with_reducible assumption
    | with_reducible refine State.cellTest_moves (Within.trans (by decide : Within 43980465111052 43980465111052) hw) ?_ _ _
    | with_reducible refine State.columnTest_moves (Within.trans (by decide : Within 35184372088844 43980465111052) hw) ?_ _ _
    | with_reducible refine Moves.ite ?_ ?_
    | split
    | extract_lets
    | with_reducible refine Moves.getD (Moves.optFindSome (fun _ => ?_)) ?_
    | with_reducible refine Moves.optMap (fun _ => ?_)
    | with_reducible refine Moves.optSndMapSnd ?_
    | with_reducible refine Moves.optSndMap (fun _ => ?_)
    | with_reducible refine Moves.optBind ?_ (fun _ _ => ?_)
    | with_reducible refine Moves.optOf (fun _ => ?_)
    | (with_reducible refine Moves.foldl ?_ (fun _ _ _ => ?_))
    | (with_reducible refine Moves.foldlFst ?_ (fun _ _ _ => ?_))
    | (with_reducible refine Moves.foldr ?_ (fun _ _ _ => ?_))
    | with_reducible refine Moves.optIte ?_ ?_
    | with_reducible refine Moves.foldlOpt ?_ (fun _ _ _ => ?_)
    | with_reducible refine Moves.optSome ?_
    | with_reducible exact Moves.optNone
    | with_reducible refine Moves.some (by assumption) ?_
    | with_reducible refine Moves.fst (by assumption) ?_
    | with_reducible refine Moves.snd (by assumption) ?_
    | dsimp +zetaDelta only

theorem State.openEngine_moves {w : Nat} {s u : State} (hw : Within 35185462640892 w) (h : Moves w s u) (bad : Bool) :
    Moves w s (State.openEngine u bad) := by
  unfold State.openEngine
  repeat'
    first
    | with_reducible assumption
    | with_reducible refine State.writeSaved_moves (Within.trans (by decide : Within 35184388866076 35185462640892) hw) ?_ _
    | with_reducible refine State.openSupervisor_moves (Within.trans (by decide : Within 1073741932 35185462640892) hw) ?_
    | with_reducible refine Moves.ite ?_ ?_
    | split
    | extract_lets
    | with_reducible refine Moves.getD (Moves.optFindSome (fun _ => ?_)) ?_
    | with_reducible refine Moves.optMap (fun _ => ?_)
    | with_reducible refine Moves.optSndMapSnd ?_
    | with_reducible refine Moves.optSndMap (fun _ => ?_)
    | with_reducible refine Moves.optBind ?_ (fun _ _ => ?_)
    | with_reducible refine Moves.optOf (fun _ => ?_)
    | (with_reducible refine Moves.foldl ?_ (fun _ _ _ => ?_))
    | (with_reducible refine Moves.foldlFst ?_ (fun _ _ _ => ?_))
    | (with_reducible refine Moves.foldr ?_ (fun _ _ _ => ?_))
    | with_reducible refine Moves.optIte ?_ ?_
    | with_reducible refine Moves.foldlOpt ?_ (fun _ _ _ => ?_)
    | with_reducible refine Moves.optSome ?_
    | with_reducible exact Moves.optNone
    | with_reducible refine Moves.some (by assumption) ?_
    | with_reducible refine Moves.fst (by assumption) ?_
    | with_reducible refine Moves.snd (by assumption) ?_
    | dsimp +zetaDelta only
    | with_reducible refine Moves.upd ?_ rfl ⟨rfl, rfl, .same, ⟨.rfl, .of hw (by decide), .rfl, .rfl, .rfl⟩, ⟨.rfl, .rfl, .rfl, .rfl, .of hw (by decide)⟩, .same, .same⟩ ⟨id, id, id, id, id, id, id⟩

theorem State.topologyStep_moves {w : Nat} {s u : State} (hw : Within 3132029554950652 w) (h : Moves w s u) (bad : Bool) :
    Moves w s (State.topologyStep u bad) := by
  unfold State.topologyStep
  repeat'
    first
    | with_reducible assumption
    | with_reducible refine State.bench_moves (Within.trans (by decide : Within 35184707633164 3132029554950652) hw) ?_ _
    | with_reducible refine State.fixGeometry_moves (Within.trans (by decide : Within 4 3132029554950652) hw) ?_ _
    | with_reducible refine State.elect_moves (Within.trans (by decide : Within 4 3132029554950652) hw) ?_ _
    | with_reducible refine State.showDiffs_moves (Within.trans (by decide : Within 4 3132029554950652) hw) ?_ _
    | with_reducible refine State.isolateAll_moves (Within.trans (by decide : Within 3132028128887052 3132029554950652) hw) ?_
    | with_reducible refine State.notReady_moves (Within.trans (by decide : Within 35184372088844 3132029554950652) hw) ?_
    | with_reducible refine State.openEngine_moves (Within.trans (by decide : Within 35185462640892 3132029554950652) hw) ?_ _
    | with_reducible refine State.setBringState_moves (Within.trans (by decide : Within 12 3132029554950652) hw) ?_ _
    | with_reducible refine Moves.ite ?_ ?_
    | split
    | extract_lets
    | with_reducible refine Moves.getD (Moves.optFindSome (fun _ => ?_)) ?_
    | with_reducible refine Moves.optMap (fun _ => ?_)
    | with_reducible refine Moves.optSndMapSnd ?_
    | with_reducible refine Moves.optSndMap (fun _ => ?_)
    | with_reducible refine Moves.optBind ?_ (fun _ _ => ?_)
    | with_reducible refine Moves.optOf (fun _ => ?_)
    | (with_reducible refine Moves.foldl ?_ (fun _ _ _ => ?_))
    | (with_reducible refine Moves.foldlFst ?_ (fun _ _ _ => ?_))
    | (with_reducible refine Moves.foldr ?_ (fun _ _ _ => ?_))
    | with_reducible refine Moves.optIte ?_ ?_
    | with_reducible refine Moves.foldlOpt ?_ (fun _ _ _ => ?_)
    | with_reducible refine Moves.optSome ?_
    | with_reducible exact Moves.optNone
    | with_reducible refine Moves.some (by assumption) ?_
    | with_reducible refine Moves.fst (by assumption) ?_
    | with_reducible refine Moves.snd (by assumption) ?_
    | dsimp +zetaDelta only
    | with_reducible refine State.modRegion_moves ?_ (fun _ => ?_)
    | with_reducible refine RM.ite ?_ ?_
    | with_reducible exact RM.refl _ _
    | exact ⟨⟨.of hw (by decide), .rfl, .rfl, .of hw (by decide), .rfl⟩, .same, .same, .same, .same, .rfl, id⟩

theorem State.bringupStep_moves {w : Nat} {s u : State} (hw : Within 3141238099247612 w) (h : Moves w s u) (res : Sys2Proof.BringupResult) :
    Moves w s (State.bringupStep u res) := by
  unfold State.bringupStep
  repeat'
    first
    | with_reducible assumption
    | with_reducible refine State.setBringState_moves (Within.trans (by decide : Within 12 3141238099247612) hw) ?_ _
    | with_reducible refine State.elect_moves (Within.trans (by decide : Within 4 3141238099247612) hw) ?_ _
    | with_reducible refine State.romStep_moves (Within.trans (by decide : Within 201457676 3141238099247612) hw) ?_ _
    | with_reducible refine State.passMs_moves (Within.trans (by decide : Within 2568459700142092 3141238099247612) hw) ?_ _
    | with_reducible refine State.recordsStep_moves (Within.trans (by decide : Within 3132028196061452 3141238099247612) hw) ?_ _
    | with_reducible refine State.tookMs_moves (Within.trans (by decide : Within 2568459700207628 3141238099247612) hw) ?_ _
    | with_reducible refine State.clocksStep_moves (Within.trans (by decide : Within 35184707633164 3141238099247612) hw) ?_ _
    | with_reducible refine State.memoryStep_moves (Within.trans (by decide : Within 44255678627852 3141238099247612) hw) ?_ _
    | with_reducible refine State.edgesStep_moves (Within.trans (by decide : Within 3132165567840524 3141238099247612) hw) ?_
    | with_reducible refine State.computeStep_moves (Within.trans (by decide : Within 43980465111052 3141238099247612) hw) ?_ _
    | with_reducible refine State.topologyStep_moves (Within.trans (by decide : Within 3132029554950652 3141238099247612) hw) ?_ _
    | with_reducible refine Moves.ite ?_ ?_
    | split
    | extract_lets
    | with_reducible refine Moves.getD (Moves.optFindSome (fun _ => ?_)) ?_
    | with_reducible refine Moves.optMap (fun _ => ?_)
    | with_reducible refine Moves.optSndMapSnd ?_
    | with_reducible refine Moves.optSndMap (fun _ => ?_)
    | with_reducible refine Moves.optBind ?_ (fun _ _ => ?_)
    | with_reducible refine Moves.optOf (fun _ => ?_)
    | (with_reducible refine Moves.foldl ?_ (fun _ _ _ => ?_))
    | (with_reducible refine Moves.foldlFst ?_ (fun _ _ _ => ?_))
    | (with_reducible refine Moves.foldr ?_ (fun _ _ _ => ?_))
    | with_reducible refine Moves.optIte ?_ ?_
    | with_reducible refine Moves.foldlOpt ?_ (fun _ _ _ => ?_)
    | with_reducible refine Moves.optSome ?_
    | with_reducible exact Moves.optNone
    | with_reducible refine Moves.some (by assumption) ?_
    | with_reducible refine Moves.fst (by assumption) ?_
    | with_reducible refine Moves.snd (by assumption) ?_
    | dsimp +zetaDelta only

theorem State.go_moves {w : Nat} {s u : State} (hw : Within 65548 w) (h : Moves w s u)  :
    Moves w s (State.go u) := by
  unfold State.go
  repeat'
    first
    | with_reducible assumption
    | with_reducible refine State.setBringState_moves (Within.trans (by decide : Within 12 65548) hw) ?_ _
    | with_reducible refine Moves.ite ?_ ?_
    | split
    | extract_lets
    | with_reducible refine Moves.getD (Moves.optFindSome (fun _ => ?_)) ?_
    | with_reducible refine Moves.optMap (fun _ => ?_)
    | with_reducible refine Moves.optSndMapSnd ?_
    | with_reducible refine Moves.optSndMap (fun _ => ?_)
    | with_reducible refine Moves.optBind ?_ (fun _ _ => ?_)
    | with_reducible refine Moves.optOf (fun _ => ?_)
    | (with_reducible refine Moves.foldl ?_ (fun _ _ _ => ?_))
    | (with_reducible refine Moves.foldlFst ?_ (fun _ _ _ => ?_))
    | (with_reducible refine Moves.foldr ?_ (fun _ _ _ => ?_))
    | with_reducible refine Moves.optIte ?_ ?_
    | with_reducible refine Moves.foldlOpt ?_ (fun _ _ _ => ?_)
    | with_reducible refine Moves.optSome ?_
    | with_reducible exact Moves.optNone
    | with_reducible refine Moves.some (by assumption) ?_
    | with_reducible refine Moves.fst (by assumption) ?_
    | with_reducible refine Moves.snd (by assumption) ?_
    | dsimp +zetaDelta only
    | with_reducible refine Moves.upd ?_ rfl ⟨rfl, rfl, .same, .same, .same, ⟨.of hw (by decide), .rfl, .rfl, .rfl, .rfl⟩, .same⟩ ⟨id, id, id, id, id, id, id⟩

theorem execGo_moves {w : Nat} {s u : State} (hw : Within 65548 w) (h : Moves w s u)  :
    Moves.outcome w s (execGo u) := by
  unfold execGo
  repeat'
    first
    | with_reducible assumption
    | with_reducible exact Moves.fault
    | with_reducible refine Moves.next ?_
    | with_reducible refine State.whereAnswers_moves (Within.trans (by decide : Within 0 65548) hw) ?_ _ _ (fun _ _ => ?_)
    | with_reducible refine State.go_moves (Within.trans (by decide : Within 65548 65548) hw) ?_
    | with_reducible refine Moves.ite ?_ ?_
    | split
    | extract_lets
    | with_reducible refine Moves.getD (Moves.optFindSome (fun _ => ?_)) ?_
    | with_reducible refine Moves.optMap (fun _ => ?_)
    | with_reducible refine Moves.optSndMapSnd ?_
    | with_reducible refine Moves.optSndMap (fun _ => ?_)
    | with_reducible refine Moves.optBind ?_ (fun _ _ => ?_)
    | with_reducible refine Moves.optOf (fun _ => ?_)
    | (with_reducible refine Moves.foldl ?_ (fun _ _ _ => ?_))
    | (with_reducible refine Moves.foldlFst ?_ (fun _ _ _ => ?_))
    | (with_reducible refine Moves.foldr ?_ (fun _ _ _ => ?_))
    | with_reducible refine Moves.optIte ?_ ?_
    | with_reducible refine Moves.foldlOpt ?_ (fun _ _ _ => ?_)
    | with_reducible refine Moves.optSome ?_
    | with_reducible exact Moves.optNone
    | with_reducible refine Moves.some (by assumption) ?_
    | with_reducible refine Moves.fst (by assumption) ?_
    | with_reducible refine Moves.snd (by assumption) ?_
    | dsimp +zetaDelta only

theorem execBringupStep_moves {w : Nat} {s u : State} (hw : Within 3141238099247612 w) (h : Moves w s u) (res : Sys2Proof.BringupResult) :
    Moves.outcome w s (execBringupStep res u) := by
  unfold execBringupStep
  repeat'
    first
    | with_reducible assumption
    | with_reducible exact Moves.fault
    | with_reducible refine Moves.next ?_
    | with_reducible refine State.bringupStep_moves (Within.trans (by decide : Within 3141238099247612 3141238099247612) hw) ?_ _
    | with_reducible refine Moves.ite ?_ ?_
    | split
    | extract_lets
    | with_reducible refine Moves.getD (Moves.optFindSome (fun _ => ?_)) ?_
    | with_reducible refine Moves.optMap (fun _ => ?_)
    | with_reducible refine Moves.optSndMapSnd ?_
    | with_reducible refine Moves.optSndMap (fun _ => ?_)
    | with_reducible refine Moves.optBind ?_ (fun _ _ => ?_)
    | with_reducible refine Moves.optOf (fun _ => ?_)
    | (with_reducible refine Moves.foldl ?_ (fun _ _ _ => ?_))
    | (with_reducible refine Moves.foldlFst ?_ (fun _ _ _ => ?_))
    | (with_reducible refine Moves.foldr ?_ (fun _ _ _ => ?_))
    | with_reducible refine Moves.optIte ?_ ?_
    | with_reducible refine Moves.foldlOpt ?_ (fun _ _ _ => ?_)
    | with_reducible refine Moves.optSome ?_
    | with_reducible exact Moves.optNone
    | with_reducible refine Moves.some (by assumption) ?_
    | with_reducible refine Moves.fst (by assumption) ?_
    | with_reducible refine Moves.snd (by assumption) ?_
    | dsimp +zetaDelta only

end Sys2Proof.Machine
end

