-- ==== Sys2Proof/Laws/UnitsMoves.lean ====
section
/-! SUPPORT. Sys2Proof/Laws/UnitsMoves.lean: what each operation of Machine/Units.lean can do to the state: the parts it may change, and that it keeps
the canonical form. -/

namespace Sys2Proof.Machine

theorem State.reloadPage_moves {w : Nat} {s u : State} (hw : Within 12 w) (h : Moves w s u) (pg : Nat) :
    Moves w s (State.reloadPage u pg) := by
  unfold State.reloadPage
  repeat'
    first
    | with_reducible assumption
    | with_reducible refine State.resetRegs_moves (Within.trans (by decide : Within 12 12) hw) ?_ _
    | with_reducible refine Moves.ite ?_ ?_
    | split
    | extract_lets
    | with_reducible refine Moves.getD (Moves.optFindSome (fun _ => ?_)) ?_
    | with_reducible refine Moves.optMap (fun _ => ?_)
    | with_reducible refine Moves.optSndMapSnd ?_
    | with_reducible refine Moves.optSndMap (fun _ => ?_)
    | with_reducible refine Moves.optBind ?_ (fun _ _ => ?_)
    | with_reducible refine Moves.optOf (fun _ => ?_)
    | (with_reducible refine Moves.foldl ?_ (fun _ _ _ => ?_))
    | (with_reducible refine Moves.foldlFst ?_ (fun _ _ _ => ?_))
    | (with_reducible refine Moves.foldr ?_ (fun _ _ _ => ?_))
    | with_reducible refine Moves.optIte ?_ ?_
    | with_reducible refine Moves.foldlOpt ?_ (fun _ _ _ => ?_)
    | with_reducible refine Moves.optSome ?_
    | with_reducible exact Moves.optNone
    | with_reducible refine Moves.some (by assumption) ?_
    | with_reducible refine Moves.fst (by assumption) ?_
    | with_reducible refine Moves.snd (by assumption) ?_
    | dsimp +zetaDelta only

theorem State.fenceCluster_moves {w : Nat} {s u : State} (hw : Within 4486007390994412 w) (h : Moves w s u) (r : Nat) (c : Nat) :
    Moves w s (State.fenceCluster u r c) := by
  unfold State.fenceCluster
  repeat'
    first
    | with_reducible assumption
    | with_reducible refine State.regionReset_moves (Within.trans (by decide : Within 4486007390994412 4486007390994412) hw) ?_ _
    | with_reducible refine State.contain_moves (Within.trans (by decide : Within 35184372088844 4486007390994412) hw) ?_ _ _
    | with_reducible refine State.fenceOne_moves (Within.trans (by decide : Within 43980465111052 4486007390994412) hw) ?_ _ _
    | with_reducible refine Moves.ite ?_ ?_
    | split
    | extract_lets
    | with_reducible refine Moves.getD (Moves.optFindSome (fun _ => ?_)) ?_
    | with_reducible refine Moves.optMap (fun _ => ?_)
    | with_reducible refine Moves.optSndMapSnd ?_
    | with_reducible refine Moves.optSndMap (fun _ => ?_)
    | with_reducible refine Moves.optBind ?_ (fun _ _ => ?_)
    | with_reducible refine Moves.optOf (fun _ => ?_)
    | (with_reducible refine Moves.foldl ?_ (fun _ _ _ => ?_))
    | (with_reducible refine Moves.foldlFst ?_ (fun _ _ _ => ?_))
    | (with_reducible refine Moves.foldr ?_ (fun _ _ _ => ?_))
    | with_reducible refine Moves.optIte ?_ ?_
    | with_reducible refine Moves.foldlOpt ?_ (fun _ _ _ => ?_)
    | with_reducible refine Moves.optSome ?_
    | with_reducible exact Moves.optNone
    | with_reducible refine Moves.some (by assumption) ?_
    | with_reducible refine Moves.fst (by assumption) ?_
    | with_reducible refine Moves.snd (by assumption) ?_
    | dsimp +zetaDelta only
    | with_reducible refine Moves.upd ?_ rfl ⟨rfl, rfl, .same, .same, .same, ⟨.of hw (by decide), .rfl, .rfl, .rfl, .rfl⟩, .same⟩ ⟨id, id, id, id, id, id, id⟩

theorem State.clusterResetEnd_moves {w : Nat} {s u : State} (hw : Within 4486007390994412 w) (h : Moves w s u) (r : Nat) (c : Nat) (ucode : List Sys2Proof.UcodeResult) :
    Moves w s (State.clusterResetEnd u r c ucode) := by
  unfold State.clusterResetEnd
  repeat'
    first
    | with_reducible assumption
    | with_reducible refine State.reloadPage_moves (Within.trans (by decide : Within 12 4486007390994412) hw) ?_ _
    | with_reducible refine State.modCluster_moves (Within.trans (by decide : Within 8796093022208 4486007390994412) hw) ?_ _ _ _
    | with_reducible refine State.bumpF_moves (Within.trans (by decide : Within 12 4486007390994412) hw) ?_ _ _ _
    | with_reducible refine State.ucodeResult_moves (Within.trans (by decide : Within 35184372088844 4486007390994412) hw) ?_ _ _
    | with_reducible refine State.count_moves (Within.trans (by decide : Within 35184372088844 4486007390994412) hw) ?_ _ _ _
    | with_reducible refine State.fenceCluster_moves (Within.trans (by decide : Within 4486007390994412 4486007390994412) hw) ?_ _ _
    | with_reducible refine State.escalate_moves (Within.trans (by decide : Within 35184372088844 4486007390994412) hw) ?_ _ _ _
    | with_reducible refine Moves.ite ?_ ?_
    | split
    | extract_lets
    | with_reducible refine Moves.getD (Moves.optFindSome (fun _ => ?_)) ?_
    | with_reducible refine Moves.optMap (fun _ => ?_)
    | with_reducible refine Moves.optSndMapSnd ?_
    | with_reducible refine Moves.optSndMap (fun _ => ?_)
    | with_reducible refine Moves.optBind ?_ (fun _ _ => ?_)
    | with_reducible refine Moves.optOf (fun _ => ?_)
    | (with_reducible refine Moves.foldl ?_ (fun _ _ _ => ?_))
    | (with_reducible refine Moves.foldlFst ?_ (fun _ _ _ => ?_))
    | (with_reducible refine Moves.foldr ?_ (fun _ _ _ => ?_))
    | with_reducible refine Moves.optIte ?_ ?_
    | with_reducible refine Moves.foldlOpt ?_ (fun _ _ _ => ?_)
    | with_reducible refine Moves.optSome ?_
    | with_reducible exact Moves.optNone
    | with_reducible refine Moves.some (by assumption) ?_
    | with_reducible refine Moves.fst (by assumption) ?_
    | with_reducible refine Moves.snd (by assumption) ?_
    | dsimp +zetaDelta only

theorem execClusterResetEnd_moves {w : Nat} {s u : State} (hw : Within 4486007390994412 w) (h : Moves w s u) (r : Sys2Proof.RegionId) (c : Sys2Proof.ClusterId) (ucode : List Sys2Proof.UcodeResult) :
    Moves.outcome w s (execClusterResetEnd r c ucode u) := by
  unfold execClusterResetEnd
  repeat'
    first
    | with_reducible assumption
    | with_reducible exact Moves.fault
    | with_reducible refine Moves.next ?_
    | with_reducible refine State.clusterResetEnd_moves (Within.trans (by decide : Within 4486007390994412 4486007390994412) hw) ?_ _ _ _
    | with_reducible refine Moves.ite ?_ ?_
    | split
    | extract_lets
    | with_reducible refine Moves.getD (Moves.optFindSome (fun _ => ?_)) ?_
    | with_reducible refine Moves.optMap (fun _ => ?_)
    | with_reducible refine Moves.optSndMapSnd ?_
    | with_reducible refine Moves.optSndMap (fun _ => ?_)
    | with_reducible refine Moves.optBind ?_ (fun _ _ => ?_)
    | with_reducible refine Moves.optOf (fun _ => ?_)
    | (with_reducible refine Moves.foldl ?_ (fun _ _ _ => ?_))
    | (with_reducible refine Moves.foldlFst ?_ (fun _ _ _ => ?_))
    | (with_reducible refine Moves.foldr ?_ (fun _ _ _ => ?_))
    | with_reducible refine Moves.optIte ?_ ?_
    | with_reducible refine Moves.foldlOpt ?_ (fun _ _ _ => ?_)
    | with_reducible refine Moves.optSome ?_
    | with_reducible exact Moves.optNone
    | with_reducible refine Moves.some (by assumption) ?_
    | with_reducible refine Moves.fst (by assumption) ?_
    | with_reducible refine Moves.snd (by assumption) ?_
    | dsimp +zetaDelta only

theorem State.haltGroup_moves {w : Nat} {s u : State} (hw : Within 37314675885324 w) (h : Moves w s u) (r : Nat) (c : Nat) :
    Moves w s (State.haltGroup u r c) := by
  unfold State.haltGroup
  repeat'
    first
    | with_reducible assumption
    | with_reducible refine State.haltRegion_moves (Within.trans (by decide : Within 37314675885324 37314675885324) hw) ?_ _ _ _ _
    | with_reducible refine Moves.ite ?_ ?_
    | split
    | extract_lets
    | with_reducible refine Moves.getD (Moves.optFindSome (fun _ => ?_)) ?_
    | with_reducible refine Moves.optMap (fun _ => ?_)
    | with_reducible refine Moves.optSndMapSnd ?_
    | with_reducible refine Moves.optSndMap (fun _ => ?_)
    | with_reducible refine Moves.optBind ?_ (fun _ _ => ?_)
    | with_reducible refine Moves.optOf (fun _ => ?_)
    | (with_reducible refine Moves.foldl ?_ (fun _ _ _ => ?_))
    | (with_reducible refine Moves.foldlFst ?_ (fun _ _ _ => ?_))
    | (with_reducible refine Moves.foldr ?_ (fun _ _ _ => ?_))
    | with_reducible refine Moves.optIte ?_ ?_
    | with_reducible refine Moves.foldlOpt ?_ (fun _ _ _ => ?_)
    | with_reducible refine Moves.optSome ?_
    | with_reducible exact Moves.optNone
    | with_reducible refine Moves.some (by assumption) ?_
    | with_reducible refine Moves.fst (by assumption) ?_
    | with_reducible refine Moves.snd (by assumption) ?_
    | dsimp +zetaDelta only

theorem State.sliceFault_moves {w : Nat} {s u : State} (hw : Within 4486007407771644 w) (h : Moves w s u) (r : Nat) (c : Nat) (off : Nat) :
    Moves w s (State.sliceFault u r c off) := by
  unfold State.sliceFault
  repeat'
    first
    | with_reducible assumption
    | with_reducible refine State.setReg_moves (Within.trans (by decide : Within 4 4486007407771644) hw) ?_ _ _
    | with_reducible refine State.note_moves (Within.trans (by decide : Within 8 4486007407771644) hw) ?_ _ _
    | with_reducible refine State.fenceCluster_moves (Within.trans (by decide : Within 4486007390994412 4486007407771644) hw) ?_ _ _
    | with_reducible refine State.escalate_moves (Within.trans (by decide : Within 35184372088844 4486007407771644) hw) ?_ _ _ _
    | with_reducible refine State.modCluster_moves (Within.trans (by decide : Within 8796093022208 4486007407771644) hw) ?_ _ _ _
    | with_reducible refine State.contain_moves (Within.trans (by decide : Within 35184372088844 4486007407771644) hw) ?_ _ _
    | with_reducible refine State.regionEscalates_moves (Within.trans (by decide : Within 4486007390994412 4486007407771644) hw) ?_ _ _
    | with_reducible refine State.startTeardown_moves (Within.trans (by decide : Within 36527643053884 4486007407771644) hw) ?_ _ _ _
    | with_reducible refine Moves.ite ?_ ?_
    | split
    | extract_lets
    | with_reducible refine Moves.getD (Moves.optFindSome (fun _ => ?_)) ?_
    | with_reducible refine Moves.optMap (fun _ => ?_)
    | with_reducible refine Moves.optSndMapSnd ?_
    | with_reducible refine Moves.optSndMap (fun _ => ?_)
    | with_reducible refine Moves.optBind ?_ (fun _ _ => ?_)
    | with_reducible refine Moves.optOf (fun _ => ?_)
    | (with_reducible refine Moves.foldl ?_ (fun _ _ _ => ?_))
    | (with_reducible refine Moves.foldlFst ?_ (fun _ _ _ => ?_))
    | (with_reducible refine Moves.foldr ?_ (fun _ _ _ => ?_))
    | with_reducible refine Moves.optIte ?_ ?_
    | with_reducible refine Moves.foldlOpt ?_ (fun _ _ _ => ?_)
    | with_reducible refine Moves.optSome ?_
    | with_reducible exact Moves.optNone
    | with_reducible refine Moves.some (by assumption) ?_
    | with_reducible refine Moves.fst (by assumption) ?_
    | with_reducible refine Moves.snd (by assumption) ?_
    | dsimp +zetaDelta only

theorem State.clusterReset_moves {w : Nat} {s u : State} (hw : Within 46110768907532 w) (h : Moves w s u) (r : Nat) (c : Nat) :
    Moves w s (State.clusterReset u r c) := by
  unfold State.clusterReset
  repeat'
    first
    | with_reducible assumption
    | with_reducible refine State.modCluster_moves (Within.trans (by decide : Within 8796093022208 46110768907532) hw) ?_ _ _ _
    | with_reducible refine State.abandonCells_moves (Within.trans (by decide : Within 35184372088844 46110768907532) hw) ?_ _ _
    | with_reducible refine State.haltGroup_moves (Within.trans (by decide : Within 37314675885324 46110768907532) hw) ?_ _ _
    | with_reducible refine Moves.ite ?_ ?_
    | split
    | extract_lets
    | with_reducible refine Moves.getD (Moves.optFindSome (fun _ => ?_)) ?_
    | with_reducible refine Moves.optMap (fun _ => ?_)
    | with_reducible refine Moves.optSndMapSnd ?_
    | with_reducible refine Moves.optSndMap (fun _ => ?_)
    | with_reducible refine Moves.optBind ?_ (fun _ _ => ?_)
    | with_reducible refine Moves.optOf (fun _ => ?_)
    | (with_reducible refine Moves.foldl ?_ (fun _ _ _ => ?_))
    | (with_reducible refine Moves.foldlFst ?_ (fun _ _ _ => ?_))
    | (with_reducible refine Moves.foldr ?_ (fun _ _ _ => ?_))
    | with_reducible refine Moves.optIte ?_ ?_
    | with_reducible refine Moves.foldlOpt ?_ (fun _ _ _ => ?_)
    | with_reducible refine Moves.optSome ?_
    | with_reducible exact Moves.optNone
    | with_reducible refine Moves.some (by assumption) ?_
    | with_reducible refine Moves.fst (by assumption) ?_
    | with_reducible refine Moves.snd (by assumption) ?_
    | dsimp +zetaDelta only

theorem State.clusterFault_moves {w : Nat} {s u : State} (hw : Within 4486007407771644 w) (h : Moves w s u) (r : Nat) (c : Nat) (f : Sys2Proof.SliceFault) :
    Moves w s (State.clusterFault u r c f) := by
  unfold State.clusterFault
  repeat'
    first
    | with_reducible assumption
    | with_reducible refine State.sliceFault_moves (Within.trans (by decide : Within 4486007407771644 4486007407771644) hw) ?_ _ _ _
    | with_reducible refine State.count_moves (Within.trans (by decide : Within 35184372088844 4486007407771644) hw) ?_ _ _ _
    | with_reducible refine State.clusterReset_moves (Within.trans (by decide : Within 46110768907532 4486007407771644) hw) ?_ _ _
    | with_reducible refine State.contain_moves (Within.trans (by decide : Within 35184372088844 4486007407771644) hw) ?_ _ _
    | with_reducible refine Moves.ite ?_ ?_
    | split
    | extract_lets
    | with_reducible refine Moves.getD (Moves.optFindSome (fun _ => ?_)) ?_
    | with_reducible refine Moves.optMap (fun _ => ?_)
    | with_reducible refine Moves.optSndMapSnd ?_
    | with_reducible refine Moves.optSndMap (fun _ => ?_)
    | with_reducible refine Moves.optBind ?_ (fun _ _ => ?_)
    | with_reducible refine Moves.optOf (fun _ => ?_)
    | (with_reducible refine Moves.foldl ?_ (fun _ _ _ => ?_))
    | (with_reducible refine Moves.foldlFst ?_ (fun _ _ _ => ?_))
    | (with_reducible refine Moves.foldr ?_ (fun _ _ _ => ?_))
    | with_reducible refine Moves.optIte ?_ ?_
    | with_reducible refine Moves.foldlOpt ?_ (fun _ _ _ => ?_)
    | with_reducible refine Moves.optSome ?_
    | with_reducible exact Moves.optNone
    | with_reducible refine Moves.some (by assumption) ?_
    | with_reducible refine Moves.fst (by assumption) ?_
    | with_reducible refine Moves.snd (by assumption) ?_
    | dsimp +zetaDelta only

theorem execSliceFault_moves {w : Nat} {s u : State} (hw : Within 4486007407771644 w) (h : Moves w s u) (r : Sys2Proof.RegionId) (c : Sys2Proof.ClusterId) (f : Sys2Proof.SliceFault) :
    Moves.outcome w s (execSliceFault r c f u) := by
  unfold execSliceFault
  repeat'
    first
    | with_reducible assumption
    | with_reducible exact Moves.fault
    | with_reducible refine Moves.next ?_
    | with_reducible refine State.clusterFault_moves (Within.trans (by decide : Within 4486007407771644 4486007407771644) hw) ?_ _ _ _
    | with_reducible refine Moves.ite ?_ ?_
    | split
    | extract_lets
    | with_reducible refine Moves.getD (Moves.optFindSome (fun _ => ?_)) ?_
    | with_reducible refine Moves.optMap (fun _ => ?_)
    | with_reducible refine Moves.optSndMapSnd ?_
    | with_reducible refine Moves.optSndMap (fun _ => ?_)
    | with_reducible refine Moves.optBind ?_ (fun _ _ => ?_)
    | with_reducible refine Moves.optOf (fun _ => ?_)
    | (with_reducible refine Moves.foldl ?_ (fun _ _ _ => ?_))
    | (with_reducible refine Moves.foldlFst ?_ (fun _ _ _ => ?_))
    | (with_reducible refine Moves.foldr ?_ (fun _ _ _ => ?_))
    | with_reducible refine Moves.optIte ?_ ?_
    | with_reducible refine Moves.foldlOpt ?_ (fun _ _ _ => ?_)
    | with_reducible refine Moves.optSome ?_
    | with_reducible exact Moves.optNone
    | with_reducible refine Moves.some (by assumption) ?_
    | with_reducible refine Moves.fst (by assumption) ?_
    | with_reducible refine Moves.snd (by assumption) ?_
    | dsimp +zetaDelta only

theorem State.replaceCell_moves {w : Nat} {s u : State} (hw : Within 4486007390994412 w) (h : Moves w s u) (r : Nat) (c : Nat) (k : Nat) :
    Moves w s (State.replaceCell u r c k) := by
  unfold State.replaceCell
  repeat'
    first
    | with_reducible assumption
    | with_reducible refine State.fenceCluster_moves (Within.trans (by decide : Within 4486007390994412 4486007390994412) hw) ?_ _ _
    | with_reducible refine State.escalate_moves (Within.trans (by decide : Within 35184372088844 4486007390994412) hw) ?_ _ _ _
    | with_reducible refine State.modCluster_moves (Within.trans (by decide : Within 8796093022208 4486007390994412) hw) ?_ _ _ _
    | with_reducible refine State.record_moves (Within.trans (by decide : Within 12 4486007390994412) hw) ?_ _ _ _
    | with_reducible refine State.clusterReset_moves (Within.trans (by decide : Within 46110768907532 4486007390994412) hw) ?_ _ _
    | with_reducible refine Moves.ite ?_ ?_
    | split
    | extract_lets
    | with_reducible refine Moves.getD (Moves.optFindSome (fun _ => ?_)) ?_
    | with_reducible refine Moves.optMap (fun _ => ?_)
    | with_reducible refine Moves.optSndMapSnd ?_
    | with_reducible refine Moves.optSndMap (fun _ => ?_)
    | with_reducible refine Moves.optBind ?_ (fun _ _ => ?_)
    | with_reducible refine Moves.optOf (fun _ => ?_)
    | (with_reducible refine Moves.foldl ?_ (fun _ _ _ => ?_))
    | (with_reducible refine Moves.foldlFst ?_ (fun _ _ _ => ?_))
    | (with_reducible refine Moves.foldr ?_ (fun _ _ _ => ?_))
    | with_reducible refine Moves.optIte ?_ ?_
    | with_reducible refine Moves.foldlOpt ?_ (fun _ _ _ => ?_)
    | with_reducible refine Moves.optSome ?_
    | with_reducible exact Moves.optNone
    | with_reducible refine Moves.some (by assumption) ?_
    | with_reducible refine Moves.fst (by assumption) ?_
    | with_reducible refine Moves.snd (by assumption) ?_
    | dsimp +zetaDelta only

theorem State.cellReset_moves {w : Nat} {s u : State} (hw : Within 46110768907532 w) (h : Moves w s u) (r : Nat) (c : Nat) (k : Nat) :
    Moves w s (State.cellReset u r c k) := by
  unfold State.cellReset
  repeat'
    first
    | with_reducible assumption
    | with_reducible refine State.modCluster_moves (Within.trans (by decide : Within 8796093022208 46110768907532) hw) ?_ _ _ _
    | with_reducible refine State.haltGroup_moves (Within.trans (by decide : Within 37314675885324 46110768907532) hw) ?_ _ _
    | with_reducible refine Moves.ite ?_ ?_
    | split
    | extract_lets
    | with_reducible refine Moves.getD (Moves.optFindSome (fun _ => ?_)) ?_
    | with_reducible refine Moves.optMap (fun _ => ?_)
    | with_reducible refine Moves.optSndMapSnd ?_
    | with_reducible refine Moves.optSndMap (fun _ => ?_)
    | with_reducible refine Moves.optBind ?_ (fun _ _ => ?_)
    | with_reducible refine Moves.optOf (fun _ => ?_)
    | (with_reducible refine Moves.foldl ?_ (fun _ _ _ => ?_))
    | (with_reducible refine Moves.foldlFst ?_ (fun _ _ _ => ?_))
    | (with_reducible refine Moves.foldr ?_ (fun _ _ _ => ?_))
    | with_reducible refine Moves.optIte ?_ ?_
    | with_reducible refine Moves.foldlOpt ?_ (fun _ _ _ => ?_)
    | with_reducible refine Moves.optSome ?_
    | with_reducible exact Moves.optNone
    | with_reducible refine Moves.some (by assumption) ?_
    | with_reducible refine Moves.fst (by assumption) ?_
    | with_reducible refine Moves.snd (by assumption) ?_
    | dsimp +zetaDelta only

theorem State.cellFault_moves {w : Nat} {s u : State} (hw : Within 4486007390994412 w) (h : Moves w s u) (r : Nat) (c : Nat) (k : Nat) (kind : Sys2Proof.CellFaultKind) :
    Moves w s (State.cellFault u r c k kind) := by
  unfold State.cellFault
  repeat'
    first
    | with_reducible assumption
    | with_reducible refine State.count_moves (Within.trans (by decide : Within 35184372088844 4486007390994412) hw) ?_ _ _ _
    | with_reducible refine State.escalate_moves (Within.trans (by decide : Within 35184372088844 4486007390994412) hw) ?_ _ _ _
    | with_reducible refine State.pass_moves (Within.trans (by decide : Within 2568459700142092 4486007390994412) hw) ?_ _
    | with_reducible refine State.record_moves (Within.trans (by decide : Within 12 4486007390994412) hw) ?_ _ _ _
    | with_reducible refine State.replaceCell_moves (Within.trans (by decide : Within 4486007390994412 4486007390994412) hw) ?_ _ _ _
    | with_reducible refine State.cellReset_moves (Within.trans (by decide : Within 46110768907532 4486007390994412) hw) ?_ _ _ _
    | with_reducible refine Moves.ite ?_ ?_
    | split
    | extract_lets
    | with_reducible refine Moves.getD (Moves.optFindSome (fun _ => ?_)) ?_
    | with_reducible refine Moves.optMap (fun _ => ?_)
    | with_reducible refine Moves.optSndMapSnd ?_
    | with_reducible refine Moves.optSndMap (fun _ => ?_)
    | with_reducible refine Moves.optBind ?_ (fun _ _ => ?_)
    | with_reducible refine Moves.optOf (fun _ => ?_)
    | (with_reducible refine Moves.foldl ?_ (fun _ _ _ => ?_))
    | (with_reducible refine Moves.foldlFst ?_ (fun _ _ _ => ?_))
    | (with_reducible refine Moves.foldr ?_ (fun _ _ _ => ?_))
    | with_reducible refine Moves.optIte ?_ ?_
    | with_reducible refine Moves.foldlOpt ?_ (fun _ _ _ => ?_)
    | with_reducible refine Moves.optSome ?_
    | with_reducible exact Moves.optNone
    | with_reducible refine Moves.some (by assumption) ?_
    | with_reducible refine Moves.fst (by assumption) ?_
    | with_reducible refine Moves.snd (by assumption) ?_
    | dsimp +zetaDelta only

theorem execCellFault_moves {w : Nat} {s u : State} (hw : Within 4486007390994412 w) (h : Moves w s u) (r : Sys2Proof.RegionId) (c : Sys2Proof.ClusterId) (k : Sys2Proof.CellId) (kind : Sys2Proof.CellFaultKind) :
    Moves.outcome w s (execCellFault r c k kind u) := by
  unfold execCellFault
  repeat'
    first
    | with_reducible assumption
    | with_reducible exact Moves.fault
    | with_reducible refine Moves.next ?_
    | with_reducible refine State.cellFault_moves (Within.trans (by decide : Within 4486007390994412 4486007390994412) hw) ?_ _ _ _ _
    | with_reducible refine Moves.ite ?_ ?_
    | split
    | extract_lets
    | with_reducible refine Moves.getD (Moves.optFindSome (fun _ => ?_)) ?_
    | with_reducible refine Moves.optMap (fun _ => ?_)
    | with_reducible refine Moves.optSndMapSnd ?_
    | with_reducible refine Moves.optSndMap (fun _ => ?_)
    | with_reducible refine Moves.optBind ?_ (fun _ _ => ?_)
    | with_reducible refine Moves.optOf (fun _ => ?_)
    | (with_reducible refine Moves.foldl ?_ (fun _ _ _ => ?_))
    | (with_reducible refine Moves.foldlFst ?_ (fun _ _ _ => ?_))
    | (with_reducible refine Moves.foldr ?_ (fun _ _ _ => ?_))
    | with_reducible refine Moves.optIte ?_ ?_
    | with_reducible refine Moves.foldlOpt ?_ (fun _ _ _ => ?_)
    | with_reducible refine Moves.optSome ?_
    | with_reducible exact Moves.optNone
    | with_reducible refine Moves.some (by assumption) ?_
    | with_reducible refine Moves.fst (by assumption) ?_
    | with_reducible refine Moves.snd (by assumption) ?_
    | dsimp +zetaDelta only

theorem State.cellResetEnd_moves {w : Nat} {s u : State} (hw : Within 43980465111052 w) (h : Moves w s u) (r : Nat) (c : Nat) (k : Nat) :
    Moves w s (State.cellResetEnd u r c k) := by
  unfold State.cellResetEnd
  repeat'
    first
    | with_reducible assumption
    | with_reducible refine State.reloadPage_moves (Within.trans (by decide : Within 12 43980465111052) hw) ?_ _
    | with_reducible refine State.modCluster_moves (Within.trans (by decide : Within 8796093022208 43980465111052) hw) ?_ _ _ _
    | with_reducible refine State.bumpF_moves (Within.trans (by decide : Within 12 43980465111052) hw) ?_ _ _ _
    | with_reducible refine State.count_moves (Within.trans (by decide : Within 35184372088844 43980465111052) hw) ?_ _ _ _
    | with_reducible refine Moves.ite ?_ ?_
    | split
    | extract_lets
    | with_reducible refine Moves.getD (Moves.optFindSome (fun _ => ?_)) ?_
    | with_reducible refine Moves.optMap (fun _ => ?_)
    | with_reducible refine Moves.optSndMapSnd ?_
    | with_reducible refine Moves.optSndMap (fun _ => ?_)
    | with_reducible refine Moves.optBind ?_ (fun _ _ => ?_)
    | with_reducible refine Moves.optOf (fun _ => ?_)
    | (with_reducible refine Moves.foldl ?_ (fun _ _ _ => ?_))
    | (with_reducible refine Moves.foldlFst ?_ (fun _ _ _ => ?_))
    | (with_reducible refine Moves.foldr ?_ (fun _ _ _ => ?_))
    | with_reducible refine Moves.optIte ?_ ?_
    | with_reducible refine Moves.foldlOpt ?_ (fun _ _ _ => ?_)
    | with_reducible refine Moves.optSome ?_
    | with_reducible exact Moves.optNone
    | with_reducible refine Moves.some (by assumption) ?_
    | with_reducible refine Moves.fst (by assumption) ?_
    | with_reducible refine Moves.snd (by assumption) ?_
    | dsimp +zetaDelta only

theorem execCellResetEnd_moves {w : Nat} {s u : State} (hw : Within 43980465111052 w) (h : Moves w s u) (r : Sys2Proof.RegionId) (c : Sys2Proof.ClusterId) (k : Sys2Proof.CellId) :
    Moves.outcome w s (execCellResetEnd r c k u) := by
  unfold execCellResetEnd
  repeat'
    first
    | with_reducible assumption
    | with_reducible exact Moves.fault
    | with_reducible refine Moves.next ?_
    | with_reducible refine State.cellResetEnd_moves (Within.trans (by decide : Within 43980465111052 43980465111052) hw) ?_ _ _ _
    | with_reducible refine Moves.ite ?_ ?_
    | split
    | extract_lets
    | with_reducible refine Moves.getD (Moves.optFindSome (fun _ => ?_)) ?_
    | with_reducible refine Moves.optMap (fun _ => ?_)
    | with_reducible refine Moves.optSndMapSnd ?_
    | with_reducible refine Moves.optSndMap (fun _ => ?_)
    | with_reducible refine Moves.optBind ?_ (fun _ _ => ?_)
    | with_reducible refine Moves.optOf (fun _ => ?_)
    | (with_reducible refine Moves.foldl ?_ (fun _ _ _ => ?_))
    | (with_reducible refine Moves.foldlFst ?_ (fun _ _ _ => ?_))
    | (with_reducible refine Moves.foldr ?_ (fun _ _ _ => ?_))
    | with_reducible refine Moves.optIte ?_ ?_
    | with_reducible refine Moves.foldlOpt ?_ (fun _ _ _ => ?_)
    | with_reducible refine Moves.optSome ?_
    | with_reducible exact Moves.optNone
    | with_reducible refine Moves.some (by assumption) ?_
    | with_reducible refine Moves.fst (by assumption) ?_
    | with_reducible refine Moves.snd (by assumption) ?_
    | dsimp +zetaDelta only

end Sys2Proof.Machine
end

