-- ==== Sys2Proof/Laws/ControlPortMoves.lean ====
section
/-! SUPPORT. Sys2Proof/Laws/ControlPortMoves.lean: what each operation of Machine/ControlPort.lean can do to the state: the parts it may change, and that it keeps
the canonical form. -/

namespace Sys2Proof.Machine

theorem State.regRead_moves {w : Nat} {s u : State} (hw : Within 137455730700 w) (h : Moves w s u) (a : Nat) :
    Moves w s (State.regRead u a).2 := by
  unfold State.regRead
  repeat'
    first
    | with_reducible assumption
    | with_reducible refine State.drew_moves (Within.trans (by decide : Within 16777216 137455730700) hw) ?_
    | with_reducible refine State.claim_moves (Within.trans (by decide : Within 4 137455730700) hw) ?_ _
    | with_reducible refine Moves.snd ‹State.claim _ _ = (_, _)› (State.claim_moves (Within.trans (by decide : Within 4 137455730700) hw) ?_ _)
    | with_reducible refine State.readMgmt_moves (Within.trans (by decide : Within 137438953472 137455730700) hw) ?_ _ _ _
    | with_reducible refine Moves.snd ‹State.readMgmt _ _ _ _ = (_, _)› (State.readMgmt_moves (Within.trans (by decide : Within 137438953472 137455730700) hw) ?_ _ _ _)
    | with_reducible refine State.readClear_moves (Within.trans (by decide : Within 12 137455730700) hw) ?_ _
    | with_reducible refine Moves.ite ?_ ?_
    | split
    | extract_lets
    | with_reducible refine Moves.getD (Moves.optFindSome (fun _ => ?_)) ?_
    | with_reducible refine Moves.optMap (fun _ => ?_)
    | with_reducible refine Moves.optSndMapSnd ?_
    | with_reducible refine Moves.optSndMap (fun _ => ?_)
    | with_reducible refine Moves.optBind ?_ (fun _ _ => ?_)
    | with_reducible refine Moves.optOf (fun _ => ?_)
    | (with_reducible refine Moves.foldl ?_ (fun _ _ _ => ?_))
    | (with_reducible refine Moves.foldlFst ?_ (fun _ _ _ => ?_))
    | (with_reducible refine Moves.foldr ?_ (fun _ _ _ => ?_))
    | with_reducible refine Moves.optIte ?_ ?_
    | with_reducible refine Moves.foldlOpt ?_ (fun _ _ _ => ?_)
    | with_reducible refine Moves.optSome ?_
    | with_reducible exact Moves.optNone
    | with_reducible refine Moves.some (by assumption) ?_
    | with_reducible refine Moves.fst (by assumption) ?_
    | with_reducible refine Moves.snd (by assumption) ?_
    | dsimp +zetaDelta only

theorem State.writeRingPage_moves {w : Nat} {s u : State} (hw : Within 36527643058044 w) (h : Moves w s u) (c : Nat) (off : Nat) (w' : Nat) :
    Moves w s (State.writeRingPage u c off w') := by
  unfold State.writeRingPage
  repeat'
    first
    | with_reducible assumption
    | with_reducible refine State.writeCplRing_moves (Within.trans (by decide : Within 36527643058044 36527643058044) hw) ?_ _ _
    | with_reducible refine State.writeCplTail_moves (Within.trans (by decide : Within 4 36527643058044) hw) ?_ _ _
    | with_reducible refine State.writeCmdRing_moves (Within.trans (by decide : Within 36527643053884 36527643058044) hw) ?_ _ _ _
    | with_reducible refine State.doorbell_moves (Within.trans (by decide : Within 36527643053884 36527643058044) hw) ?_ _ _ _
    | with_reducible refine Moves.ite ?_ ?_
    | split
    | extract_lets
    | with_reducible refine Moves.getD (Moves.optFindSome (fun _ => ?_)) ?_
    | with_reducible refine Moves.optMap (fun _ => ?_)
    | with_reducible refine Moves.optSndMapSnd ?_
    | with_reducible refine Moves.optSndMap (fun _ => ?_)
    | with_reducible refine Moves.optBind ?_ (fun _ _ => ?_)
    | with_reducible refine Moves.optOf (fun _ => ?_)
    | (with_reducible refine Moves.foldl ?_ (fun _ _ _ => ?_))
    | (with_reducible refine Moves.foldlFst ?_ (fun _ _ _ => ?_))
    | (with_reducible refine Moves.foldr ?_ (fun _ _ _ => ?_))
    | with_reducible refine Moves.optIte ?_ ?_
    | with_reducible refine Moves.foldlOpt ?_ (fun _ _ _ => ?_)
    | with_reducible refine Moves.optSome ?_
    | with_reducible exact Moves.optNone
    | with_reducible refine Moves.some (by assumption) ?_
    | with_reducible refine Moves.fst (by assumption) ?_
    | with_reducible refine Moves.snd (by assumption) ?_
    | dsimp +zetaDelta only

theorem State.answer_moves {w : Nat} {s u : State} (hw : Within 8388608 w) (h : Moves w s u) (r : Sys2Proof.RegionId) (id' : BitVec 6) (err : Bool) (data : Nat) :
    Moves w s (State.answer u r id' err data) := by
  unfold State.answer
  repeat'
    first
    | with_reducible assumption
    | with_reducible refine Moves.ite ?_ ?_
    | split
    | extract_lets
    | with_reducible refine Moves.getD (Moves.optFindSome (fun _ => ?_)) ?_
    | with_reducible refine Moves.optMap (fun _ => ?_)
    | with_reducible refine Moves.optSndMapSnd ?_
    | with_reducible refine Moves.optSndMap (fun _ => ?_)
    | with_reducible refine Moves.optBind ?_ (fun _ _ => ?_)
    | with_reducible refine Moves.optOf (fun _ => ?_)
    | (with_reducible refine Moves.foldl ?_ (fun _ _ _ => ?_))
    | (with_reducible refine Moves.foldlFst ?_ (fun _ _ _ => ?_))
    | (with_reducible refine Moves.foldr ?_ (fun _ _ _ => ?_))
    | with_reducible refine Moves.optIte ?_ ?_
    | with_reducible refine Moves.foldlOpt ?_ (fun _ _ _ => ?_)
    | with_reducible refine Moves.optSome ?_
    | with_reducible exact Moves.optNone
    | with_reducible refine Moves.some (by assumption) ?_
    | with_reducible refine Moves.fst (by assumption) ?_
    | with_reducible refine Moves.snd (by assumption) ?_
    | dsimp +zetaDelta only
    | with_reducible refine Moves.upd ?_ rfl ⟨rfl, rfl, .same, .same, .same, .same, ⟨.rfl, .rfl, .of hw (by decide), .rfl, .rfl⟩⟩ ⟨id, id, id, id, id, id, id⟩

theorem State.cpAccess_moves {w : Nat} {s u : State} (hw : Within 35184380477452 w) (h : Moves w s u) (r : Sys2Proof.RegionId) (write : Bool) (q : Sys2Proof.CpRequest) (f : State → Nat → Nat × State) (hf : ∀ v n, Moves w s v → Moves w s (f v n).2) :
    Moves w s (State.cpAccess u r write q f) := by
  unfold State.cpAccess
  repeat'
    first
    | with_reducible assumption
    | with_reducible refine hf _ _ ?_
    | with_reducible refine State.answer_moves (Within.trans (by decide : Within 8388608 35184380477452) hw) ?_ _ _ _ _
    | with_reducible refine State.contain_moves (Within.trans (by decide : Within 35184372088844 35184380477452) hw) ?_ _ _
    | with_reducible refine State.changeLeader_moves (Within.trans (by decide : Within 35184372088844 35184380477452) hw) ?_
    | with_reducible refine Moves.ite ?_ ?_
    | split
    | extract_lets
    | with_reducible refine Moves.getD (Moves.optFindSome (fun _ => ?_)) ?_
    | with_reducible refine Moves.optMap (fun _ => ?_)
    | with_reducible refine Moves.optSndMapSnd ?_
    | with_reducible refine Moves.optSndMap (fun _ => ?_)
    | with_reducible refine Moves.optBind ?_ (fun _ _ => ?_)
    | with_reducible refine Moves.optOf (fun _ => ?_)
    | (with_reducible refine Moves.foldl ?_ (fun _ _ _ => ?_))
    | (with_reducible refine Moves.foldlFst ?_ (fun _ _ _ => ?_))
    | (with_reducible refine Moves.foldr ?_ (fun _ _ _ => ?_))
    | with_reducible refine Moves.optIte ?_ ?_
    | with_reducible refine Moves.foldlOpt ?_ (fun _ _ _ => ?_)
    | with_reducible refine Moves.optSome ?_
    | with_reducible exact Moves.optNone
    | with_reducible refine Moves.some (by assumption) ?_
    | with_reducible refine Moves.fst (by assumption) ?_
    | with_reducible refine Moves.snd (by assumption) ?_
    | dsimp +zetaDelta only

theorem State.writeBringupCtl_moves {w : Nat} {s u : State} (hw : Within 4486007390994412 w) (h : Moves w s u) (a : Nat) (w' : Nat) :
    Moves w s (State.writeBringupCtl u a w') := by
  unfold State.writeBringupCtl
  repeat'
    first
    | with_reducible assumption
    | with_reducible refine State.writePlain_moves (Within.trans (by decide : Within 4 4486007390994412) hw) ?_ _ _
    | with_reducible refine State.engineReset_moves (Within.trans (by decide : Within 4486007390994412 4486007390994412) hw) ?_
    | with_reducible refine State.regionResets_moves (Within.trans (by decide : Within 4486007390994412 4486007390994412) hw) ?_ _
    | with_reducible refine State.go_moves (Within.trans (by decide : Within 65548 4486007390994412) hw) ?_
    | with_reducible refine Moves.ite ?_ ?_
    | split
    | extract_lets
    | with_reducible refine Moves.getD (Moves.optFindSome (fun _ => ?_)) ?_
    | with_reducible refine Moves.optMap (fun _ => ?_)
    | with_reducible refine Moves.optSndMapSnd ?_
    | with_reducible refine Moves.optSndMap (fun _ => ?_)
    | with_reducible refine Moves.optBind ?_ (fun _ _ => ?_)
    | with_reducible refine Moves.optOf (fun _ => ?_)
    | (with_reducible refine Moves.foldl ?_ (fun _ _ _ => ?_))
    | (with_reducible refine Moves.foldlFst ?_ (fun _ _ _ => ?_))
    | (with_reducible refine Moves.foldr ?_ (fun _ _ _ => ?_))
    | with_reducible refine Moves.optIte ?_ ?_
    | with_reducible refine Moves.foldlOpt ?_ (fun _ _ _ => ?_)
    | with_reducible refine Moves.optSome ?_
    | with_reducible exact Moves.optNone
    | with_reducible refine Moves.some (by assumption) ?_
    | with_reducible refine Moves.fst (by assumption) ?_
    | with_reducible refine Moves.snd (by assumption) ?_
    | dsimp +zetaDelta only

theorem State.regWrite_moves {w : Nat} {s u : State} (hw : Within 4486007407771644 w) (h : Moves w s u) (a : Nat) (w' : Nat) :
    Moves w s (State.regWrite u a w') := by
  unfold State.regWrite
  repeat'
    first
    | with_reducible assumption
    | with_reducible refine State.writePageCtl_moves (Within.trans (by decide : Within 12 4486007407771644) hw) ?_ _ _
    | with_reducible refine State.forceErrors_moves (Within.trans (by decide : Within 35184372088844 4486007407771644) hw) ?_ _ _
    | with_reducible refine State.writeEvtSel_moves (Within.trans (by decide : Within 12 4486007407771644) hw) ?_ _ _
    | with_reducible refine State.writePlain_moves (Within.trans (by decide : Within 4 4486007407771644) hw) ?_ _ _
    | with_reducible refine State.writeBringupCtl_moves (Within.trans (by decide : Within 4486007390994412 4486007407771644) hw) ?_ _ _
    | with_reducible refine State.samplePower_moves (Within.trans (by decide : Within 131072 4486007407771644) hw) ?_
    | with_reducible refine State.writeContactTail_moves (Within.trans (by decide : Within 4 4486007407771644) hw) ?_ _ _
    | with_reducible refine State.writeTgtCtl_moves (Within.trans (by decide : Within 4 4486007407771644) hw) ?_ _ _
    | with_reducible refine State.writeRingPage_moves (Within.trans (by decide : Within 36527643058044 4486007407771644) hw) ?_ _ _ _
    | with_reducible refine State.writeMgmtOwner_moves (Within.trans (by decide : Within 4 4486007407771644) hw) ?_ _ _ _
    | with_reducible refine State.levelCheck_moves (Within.trans (by decide : Within 137438953484 4486007407771644) hw) ?_ _ _
    | with_reducible refine State.writeFlush_moves (Within.trans (by decide : Within 137438953484 4486007407771644) hw) ?_ _ _ _
    | with_reducible refine State.writeVfTrig_moves (Within.trans (by decide : Within 12 4486007407771644) hw) ?_ _ _
    | with_reducible refine State.writeVfChan_moves (Within.trans (by decide : Within 12 4486007407771644) hw) ?_ _ _ _
    | with_reducible refine Moves.ite ?_ ?_
    | split
    | extract_lets
    | with_reducible refine Moves.getD (Moves.optFindSome (fun _ => ?_)) ?_
    | with_reducible refine Moves.optMap (fun _ => ?_)
    | with_reducible refine Moves.optSndMapSnd ?_
    | with_reducible refine Moves.optSndMap (fun _ => ?_)
    | with_reducible refine Moves.optBind ?_ (fun _ _ => ?_)
    | with_reducible refine Moves.optOf (fun _ => ?_)
    | (with_reducible refine Moves.foldl ?_ (fun _ _ _ => ?_))
    | (with_reducible refine Moves.foldlFst ?_ (fun _ _ _ => ?_))
    | (with_reducible refine Moves.foldr ?_ (fun _ _ _ => ?_))
    | with_reducible refine Moves.optIte ?_ ?_
    | with_reducible refine Moves.foldlOpt ?_ (fun _ _ _ => ?_)
    | with_reducible refine Moves.optSome ?_
    | with_reducible exact Moves.optNone
    | with_reducible refine Moves.some (by assumption) ?_
    | with_reducible refine Moves.fst (by assumption) ?_
    | with_reducible refine Moves.snd (by assumption) ?_
    | dsimp +zetaDelta only

theorem execRegisterWrite_moves {w : Nat} {s u : State} (hw : Within 4486007407771644 w) (h : Moves w s u) (r : Sys2Proof.RegionId) (req : Sys2Proof.CpRequest) :
    Moves.outcome w s (execRegisterWrite r req u) := by
  unfold execRegisterWrite
  repeat'
    first
    | with_reducible assumption
    | with_reducible exact Moves.fault
    | with_reducible refine Moves.next ?_
    | with_reducible refine State.cpAccess_moves (Within.trans (by decide : Within 35184380477452 4486007407771644) hw) ?_ _ _ _ _ (fun _ _ _ => ?_)
    | with_reducible refine State.regWrite_moves (Within.trans (by decide : Within 4486007407771644 4486007407771644) hw) ?_ _ _
    | with_reducible refine Moves.ite ?_ ?_
    | split
    | extract_lets
    | with_reducible refine Moves.getD (Moves.optFindSome (fun _ => ?_)) ?_
    | with_reducible refine Moves.optMap (fun _ => ?_)
    | with_reducible refine Moves.optSndMapSnd ?_
    | with_reducible refine Moves.optSndMap (fun _ => ?_)
    | with_reducible refine Moves.optBind ?_ (fun _ _ => ?_)
    | with_reducible refine Moves.optOf (fun _ => ?_)
    | (with_reducible refine Moves.foldl ?_ (fun _ _ _ => ?_))
    | (with_reducible refine Moves.foldlFst ?_ (fun _ _ _ => ?_))
    | (with_reducible refine Moves.foldr ?_ (fun _ _ _ => ?_))
    | with_reducible refine Moves.optIte ?_ ?_
    | with_reducible refine Moves.foldlOpt ?_ (fun _ _ _ => ?_)
    | with_reducible refine Moves.optSome ?_
    | with_reducible exact Moves.optNone
    | with_reducible refine Moves.some (by assumption) ?_
    | with_reducible refine Moves.fst (by assumption) ?_
    | with_reducible refine Moves.snd (by assumption) ?_
    | dsimp +zetaDelta only

theorem execVfAccess_moves {w : Nat} {s u : State} (hw : Within 4503599593816060 w) (h : Moves w s u) (r : Sys2Proof.RegionId) (dr : BitVec 80) :
    Moves.outcome w s (execVfAccess r dr u) := by
  unfold execVfAccess
  repeat'
    first
    | with_reducible assumption
    | with_reducible exact Moves.fault
    | with_reducible refine Moves.next ?_
    | with_reducible refine State.loadWir_moves (Within.trans (by decide : Within 17592186044420 4503599593816060) hw) ?_ _ _ _
    | with_reducible refine State.regWrite_moves (Within.trans (by decide : Within 4486007407771644 4503599593816060) hw) ?_ _ _
    | with_reducible refine State.regRead_moves (Within.trans (by decide : Within 137455730700 4503599593816060) hw) ?_ _
    | with_reducible refine Moves.snd ‹State.regRead _ _ = (_, _)› (State.regRead_moves (Within.trans (by decide : Within 137455730700 4503599593816060) hw) ?_ _)
    | with_reducible refine State.modWrapper_moves (Within.trans (by decide : Within 17592186044416 4503599593816060) hw) ?_ _ _
    | with_reducible refine Moves.ite ?_ ?_
    | split
    | extract_lets
    | with_reducible refine Moves.getD (Moves.optFindSome (fun _ => ?_)) ?_
    | with_reducible refine Moves.optMap (fun _ => ?_)
    | with_reducible refine Moves.optSndMapSnd ?_
    | with_reducible refine Moves.optSndMap (fun _ => ?_)
    | with_reducible refine Moves.optBind ?_ (fun _ _ => ?_)
    | with_reducible refine Moves.optOf (fun _ => ?_)
    | (with_reducible refine Moves.foldl ?_ (fun _ _ _ => ?_))
    | (with_reducible refine Moves.foldlFst ?_ (fun _ _ _ => ?_))
    | (with_reducible refine Moves.foldr ?_ (fun _ _ _ => ?_))
    | with_reducible refine Moves.optIte ?_ ?_
    | with_reducible refine Moves.foldlOpt ?_ (fun _ _ _ => ?_)
    | with_reducible refine Moves.optSome ?_
    | with_reducible exact Moves.optNone
    | with_reducible refine Moves.some (by assumption) ?_
    | with_reducible refine Moves.fst (by assumption) ?_
    | with_reducible refine Moves.snd (by assumption) ?_
    | dsimp +zetaDelta only

theorem execRcRead_moves {w : Nat} {s u : State} (hw : Within 35321836208140 w) (h : Moves w s u) (r : Sys2Proof.RegionId) (req : Sys2Proof.CpRequest) :
    Moves.outcome w s (execRcRead r req u) := by
  unfold execRcRead
  repeat'
    first
    | with_reducible assumption
    | with_reducible exact Moves.fault
    | with_reducible refine Moves.next ?_
    | with_reducible refine State.cpAccess_moves (Within.trans (by decide : Within 35184380477452 35321836208140) hw) ?_ _ _ _ _ (fun _ _ _ => ?_)
    | with_reducible refine State.regRead_moves (Within.trans (by decide : Within 137455730700 35321836208140) hw) ?_ _
    | with_reducible refine Moves.snd ‹State.regRead _ _ = (_, _)› (State.regRead_moves (Within.trans (by decide : Within 137455730700 35321836208140) hw) ?_ _)
    | with_reducible refine Moves.ite ?_ ?_
    | split
    | extract_lets
    | with_reducible refine Moves.getD (Moves.optFindSome (fun _ => ?_)) ?_
    | with_reducible refine Moves.optMap (fun _ => ?_)
    | with_reducible refine Moves.optSndMapSnd ?_
    | with_reducible refine Moves.optSndMap (fun _ => ?_)
    | with_reducible refine Moves.optBind ?_ (fun _ _ => ?_)
    | with_reducible refine Moves.optOf (fun _ => ?_)
    | (with_reducible refine Moves.foldl ?_ (fun _ _ _ => ?_))
    | (with_reducible refine Moves.foldlFst ?_ (fun _ _ _ => ?_))
    | (with_reducible refine Moves.foldr ?_ (fun _ _ _ => ?_))
    | with_reducible refine Moves.optIte ?_ ?_
    | with_reducible refine Moves.foldlOpt ?_ (fun _ _ _ => ?_)
    | with_reducible refine Moves.optSome ?_
    | with_reducible exact Moves.optNone
    | with_reducible refine Moves.some (by assumption) ?_
    | with_reducible refine Moves.fst (by assumption) ?_
    | with_reducible refine Moves.snd (by assumption) ?_
    | dsimp +zetaDelta only

end Sys2Proof.Machine
end

