-- ==== Sys2Proof/Laws/DispatchMoves.lean ====
section
/-! SUPPORT. Sys2Proof/Laws/DispatchMoves.lean: what each operation of Machine/Dispatch.lean can do to the state: the parts it may change, and that it keeps
the canonical form. -/

namespace Sys2Proof.Machine

theorem exec_moves {w : Nat} {s u : State} (hw : Within 4503599593816060 w) (h : Moves w s u) (i : Sys2Proof.Instr) :
    Moves.outcome w s (exec i u) := by
  unfold exec
  repeat'
    first
    | with_reducible assumption
    | with_reducible exact Moves.fault
    | with_reducible refine Moves.next ?_
    | with_reducible refine execNop_moves (Within.trans (by decide : Within 36527643058108 4503599593816060) hw) ?_ _ _
    | with_reducible refine execContextOpen_moves (Within.trans (by decide : Within 36527643058172 4503599593816060) hw) ?_ _ _
    | with_reducible refine execContextClose_moves (Within.trans (by decide : Within 36527643066364 4503599593816060) hw) ?_ _ _
    | with_reducible refine execContextKill_moves (Within.trans (by decide : Within 36527643058108 4503599593816060) hw) ?_ _ _
    | with_reducible refine execShareSet_moves (Within.trans (by decide : Within 36527643058108 4503599593816060) hw) ?_ _ _
    | with_reducible refine execPrivilegeSet_moves (Within.trans (by decide : Within 36527643058108 4503599593816060) hw) ?_ _ _
    | with_reducible refine execWindowWrite_moves (Within.trans (by decide : Within 36527643058108 4503599593816060) hw) ?_ _ _
    | with_reducible refine execGroupDefine_moves (Within.trans (by decide : Within 36527643058108 4503599593816060) hw) ?_ _ _
    | with_reducible refine execGroupDelete_moves (Within.trans (by decide : Within 36527643058108 4503599593816060) hw) ?_ _ _
    | with_reducible refine execPlateLoad_moves (Within.trans (by decide : Within 36527643058108 4503599593816060) hw) ?_ _ _
    | with_reducible refine execPlateDrop_moves (Within.trans (by decide : Within 36527643058108 4503599593816060) hw) ?_ _ _
    | with_reducible refine execRouterWrite_moves (Within.trans (by decide : Within 36527643058108 4503599593816060) hw) ?_ _ _
    | with_reducible refine execContextParam_moves (Within.trans (by decide : Within 36527643058108 4503599593816060) hw) ?_ _ _
    | with_reducible refine execSeqJoin_moves (Within.trans (by decide : Within 36527643066300 4503599593816060) hw) ?_ _ _
    | with_reducible refine execSeqLeave_moves (Within.trans (by decide : Within 36527643066300 4503599593816060) hw) ?_ _ _
    | with_reducible refine execSeqUpdate_moves (Within.trans (by decide : Within 36527643058108 4503599593816060) hw) ?_ _ _
    | with_reducible refine execBurnRead_moves (Within.trans (by decide : Within 36527643058108 4503599593816060) hw) ?_ _ _
    | with_reducible refine execBurnWrite_moves (Within.trans (by decide : Within 36527643058108 4503599593816060) hw) ?_ _ _
    | with_reducible refine execLayerRun_moves (Within.trans (by decide : Within 36527643058108 4503599593816060) hw) ?_ _ _
    | with_reducible refine execCombineRun_moves (Within.trans (by decide : Within 36527643058108 4503599593816060) hw) ?_ _ _
    | with_reducible refine execConfluence_moves (Within.trans (by decide : Within 36527643058108 4503599593816060) hw) ?_ _ _
    | with_reducible refine execTensorCopy_moves (Within.trans (by decide : Within 36527643058108 4503599593816060) hw) ?_ _ _
    | with_reducible refine execDoorbell_moves (Within.trans (by decide : Within 36527643053884 4503599593816060) hw) ?_ _ _ _
    | with_reducible refine execCmdRingWrite_moves (Within.trans (by decide : Within 36527643053884 4503599593816060) hw) ?_ _ _ _
    | with_reducible refine execCplRingEnable_moves (Within.trans (by decide : Within 36527643058044 4503599593816060) hw) ?_ _ _
    | with_reducible refine execCplPtrTail_moves (Within.trans (by decide : Within 4 4503599593816060) hw) ?_ _ _
    | with_reducible refine execContactTail_moves (Within.trans (by decide : Within 4 4503599593816060) hw) ?_ _ _
    | with_reducible refine execIssuePoint_moves (Within.trans (by decide : Within 36527647252412 4503599593816060) hw) ?_
    | with_reducible refine execEpochStart_moves (Within.trans (by decide : Within 3133561432229132 4503599593816060) hw) ?_ _
    | with_reducible refine execOperationEnd_moves (Within.trans (by decide : Within 2570624363676940 4503599593816060) hw) ?_ _ _ _
    | with_reducible refine execSetCnt_moves (Within.trans (by decide : Within 2570627604827964 4503599593816060) hw) ?_ _ _
    | with_reducible refine execLoop_moves (Within.trans (by decide : Within 2570627604827964 4503599593816060) hw) ?_ _ _
    | with_reducible refine execWaitUnits_moves (Within.trans (by decide : Within 2570627604827964 4503599593816060) hw) ?_ _ _
    | with_reducible refine execSignal_moves (Within.trans (by decide : Within 2570627604827964 4503599593816060) hw) ?_ _ _
    | with_reducible refine execReadTime_moves (Within.trans (by decide : Within 2570627604827964 4503599593816060) hw) ?_ _ _
    | with_reducible refine execReadSensor_moves (Within.trans (by decide : Within 2570627604827964 4503599593816060) hw) ?_ _ _
    | with_reducible refine execProofEmit_moves (Within.trans (by decide : Within 2570627604827964 4503599593816060) hw) ?_ _ _
    | with_reducible refine execEndPlate_moves (Within.trans (by decide : Within 2570627604827964 4503599593816060) hw) ?_ _ _
    | with_reducible refine execStageLoad_moves (Within.trans (by decide : Within 2781733837360956 4503599593816060) hw) ?_ _ _ _
    | with_reducible refine execScore_moves (Within.trans (by decide : Within 2781733837360956 4503599593816060) hw) ?_ _ _ _
    | with_reducible refine execScoreStore_moves (Within.trans (by decide : Within 2570627604827964 4503599593816060) hw) ?_ _ _
    | with_reducible refine execExtTileIn_moves (Within.trans (by decide : Within 2570627604827964 4503599593816060) hw) ?_ _ _
    | with_reducible refine execBankSwap_moves (Within.trans (by decide : Within 2570627604827964 4503599593816060) hw) ?_ _ _
    | with_reducible refine execRowLoad_moves (Within.trans (by decide : Within 2570627604827964 4503599593816060) hw) ?_ _ _ _
    | with_reducible refine execRowStore_moves (Within.trans (by decide : Within 2570627604827964 4503599593816060) hw) ?_ _ _ _
    | with_reducible refine execDeltaTest_moves (Within.trans (by decide : Within 2570627604827964 4503599593816060) hw) ?_ _ _ _
    | with_reducible refine execDeltaPrint_moves (Within.trans (by decide : Within 2570627604827964 4503599593816060) hw) ?_ _ _ _
    | with_reducible refine execSelect_moves (Within.trans (by decide : Within 2570627604827964 4503599593816060) hw) ?_ _ _ _
    | with_reducible refine execNorm_moves (Within.trans (by decide : Within 2570627604827964 4503599593816060) hw) ?_ _ _ _
    | with_reducible refine execSort_moves (Within.trans (by decide : Within 2570627604827964 4503599593816060) hw) ?_ _ _ _
    | with_reducible refine execRowSend_moves (Within.trans (by decide : Within 2570627604827964 4503599593816060) hw) ?_ _ _ _
    | with_reducible refine execCombineTerm_moves (Within.trans (by decide : Within 2570627604827964 4503599593816060) hw) ?_ _ _ _
    | with_reducible refine execCombinePackage_moves (Within.trans (by decide : Within 2570627604827964 4503599593816060) hw) ?_ _ _ _
    | with_reducible refine execCombineFinal_moves (Within.trans (by decide : Within 2570627604827964 4503599593816060) hw) ?_ _ _ _
    | with_reducible refine execQuant_moves (Within.trans (by decide : Within 2570627604827964 4503599593816060) hw) ?_ _ _ _
    | with_reducible refine execBurn_moves (Within.trans (by decide : Within 2570627604827964 4503599593816060) hw) ?_ _ _ _
    | with_reducible refine execNetMove_moves (Within.trans (by decide : Within 2570627604827964 4503599593816060) hw) ?_ _ _
    | with_reducible refine execEdgeSend_moves (Within.trans (by decide : Within 2570627604827964 4503599593816060) hw) ?_ _ _
    | with_reducible refine execEdgeRecv_moves (Within.trans (by decide : Within 2570627604827964 4503599593816060) hw) ?_ _ _
    | with_reducible refine execLinkSend_moves (Within.trans (by decide : Within 2570627604827964 4503599593816060) hw) ?_ _ _ _
    | with_reducible refine execLinkRecv_moves (Within.trans (by decide : Within 2570627604827964 4503599593816060) hw) ?_ _ _ _
    | with_reducible refine execBAlloc_moves (Within.trans (by decide : Within 2570627604827964 4503599593816060) hw) ?_ _ _
    | with_reducible refine execBHand_moves (Within.trans (by decide : Within 2577224674594620 4503599593816060) hw) ?_ _ _
    | with_reducible refine execBRelease_moves (Within.trans (by decide : Within 2570627604827964 4503599593816060) hw) ?_ _ _
    | with_reducible refine execBRefdec_moves (Within.trans (by decide : Within 2570627604827964 4503599593816060) hw) ?_ _ _
    | with_reducible refine execCfArm_moves (Within.trans (by decide : Within 2570627604827964 4503599593816060) hw) ?_ _ _
    | with_reducible refine execCfLocal_moves (Within.trans (by decide : Within 2570627604827964 4503599593816060) hw) ?_ _ _
    | with_reducible refine execCfGlobal_moves (Within.trans (by decide : Within 2570627604827964 4503599593816060) hw) ?_ _ _
    | with_reducible refine execCfWait_moves (Within.trans (by decide : Within 2570627604827964 4503599593816060) hw) ?_ _ _
    | with_reducible refine execStopBathRelease_moves (Within.trans (by decide : Within 3131962630603036 4503599593816060) hw) ?_ _ _ _
    | with_reducible refine execLinkTimeout_moves (Within.trans (by decide : Within 2570590003938572 4503599593816060) hw) ?_ _ _ _
    | with_reducible refine execTileTimeout_moves (Within.trans (by decide : Within 2570590003938572 4503599593816060) hw) ?_ _ _
    | with_reducible refine execExtTileTimeout_moves (Within.trans (by decide : Within 2570590003938572 4503599593816060) hw) ?_ _ _
    | with_reducible refine execConfluenceTimeout_moves (Within.trans (by decide : Within 2570593241941276 4503599593816060) hw) ?_ _ _
    | with_reducible refine execCreditWaitTimeout_moves (Within.trans (by decide : Within 36527643053884 4503599593816060) hw) ?_ _ _
    | with_reducible refine execCommandComplete_moves (Within.trans (by decide : Within 2569802971111292 4503599593816060) hw) ?_
    | with_reducible refine execStepBoundary_moves (Within.trans (by decide : Within 35187593323580 4503599593816060) hw) ?_ _ _
    | with_reducible refine execShareApply_moves (Within.trans (by decide : Within 1073741856 4503599593816060) hw) ?_ _
    | with_reducible refine execRelocationDone_moves (Within.trans (by decide : Within 1078984736 4503599593816060) hw) ?_
    | with_reducible refine execContextSaveDone_moves (Within.trans (by decide : Within 36527647248188 4503599593816060) hw) ?_ _ _
    | with_reducible refine execContextLoadDone_moves (Within.trans (by decide : Within 36527643053884 4503599593816060) hw) ?_ _ _
    | with_reducible refine execTeardownEnd_moves (Within.trans (by decide : Within 36527643066236 4503599593816060) hw) ?_ _
    | with_reducible refine execRegulatorRefill_moves (Within.trans (by decide : Within 12884901888 4503599593816060) hw) ?_ _
    | with_reducible refine execRtBudgetRefill_moves (Within.trans (by decide : Within 32 4503599593816060) hw) ?_ _
    | with_reducible refine execRegBucketWrite_moves (Within.trans (by decide : Within 4 4503599593816060) hw) ?_ _ _ _
    | with_reducible refine execCallArm_moves (Within.trans (by decide : Within 2570593241941276 4503599593816060) hw) ?_ _
    | with_reducible refine execArmPacket_moves (Within.trans (by decide : Within 2570593241941276 4503599593816060) hw) ?_ _ _ _
    | with_reducible refine execVerdictPacket_moves (Within.trans (by decide : Within 2570593241941276 4503599593816060) hw) ?_ _ _ _
    | with_reducible refine execDataPacket_moves (Within.trans (by decide : Within 2570593241941276 4503599593816060) hw) ?_ _ _ _
    | with_reducible refine execConfluenceCredit_moves (Within.trans (by decide : Within 2570593241941276 4503599593816060) hw) ?_ _ _ _
    | with_reducible refine execFailPacket_moves (Within.trans (by decide : Within 209396482076 4503599593816060) hw) ?_ _ _ _
    | with_reducible refine execKeepalivePacket_moves (Within.trans (by decide : Within 137438969868 4503599593816060) hw) ?_ _ _ _
    | with_reducible refine execKeepaliveSend_moves (Within.trans (by decide : Within 68719476736 4503599593816060) hw) ?_ _
    | with_reducible refine execConfluenceWatchdog_moves (Within.trans (by decide : Within 209396482076 4503599593816060) hw) ?_ _ _
    | with_reducible refine execFrameSend_moves (Within.trans (by decide : Within 3132028128854284 4503599593816060) hw) ?_ _ _
    | with_reducible refine execFrameReceive_moves (Within.trans (by decide : Within 3132165567840524 4503599593816060) hw) ?_ _ _ _
    | with_reducible refine execInletDrain_moves (Within.trans (by decide : Within 2570593241974044 4503599593816060) hw) ?_ _ _
    | with_reducible refine execInletFlush_moves (Within.trans (by decide : Within 137438953484 4503599593816060) hw) ?_ _ _ _
    | with_reducible refine execMgmtOwnerWrite_moves (Within.trans (by decide : Within 4 4503599593816060) hw) ?_ _ _ _
    | with_reducible refine execMgmtRead_moves (Within.trans (by decide : Within 137447342080 4503599593816060) hw) ?_ _ _ _
    | with_reducible refine execSpace_moves (Within.trans (by decide : Within 68719476748 4503599593816060) hw) ?_ _ _ _
    | with_reducible refine execSpaceSend_moves (Within.trans (by decide : Within 68719476736 4503599593816060) hw) ?_ _ _
    | with_reducible refine execIdent_moves (Within.trans (by decide : Within 3132028128887052 4503599593816060) hw) ?_ _ _ _
    | with_reducible refine execWidth_moves (Within.trans (by decide : Within 68719476748 4503599593816060) hw) ?_ _ _ _
    | with_reducible refine execWidthAck_moves (Within.trans (by decide : Within 68719476748 4503599593816060) hw) ?_ _ _ _
    | with_reducible refine execWidthSwitch_moves (Within.trans (by decide : Within 3132028128887052 4503599593816060) hw) ?_ _ _
    | with_reducible refine execProbe_moves (Within.trans (by decide : Within 68719476748 4503599593816060) hw) ?_ _ _ _ _
    | with_reducible refine execRelay_moves (Within.trans (by decide : Within 206158430220 4503599593816060) hw) ?_ _ _ _
    | with_reducible refine execAnnounce_moves (Within.trans (by decide : Within 3132165567840524 4503599593816060) hw) ?_ _ _ _
    | with_reducible refine execAnnounceSend_moves (Within.trans (by decide : Within 68719509504 4503599593816060) hw) ?_
    | with_reducible refine execMemberUnreachable_moves (Within.trans (by decide : Within 32768 4503599593816060) hw) ?_ _
    | with_reducible refine execBoundaryStart_moves (Within.trans (by decide : Within 37314675926380 4503599593816060) hw) ?_
    | with_reducible refine execPropose_moves (Within.trans (by decide : Within 37314675926380 4503599593816060) hw) ?_ _ _ _
    | with_reducible refine execAccept_moves (Within.trans (by decide : Within 37314675926380 4503599593816060) hw) ?_ _ _ _
    | with_reducible refine execHolding_moves (Within.trans (by decide : Within 137438986252 4503599593816060) hw) ?_ _ _ _
    | with_reducible refine execHoldingSend_moves (Within.trans (by decide : Within 37314675926380 4503599593816060) hw) ?_
    | with_reducible refine execCommit_moves (Within.trans (by decide : Within 37314675926380 4503599593816060) hw) ?_ _ _ _
    | with_reducible refine execMembershipWatchdog_moves (Within.trans (by decide : Within 37314675926380 4503599593816060) hw) ?_ _
    | with_reducible refine execLanding_moves (Within.trans (by decide : Within 137438986252 4503599593816060) hw) ?_ _ _ _
    | with_reducible refine execCreditReturn_moves (Within.trans (by decide : Within 137438986252 4503599593816060) hw) ?_ _ _ _
    | with_reducible refine execCalibrationFrame_moves (Within.trans (by decide : Within 35253091565580 4503599593816060) hw) ?_ _ _ _
    | with_reducible refine execCalibrationStarved_moves (Within.trans (by decide : Within 35253091565580 4503599593816060) hw) ?_ _ _
    | with_reducible refine execLaneRetrain_moves (Within.trans (by decide : Within 3132028128887052 4503599593816060) hw) ?_ _ _ _ _
    | with_reducible refine execLaneRetrainDone_moves (Within.trans (by decide : Within 3132028128887052 4503599593816060) hw) ?_ _ _ _ _
    | with_reducible refine execLinkTrainStep_moves (Within.trans (by decide : Within 3132028145664268 4503599593816060) hw) ?_ _ _ _
    | with_reducible refine execEdgeTrainStep_moves (Within.trans (by decide : Within 35459250061324 4503599593816060) hw) ?_ _ _ _
    | with_reducible refine execEdgeFlitReceive_moves (Within.trans (by decide : Within 37317897110812 4503599593816060) hw) ?_ _ _ _ _
    | with_reducible refine execEdgeIsolate_moves (Within.trans (by decide : Within 37317897110812 4503599593816060) hw) ?_ _ _ _
    | with_reducible refine execEdgeRetrainDone_moves (Within.trans (by decide : Within 35459249995788 4503599593816060) hw) ?_ _ _ _
    | with_reducible refine execMemoryReadAnswer_moves (Within.trans (by decide : Within 4486007407771644 4503599593816060) hw) ?_ _ _ _ _ _ _
    | with_reducible refine execMemoryWriteAnswer_moves (Within.trans (by decide : Within 4486007407771644 4503599593816060) hw) ?_ _ _ _ _
    | with_reducible refine execMemoryCredit_moves (Within.trans (by decide : Within 34359738368 4503599593816060) hw) ?_ _ _ _
    | with_reducible refine execExpertOutputTile_moves (Within.trans (by decide : Within 2570593225164060 4503599593816060) hw) ?_ _ _ _ _
    | with_reducible refine execExtScoreBlock_moves (Within.trans (by decide : Within 3133543178585372 4503599593816060) hw) ?_ _ _ _ _
    | with_reducible refine execEwDescriptorTaken_moves (Within.trans (by decide : Within 3138556479144204 4503599593816060) hw) ?_ _
    | with_reducible refine execErRead_moves (Within.trans (by decide : Within 1161084278931468 4503599593816060) hw) ?_ _ _ _ _ _
    | with_reducible refine execInterruptDeliver_moves (Within.trans (by decide : Within 4 4503599593816060) hw) ?_ _
    | with_reducible refine execHoldoffExpiry_moves (Within.trans (by decide : Within 4 4503599593816060) hw) ?_ _
    | with_reducible refine execTgtClaim_moves (Within.trans (by decide : Within 8388612 4503599593816060) hw) ?_ _
    | with_reducible refine execTgtCtlWrite_moves (Within.trans (by decide : Within 4 4503599593816060) hw) ?_ _ _
    | with_reducible refine execErrForce_moves (Within.trans (by decide : Within 35184372088844 4503599593816060) hw) ?_ _ _
    | with_reducible refine execPageCtlClear_moves (Within.trans (by decide : Within 12 4503599593816060) hw) ?_ _ _
    | with_reducible refine execEvtSelWrite_moves (Within.trans (by decide : Within 12 4503599593816060) hw) ?_ _ _
    | with_reducible refine execRegisterWrite_moves (Within.trans (by decide : Within 4486007407771644 4503599593816060) hw) ?_ _ _
    | with_reducible refine execGo_moves (Within.trans (by decide : Within 65548 4503599593816060) hw) ?_
    | with_reducible refine execRegionReset_moves (Within.trans (by decide : Within 4486007390994412 4503599593816060) hw) ?_ _
    | with_reducible refine execEngineReset_moves (Within.trans (by decide : Within 4486007390994412 4503599593816060) hw) ?_
    | with_reducible refine execBringupStep_moves (Within.trans (by decide : Within 3141238099247612 4503599593816060) hw) ?_ _
    | with_reducible refine execResetN_moves (Within.trans (by decide : Within 4486007390994412 4503599593816060) hw) ?_
    | with_reducible refine execCellFault_moves (Within.trans (by decide : Within 4486007390994412 4503599593816060) hw) ?_ _ _ _ _
    | with_reducible refine execSliceFault_moves (Within.trans (by decide : Within 4486007407771644 4503599593816060) hw) ?_ _ _ _
    | with_reducible refine execRegionUnitFault_moves (Within.trans (by decide : Within 4486007390994412 4503599593816060) hw) ?_ _ _
    | with_reducible refine execCellResetEnd_moves (Within.trans (by decide : Within 43980465111052 4503599593816060) hw) ?_ _ _ _
    | with_reducible refine execClusterResetEnd_moves (Within.trans (by decide : Within 4486007390994412 4503599593816060) hw) ?_ _ _ _
    | with_reducible refine execRegionResetEnd_moves (Within.trans (by decide : Within 4486007407771644 4503599593816060) hw) ?_ _ _ _ _ _
    | with_reducible refine execLeaderChange_moves (Within.trans (by decide : Within 35184372088844 4503599593816060) hw) ?_
    | with_reducible refine execSupplyStateChange_moves (Within.trans (by decide : Within 131072 4503599593816060) hw) ?_ _
    | with_reducible refine execThermStrobe_moves (Within.trans (by decide : Within 4486007407771644 4503599593816060) hw) ?_ _
    | with_reducible refine execThermStrobeLost_moves (Within.trans (by decide : Within 4486007407771644 4503599593816060) hw) ?_
    | with_reducible refine execSafelightSwitch_moves (Within.trans (by decide : Within 2568459700293388 4503599593816060) hw) ?_
    | with_reducible refine execSafelightHoldExpiry_moves (Within.trans (by decide : Within 131072 4503599593816060) hw) ?_
    | with_reducible refine execPowerFail_moves (Within.trans (by decide : Within 4486007407771644 4503599593816060) hw) ?_
    | with_reducible refine execPowerFailHoldExit_moves (Within.trans (by decide : Within 4486007390994412 4503599593816060) hw) ?_
    | with_reducible refine execPowerEstUpdate_moves (Within.trans (by decide : Within 12 4503599593816060) hw) ?_ _ _
    | with_reducible refine execWrstnReset_moves (Within.trans (by decide : Within 17592186044420 4503599593816060) hw) ?_ _
    | with_reducible refine execWsBypass_moves (Within.trans (by decide : Within 17592186044420 4503599593816060) hw) ?_ _
    | with_reducible refine execWsExtest_moves (Within.trans (by decide : Within 17592186044420 4503599593816060) hw) ?_ _ _
    | with_reducible refine execWsIntest_moves (Within.trans (by decide : Within 17592186044420 4503599593816060) hw) ?_ _ _
    | with_reducible refine execWsClamp_moves (Within.trans (by decide : Within 17592186044420 4503599593816060) hw) ?_ _
    | with_reducible refine execWsSafe_moves (Within.trans (by decide : Within 17592186044420 4503599593816060) hw) ?_ _
    | with_reducible refine execScan_moves (Within.trans (by decide : Within 17592186044420 4503599593816060) hw) ?_ _ _
    | with_reducible refine execMbist_moves (Within.trans (by decide : Within 17592186044420 4503599593816060) hw) ?_ _ _ _
    | with_reducible refine execVfAccess_moves (Within.trans (by decide : Within 4503599593816060 4503599593816060) hw) ?_ _ _
    | with_reducible refine execStateRead_moves (Within.trans (by decide : Within 17592186044420 4503599593816060) hw) ?_ _
    | with_reducible refine execVfTrigWrite_moves (Within.trans (by decide : Within 12 4503599593816060) hw) ?_ _ _
    | with_reducible refine execVfForcedPush_moves (Within.trans (by decide : Within 35184372088844 4503599593816060) hw) ?_ _ _
    | with_reducible refine execRcRead_moves (Within.trans (by decide : Within 35321836208140 4503599593816060) hw) ?_ _ _
    | with_reducible refine Moves.ite ?_ ?_
    | split
    | extract_lets
    | with_reducible refine Moves.getD (Moves.optFindSome (fun _ => ?_)) ?_
    | with_reducible refine Moves.optMap (fun _ => ?_)
    | with_reducible refine Moves.optSndMapSnd ?_
    | with_reducible refine Moves.optSndMap (fun _ => ?_)
    | with_reducible refine Moves.optBind ?_ (fun _ _ => ?_)
    | with_reducible refine Moves.optOf (fun _ => ?_)
    | (with_reducible refine Moves.foldl ?_ (fun _ _ _ => ?_))
    | (with_reducible refine Moves.foldlFst ?_ (fun _ _ _ => ?_))
    | (with_reducible refine Moves.foldr ?_ (fun _ _ _ => ?_))
    | with_reducible refine Moves.optIte ?_ ?_
    | with_reducible refine Moves.foldlOpt ?_ (fun _ _ _ => ?_)
    | with_reducible refine Moves.optSome ?_
    | with_reducible exact Moves.optNone
    | with_reducible refine Moves.some (by assumption) ?_
    | with_reducible refine Moves.fst (by assumption) ?_
    | with_reducible refine Moves.snd (by assumption) ?_
    | dsimp +zetaDelta only

end Sys2Proof.Machine
end

