-- ==== Sys2Proof/Laws/Ops.lean ====
section
/-! SUPPORT. Sys2Proof/Laws/Ops.lean: what the operation that every row of a plate shares answers, once and for all: what it gives when its
operation issues, and when there is none. -/

namespace Sys2Proof.Machine

/-- A part of a set after a change of one part. -/
theorem State.partOf_modRR (s : State) (seq : W32) (r : Nat) (f : RegionRun → RegionRun) (run : W32) (q : Nat) :
    (s.modRR seq r f).partOf run q = if run = seq ∧ q = r then (s.partOf run q).map f else s.partOf run q := by
  simp only [State.partOf, State.run?, State.modRR, State.modRun]
  induction s.runs with
  | nil => simp
  | cons y ys ih =>
    simp only [List.map_cons, List.find?_cons]
    by_cases hy : (y.cmd.seq == seq) = true
    · simp only [hy, if_true]
      by_cases hr : run = seq
      · subst hr
        cases hg : Tab.get? y.regions r with
        | none =>
          simp only [hy, Option.bind_some, true_and]
          split
          · rename_i hq; subst hq; rw [hg]; rfl
          · rfl
        | some g =>
          simp only [hy, Option.bind_some, Tab.get?_set, true_and]
          split
          · rename_i hq; subst hq; rw [hg]; rfl
          · rfl
      · have h1 : (y.cmd.seq == run) = false := by
          have := beq_iff_eq.1 hy
          simp only [beq_eq_false_iff_ne, ne_eq]
          intro h; exact hr (h ▸ this)
        have h2 : ∀ z : Run, z.cmd.seq = y.cmd.seq → (z.cmd.seq == run) = false := fun z hz => by rw [hz]; exact h1
        rw [h1, h2 _ (by cases Tab.get? y.regions r <;> rfl)]
        exact ih
    · simp only [hy, Bool.false_eq_true, if_false]
      by_cases hz : (y.cmd.seq == run) = true
      · simp only [hz, Option.bind_some]
        have : ¬(run = seq) := fun h => hy (h ▸ hz)
        simp [this]
      · simp only [hz]; exact ih

/-- A part of the set as the offered operation found it. -/
theorem Offers.part {s : State} {run : W32} {r : Nat} {x : Op} (h : Offers s run r x) :
    x.seq = run ∧ x.r = r ∧ ∃ g, s.partOf run r = some g ∧ x.g = { g with last := x.t, begun := true } ∧ s.issueAt r g = some x.t ∧
      g.ended = none := by
  obtain ⟨rn, g, sl, rest, t, hr, _, hg, he, _, ht, rfl⟩ := h
  exact ⟨rfl, rfl, g, by simp [State.partOf, hr, hg], rfl, ht, he⟩

/-- What a row of a plate answers for the operation that its plate offers. -/
theorem plateOp_offers {s : State} {run : W32} {r : Nat} {x : Op} (h : Offers s run r x) (sel : SlotOp → Bool) (f : State → Op → State) :
    s.plateOp run r sel f =
      if sel x.o then
        if s.fetchesBad x then s.badBundle run r x.g x.t
        else if strictHit (x.g.image.takeCap x.o) x.takes then (((s.opened x).haltOp x stCapacityFault).closeSlot run r).goOn run r
        else if (s.opened x).readsPoison x then (s.opened x).startTeardown x.c stContextFault false
        else ((f ((s.opened x).noteExcess x) x).closeSlot run r).goOn run r
      else s := by
  obtain ⟨rn, g, sl, rest, t, hr, hst, hg, he, htodo, ht, rfl⟩ := h
  simp only [State.plateOp, hr, hg, htodo, ht, hst, he, Option.isNone_none, Bool.true_and]
  simp only [State.opened, State.fetchesBad, State.badBundle, State.partOf, hr, Option.bind_some, hg]

/-- What a row of a plate answers when its operation issues. -/
theorem plateOp_issues {s : State} {run : W32} {r slot op : Nat} {x : Op} {s1 : State} (h : Issues s run r slot op x s1)
    {sel : SlotOp → Bool} (hs : sel x.o = true) (f : State → Op → State) :
    s.plateOp run r sel f = ((f s1 x).closeSlot x.seq x.r).goOn x.seq x.r := by
  obtain ⟨ho, _, _, hb, hst, hp, rfl⟩ := h
  obtain ⟨h1, h2, _⟩ := ho.part
  rw [plateOp_offers ho, if_pos hs, hb, hst, hp, h1, h2]; rfl

/-- An operation that runs takes its unit for its time. -/
theorem startOp_starts (s : State) (x : Op) (ends : Option Nat) (w : List (Nat × List Nat)) : Starts s x ends w (s.startOp x ends w) := by
  refine ⟨none, fun _ => rfl, ?_⟩
  simp only [State.startOp, Option.isSome_none, Bool.false_eq_true, if_false, Op.spilled]

/-- Likewise with a duration of its own. -/
theorem runOp_starts (s : State) (x : Op) (n : Nat) (w : List (Nat × List Nat)) :
    Starts s x (some (x.t + s.opTime x n)) w (s.runOp x n w) := startOp_starts s x _ w

/-- A row whose effect ends with an operation that runs. -/
theorem runs_of_issues {s : State} {run : W32} {r slot op : Nat} {x : Op} {s1 s2 : State} {i : Instr} {sel : SlotOp → Bool}
    {f : State → Op → State} {ends : Option Nat} {w : List (Nat × List Nat)} (h : Issues s run r slot op x s1) (hs : sel x.o = true)
    (hi : exec i s = .next (s.plateOp run r sel f)) (he : Starts s2 x ends w (f s1 x)) : Runs i s x s2 ends w :=
  ⟨_, hi, _, he, by rw [plateOp_issues h hs]; rfl⟩

/-- A row whose effect ends with a halt. -/
theorem halts_of_issues {s : State} {run : W32} {r slot op : Nat} {x : Op} {s1 : State} {i : Instr} {sel : SlotOp → Bool}
    {f : State → Op → State} {code : Nat} (h : Issues s run r slot op x s1) (hs : sel x.o = true)
    (hi : exec i s = .next (s.plateOp run r sel f)) (he : f s1 x = s1.haltOp x code) : Halts i s x s1 code :=
  ⟨_, hi, by rw [plateOp_issues h hs, he]; rfl⟩

end Sys2Proof.Machine
end

