-- ==== Sys2Proof/Laws/PerInstr.lean ====
section
/-! SUPPORT. Sys2Proof/Laws/PerInstr.lean: what holds of every command as syntax, one lemma a command: no row may change the queue of
waiting commands, the stepping or the strap (R8, R235, R448). -/

namespace Sys2Proof.Laws.Kept

open Sys2Proof.Machine

/-- The parts that a row may change hold neither the queue nor what the silicon and the straps fix. -/
def Statement (i : Instr) : Prop := (touches i).all (fun p => p != .pending && p != .stepping && p != .strap) = true

theorem nop (c : CtxId) (q : RingId) : Statement (.nop c q) := by rfl
theorem contextOpen (c : CtxId) (q : RingId) : Statement (.contextOpen c q) := by rfl
theorem contextClose (c : CtxId) (q : RingId) : Statement (.contextClose c q) := by rfl
theorem contextKill (c : CtxId) (q : RingId) : Statement (.contextKill c q) := by rfl
theorem shareSet (c : CtxId) (q : RingId) : Statement (.shareSet c q) := by rfl
theorem privilegeSet (c : CtxId) (q : RingId) : Statement (.privilegeSet c q) := by rfl
theorem windowWrite (c : CtxId) (q : RingId) : Statement (.windowWrite c q) := by rfl
theorem groupDefine (c : CtxId) (q : RingId) : Statement (.groupDefine c q) := by rfl
theorem groupDelete (c : CtxId) (q : RingId) : Statement (.groupDelete c q) := by rfl
theorem plateLoad (c : CtxId) (q : RingId) : Statement (.plateLoad c q) := by rfl
theorem plateDrop (c : CtxId) (q : RingId) : Statement (.plateDrop c q) := by rfl
theorem routerWrite (c : CtxId) (q : RingId) : Statement (.routerWrite c q) := by rfl
theorem contextParam (c : CtxId) (q : RingId) : Statement (.contextParam c q) := by rfl
theorem seqJoin (c : CtxId) (q : RingId) : Statement (.seqJoin c q) := by rfl
theorem seqLeave (c : CtxId) (q : RingId) : Statement (.seqLeave c q) := by rfl
theorem seqUpdate (c : CtxId) (q : RingId) : Statement (.seqUpdate c q) := by rfl
theorem burnRead (c : CtxId) (q : RingId) : Statement (.burnRead c q) := by rfl
theorem burnWrite (c : CtxId) (q : RingId) : Statement (.burnWrite c q) := by rfl
theorem layerRun (c : CtxId) (q : RingId) : Statement (.layerRun c q) := by rfl
theorem combineRun (c : CtxId) (q : RingId) : Statement (.combineRun c q) := by rfl
theorem confluence (c : CtxId) (q : RingId) : Statement (.confluence c q) := by rfl
theorem tensorCopy (c : CtxId) (q : RingId) : Statement (.tensorCopy c q) := by rfl
theorem doorbell (c : CtxId) (q : RingId) (tail : W32) : Statement (.doorbell c q tail) := by rfl
theorem cmdRingWrite (c : CtxId) (q : RingId) (w : W64) : Statement (.cmdRingWrite c q w) := by rfl
theorem cplRingEnable (c : CtxId) (w : W64) : Statement (.cplRingEnable c w) := by rfl
theorem cplPtrTail (c : CtxId) (tail : W32) : Statement (.cplPtrTail c tail) := by rfl
theorem contactTail (c : CtxId) (tail : W32) : Statement (.contactTail c tail) := by rfl
theorem issuePoint : Statement .issuePoint := by rfl
theorem epochStart (run : W32) : Statement (.epochStart run) := by rfl
theorem operationEnd (run : W32) (r : RegionId) (u : UnitId) : Statement (.operationEnd run r u) := by rfl
theorem setCnt (run : W32) (r : RegionId) : Statement (.setCnt run r) := by rfl
theorem loop (run : W32) (r : RegionId) : Statement (.loop run r) := by rfl
theorem waitUnits (run : W32) (r : RegionId) : Statement (.waitUnits run r) := by rfl
theorem signal (run : W32) (r : RegionId) : Statement (.signal run r) := by rfl
theorem readTime (run : W32) (r : RegionId) : Statement (.readTime run r) := by rfl
theorem readSensor (run : W32) (r : RegionId) : Statement (.readSensor run r) := by rfl
theorem proofEmit (run : W32) (r : RegionId) : Statement (.proofEmit run r) := by rfl
theorem endPlate (run : W32) (r : RegionId) : Statement (.endPlate run r) := by rfl
theorem stageLoad (run : W32) (r : RegionId) (bad : Option ArrayBad) : Statement (.stageLoad run r bad) := by rfl
theorem score (run : W32) (r : RegionId) (bad : Option ArrayBad) : Statement (.score run r bad) := by rfl
theorem scoreStore (run : W32) (r : RegionId) : Statement (.scoreStore run r) := by rfl
theorem extTileIn (run : W32) (r : RegionId) : Statement (.extTileIn run r) := by rfl
theorem bankSwap (run : W32) (r : RegionId) : Statement (.bankSwap run r) := by rfl
theorem rowLoad (run : W32) (r : RegionId) (g : CellGroupId) : Statement (.rowLoad run r g) := by rfl
theorem rowStore (run : W32) (r : RegionId) (g : CellGroupId) : Statement (.rowStore run r g) := by rfl
theorem deltaTest (run : W32) (r : RegionId) (g : CellGroupId) : Statement (.deltaTest run r g) := by rfl
theorem deltaPrint (run : W32) (r : RegionId) (g : CellGroupId) : Statement (.deltaPrint run r g) := by rfl
theorem select (run : W32) (r : RegionId) (g : CellGroupId) : Statement (.select run r g) := by rfl
theorem norm (run : W32) (r : RegionId) (g : CellGroupId) : Statement (.norm run r g) := by rfl
theorem sort (run : W32) (r : RegionId) (g : CellGroupId) : Statement (.sort run r g) := by rfl
theorem rowSend (run : W32) (r : RegionId) (g : CellGroupId) : Statement (.rowSend run r g) := by rfl
theorem combineTerm (run : W32) (r : RegionId) (g : CellGroupId) : Statement (.combineTerm run r g) := by rfl
theorem combinePackage (run : W32) (r : RegionId) (g : CellGroupId) : Statement (.combinePackage run r g) := by rfl
theorem combineFinal (run : W32) (r : RegionId) (g : CellGroupId) : Statement (.combineFinal run r g) := by rfl
theorem quant (run : W32) (r : RegionId) (g : CellGroupId) : Statement (.quant run r g) := by rfl
theorem burn (run : W32) (r : RegionId) (g : CellGroupId) : Statement (.burn run r g) := by rfl
theorem netMove (run : W32) (r : RegionId) : Statement (.netMove run r) := by rfl
theorem edgeSend (run : W32) (r : RegionId) : Statement (.edgeSend run r) := by rfl
theorem edgeRecv (run : W32) (r : RegionId) : Statement (.edgeRecv run r) := by rfl
theorem linkSend (run : W32) (r : RegionId) (p : PortId) : Statement (.linkSend run r p) := by rfl
theorem linkRecv (run : W32) (r : RegionId) (p : PortId) : Statement (.linkRecv run r p) := by rfl
theorem bAlloc (run : W32) (r : RegionId) : Statement (.bAlloc run r) := by rfl
theorem bHand (run : W32) (r : RegionId) : Statement (.bHand run r) := by rfl
theorem bRelease (run : W32) (r : RegionId) : Statement (.bRelease run r) := by rfl
theorem bRefdec (run : W32) (r : RegionId) : Statement (.bRefdec run r) := by rfl
theorem cfArm (run : W32) (r : RegionId) : Statement (.cfArm run r) := by rfl
theorem cfLocal (run : W32) (r : RegionId) : Statement (.cfLocal run r) := by rfl
theorem cfGlobal (run : W32) (r : RegionId) : Statement (.cfGlobal run r) := by rfl
theorem cfWait (run : W32) (r : RegionId) : Statement (.cfWait run r) := by rfl
theorem stopBathRelease (r : RegionId) (x : Crossing) (deficit : W32) : Statement (.stopBathRelease r x deficit) := by rfl
theorem linkTimeout (run : W32) (r : RegionId) (p : PortId) : Statement (.linkTimeout run r p) := by rfl
theorem tileTimeout (run : W32) (r : RegionId) : Statement (.tileTimeout run r) := by rfl
theorem extTileTimeout (run : W32) (r : RegionId) : Statement (.extTileTimeout run r) := by rfl
theorem confluenceTimeout (run : W32) (r : RegionId) : Statement (.confluenceTimeout run r) := by rfl
theorem creditWaitTimeout (c : CtxId) (q : RingId) : Statement (.creditWaitTimeout c q) := by rfl
theorem commandComplete : Statement .commandComplete := by rfl
theorem stepBoundary (c : CtxId) (step : BitVec 16) : Statement (.stepBoundary c step) := by rfl
theorem shareApply (c : CtxId) : Statement (.shareApply c) := by rfl
theorem relocationDone : Statement .relocationDone := by rfl
theorem contextSaveDone (c : CtxId) (bad : Option TransferFault) : Statement (.contextSaveDone c bad) := by rfl
theorem contextLoadDone (c : CtxId) (bad : Option TransferFault) : Statement (.contextLoadDone c bad) := by rfl
theorem teardownEnd (c : CtxId) : Statement (.teardownEnd c) := by rfl
theorem regulatorRefill (r : RegionId) : Statement (.regulatorRefill r) := by rfl
theorem rtBudgetRefill (c : CtxId) : Statement (.rtBudgetRefill c) := by rfl
theorem regBucketWrite (link : Bool) (part : Fin 8) (w : W64) : Statement (.regBucketWrite link part w) := by rfl
theorem callArm (g : GroupId) : Statement (.callArm g) := by rfl
theorem armPacket (r : RegionId) (p : PortId) (pkt : Bytes) : Statement (.armPacket r p pkt) := by rfl
theorem verdictPacket (r : RegionId) (p : PortId) (pkt : Bytes) : Statement (.verdictPacket r p pkt) := by rfl
theorem dataPacket (r : RegionId) (p : PortId) (pkt : Bytes) : Statement (.dataPacket r p pkt) := by rfl
theorem confluenceCredit (r : RegionId) (p : PortId) (pkt : Bytes) : Statement (.confluenceCredit r p pkt) := by rfl
theorem failPacket (r : RegionId) (p : PortId) (pkt : Bytes) : Statement (.failPacket r p pkt) := by rfl
theorem keepalivePacket (r : RegionId) (p : PortId) (pkt : Bytes) : Statement (.keepalivePacket r p pkt) := by rfl
theorem keepaliveSend (g : GroupId) : Statement (.keepaliveSend g) := by rfl
theorem confluenceWatchdog (g : GroupId) (neighbour : MemberId) : Statement (.confluenceWatchdog g neighbour) := by rfl
theorem frameSend (r : RegionId) (p : PortId) : Statement (.frameSend r p) := by rfl
theorem frameReceive (r : RegionId) (p : PortId) (f : FrameIn) : Statement (.frameReceive r p f) := by rfl
theorem inletDrain (r : RegionId) (p : PortId) : Statement (.inletDrain r p) := by rfl
theorem inletFlush (r : RegionId) (p : PortId) (w : W64) : Statement (.inletFlush r p w) := by rfl
theorem mgmtOwnerWrite (r : RegionId) (p : PortId) (w : W64) : Statement (.mgmtOwnerWrite r p w) := by rfl
theorem mgmtRead (r : RegionId) (p : PortId) (software : Bool) : Statement (.mgmtRead r p software) := by rfl
theorem space (r : RegionId) (p : PortId) (pkt : Bytes) : Statement (.space r p pkt) := by rfl
theorem spaceSend (r : RegionId) (p : PortId) : Statement (.spaceSend r p) := by rfl
theorem ident (r : RegionId) (p : PortId) (pkt : Bytes) : Statement (.ident r p pkt) := by rfl
theorem width (r : RegionId) (p : PortId) (pkt : Bytes) : Statement (.width r p pkt) := by rfl
theorem widthAck (r : RegionId) (p : PortId) (pkt : Bytes) : Statement (.widthAck r p pkt) := by rfl
theorem widthSwitch (r : RegionId) (p : PortId) : Statement (.widthSwitch r p) := by rfl
theorem probe (r : RegionId) (p : PortId) (pkt : Bytes) (now : W64) : Statement (.probe r p pkt now) := by rfl
theorem relay (r : RegionId) (p : PortId) (pkt : Bytes) : Statement (.relay r p pkt) := by rfl
theorem announce (r : RegionId) (p : PortId) (pkt : Bytes) : Statement (.announce r p pkt) := by rfl
theorem announceSend : Statement .announceSend := by rfl
theorem memberUnreachable (m : MemberId) : Statement (.memberUnreachable m) := by rfl
theorem boundaryStart : Statement .boundaryStart := by rfl
theorem propose (r : RegionId) (p : PortId) (pkt : Bytes) : Statement (.propose r p pkt) := by rfl
theorem accept (r : RegionId) (p : PortId) (pkt : Bytes) : Statement (.accept r p pkt) := by rfl
theorem holding (r : RegionId) (p : PortId) (pkt : Bytes) : Statement (.holding r p pkt) := by rfl
theorem holdingSend : Statement .holdingSend := by rfl
theorem commit (r : RegionId) (p : PortId) (pkt : Bytes) : Statement (.commit r p pkt) := by rfl
theorem membershipWatchdog (m : MemberId) : Statement (.membershipWatchdog m) := by rfl
theorem landing (r : RegionId) (p : PortId) (pkt : Bytes) : Statement (.landing r p pkt) := by rfl
theorem creditReturn (r : RegionId) (p : PortId) (pkt : Bytes) : Statement (.creditReturn r p pkt) := by rfl
theorem calibrationFrame (r : RegionId) (p : PortId) (margin : Byte) : Statement (.calibrationFrame r p margin) := by rfl
theorem calibrationStarved (r : RegionId) (p : PortId) : Statement (.calibrationStarved r p) := by rfl
theorem laneRetrain (r : RegionId) (p : PortId) (lane : Fin 4) (cause : RetrainCause) : Statement (.laneRetrain r p lane cause) := by rfl
theorem laneRetrainDone (r : RegionId) (p : PortId) (lane : Fin 4) (pass : Bool) : Statement (.laneRetrainDone r p lane pass) := by rfl
theorem linkTrainStep (r : RegionId) (p : PortId) (res : LinkTrainResult) : Statement (.linkTrainStep r p res) := by rfl
theorem edgeTrainStep (r : RegionId) (e : EdgeId) (res : EdgeTrainResult) : Statement (.edgeTrainStep r e res) := by rfl
theorem edgeFlitReceive (r : RegionId) (e : EdgeId) (ctl : W64) (data : Bytes) : Statement (.edgeFlitReceive r e ctl data) := by rfl
theorem edgeIsolate (r : RegionId) (e : EdgeId) (clockLoss : Bool) : Statement (.edgeIsolate r e clockLoss) := by rfl
theorem edgeRetrainDone (r : RegionId) (e : EdgeId) (pass : Bool) : Statement (.edgeRetrainDone r e pass) := by rfl
theorem memoryReadAnswer (r : RegionId) (m : MemPortId) (tag : BitVec 10) (data : BitVec 512) (fail : Bool) (chk : Byte) : Statement (.memoryReadAnswer r m tag data fail chk) := by rfl
theorem memoryWriteAnswer (r : RegionId) (m : MemPortId) (tag : BitVec 10) (fail : Bool) : Statement (.memoryWriteAnswer r m tag fail) := by rfl
theorem memoryCredit (r : RegionId) (m : MemPortId) (write : Bool) : Statement (.memoryCredit r m write) := by rfl
theorem expertOutputTile (r : RegionId) (tag : W64) (units : Bytes) (par : TilePar) : Statement (.expertOutputTile r tag units par) := by rfl
theorem extScoreBlock (r : RegionId) (tag : W64) (units : Bytes) (par : TilePar) : Statement (.extScoreBlock r tag units par) := by rfl
theorem ewDescriptorTaken (r : RegionId) : Statement (.ewDescriptorTaken r) := by rfl
theorem erRead (r : RegionId) (handle : W32) (offset : BitVec 12) (units : BitVec 6) (id : BitVec 6) : Statement (.erRead r handle offset units id) := by rfl
theorem interruptDeliver (src : Byte) : Statement (.interruptDeliver src) := by rfl
theorem holdoffExpiry (grp : Fin 8) : Statement (.holdoffExpiry grp) := by rfl
theorem tgtClaim (t : Fin 16) : Statement (.tgtClaim t) := by rfl
theorem tgtCtlWrite (t : Fin 16) (w : W64) : Statement (.tgtCtlWrite t w) := by rfl
theorem errForce (page : BitVec 16) (w : W64) : Statement (.errForce page w) := by rfl
theorem pageCtlClear (page : BitVec 16) (w : W64) : Statement (.pageCtlClear page w) := by rfl
theorem evtSelWrite (page : BitVec 16) (w : W64) : Statement (.evtSelWrite page w) := by rfl
theorem registerWrite (r : RegionId) (req : CpRequest) : Statement (.registerWrite r req) := by rfl
theorem go : Statement .go := by rfl
theorem regionReset (mask : Byte) : Statement (.regionReset mask) := by rfl
theorem engineReset : Statement .engineReset := by rfl
theorem bringupStep (res : BringupResult) : Statement (.bringupStep res) := by rfl
theorem resetN : Statement .resetN := by rfl
theorem cellFault (r : RegionId) (c : ClusterId) (k : CellId) (kind : CellFaultKind) : Statement (.cellFault r c k kind) := by rfl
theorem sliceFault (r : RegionId) (c : ClusterId) (f : SliceFault) : Statement (.sliceFault r c f) := by rfl
theorem regionUnitFault (r : RegionId) (f : RegionFault) : Statement (.regionUnitFault r f) := by rfl
theorem cellResetEnd (r : RegionId) (c : ClusterId) (k : CellId) : Statement (.cellResetEnd r c k) := by rfl
theorem clusterResetEnd (r : RegionId) (c : ClusterId) (ucode : List UcodeResult) : Statement (.clusterResetEnd r c ucode) := by rfl
theorem regionResetEnd (r : RegionId) (pass : Bool) (res : RegionTest) (elapsedMs : BitVec 16) (writeFail : Bool) : Statement (.regionResetEnd r pass res elapsedMs writeFail) := by rfl
theorem leaderChange : Statement .leaderChange := by rfl
theorem supplyStateChange (v : BitVec 2) : Statement (.supplyStateChange v) := by rfl
theorem thermStrobe (t : Byte) : Statement (.thermStrobe t) := by rfl
theorem thermStrobeLost : Statement .thermStrobeLost := by rfl
theorem safelightSwitch : Statement .safelightSwitch := by rfl
theorem safelightHoldExpiry : Statement .safelightHoldExpiry := by rfl
theorem powerFail : Statement .powerFail := by rfl
theorem powerFailHoldExit : Statement .powerFailHoldExit := by rfl
theorem powerEstUpdate (r : RegionId) (tenthWatts : BitVec 16) : Statement (.powerEstUpdate r tenthWatts) := by rfl
theorem wrstnReset (r : RegionId) : Statement (.wrstnReset r) := by rfl
theorem wsBypass (r : RegionId) : Statement (.wsBypass r) := by rfl
theorem wsExtest (r : RegionId) (bits : Bytes) : Statement (.wsExtest r bits) := by rfl
theorem wsIntest (r : RegionId) (bits : Bytes) : Statement (.wsIntest r bits) := by rfl
theorem wsClamp (r : RegionId) : Statement (.wsClamp r) := by rfl
theorem wsSafe (r : RegionId) : Statement (.wsSafe r) := by rfl
theorem scan (r : RegionId) (bits : Bytes) : Statement (.scan r bits) := by rfl
theorem mbist (r : RegionId) (slices : BitVec 16) (staging : Bool) : Statement (.mbist r slices staging) := by rfl
theorem vfAccess (r : RegionId) (dr : BitVec 80) : Statement (.vfAccess r dr) := by rfl
theorem stateRead (r : RegionId) : Statement (.stateRead r) := by rfl
theorem vfTrigWrite (r : RegionId) (w : W64) : Statement (.vfTrigWrite r w) := by rfl
theorem vfForcedPush (r : RegionId) (ch : Fin 4) : Statement (.vfForcedPush r ch) := by rfl
theorem rcRead (r : RegionId) (req : CpRequest) : Statement (.rcRead r req) := by rfl

end Sys2Proof.Laws.Kept
end

