-- ==== Sys2Proof/Tests/Slice0.lean ====
section
/-! SUPPORT. Sys2Proof/Tests/Slice0.lean: the smoke test of WellFormed, single steps with results taken by hand from the manual, and
for every statement with hypotheses concrete states and operands that meet them. -/

namespace Sys2Proof.Tests

open Sys2Proof Sys2Proof.Machine

set_option Elab.async false

/-! ### States -/

/-- A live region with its clocks running. -/
def region : Region := { Region.reset with health := 1, rom := true, clocks := true }

/-- One window over 2 MiB of the fabric at 0, readable and writable (R260). -/
def window : BitVec 128 := 7

/-- Context 0, resident in granule 1, with a window at 0 and its share window. -/
def boss : Ctx :=
  { Ctx.closed with state := 1, record := supervisorRecord, windows := [(0, window), (255, shareWindow 1 1)], share := some (1, 1) }

/-- A ready engine of one region whose context 0 is open, its completion ring of 16 entries enabled at 0x100000. -/
def ready : State :=
  let s : State := { State.reset with regions := [(0, region)], ctxs := [(0, boss)] }
  (s.setF pgBringup Fld.BRINGUP_STATE_STATE 10).setReg (pgRing 0 + 0xC0) (0x100000 + 32 + 4)

/-- A ring entry of given fields: byte offset, bytes, value. -/
def entry (fs : List (Nat × Nat × Nat)) : BitVec 512 := BitVec.ofNat 512 (leNat (build 64 fs))

/-- A state with an entry at the head of ring 0 of context 0. -/
def headed (s : State) (fs : List (Nat × Nat × Nat)) : State :=
  s.modCtx 0 fun x => { x with heads := [(0, ⟨entry fs, none, 0⟩)] }

/-! ### Premises as tests -/

/-- The form that every state keeps, as a test. -/
theorem wf_of {s : State} (h : (s.regs.sorted ∧ s.sameTc.sorted ∧ s.regions.sorted) ∧ (s.ctxs.sorted ∧ s.events.sorted ∧ s.slots.sorted) ∧
    s.groups.sorted ∧ s.fabric.wf ∧ ∀ e ∈ s.regions, e.2.store.wf) : s.WF :=
  { regs := h.1.1, sameTc := h.1.2.1, regions := h.1.2.2, ctxs := h.2.1.1, events := h.2.1.2.1, slots := h.2.1.2.2, groups := h.2.2.1,
    fabric := h.2.2.2.1, stores := h.2.2.2.2 }

/-- Whether the leader takes the head of a ring now, with a further test of the command and the state. -/
def takesTest (s : State) (c : CtxId) (q : RingId) (op : Nat) (own : State → Command → Bool) (p : Command → State → Bool) : Bool :=
  match (s.ctx c.val).heads.get? q.val with
  | none => false
  | some h =>
    let n := s.number c.val q.val h.raw
    decide (h.cmd = none) && cmdOp h.raw == op && s.canValidate c.val q.val && decide (s.preCheck c.val h.raw = none) &&
      decide ((n.2.ctx c.val).state = 1) && n.2.cplEnabled c.val && n.2.serialHolds n.1 && own n.2 n.1 && p n.1 n.2

theorem takes_at {s : State} {c : CtxId} {q : RingId} {op : Nat} {own : State → Command → Bool} {h : Head}
    (e : (s.ctx c.val).heads.get? q.val = some h ∧ takesTest s c q op own (fun _ _ => true) = true) :
    Takes s c q op own (s.number c.val q.val h.raw).1 (s.number c.val q.val h.raw).2 := by
  obtain ⟨e, t⟩ := e
  simp only [takesTest, e, Bool.and_eq_true, decide_eq_true_eq, beq_iff_eq] at t
  obtain ⟨⟨⟨⟨⟨⟨⟨⟨h1, h2⟩, h3⟩, h4⟩, h5⟩, h6⟩, h7⟩, h8⟩, -⟩ := t
  exact ⟨h, e, h2, h5, h6, h7, h8, .inr ⟨h1, h3, h4, rfl⟩⟩

theorem takes_of {s : State} {c : CtxId} {q : RingId} {op : Nat} {own : State → Command → Bool} (p : Command → State → Bool)
    (h : takesTest s c q op own p = true) : ∃ cmd s1, Takes s c q op own cmd s1 ∧ p cmd s1 = true := by
  unfold takesTest at h
  split at h
  · cases h
  · rename_i hd e
    simp only [Bool.and_eq_true, decide_eq_true_eq, beq_iff_eq] at h
    obtain ⟨⟨⟨⟨⟨⟨⟨⟨h1, h2⟩, h3⟩, h4⟩, h5⟩, h6⟩, h7⟩, h8⟩, h9⟩ := h
    exact ⟨_, _, ⟨hd, e, h2, h5, h6, h7, h8, .inr ⟨h1, h3, h4, rfl⟩⟩, h9⟩

/-- Whether the leader validates the head of a ring now, with a further test. -/
def validatesTest (s : State) (c : CtxId) (q : RingId) (op : Nat) (p : Command → State → Bool) : Bool :=
  match (s.ctx c.val).heads.get? q.val with
  | none => false
  | some h =>
    let n := s.number c.val q.val h.raw
    decide (h.cmd = none) && cmdOp h.raw == op && s.canValidate c.val q.val && decide (s.preCheck c.val h.raw = none) && p n.1 n.2

theorem validates_of {s : State} {c : CtxId} {q : RingId} {op : Nat} (p : Command → State → Bool) (h : validatesTest s c q op p = true) :
    ∃ cmd s1, Validates s c q op cmd s1 ∧ p cmd s1 = true := by
  unfold validatesTest at h
  split at h
  · cases h
  · rename_i hd e
    simp only [Bool.and_eq_true, decide_eq_true_eq, beq_iff_eq] at h
    obtain ⟨⟨⟨⟨h1, h2⟩, h3⟩, h4⟩, h5⟩ := h
    exact ⟨_, _, ⟨hd, e, h1, h2, h3, h4, rfl⟩, h5⟩

/-! ### Commands of a ring -/

/-- Bytes in the fabric at 0. -/
def withBytes (s : State) (bs : Bytes) : State := { s with fabric := Memory.write [] 0 bs }

/-- Context 1, resident and idle, its record given by fields. -/
def second (fs : List (Nat × Nat × Nat)) : State :=
  let s := ready.modCtx 1 fun _ => { boss with record := build 128 ([(0, 1, 1), (4, 1, 1), (8, 4, 0x10000)] ++ fs), share := some (3, 2) }
  s.setReg (pgRing 1 + 0xC0) (0x101000 + 32 + 4)

/-- A command of context 0 as latched, from the fields of its entry. -/
def latched (fs : List (Nat × Nat × Nat)) (seq : W32) : Command :=
  { ctx := 0, ring := 0, raw := entry fs, seq := seq, fused := true, windows := boss.windows, list := [], owners := [], counts := [] }

/-- A ready engine with a NOP that signals event 0 and has ended. -/
def ended : State := { ready with ended := [plainEnd (latched [(1, 1, 2)] 1) stSuccess 0 0 (some 0) 0 (zeros 24)], flight := [(0, 1)] }

theorem witness_nop_completes : ∃ cmd s1, Takes (headed ready [(0, 1, 0)]) 0 0 0x00 always cmd s1 ∧ true :=
  takes_of (fun _ _ => true) (by decide +kernel)

theorem witness_invalid_command :
    let bad := headed ready [(1, 2, 0x800)]
    let weak := (second []).modCtx 1 fun x => { x with heads := [(0, ⟨entry [(0, 1, 8)], none, 0⟩)] }
    let late := { headed ready [(8, 4, 0x1000)] with events := [(0, (0, true))] }
    ((bad.canValidate 0 0 = true ∧ bad.preCheck 0 (entry [(1, 2, 0x800)]) = some stCommandInvalid ∧ headerOk 0 (entry [(1, 2, 0x800)]) = false) ∧
     (weak.canValidate 1 0 = true ∧ weak.preCheck 1 (entry [(0, 1, 8)]) = some stPrivilegeFault ∧ headerOk 1 (entry [(0, 1, 8)]) = true) ∧
     (late.canValidate 0 0 = true ∧ late.preCheck 0 (entry [(8, 4, 0x1000)]) = some stDependencyFault)) := by decide +kernel

/-- A record of high priority with one granule, a budget of 100 and a period of 1 (R298). -/
def highRecord : Bytes := build 128 [(0, 1, 1), (3, 1, 1), (4, 1, 1), (8, 4, 0x10000), (0x10, 4, 100), (0x14, 4, 1)]

theorem witness_context_open :
    (∃ cmd s1, Takes (headed (withBytes ready supervisorRecord) [(0, 1, 1), (24, 1, 15)]) 0 0 0x01 always cmd s1 ∧
      decide (cmdField cmd.raw 24 1 = 15 ∧ (s1.ctx 15).state = 0 ∧ s1.recordOf cmd = some supervisorRecord ∧ recordOk supervisorRecord = true ∧
        recPriority supervisorRecord = 0) = true) ∧
    ∃ cmd s1, Takes (headed (withBytes ready highRecord) [(0, 1, 1), (24, 1, 1)]) 0 0 0x01 always cmd s1 ∧
      decide (cmdField cmd.raw 24 1 = 1 ∧ (s1.ctx 1).state = 0 ∧ s1.recordOf cmd = some highRecord ∧ recordOk highRecord = true ∧
        recPriority highRecord = 1 ∧ s1.admitted 1 (some highRecord) 0 = true) = true := by
  and_intros <;> exact takes_of _ (by decide +kernel)

theorem witness_context_close :
    (∃ cmd s1, Takes (headed (second []) [(0, 1, 2), (24, 1, 1)]) 0 0 0x02 always cmd s1 ∧
      decide (cmdField cmd.raw 24 1 = 1 ∧ (s1.ctx 1).state = 1 ∧ (s1.ctx 1).closing = false ∧ s1.ctxIdle 1 = true ∧
        recLanding (s1.ctx 1).record = 0) = true) ∧
    (∃ cmd s1, Takes (headed (second [(1, 1, 1), (12, 4, 4096)]) [(0, 1, 2), (24, 1, 1)]) 0 0 0x02 always cmd s1 ∧
      decide (cmdField cmd.raw 24 1 = 1 ∧ (s1.ctx 1).state = 1 ∧ (s1.ctx 1).closing = false ∧ s1.ctxIdle 1 = true ∧
        recLanding (s1.ctx 1).record ≠ 0) = true) ∧
    ∃ cmd s1, Takes (headed ready [(0, 1, 3)]) 0 0 0x03 always cmd s1 ∧
      decide (cmdField cmd.raw 24 1 = 0 ∧ (s1.ctx 0).state ≠ 0) = true := by
  and_intros <;> exact takes_of _ (by decide +kernel)

theorem witness_share_set : (∃ cmd s1, Takes (headed (withBytes (second []) supervisorRecord) [(0, 1, 4), (24, 1, 1)]) 0 0 0x04 always cmd s1 ∧
      decide (cmdField cmd.raw 24 1 = 1 ∧ (s1.ctx 1).state = 1 ∧ s1.recordOf cmd = some supervisorRecord ∧ recordOk supervisorRecord = true ∧
        recPriority supervisorRecord = 0) = true) ∧
    (∃ cmd s1, Takes (headed (withBytes (second []) highRecord) [(0, 1, 4), (24, 1, 1)]) 0 0 0x04 always cmd s1 ∧
      decide (cmdField cmd.raw 24 1 = 1 ∧ (s1.ctx 1).state = 1 ∧ s1.recordOf cmd = some highRecord ∧ recordOk highRecord = true ∧
        recPriority highRecord = 1 ∧ s1.admitted 1 (some highRecord) 0 = true) = true) ∧
    (∀ k ∈ [1, 2], let s := (second []).modCtx 1 fun x => { x with pendingRecord := some supervisorRecord, state := k }
     (s.ctx 1).pendingRecord = some supervisorRecord ∧ s.ctxIdle 1 = true ∧ (s.ctx 1).state = k) ∧
    (let s := ready.modCtx 1 fun x => { x with pendingRecord := some supervisorRecord, state := 3 }
     (ready.ctx 0).pendingRecord = none ∧ ended.ctxIdle 0 = false ∧ (s.ctx 1).state = 3) :=
  ⟨takes_of _ (by decide +kernel), takes_of _ (by decide +kernel), by decide +kernel, by decide +kernel⟩

theorem witness_privilege_set : ∃ cmd s1, Takes (headed (second []) [(0, 1, 5), (24, 1, 1), (25, 1, 1)]) 0 0 0x05 always cmd s1 ∧
    decide (cmdField cmd.raw 24 1 = 1 ∧ (s1.ctx 1).state = 1) = true := takes_of _ (by decide +kernel)

/-- One window entry over 2 MiB at CTX_BASE 64 GiB, and one at the base that window 0 holds. -/
def twoWindows : Bytes := leBytes 16 (0x1000000000 + 7) ++ leBytes 16 7

theorem witness_window_write :
    (∃ cmd s1, Takes (headed (withBytes ready twoWindows) [(0, 1, 6), (25, 1, 254), (26, 1, 1)]) 0 0 0x06 always cmd s1 ∧
      decide (cmdField cmd.raw 25 1 = 254 ∧ cmdField cmd.raw 26 1 = 1 ∧ s1.readStruct cmd (cmdAddr cmd.raw) 16 = some (twoWindows.take 16) ∧
        windowOk (windowsAfter (s1.windowsToBe 0) 254 (words (twoWindows.take 16) 16 1)) 254 (0x1000000000 + 7) = true ∧
        words (twoWindows.take 16) 16 1 = [0x1000000000 + 7]) = true) ∧
    ∃ cmd s1, Takes (headed (withBytes ready twoWindows) [(0, 1, 6), (25, 1, 1), (26, 1, 2)]) 0 0 0x06 always cmd s1 ∧
      decide (cmdField cmd.raw 25 1 = 1 ∧ cmdField cmd.raw 26 1 = 2 ∧ s1.readStruct cmd (cmdAddr cmd.raw) 32 = some twoWindows ∧
        windowOk (windowsAfter (s1.windowsToBe 0) 1 (words twoWindows 16 2)) 2 ((words twoWindows 16 2).getD 1 0) = false) = true := by
  and_intros <;> exact takes_of _ (by decide +kernel)

theorem witness_window_entries :
    let e : Ended := { plainEnd (latched [(0, 1, 6)] 1) stSuccess 0 0 (some 0) 0 (zeros 24) with entries := some (0, 253, [7, 7]) }
    e.entries = some (0, 253, [7, 7]) ∧ e.status = stSuccess := by decide

/-- A group record of one member, 0, for slot 63. -/
def groupRecord : Bytes :=
  build 128 [(0, 8, crc64 (zeros 64)), (8, 2, 1), (0xA, 1, 63)]

theorem witness_group_define :
    (∃ cmd s1, Takes (headed (withBytes ready groupRecord) [(0, 1, 7)]) 0 0 0x07 always cmd s1 ∧
      decide (s1.readStruct cmd (cmdAddr cmd.raw) 64 = some (groupRecord.take 64) ∧ grN (groupRecord.take 64) = 1 ∧
        s1.readStruct cmd (cmdAddr cmd.raw) (64 + up64 2) = some groupRecord ∧ groupRecordOk groupRecord s1.self = true ∧
        s1.groupBusy (grSlot groupRecord) = false) = true) ∧
    ∃ cmd s1, Takes (headed { ready with groups := [(63, { Group.undefined with defined := true })] } [(0, 1, 8), (24, 1, 63)]) 0 0 0x08 always cmd s1 ∧
      decide (s1.groups.sorted ∧ cmdField cmd.raw 24 1 = 63 ∧ (s1.group 63).defined = true ∧ s1.groupBusy 63 = false) = true := by
  and_intros <;> exact takes_of _ (by decide +kernel)

/-- A bundle of one operation in a slot (R42, R44): its word at the slot's place, the format 1 and the parity bits. -/
def bundle (slot word : Nat) : Nat :=
  let w := 2 ^ 500 + word * 2 ^ ([424, 376, 152, 208, 264, 320, 120, 80, 48, 0].getD slot 0)
  (List.range 7).foldl (fun v i => v + popcount (bits w (64 * i + 63) (64 * i)) 64 % 2 * 2 ^ (504 + i)) w +
    popcount (bits w 503 448) 56 % 2 * 2 ^ 511

/-- A plate image of region 0 whose one bundle is END (R40): WCET_DECLARED 1, one lane in every register, no port. -/
def plate : Bytes :=
  (build 64 [(0, 8, 0x314554414C503844), (8, 4, 1), (0x18, 8, 0xB001000000000000), (0x20, 4, 1), (0x28, 4, 0xFFFFFFFF), (0x30, 8, 1),
    (0x38, 8, 16563134136666146315)]) ++ (List.replicate 64 [1#8, 0#8]).flatten ++ zeros 512 ++ leBytes 64 (bundle 0 (0x3F * 2 ^ 58))

/-- The same image as it is held once read. -/
def image : Image :=
  { region := 0, geometrySig := 0, reproSig := 0xB001000000000000, flags := 0, portMap := 0xFFFFFFFF, wcet := 1,
    lanes := List.replicate 64 1, caps := List.replicate 64 0, bundles := [BitVec.ofNat 512 (bundle 0 (0x3F * 2 ^ 58))] }

/-- A ready engine whose fabric holds a table of one image address, and the image at 64; its set 15 holds the image. -/
def printer : State :=
  (withBytes ready (leBytes 64 64 ++ plate)).modCtx 0 fun x => { x with sets := [(15, (1, [image]))] }

/-- A value worked out before it is used: what the kernel evaluates step by step. -/
def now {α : Type} (n : Nat) (f : Nat → α) : α := match n with | 0 => f 0 | k + 1 => f (k + 1)

theorem now_eq {α : Type} (n : Nat) (f : Nat → α) : now n f = f n := by cases n <;> rfl

/-- crc64From with each byte's result worked out before the next. -/
def crcNow : Nat → Bytes → Nat
  | c, [] => c
  | c, b :: bs => now (crc64Shift 8 (Nat.xor c (b.toNat * 2 ^ 56))) fun d => crcNow d bs

theorem crcNow_eq (bs : Bytes) : ∀ c, crcNow c bs = crc64From c bs := by
  induction bs with
  | nil => intro c; rfl
  | cons b bs ih => intro c; simp only [crcNow, now_eq, ih]; rfl

theorem crc64_eq (bs : Bytes) : crc64 bs = crcNow 0 bs := (crcNow_eq bs 0).symm

theorem plate_bytes_ok : imageBytesOk plate = true := by
  have h : crc64 (putField plate 0x38 8 0) = field plate 0x38 8 := by rw [crc64_eq]; decide +kernel
  simp only [imageBytesOk, h]
  decide +kernel

/-- The entry of a PLATE_LOAD of one image into set 15, and the engine with it at the head of a ring. -/
def loadEntry : BitVec 512 := entry [(0, 1, 0x10), (24, 1, 15), (25, 1, 1)]
def loader : State := printer.modCtx 0 fun x => { x with heads := [(0, ⟨loadEntry, none, 0⟩)] }

theorem witness_plate_load :
    Takes loader 0 0 0x10 State.slotFree (loader.number 0 0 loadEntry).1 (loader.number 0 0 loadEntry).2 ∧
    (let k := loader.number 0 0 loadEntry
     cmdSet k.1.raw = 15 ∧ cmdField k.1.raw 25 1 = 1 ∧ k.2.readStruct k.1 (cmdAddr k.1.raw) 8 = some (leBytes 8 64) ∧
      k.2.readImages k.1 (words (leBytes 8 64) 8 1) = [plate].map some ∧ parseImage plate = image ∧ imagesFit (k.2.ctx 0) 15 [image] = true ∧
      k.2.admitted 0 none 1 = true) ∧
    (loader.number 0 0 loadEntry).2.checkImage (loader.number 0 0 loadEntry).1 [image]
      (fun _ => (loader.number 0 0 loadEntry).2.worstCases ((loader.number 0 0 loadEntry).2.ctx 0).routers none [image]) 0 1 plate = none := by
  refine ⟨takes_at (h := ⟨loadEntry, none, 0⟩) (by decide +kernel), by decide +kernel, ?_⟩
  unfold State.checkImage
  simp only [plate_bytes_ok]
  decide +kernel

theorem witness_plate_drop :
    (∃ cmd s1, Takes (headed printer [(0, 1, 0x11), (24, 1, 15)]) 0 0 0x11 State.slotFree cmd s1 ∧
      decide ((s1.ctx 0).sets.sorted ∧ cmdSet cmd.raw = 15 ∧ ((s1.ctx 0).sets.get? 15).isSome = true) = true) ∧
    (∃ cmd s1, Takes (headed printer [(0, 1, 0x11), (24, 1, 16)]) 0 0 0x11 State.slotFree cmd s1 ∧ decide (cmdSet cmd.raw = 16) = true) ∧
    ∃ cmd s1, Takes (headed printer [(0, 1, 0x11), (24, 1, 0)]) 0 0 0x11 State.slotFree cmd s1 ∧
      decide ((s1.ctx 0).sets.get? (cmdSet cmd.raw) = none) = true := by
  and_intros <;> exact takes_of _ (by decide +kernel)

/-- A router entry (R337): H 32, E 1, K 1, OVERFLOW 1, the scales 1.0. -/
def router : Bytes :=
  build 64 [(0, 2, 32), (2, 2, 1), (4, 1, 1), (0xC, 1, 1), (0x10, 4, 0x3F800000), (0x18, 4, 0x3F800000), (0x1C, 3, 1)]

theorem witness_router_write : ∃ cmd s1, Takes (headed (withBytes ready router) [(0, 1, 0x12), (24, 1, 127), (25, 1, 1)]) 0 0 0x12 always cmd s1 ∧
    decide (cmdField cmd.raw 24 1 = 127 ∧ cmdField cmd.raw 25 1 = 1 ∧ s1.readStruct cmd (cmdAddr cmd.raw) 64 = some router ∧
      (words router 64 1).all (fun e => routerOk (BitVec.ofNat 512 e) (recEMax (s1.ctx 0).record) s1.live.length) = true ∧
      ordinalsApart (routersAfter (s1.ctx 0).routers 127 ((words router 64 1).map (BitVec.ofNat 512 ·))) = true ∧
      s1.reprintKept 0 127 (BitVec.ofNat 512 (leNat router)) = true) = true := takes_of _ (by decide +kernel)

theorem witness_context_param :
    (∃ cmd s1, Takes (headed (withBytes ready (leBytes 4 0x3F800000)) [(0, 1, 0x13), (25, 1, 7)]) 0 0 0x13 always cmd s1 ∧
      decide (cmdField cmd.raw 24 1 = 0 ∧ cmdField cmd.raw 25 1 = 7 ∧
        ((s1.readStruct cmd (cmdAddr cmd.raw) 256).map fun bs => (words bs 4 64).all fp32NonNegative) = some true) = true) ∧
    (∃ cmd s1, Takes (headed (withBytes ready (leBytes 4 0xBF800000)) [(0, 1, 0x13)]) 0 0 0x13 always cmd s1 ∧
      decide (((s1.readStruct cmd (cmdAddr cmd.raw) 256).map fun bs => (words bs 4 64).any fun v => !fp32NonNegative v) = some true) = true) ∧
    (∃ cmd s1, Takes (headed ready [(0, 1, 0x13), (24, 1, 2)]) 0 0 0x13 always cmd s1 ∧ decide (cmdField cmd.raw 24 1 = 2) = true) ∧
    ∃ cmd s1, Takes (headed ready [(0, 1, 0x13), (24, 1, 1), (32, 8, 5)]) 0 0 0x13 always cmd s1 ∧ decide (cmdField cmd.raw 24 1 = 1) = true := by
  and_intros <;> exact takes_of _ (by decide +kernel)

/-- A ready engine whose sequence slot 511 is occupied by context 0. -/
def seated : State := { ready with slots := [(511, { SeqSlot.free with state := 2, tokenCount := 1 })] }

/-- Whether a join of the largest range may wait, and the slot that it takes. -/
def joins (slot : Option Nat) (m : Command) (s : State) : Bool :=
  decide (joinRegion m.raw ∈ s.live ∧ cmdField m.raw 25 1 = 128 ∧ cmdField m.raw 27 1 = 7 ∧ joinFirst m.raw = 2 ^ 24 - 262144 ∧
    joinCount m.raw = 262144 ∧ joinMax m.raw = 262144 ∧ s.joinFits m.raw = true ∧ s.freeSlot (joinRegion m.raw) = slot) &&
  (regionSlots (joinRegion m.raw)).any fun i => decide ((s.slot i).state ≠ 1 ∧ (s.slot i).state ≠ 2)

/-- Such a join at the head of a ring, of an engine whose 64 slots of region 0 are in one state. -/
def joining (k : Nat) : State :=
  headed { seated with slots := (List.range 64).map fun i => (i, { SeqSlot.free with state := if i = 63 then k else 3 }) }
    [(0, 1, 0x14), (25, 1, 128), (27, 1, 7), (28, 4, 2 ^ 24 - 262144), (32, 4, 262144), (36, 4, 262144)]

theorem witness_sequences :
    (∃ cmd s1, Takes (joining 0) 0 0 0x14 always cmd s1 ∧ joins (some 63) cmd s1 = true) ∧
    (∃ cmd s1, Takes (joining 3) 0 0 0x14 always cmd s1 ∧ joins none cmd s1 = true) ∧
    (∃ cmd s1, Takes (headed seated [(0, 1, 0x15), (24, 2, 511)]) 0 0 0x15 always cmd s1 ∧
      decide (seqSlotOf cmd.raw = 511 ∧ (s1.slot 511).state = 2 ∧ (s1.slot 511).ctx = cmd.ctx) = true) ∧
    ∃ cmd s1, Takes (headed seated [(0, 1, 0x16), (24, 2, 511), (27, 1, 7)]) 0 0 0x16 always cmd s1 ∧
      decide (seqSlotOf cmd.raw = 511 ∧ cmdField cmd.raw 27 1 = 7 ∧ 2 ≤ (s1.slot 511).state ∧ (s1.slot 511).ctx = cmd.ctx) = true := by
  and_intros <;> exact takes_of _ (by decide +kernel)

theorem witness_step_boundary :
    let m := latched [(0, 1, 0x15), (6, 2, 9), (24, 2, 511)] 1
    let s := ({ seated with flight := [(0, 1)] }).modCtx 0 fun x => { x with seqWait := [m] }
    s.boundaryReady 0 9 = true ∧ ready.boundaryReady 0 9 = false ∧
      ((ready.ctx 0).basins.sorted ∧ (seated.slot (seqSlotOf m.raw)).state ≠ 0 ∧ (seated.slot (seqSlotOf m.raw)).ctx = m.ctx) := by decide +kernel

/-- A ready engine whose context 0 has the router above as router 127. -/
def routed : State :=
  ready.modCtx 0 fun x => { x with routers := [(127, BitVec.ofNat 512 (leNat router))], burn := [(127, [0])], load := [(127, [0])], window := [(127, 0)] }

/-- A balance image of router 127 with zero burn. -/
def balance : Bytes := build 72 [(0, 8, 0), (8, 2, 1), (0xE, 1, 127)]

theorem witness_burn_read_write :
    (headed routed [(0, 1, 0x17), (24, 1, 127)]).WF ∧
    (∃ cmd s1, Takes (headed routed [(0, 1, 0x17), (24, 1, 127)]) 0 0 0x17 balanceOwn cmd s1 ∧
      decide (cmdField cmd.raw 24 1 = 127 ∧ (s1.ctx 0).routers.get? 127 = some (BitVec.ofNat 512 (leNat router)) ∧
        (s1.writeCtx cmd.windows s1.leader (cmdAddr cmd.raw) (balanceImage (s1.ctx 0) 127 (BitVec.ofNat 512 (leNat router)))).isSome = true) = true) ∧
    ∃ cmd s1, Takes (headed (withBytes routed balance) [(0, 1, 0x18), (24, 1, 127)]) 0 0 0x18 balanceOwn cmd s1 ∧
      decide (cmdField cmd.raw 24 1 = 127 ∧ s1.readStruct cmd (cmdAddr cmd.raw) 72 = some balance ∧
        balanceOk balance 127 (BitVec.ofNat 512 (leNat router)) = true) = true :=
  ⟨wf_of (by decide +kernel), takes_of _ (by decide +kernel), takes_of _ (by decide +kernel)⟩

/-- What a check of a command with a claim comes to, as a test. -/
def latches : Verdict → Bool | .latch _ => true | _ => false

theorem witness_claim_commands :
    (∃ cmd s1, Validates (headed printer [(0, 1, 0x20), (24, 1, 15), (25, 1, 1), (32, 8, 0x1000), (40, 8, 0x2000)]) 0 0 0x20 cmd s1 ∧
      latches (s1.runCheck cmd) = true) ∧
    (∃ cmd s1, Validates (headed printer [(0, 1, 0x21), (24, 1, 15), (25, 1, 1), (32, 8, 0x4000), (40, 8, 0x2000)]) 0 0 0x21 cmd s1 ∧
      latches (s1.runCheck cmd) = true) ∧
    (∃ cmd s1, Validates (headed ready [(0, 1, 0x22)]) 0 0 0x22 cmd s1 ∧ !latches (s1.confluenceCheck cmd)) ∧
    ∃ cmd s1, Validates (headed ready [(0, 1, 0x23), (24, 1, 8)]) 0 0 0x23 cmd s1 ∧ !latches (s1.copyCheck cmd) :=
  ⟨validates_of (fun k s => latches (s.runCheck k)) (by decide +kernel), validates_of (fun k s => latches (s.runCheck k)) (by decide +kernel),
   validates_of (fun k s => !latches (s.confluenceCheck k)) (by decide +kernel), validates_of (fun k s => !latches (s.copyCheck k)) (by decide +kernel)⟩

/-! ### Rings, completions and registers -/

theorem witness_ring_registers :
    ready.pageAnswers (pgRing 0) = true ∧ (ready.ctx 0).state ≠ 5 ∧ ready.pageAnswers pgProof = true ∧
      sub32 16 (ready.ringHead 0 0) ≤ ready.ringSize 0 0 ∧ ready.ringSize 0 0 < sub32 17 (ready.ringHead 0 0) ∧
      bitAt (ready.reg (ringPage 0 0 + 0x80)) 5 = false ∧ bitAt ((ready.setReg (ringPage 0 0 + 0x80) 0x20).reg (ringPage 0 0 + 0x80)) 5 = true := by
  decide +kernel

/-- A ready engine whose ring 0 of context 0 is enabled at an address and holds one entry. -/
def rung (base : Nat) : State := (ready.setReg (ringPage 0 0 + 0x80) (base + 0x24)).setReg (ringPage 0 0 + 0x88) (2 ^ 32)

theorem witness_head_of_ring :
    (let can (s : State) := (s.ctx 0).heads.get? 0 = none ∧ (s.ctx 0).state = 1 ∧ s.getF (ringPage 0 0) Fld.CMD_RING_ENABLE = 1 ∧
        s.ringLeft 0 0 ≠ 0 ∧ s.bringState ≠ 12
     can (rung 0x1000) ∧ can (rung 0x200000)) ∧
      ((rung 0x1000).readCtx ((rung 0x1000).ctx 0).windows (rung 0x1000).leader 0x1000 64).isSome = true ∧
      (rung 0x200000).readCtx ((rung 0x200000).ctx 0).windows (rung 0x200000).leader 0x200000 64 = none ∧ ready.ringLeft 0 0 = 0 := by decide +kernel

theorem ended_wf : ended.WF := wf_of (by decide +kernel)

theorem witness_command_complete :
    let s : State := { ended with deferred := [(.commands 0 9, plainEnd (latched [(0, 1, 6)] 2) stSuccess 0 0 none 0 (zeros 24))],
                                  copies := [⟨latched [(0, 1, 0x23)] 3, 0, 5, false⟩], flight := [(0, 1), (0, 2)] }
    (∀ t ∈ [ended, s], t.led = true ∧ (∀ d ∈ t.deferred, t.awaited d.1 = false) ∧
      (∀ e ∈ t.ended, e.isSet = false ∧ ∀ k ∈ t.copies, e.endTc ≤ k.due) ∧ t.ended.length = 1 ∧ t.getF (pgRing 0) Fld.CPL_RING_ENABLE = 1 ∧
      t.getF (pgRing 0) Fld.CPL_RING_BASE = 0x100 ∧ (translate (t.ctx 0).windows true 0x100000 64).isSome = true) ∧
      State.reset.led = false := by decide +kernel

theorem witness_cpl_ring : ready.pageAnswers (pgRing 0) = true ∧ (ready.ctx 0).held = [] ∧ ((ready.modCtx 0 fun x => { x with held := ended.ended }).ctx 0).held ≠ [] ∧
    bitAt (ready.reg (pgRing 0 + 0xC0)) 5 = true ∧ bitAt (State.reset.reg (pgRing 0 + 0xC0)) 5 = false ∧ bits 0x1F 5 5 = 0 ∧ bits 0x20 5 5 = 1 := by
  decide +kernel

/-! ### Operations of a plate -/

/-- The bundle of one operation: OPCODE and CNT 1 at their places in the slot, and its other fields. -/
def opBundle (slot op rest : Nat) : Nat :=
  let hi := [58, 42, 48, 48, 48, 48, 26, 34, 26, 42].getD slot 0
  bundle slot (op * 2 ^ hi + (if slot = 9 then 0 else 2 ^ (hi - 6)) + rest)

/-- A capacity entry: STRICT, TOTAL_BOUND 16, LANE_BOUND 16. -/
def strict : W64 := BitVec.ofNat 64 (16 * 2 ^ 32 + 16 * 2 ^ 8)

/-- A part of a set that has come to its one bundle in cycle 100, count register 1 holding n in lane 0. -/
def part (b n : Nat) : RegionRun :=
  { image := { image with bundles := [BitVec.ofNat 512 b], caps := List.replicate 64 strict },
    bundle := 0, todo := issueOrder (BitVec.ofNat 512 b), last := 100, begun := false, lastBundle := 0, loops := [], passes := 0, spills := [], hold := 0,
    free := List.replicate 13 0, busy := [], cnt := [(1, [n])], ready := [], opened := [], halt := none, ended := none, late := 0,
    digests := [], handOvers := [], load := [], burned := [], spill := 0, drop := 0, skipped := 0, flags := 0, valid := [],
    loadedTokens := [], sorted := [], streams := [], mapped := [], works := [], ext := ⟨0, 0, 0⟩, sends := [] }

/-- A placement table (R112, R113): this member alone, one expert with one copy, local index 0 of region 0. -/
def placement : Bytes := build 144 [(8, 2, 1), (0xA, 2, 1), (0x80, 16, 2 ^ 115)]

/-- A set of region 0 in flight with router 0 and a tensor list, its command numbered 1. -/
def running (g : RegionRun) (list : Bytes) : Run :=
  { cmd := { latched [(0, 1, 0x20)] 1 with list := list }, set := 0, issue := 0, epoch := 64, started := true, regions := [(0, g)],
    routers := [(0, BitVec.ofNat 512 (leNat router))], rewritten := [], placements := [(0, placement)], seed := 0, schedules := [], burn := [], slots := [],
    open_ := false, safelight := false }

/-- A ready engine in which one set runs, its next operation as given, with n iterations over a tensor list. -/
def playing (slot op rest n : Nat) (list : Bytes) : State := { ready with runs := [running (part (opBundle slot op rest) n) list] }

/-- The operation that a part of a set issues next, worked out. -/
def offered (s : State) (run : W32) (r : Nat) : Option Op :=
  match s.run? run with
  | none => none
  | some rn =>
    match rn.regions.get? r with
    | none => none
    | some g =>
      match g.todo, s.issueAt r g with
      | sl :: _, some t =>
        if rn.started = true ∧ g.ended = none then
          some ⟨run, r, rn, { g with last := t, begun := true }, slotOp g.cur sl, t,
            if (slotOp g.cur sl).counted && !(slotOp g.cur sl).receives then
              takeLanes (g.image.takeCap (slotOp g.cur sl)) (s.countedLanes rn r g (slotOp g.cur sl)) else []⟩
        else none
      | _, _ => none

theorem offers_of {s : State} {run : W32} {r : Nat} {x : Op} (h : offered s run r = some x) : Offers s run r x := by
  unfold offered at h
  split at h
  · cases h
  · rename_i rn e1
    split at h
    · cases h
    · rename_i g e2
      split at h
      · rename_i sl rest t e3 e4
        split at h
        · rename_i e5
          exact ⟨rn, g, sl, rest, t, e1, e5.1, e2, e5.2, e3, e4, (Option.some.inj h).symm⟩
        · cases h
      · cases h

/-- Whether a part offers an operation that passes a test. -/
def offersTest (s : State) (run : W32) (r : Nat) (p : Op → Bool) : Bool := match offered s run r with | none => false | some x => p x

theorem offers_such {s : State} {run : W32} {r : Nat} (p : Op → Bool) (h : offersTest s run r p = true) :
    ∃ x, Offers s run r x ∧ p x = true := by
  unfold offersTest at h
  split at h
  · cases h
  · rename_i x e
    exact ⟨x, offers_of e, h⟩

/-- Whether the operation of a slot and an opcode issues and has its own effect, with a further test. -/
def issuesTest (s : State) (r slot op : Nat) (p : Op → State → Bool) : Bool :=
  match offered s 1 r with
  | none => false
  | some x =>
    x.o.slot == slot && x.o.op == op && !s.fetchesBad x && !strictHit (x.g.image.takeCap x.o) x.takes && !(s.opened x).readsPoison x &&
      p x ((s.opened x).noteExcess x)

theorem issues_of {s : State} {r slot op : Nat} (p : Op → State → Bool) (h : issuesTest s r slot op p = true) :
    ∃ x s1, Issues s 1 r slot op x s1 ∧ p x s1 = true := by
  unfold issuesTest at h
  split at h
  · cases h
  · rename_i x e
    simp only [Bool.and_eq_true, beq_iff_eq, Bool.not_eq_true'] at h
    obtain ⟨⟨⟨⟨⟨h1, h2⟩, h3⟩, h4⟩, h5⟩, h6⟩ := h
    exact ⟨x, _, ⟨offers_of e, h1, h2, h3, h4, h5, rfl⟩, h6⟩

/-- A structure tensor of so many bytes at a context address (R253). -/
def tensor (base n : Nat) : Bytes := build 128 [(0, 8, base), (8, 8, 0x80 + 10), (0x30, 4, n), (0x48, 8, 1)]

/-- A tensor of rows of 32 BF16 elements (R259). -/
def rowTensor (base rows : Nat) : Bytes := build 128 [(0, 8, base), (8, 8, 0x101), (0x30, 4, 32), (0x34, 4, rows), (0x48, 8, 2), (0x50, 8, 64)]

/-- A tensor list of entries with their view words (R342). -/
def listOf (es : List (Nat × Bytes)) : Bytes := es.flatMap fun e => leBytes 64 e.1 ++ e.2

/-- The share window of region store. -/
def shareAt : Nat := 0xFFF000000000

theorem witness_counted_lanes : ∃ x, Offers (playing 1 2 0 17 []) 1 0 x ∧ decide (0 < x.excess.sum ∧ ((playing 1 2 0 17 []).partOf x.seq x.r).isSome = true) = true :=
  offers_such _ (by decide +kernel)

theorem witness_plate_rows :
    (∀ x, Offers ready 1 0 x → isScore 2 x.o = false) ∧
    (∃ x, Offers { ready with runs := [running (part (opBundle 1 2 0 + 1) 1) []] } 1 0 x ∧
      (isScore 2 x.o && State.fetchesBad { ready with runs := [running (part (opBundle 1 2 0 + 1) 1) []] } x) = true) ∧
    (∃ x, Offers (playing 1 2 0 17 []) 1 0 x ∧
      (isScore 2 x.o && !(playing 1 2 0 17 []).fetchesBad x && strictHit (x.g.image.takeCap x.o) x.takes) = true) ∧
    (let s : State := { playing 2 5 0 1 (listOf [(0, tensor shareAt 4096)]) with regions := [(0, { region with poison := [0x200000 / 64] })] }
     ∃ x, Offers s 1 0 x ∧ (isCellOp 0 5 x.o && !s.fetchesBad x && !strictHit (x.g.image.takeCap x.o) x.takes && (s.opened x).readsPoison x) = true) := by
  refine ⟨?_, offers_such _ (by decide +kernel), offers_such _ (by decide +kernel), offers_such _ (by decide +kernel)⟩
  rintro x ⟨rn, _, _, _, _, h, _⟩
  exact absurd (show ready.run? 1 = some rn from h) (by rw [show ready.run? 1 = none by decide +kernel]; simp)

theorem witness_control_operations : ∀ op ∈ [1, 4, 5, 6, 7], ∃ x s1, Issues (playing 0 op 0xFF 1 []) 1 0 0 op x s1 ∧ true := by
  intro op h
  exact issues_of (fun _ _ => true) ((by decide +kernel : ∀ op ∈ [1, 4, 5, 6, 7], issuesTest (playing 0 op 0xFF 1 []) 0 0 op (fun _ _ => true) = true) op h)

/-- A ready engine in which one set runs with a part of region 0 over a tensor list. -/
def playingPart (g : RegionRun) (list : Bytes) : State := { ready with runs := [running g list] }

theorem ready_wf : ready.WF :=
  wf_of (by decide +kernel)

theorem playing_wf (r : Run) : State.WF { ready with runs := [r] } :=
  { ready_wf with }

/-- A part in whose last LOOP bundle the excess 3 of the LOOP waits for register 5. -/
def spilling : RegionRun := { part (opBundle 0 1 0) 0 with spills := [⟨1, 5, [3], false⟩] }

theorem witness_loop_wait_end :
    (∃ x s1, Issues (playing 0 2 (2 ^ 28) 3 []) 1 0 0 2 x s1 ∧ true) ∧ (∃ x s1, Issues (playing 0 3 0x1FFF 0 []) 1 0 0 3 x s1 ∧ true) ∧
    (∃ x s1, Issues (playing 0 0x3F 0 0 []) 1 0 0 0x3F x s1 ∧ x.g.busy.isEmpty) ∧
    (∃ x s1, Issues (playingPart { part (bundle 0 (0x3F * 2 ^ 58) + 4 * 2 ^ 42) 0 with
      todo := [0], busy := [⟨11, 0, 4, 100, some 100, [], none, [], none, false⟩] } []) 1 0 0 0x3F x s1 ∧ !x.g.busy.isEmpty) ∧
    (let g := { part (opBundle 0 1 0) 0 with hold := 0x1000 }
     g.fresh = true ∧ g.issueAt = some 100 ∧ bitAt g.hold 12 = true) ∧
    spilling.spills = [⟨1, 5, [3], false⟩] ∧ spilling.next.loops.length < 1 := by
  refine ⟨?_, ?_, ?_, ?_, ?_, ?_, ?_⟩
  all_goals first | exact issues_of _ (by decide +kernel) | decide +kernel

theorem witness_staging : (∀ op ∈ [1, 5], ∃ x s1, Issues (playing 1 op 0 1 []) 1 0 1 op x s1 ∧ true) ∧
    columnFits (some ⟨257, false⟩) = true ∧ columnFits (some ⟨0, true⟩) = true := by
  refine ⟨fun op h => issues_of (fun _ _ => true) ?_, by decide, by decide⟩
  exact (by decide +kernel : ∀ op ∈ [1, 5], issuesTest (playing 1 op 0 1 []) 0 1 op (fun _ _ => true) = true) op h

/-- The same with a staging bank of context 0 that holds router 0. -/
def staged (n : Nat) (list : Bytes) : State := (playing 1 2 0 n list).modCtx 0 fun x => { x with banks := [(0, ⟨[], some (0, 0, 0), false, 0, false⟩)] }

/-- The bank that a SCORE of region 0 reads. -/
def bankOf (x : Op) (s : State) : Bank := (s.ctx x.c).banks.getD (bankKey 0 ((s.ctx x.c).active.getD 0 0)) ⟨[], none, false, 0, false⟩

theorem witness_scoring :
    (playing 1 2 0 1 []).WF ∧
    (∃ x s1, Issues (playing 1 2 0 1 []) 1 0 1 2 x s1 ∧ decide ((s1.ctx x.c).banks.get? 0 = none) = true) ∧
    (∃ x s1, Issues (staged 1 []) 1 0 1 2 x s1 ∧ decide (dsSpan (x.d 1) < x.n * passesOf x.rt x.o.shape * 131072) = true) ∧
    (∃ x s1, Issues (staged 1 (listOf [(0, tensor 0 0), (0, tensor shareAt 131072)])) 1 0 1 2 x s1 ∧
      decide (x.n * passesOf x.rt x.o.shape * 131072 = dsSpan (x.d 1) ∧ x.n = 1 ∧ (bankOf x s1).pair = (x.o.shape == 3) ∧
        (bankOf x s1).tag = some (x.o.router, (s1.ctx x.c).generation, 0) ∧ (bankOf x s1).poison = false) = true) ∧
    (∃ x s1, Issues (playing 1 3 0 1 (listOf [(0, tensor shareAt 131072), (0, tensor shareAt 270336)])) 1 0 1 3 x s1 ∧
      decide (inOneGroup x.cmd.windows (x.d 1) = true ∧ 270336 * (ceilDiv (x.n * shapeRows x.o.shape) 128 * passesOf x.rt x.o.shape) = dsSpan (x.d 1) ∧
        x.n * passesOf x.rt x.o.shape * 131072 = dsSpan (x.d 0)) = true) ∧
    (∃ x s1, Issues (playing 1 4 0 1 []) 1 0 1 4 x s1 ∧ decide (dsSpan (x.d 1) < x.n * passesOf x.rt x.o.shape * 131072) = true) ∧
    ∃ x s1, Issues (playing 1 4 0 1 (listOf [(0, tensor 0 0), (0, tensor shareAt 131072)])) 1 0 1 4 x s1 ∧
      decide (x.n * passesOf x.rt x.o.shape * 131072 = dsSpan (x.d 1) ∧ 0 < x.n) = true :=
  ⟨playing_wf _, by and_intros <;> exact issues_of _ (by decide +kernel)⟩

theorem witness_row_moves :
    (playing 2 1 0 1 []).WF ∧
    (∀ op ∈ [1, 2], ∃ x s1, Issues (playing 2 op 0 2 []) 1 0 2 op x s1 ∧
      decide (printMove x.cmd.list x.o = none ∧ localRows x.cmd s1.self 0 x.o.desc < x.n) = true) ∧
    (∀ op ∈ [1, 2], ∃ x s1, Issues (playing 2 op 0 2 (listOf [(0, rowTensor shareAt 2), (0, rowTensor (shareAt + 128) 2)])) 1 0 2 op x s1 ∧
      decide (printMove x.cmd.list x.o = none ∧ x.n = localRows x.cmd s1.self 0 x.o.desc ∧
        x.n = localRows x.cmd s1.self 0 (x.o.desc + 1) ∧ (s1.rowRead x.cmd x.r x.o.desc 0).isSome = true ∧
        localRow x.cmd s1.self x.r (x.o.desc + 1) 1 = some (shareAt + 192, 1) ∧ dsIndexed (x.d 1) = false ∧
        translate x.cmd.windows true (shareAt + 192) (dsRowBytes (x.d 0)) = some [⟨true, 0x200000 + 192, 64⟩]) = true) ∧
    (∀ fits : Bool, ∃ x s1, Issues (playing 2 1 0 1 (listOf [(5, rowTensor shareAt 1), (0, tensor (shareAt + 128) (if fits then 64 else 63))])) 1 0 2 1 x s1 ∧
      decide (printMove x.cmd.list x.o = some (0, 1) ∧ s1.printsFit x false 0 1 (x.g.image.printRouter x.cmd.list 1)
        (s1.columnTokens x (vwRowEntry (viewAt x.cmd.list 0)) x.n) = fits) = true) ∧
    ∀ fits : Bool, ∃ x s1, Issues (playing 2 2 0 1 (listOf [(0, tensor shareAt (if fits then 64 else 63)), (5, rowTensor (shareAt + 128) 1)])) 1 0 2 2 x s1 ∧
      decide (printMove x.cmd.list x.o = some (1, 0) ∧ s1.printsFit x true 1 0 (x.g.image.printRouter x.cmd.list 0)
        (s1.bufferTokens x (vwRowEntry (viewAt x.cmd.list 1)) x.n) = fits) = true := by
  refine ⟨playing_wf _, ?_, ?_, fun y => issues_of _ ?_, fun y => issues_of _ ?_⟩
  · intro y h; apply issues_of; revert y h; decide +kernel
  · intro y h; apply issues_of; revert y h; decide +kernel
  all_goals revert y; decide +kernel

/-- The same set with another entry of router 0. -/
def withRouter (s : State) (e : Bytes) : State := { s with runs := s.runs.map fun r => { r with routers := [(0, BitVec.ofNat 512 (leNat e))] } }

/-- The list of a SELECT of one group: its score tile and its records. -/
def selectList : Bytes := listOf [(0, tensor shareAt 270336), (0, tensor (shareAt + 0x100000) 4096)]

/-- Whether a SELECT of one group has room, and its first unit stands in its place or not. -/
def selects (placed : Bool) (x : Op) (s : State) : Bool :=
  decide (x.n = 1 ∧ x.n % max (rtPasses x.rt) 1 = 0 ∧ recordSize (rtK x.rt) * (128 * x.n) ≤ dsSpan (x.d 1) ∧ 270336 * x.n = dsSpan (x.d 0) ∧
    x.g.image.pairBase x.o = none ∧ s.unitOk x 0 x.o.router 0 = placed)

theorem witness_select_norm_burn :
    (∃ x s1, Issues (withRouter (playing 2 4 0 1 []) (putField router 2 2 257)) 1 0 2 4 x s1 ∧ decide (x.n % max (rtPasses x.rt) 1 ≠ 0) = true) ∧
    (∃ x s1, Issues (playing 2 4 0 1 []) 1 0 2 4 x s1 ∧
      decide (x.n % max (rtPasses x.rt) 1 = 0 ∧ dsSpan (x.d 1) < recordSize (rtK x.rt) * (128 * x.n)) = true) ∧
    (∃ x s1, Issues (playing 2 4 0 1 selectList) 1 0 2 4 x s1 ∧ selects true x s1 = true) ∧
    (∃ x s1, Issues (playing 2 4 (2 ^ 16) 1 selectList) 1 0 2 4 x s1 ∧ selects false x s1 = true) ∧
    (∃ x s1, Issues (playing 2 5 0 1 []) 1 0 2 5 x s1 ∧ decide (dsSpan (x.d 0) < recordSize (rtK x.rt) * (128 * x.n)) = true) ∧
    (∃ x s1, Issues (playing 2 5 0 1 (listOf [(0, tensor shareAt 4096)])) 1 0 2 5 x s1 ∧
      decide (recordSize (rtK x.rt) * (128 * x.n) = dsSpan (x.d 0)) = true) ∧
    ∃ x s1, Issues (playing 2 0xA 0 1 []) 1 0 2 0xA x s1 ∧ true := by
  and_intros <;> exact issues_of _ (by decide +kernel)

/-- The list of a SORT: its records in the fabric at 0, its manifest in region store. -/
def sortList : Bytes := listOf [(0, tensor 0 4096), (0, tensor shareAt 8384)]

/-- A SORT of one batch whose first record is valid and selects an expert; capacity entry 1 has no room in a lane. -/
def sorting (imm cap expert : Nat) : State :=
  let s := playing 2 6 (cap * 2 ^ 36 + imm) 1 sortList
  let full (x : RegionRun) : RegionRun := { x with image := { x.image with caps := x.image.caps.set 1 (BitVec.ofNat 64 (2 ^ 36)) } }
  { s with fabric := Memory.write [] 0 (build 32 [(3, 1, 1), (28, 1, expert)]),
           runs := s.runs.map fun r => { r with regions := r.regions.map fun e => (e.1, full e.2) } }

/-- What SORT's statement assumes of its counts: the records, their fault, the counts and the contributions. -/
def sortSees (x : Op) (s : State) : Option (Nat × Nat) × List Nat × Bool :=
  let rs := validRecords ((List.range (128 * x.n)).map (s.recordAt x x.o.desc (rtK x.rt)))
  let counts := (List.range (rtE x.rt)).map fun e => ((picksOf x.o.sPass (rtK x.rt) rs).filter fun a => enExpert a.entry == e).length
  (recordFault (x.table x.o.router) (rtE x.rt) (rtK x.rt) none rs, counts, strictHit (x.g.image.cap x.o.cap) (takeLanes (x.g.image.cap x.o.cap) counts))

/-- Whether SORT's tensors have room. -/
def sortRoom (x : Op) (s : State) : Bool :=
  let M := plM (x.table x.o.router)
  decide (dirSize M + entrySize (rtK x.rt) * 128 * x.n * min (rtK x.rt) (s.live.length + M - 1) ≤ dsSpan (x.d 1) ∧
    recordSize (rtK x.rt) * (128 * x.n) ≤ dsSpan (x.d 0))

theorem witness_sort :
    (∃ x s1, Issues (playing 2 6 0 1 []) 1 0 2 6 x s1 ∧ !sortRoom x s1) ∧
    (∃ x s1, Issues (sorting 0 0 1) 1 0 2 6 x s1 ∧ (sortRoom x s1 && decide ((sortSees x s1).1 = some (0, stRecordFault))) = true) ∧
    (∃ x s1, Issues (sorting (0x1000 + 0x40) 0 0) 1 0 2 6 x s1 ∧
      (sortRoom x s1 && decide ((sortSees x s1).1 = none ∧ x.o.sPass = 1 ∧ (sortSees x s1).2.1 = [0] ∧
        (List.range (rtE x.rt)).map (fun e => (x.g.cnt.getD x.o.sExcess []).getD e 0) = [1])) = true) ∧
    (∃ x s1, Issues (sorting 0 1 0) 1 0 2 6 x s1 ∧
      (sortRoom x s1 && decide ((sortSees x s1).1 = none ∧ x.o.sPass = 0 ∧ (sortSees x s1).2.2 = true)) = true) ∧
    ∃ x s1, Issues (sorting 0 0 0) 1 0 2 6 x s1 ∧
      (sortRoom x s1 && decide (x.n = 1 ∧ (sortSees x s1) = (none, [1], false) ∧ x.o.sPass = 0)) = true := by
  and_intros <;> exact issues_of _ (by decide +kernel)

/-- A part that has come to a PRINT of one row tensor's tokens behind a TEST that noted token 5. -/
def printing : RegionRun :=
  let b := bundle 2 (3 * 2 ^ 48 + 2 ^ 42 + 2 ^ 24 + 1)
  { part b 1 with
    image := { image with bundles := [BitVec.ofNat 512 (opBundle 2 3 0), BitVec.ofNat 512 b], caps := List.replicate 64 strict },
    bundle := 1, loadedTokens := [(0, [5])] }

theorem witness_delta_quant :
    (∃ x s1, Issues (playing 2 3 0 1 []) 1 0 2 3 x s1 ∧ decide (bits x.o.imm 1 0 = 0 ∧ dsSpan (x.d 2) < 16 * x.n) = true) ∧
    (∃ x s1, Issues (playing 2 3 0 1 (listOf [(0, rowTensor shareAt 1), (0, tensor (shareAt + 0x1000) 24576), (0, tensor (shareAt + 0x10000) 16)])) 1 0 2 3 x s1 ∧
      decide (bits x.o.imm 1 0 = 0 ∧ 16 * x.n = dsSpan (x.d 2) ∧ 128 * x.n * rtPrintBytes x.rt ≤ dsSpan (x.d 1)) = true) ∧
    (∃ x s1, Issues (playing 2 3 1 1 []) 1 0 2 3 x s1 ∧ decide (bits x.o.imm 1 0 = 1 ∧ s1.printFits x x.printed = true) = true) ∧
    (∃ x s1, Issues (playingPart printing []) 1 0 2 3 x s1 ∧
      decide (bits x.o.imm 1 0 = 1 ∧ x.printed = [5] ∧ s1.printFits x x.printed = false) = true) ∧
    ∃ x s1, Issues (playing 2 9 0 1 []) 1 0 2 9 x s1 ∧ true := by
  and_intros <;> exact issues_of _ (by decide +kernel)

/-- An engine of two live regions, edge 0 of each toward the other. -/
def paired (s : State) : State :=
  { s with regions := [(0, region), (1, region)],
           bringUp := { s.bringUp with topology := build 0x100 [(0x48, 1, 9), (0x4D, 1, 0), (0xC8, 1, 8)] } }

/-- A part whose registers have so many lanes, count register 1 holding the values given. -/
def withLanes (g : RegionRun) (l : List Nat) : RegionRun :=
  { g with image := { g.image with lanes := List.replicate 64 l.length }, cnt := [(1, l)] }

/-- A state whose fabric holds at 0 a manifest directory (R114) that gives one lane so many entries behind it. -/
def directed (s : State) (lane n : Nat) : State := withBytes s (zeros (16 * lane) ++ leBytes 8 (192 * 2 ^ 32 + n))

/-- A list of a manifest of so many bytes with its view, and of the records behind it. -/
def sendList (view n : Nat) : Bytes := listOf [(view, tensor 0 n), (0, tensor shareAt 4096)]

theorem witness_sends :
    (∀ fits : Bool, ∃ x s1,
      Issues (paired (directed (playingPart (withLanes (part (opBundle 6 2 (2 ^ 5)) 1) [0, 1]) (sendList 1 (if fits then 8384 else 255))) 1 1)) 1 0 6 2 x s1 ∧
      decide (s1.path 0 x.o.region = [(0, 0)] ∧ s1.sendFits x = fits) = true) ∧
    (∀ fits : Bool, ∃ x s1, Issues (directed (playing 7 1 (3 * 2 ^ 14) 1 (sendList 3 (if fits then 8384 else 255))) 8 1) 1 0 7 1 x s1 ∧
      decide (x.o.port = 3 ∧ s1.sendFits x = fits) = true) ∧
    (∀ fits : Bool, ∃ x s1, Issues (directed (playing 2 7 0 1 (sendList 1 (if fits then 8384 else 255) ++ listOf [(0, tensor (shareAt + 0x10000) 8384)])) 0 1) 1 0 2 7 x s1 ∧
      decide (s1.sendFits x = fits ∧ s1.recvFault x (s1.outgoing x).2.header = none) = true) ∧
    (∃ x s1, Issues (playing 2 7 0 1 (listOf [(0x11, tensor 0 0)])) 1 0 2 7 x s1 ∧
      decide (s1.sendFits x = true ∧ s1.recvFault x (s1.outgoing x).2.header = some stManifestMismatch) = true) ∧ ready.WF := by
  refine ⟨fun y => issues_of _ ?_, fun y => issues_of _ ?_, fun y => issues_of _ ?_, issues_of _ (by decide +kernel), ready_wf⟩ <;>
    revert y <;> decide +kernel

/-- A halt of a plate in cycle 90. -/
def halted : Halt := ⟨stRecordFault, 0, 0, 90⟩

/-- The same set with a part of region 1 too. -/
def withPart (s : State) (g : RegionRun) : State := { s with runs := s.runs.map fun r => { r with regions := r.regions ++ [(1, g)] } }

/-- The header of a stream of no entries from region 1, and the list of a receive of it. -/
def emptyHeader : Bytes := countHeader 0 0 0 0 0 1 0 0 0 0 64 64
def recvList (view : Nat) : Bytes := listOf [(view, tensor 0 0), (0, tensor 0 0), (0, tensor shareAt 8384)]

/-- A receive that waits in unit u until cycle 1124, and a set of region 0 that runs it. -/
def recvBusy (u op : Nat) : Busy := ⟨u, 0, op, 100, none, [], none, [], some 1124, false⟩
def receiving (u slot op : Nat) : RegionRun :=
  { part (opBundle slot op (if slot = 6 then 2 ^ 5 else 2 ^ 12)) 0 with busy := [recvBusy u op], todo := [] }

/-- Whether a receive stands behind a halt of its source, or is a ROW phase that follows no ENTRY phase. -/
def orphanRecv (x : Op) : Bool :=
  decide (vwPhase x.view = 1 ∧ vwReturn x.view = false ∧ x.streams false (vwKind x.view) 0 false = [])
def sourceHalt (x : Op) : Option Nat := (x.run.regions.get? x.o.region).bind fun g => g.halt.map fun h => max h.tc x.t

theorem witness_receives :
    (∃ x s1, Issues (paired (playing 6 3 (2 ^ 5) 0 [])) 1 0 6 3 x s1 ∧ decide (x.run.regions.get? x.o.region = none) = true) ∧
    (∃ x s1, Issues (withPart (paired (playing 6 3 (2 ^ 5) 0 [])) { part 0 0 with halt := some halted }) 1 0 6 3 x s1 ∧
      decide (sourceHalt x = some 100) = true) ∧
    (∀ phase : Bool, ∃ x s1, Issues (withPart (paired (playing 6 3 (2 ^ 5) 0 (listOf [(if phase then 0x11 else 1, tensor 0 0)]))) (part 0 0)) 1 0 6 3 x s1 ∧
      decide (sourceHalt x = none ∧ (x.run.regions.get? x.o.region).isSome = true ∧ orphanRecv x = phase) = true) ∧
    (∀ phase : Bool, ∃ x s1, Issues (playing 7 2 (3 * 2 ^ 14) 1 (listOf [(if phase then 0x13 else 3, tensor 0 0)])) 1 0 7 2 x s1 ∧
      decide (x.o.port = 3 ∧ orphanRecv x = phase) = true) ∧
    (let g := receiving 5 6 3
     let s := { paired ready with runs := [running g (recvList 1)], regions := [(0, { region with
       transfers := [⟨1, 1, 0, 0, false, 0, 64, 90, 0, emptyHeader, 0, false, false, false⟩] }), (1, region)] }
     let x := RegionRun.asOp (running g (recvList 1)) 0 g (recvBusy 5 3)
     s.run? 1 = some (running g (recvList 1)) ∧ g.waitingRecv 5 = some (recvBusy 5 3) ∧ x.o.slot = 6 ∧
       (s.matching x).map (fun m => (m.1, m.2.bytes)) = some (0, emptyHeader) ∧ s.recvFault x emptyHeader = none ∧ hdCount emptyHeader = 0 ∧
       emptyHeader.length = 64) ∧
    (let g := receiving 6 7 2
     let s := { ready with runs := [running g (recvList 3)], regions := [(0, { region with landing := [⟨0, 1024, 1, emptyHeader, true, true, false⟩] })] }
     let x := RegionRun.asOp (running g (recvList 3)) 0 g (recvBusy 6 2)
     g.waitingRecv 6 = some (recvBusy 6 2) ∧ x.o.slot = 7 ∧ (s.region 0).tc ≤ 1124 ∧
       (((s.region 0).landing.zipIdx).find? fun e => !e.1.mapped && e.1.ctx == x.c && e.1.member == (s.peerOf 0 0).getD 1024 && e.1.cls == x.o.cls) =
         some (⟨0, 1024, 1, emptyHeader, true, true, false⟩, 0) ∧ s.recvFault x emptyHeader = none ∧
       streamBytes emptyHeader (itemBytes x.run.routers x.cmd.list x.o.desc) = 64) := by
  refine ⟨issues_of _ (by decide +kernel), issues_of _ (by decide +kernel), fun y => issues_of _ ?_, fun y => issues_of _ ?_,
    by decide +kernel, by decide +kernel⟩ <;> revert y <;> decide +kernel

/-- A COMBINE's list: its manifest or records, its sources or manifest, and its terms, with the COMBINE view of router 0. -/
def combineList (a b c : Nat) : Bytes :=
  listOf [(0, tensor 0 a), (6, tensor shareAt b), (0, tensor (shareAt + 0x10000) c)]

/-- A FINAL of one batch whose first record is valid and whose manifest, of so many bytes, gives lane 0 one entry. -/
def final (n : Nat) : State :=
  { playing 2 8 (2 * 2 ^ 14) 1 (listOf [(0, tensor 0 4096), (6, tensor 8192 n), (0, tensor (shareAt + 0x10000) 8192), (0, tensor 0 0), (0, tensor 0 0),
      (0, rowTensor shareAt 2)]) with
    fabric := Memory.write (Memory.write [] 0 (leBytes 4 0x1000001)) 8192 (leBytes 8 (192 * 2 ^ 32 + 1)) }

/-- The three conditions on a FINAL's tensors. -/
def finalRoom (x : Op) (s : State) : Bool × Bool × Bool :=
  (recordSize (rtK x.rt) * (128 * x.n) ≤ dsSpan (x.d 0), s.finalFits x, s.cursorsFit x)

theorem witness_combine :
    (∃ x s1, Issues (playing 2 8 0 0 []) 1 0 2 8 x s1 ∧ decide (x.o.cMode = 0 ∧ s1.termFits x = true ∧ (s1.termEnd x).isSome = true) = true) ∧
    (∃ x s1, Issues (playing 2 8 0 1 (combineList 8192 0 0)) 1 0 2 8 x s1 ∧ decide (x.o.cMode = 0 ∧ s1.termFits x = false) = true) ∧
    (let wait : RegionRun := { part (opBundle 2 8 0) 0 with works := [(0, ⟨2, 0, 1, 90, 0, 0, []⟩)], handOvers := [(2, ⟨0, [0], [1], [[0]], 64, 0, 0, 1⟩)] }
     ∃ x s1, Issues (playingPart wait []) 1 0 2 8 x s1 ∧ decide (x.o.cMode = 0 ∧ s1.termFits x = true ∧ s1.termEnd x = none) = true) ∧
    (∀ n ∈ [4096, 191], ∃ x s1, Issues (playing 2 8 (2 ^ 14) 1 (combineList n 0 0)) 1 0 2 8 x s1 ∧
      decide (x.o.cMode = 1 ∧ x.n = 1 ∧ s1.packageFits x = decide (192 ≤ n)) = true) ∧
    (∃ x s1, Issues (playing 2 8 (2 * 2 ^ 14) 1 []) 1 0 2 8 x s1 ∧ decide (x.o.cMode = 2 ∧ (finalRoom x s1).1 = false) = true) ∧
    (∃ x s1, Issues (final 0) 1 0 2 8 x s1 ∧ decide (x.o.cMode = 2 ∧ x.n = 1 ∧ finalRoom x s1 = (true, true, false)) = true) ∧
    (∃ x s1, Issues (playing 2 8 (2 * 2 ^ 14) 1 (combineList 4096 4096 0)) 1 0 2 8 x s1 ∧
      decide (x.o.cMode = 2 ∧ finalRoom x s1 = (true, true, true) ∧ (s1.combineBatches x (s1.cursors x) 0 x.n).2 = none) = true) ∧
    ∃ x s1, Issues (final 8384) 1 0 2 8 x s1 ∧
      decide (x.o.cMode = 2 ∧ finalRoom x s1 = (true, true, true) ∧ (s1.combineBatches x (s1.cursors x) 0 x.n).2 = some 0) = true := by
  refine ⟨?_, ?_, ?_, fun n h => issues_of _ ?_, ?_, ?_, ?_, ?_⟩
  case refine_4 => revert n h; decide +kernel
  all_goals exact issues_of _ (by decide +kernel)

/-- A hand-over of one row of router 0 by CNT 1 to register 2. -/
def handOver : HandOver := ⟨0, [0], [1], [[0]], 64, 0, 0, 1⟩

/-- A NET_MOVE of one entry whose manifest in the fabric gives it so many slots for an expert; capacity entry 1 bounds a lane at 1. -/
def moving (cap slots expert : Nat) : State :=
  let s := playing 6 1 (cap * 2 ^ 14) 1 (listOf [(1, tensor 0 8384), (0, rowTensor shareAt 1)])
  let full (x : RegionRun) : RegionRun := { x with image := { x.image with caps := x.image.caps.set 1 (BitVec.ofNat 64 (16 * 2 ^ 32 + 2 ^ 8)) } }
  { s with
    fabric := Memory.write (Memory.write [] 0 (leBytes 8 (192 * 2 ^ 32 + 1))) 192 (leBytes 8 (slots * 2 ^ 53) ++ zeros 8 ++ leBytes 8 (expert * 2 ^ 32)),
    runs := s.runs.map fun r => { r with regions := r.regions.map fun e => (e.1, full e.2) } }

/-- Whether an operation stays in its tensors, whether a slot is out of place, and the counts of the local experts. -/
def moveSees (x : Op) (s : State) : Bool × Bool × List Nat :=
  let locals := ((s.fillWeights x).moveEntries x).flatMap fun e => (meSlotsOf e.2).map (localExpert x.vTable 0)
  (s.moveFits x, locals.contains none, (List.range (plN x.vTable 0)).map fun l => (locals.filter fun v => v == some l).length)

/-- Whether the basins of one list and one row can be had. -/
def moveTakes (x : Op) (s : State) : Bool := ((s.fillWeights x).allocAll x.c 0 [(4, 1), (64, 1)]).2.isSome

/-- The same context with two 256-byte basins in its store pool. -/
def withBasins (s : State) : State := s.modCtx 0 fun x => { x with record := putField x.record 0x30 4 2 }

theorem witness_hand_over_move :
    (∃ x s1, Issues (playing 6 1 0 1 (listOf [(1, tensor 0 0)])) 1 0 6 1 x s1 ∧ decide (s1.moveFits x = false) = true) ∧
    (∃ x s1, Issues (playing 6 1 0 0 (listOf [(1, tensor 0 0)])) 1 0 6 1 x s1 ∧ decide (moveSees x s1 = (true, false, [0])) = true) ∧
    (∃ x s1, Issues (moving 0 1 1) 1 0 6 1 x s1 ∧ decide (moveSees x s1 = (true, true, [0])) = true) ∧
    (∃ x s1, Issues (moving 1 2 0) 1 0 6 1 x s1 ∧ decide (moveSees x s1 = (true, false, [2]) ∧ capLane (x.g.image.cap x.o.cap) = 1) = true) ∧
    (∃ x s1, Issues (moving 1 1 0) 1 0 6 1 x s1 ∧
      decide (moveSees x s1 = (true, false, [1]) ∧ capLane (x.g.image.cap x.o.cap) = 1 ∧ moveTakes x s1 = false) = true) ∧
    ∃ x s1, Issues (withBasins (moving 1 1 0)) 1 0 6 1 x s1 ∧
      decide (moveSees x s1 = (true, false, [1]) ∧ capLane (x.g.image.cap x.o.cap) = 1 ∧ moveTakes x s1 = true) = true := by
  and_intros <;> exact issues_of _ (by decide +kernel)

/-- A list of the handle tensor of a basin operation: one handle in region store. -/
def handleList : Bytes := listOf [(0, tensor shareAt 1)]

/-- A part at a REFDEC of the hand-over of a NET_MOVE by register 2, with the hand-overs given. -/
def releasing (l : Tab HandOver) : RegionRun :=
  let b := BitVec.ofNat 512 (bundle 8 (4 * 2 ^ 26 + 2 * 2 ^ 20))
  { part b.toNat 0 with
    image := { image with bundles := [b, BitVec.ofNat 512 (opBundle 6 1 0)], caps := List.replicate 64 strict }, cnt := [(2, [1])], handOvers := l }

theorem witness_hand_over_basins :
    (let y := (withBasins ready).ctx 0
     y.basins.sorted ∧ (∀ e ∈ y.basins, e.1 < 2 ^ 32) ∧ (∀ k, k < 6 → poolCount y 0 k ≤ 2 ^ 25) ∧ pickBasin y 0 7 256 = some (mkHandle 0 0 7 0)) ∧
    (∀ op ∈ [1, 3, 4], ∃ x s1, Issues (playing 8 op 0 2 []) 1 0 8 op x s1 ∧ decide (x.g.image.handRelease x.o = false ∧ dsCount (x.d 0) < x.n) = true) ∧
    (∀ op ∈ [1, 3, 4], ∃ x s1, Issues (withBasins (playing 8 op 0 1 handleList)) 1 0 8 op x s1 ∧
      decide (x.g.image.handRelease x.o = false ∧ x.n = dsCount (x.d 0)) = true) ∧
    ((∃ x s1, Issues (withBasins (playing 8 1 0 1 handleList)) 1 0 8 1 x s1 ∧ decide ((s1.allocEach x 0 x.n).2 = none) = true) ∧
     (∃ x s1, Issues (playing 8 1 0 1 handleList) 1 0 8 1 x s1 ∧ decide ((s1.allocEach x 0 x.n).2 = some 0) = true) ∧
     (∃ x s1, Issues (playing 8 3 0 1 handleList) 1 0 8 3 x s1 ∧ decide ((s1.freeEach x true 0 (s1.handlesOf x)).2 = some 0) = true) ∧
     (∃ x s1, Issues (playing 8 4 0 0 handleList) 1 0 8 4 x s1 ∧ decide ((s1.freeEach x false 0 (s1.handlesOf x)).2 = none) = true) ∧
     (∃ x s1, Issues (playingPart (releasing []) []) 1 0 8 4 x s1 ∧ decide (x.g.image.handRelease x.o = true ∧ x.g.handOvers.get? x.o.cnt = none) = true) ∧
     (∃ x s1, Issues (playingPart (releasing [(2, handOver)]) []) 1 0 8 4 x s1 ∧
       decide (x.g.image.handRelease x.o = true ∧ x.g.handOvers.get? x.o.cnt = some handOver ∧
         (s1.freeLists x 0 (handOver.listHandles.zip (x.takes.map (·.1)))).2 = some 0) = true) ∧
     (∃ x s1, Issues (playing 8 2 0 1 []) 1 0 8 2 x s1 ∧ decide (x.g.handOvers.get? x.o.cnt = none) = true) ∧
     ∃ x s1, Issues (playingPart { part (opBundle 8 2 0) 0 with handOvers := [(1, handOver)] } []) 1 0 8 2 x s1 ∧
       decide (x.g.handOvers.get? x.o.cnt = some handOver) = true) ∧
    (decBasin { boss with basins := [(5, ⟨1, false⟩)] } 5).basins = [] := by
  refine ⟨by decide +kernel, ?_, ?_, by and_intros <;> exact issues_of _ (by decide +kernel), by decide +kernel⟩ <;>
    intro y h <;> apply issues_of <;> revert y h <;> decide +kernel

/-- Group 0 formed with so many live members, 0 the first. -/
def withGroup (s : State) (n : Nat) (calls : List Call) : State :=
  { s with groups := [(0, { Group.undefined with defined := true, state := 1, members := List.range n, live := List.range n, calls := calls })] }

/-- A call of the set numbered 1 in which region 0 takes part. -/
def setCall (phase : Nat) : Call := { newCall none (some 1) 1 0 1 3 100 with phase := phase }

theorem witness_confluence_slot :
    (∀ op ∈ [1, 2], ∃ x s1, Issues (withPart (paired (withGroup (playing 9 op 0 0 []) 1 [])) { part 0 0 with halt := some halted }) 1 0 9 op x s1 ∧
      decide (x.sharedHalt = some 100) = true) ∧
    (∀ op ∈ [1, 2, 3], ∃ x s1, Issues (withGroup (playing 9 op 0 0 []) 1 []) 1 0 9 op x s1 ∧
      decide (x.sharedHalt = none ∧ (s1.group x.o.group).live.length = 1) = true) ∧
    (∀ op ∈ [1, 3], ∃ x s1, Issues (withGroup (playing 9 op 0 0 []) 2 [setCall 2]) 1 0 9 op x s1 ∧
      decide (x.sharedHalt = none ∧ (s1.group x.o.group).live.length = 2 ∧ (s1.group x.o.group).calls.map (·.run) = [some 1]) = true) ∧
    ∃ x s1, Issues (playing 9 4 0 0 []) 1 0 9 4 x s1 ∧ true := by
  refine ⟨?_, ?_, ?_, issues_of (fun _ _ => true) (by decide +kernel)⟩ <;> intro y h <;> apply issues_of <;> revert y h <;> decide +kernel

/-! ### The issue rule, the epoch, ends and timeouts -/

/-- A LAYER_RUN of set 15 latched at the head of a ring of context 0. -/
def runCmd : Command := { latched [(0, 1, 0x20), (24, 1, 15), (25, 1, 1)] 1 with list := zeros 192, counts := zeros 256 }
def waiting : State :=
  ready.modCtx 0 fun x => { x with sets := [(15, (1, [image]))], heads := [(3, ⟨runCmd.raw, some { runCmd with ring := 3 }, 3⟩)] }

theorem witness_issue_point :
    State.reset.bringState < 10 ∧ (waiting.bringState = 10 ∧ waiting.led = true ∧ waiting.power.held = false ∧ waiting.power.powerFail = false) ∧
      (ready.ctx 0).state = 1 ∧ ready.offer 0 = none ∧ (waiting.ctx 0).state = 1 ∧ waiting.offer 0 = some { runCmd with ring := 3 } ∧
      isSetOp (cmdOp runCmd.raw) = true := by decide +kernel

/-- A set of region 0 issued for cycle 576 and not started; its command names router 0 by a view when asked to. -/
def issued (view : Nat) : State :=
  { waiting with runs := [{ running { part (bundle 0 (0x3F * 2 ^ 58)) 0 with todo := [] } [] with
      cmd := { runCmd with list := listOf [(view, tensor 0 0)] }, started := false, epoch := 576 }] }

/-- The same set with one operation before END in its part, over a list of tensors. -/
def issuedOp (slot op : Nat) (list : Bytes) : State :=
  { issued 0 with runs := (issued 0).runs.map fun x => { x with
      cmd := { x.cmd with list := list },
      regions := [(0, { part (opBundle slot op 0) 1 with image := { image with
        bundles := [BitVec.ofNat 512 (opBundle slot op 0), BitVec.ofNat 512 (bundle 0 (0x3F * 2 ^ 58))], caps := List.replicate 64 strict, wcet := 64 } })] } }

/-- What EPOCH_START finds of a set not started: the failure of the checks as latched, the placements' failure, whether all lanes fit, and
whether its regions' clocks run. -/
def starts (s : State) : Option (Option (Nat × Nat × Nat) × Option Nat × Bool × Bool) :=
  (s.run? 1).bind fun x =>
    let lanes (ts : Tab Bytes) := x.regions.all fun g => g.2.image.ops.all fun o => lanesOk ts x.cmd.list g.2.image o.2
    let at_ := s.placementsOf x.cmd (s.commandRouters x.cmd)
    if x.started || !decide x.regions.sorted then none
    else some (s.latchCheck x.cmd (x.regions.map fun g => g.2.image), (match at_ with | .error c => some c | .ok _ => none),
      (match at_ with | .error _ => false | .ok ts => lanes ts), x.regions.all fun g => (s.region g.1).clocks)

theorem issued_wf : (issued 0).WF := wf_of (by decide +kernel)

theorem witness_epoch_start :
    (ready.run? 1 = none ∧ ((playing 0 1 0 0 []).run? 1).map (·.started) = some true) ∧
    starts { issuedOp 9 1 [] with groups := [(0, { Group.undefined with state := 3 })] } = some (some (stNotMember, 0, 0), none, true, true) ∧
    starts ((issued 1).modCtx 0 fun x => { x with sets := [(15, (1, [{ image with bundles := [BitVec.ofNat 512 (opBundle 6 1 0)] }]))] }) =
      some (none, some stPlacementFault, false, true) ∧
    starts (issuedOp 7 2 (recvList 3)) = some (none, none, false, true) ∧ starts (issued 0) = some (none, none, true, true) := by
  and_intros <;> decide +kernel

/-- A set whose unit u runs an operation of a bundle: its end when it is fixed, the halt it brings when it fails a check. -/
def busying (slot op rest u : Nat) (ends : Option Nat) (halts : Option Nat) : RegionRun :=
  { part (opBundle slot op rest) 0 with busy := [⟨u, 0, op, 100, ends, [(7, [3])], halts, [], none, false⟩], todo := [] }

/-- What stands in unit 12 of region 0 of the set numbered 1: its end, its halt and whether its bundle still issues. -/
def unit12 (g : RegionRun) : Option (Option Nat × Option Nat × Bool) :=
  ((playingPart g []).partOf 1 0).bind fun g => (g.busy.find? fun b => b.unit == 12).map fun b => (b.ends, b.halts, g.issuing b)

theorem witness_operation_end :
    (ready.partOf 1 0).isNone = true ∧ unit12 (busying 0 1 0 12 none none) = some (none, none, true) ∧
    unit12 (busying 0 1 0 12 (some 101) none) = some (some 101, none, true) ∧
    (∀ op ∈ [1, 7], unit12 { busying 0 op 0 12 (some 101) none with todo := [0] } = some (some 101, none, false)) ∧
    unit12 { busying 0 1 0 12 (some 101) (some stRecordFault) with todo := [0] } = some (some 101, some stRecordFault, false) ∧
    bits (0xFFFFFF00 : W32).toNat 3 0 = 0 := by decide +kernel

/-- A part with an expert tile's row that has not come, which a TERM waits for or none. -/
def tardy (term : Bool) : RegionRun :=
  { busying 2 8 0 1 (if term then none else some 101) none with works := [(0, ⟨2, 0, 1, 90, 0, 0, []⟩)] }

theorem witness_timeouts :
    (let g := busying 7 2 1 6 none none
     ((playingPart g []).run? 1).bind (fun x => x.regions.get? 0) = some g ∧ (g.waitingRecv 6).isSome = true ∧ g.waitingRecv 7 = none) ∧
    (ready.tileDeadline 0 (part 0 0) = none ∧ ∀ term : Bool, (ready.tileDeadline 0 (tardy term)).isSome = true ∧
      ((tardy term).busy.find? fun b => b.ends.isNone && ((tardy term).opOf b).isTerm).isSome = term) ∧
    (ready.extOp 0 = none ∧
     let other : Run := { running (part 0 0) [] with cmd := latched [(0, 1, 0x20)] 2 }
     let s : State := { ready with runs := [running (busying 1 4 0 0 none none) [], other] }
     (s.extOp 0).map (·.1.cmd.seq) = some 1 ∧ (s.run? 1).isSome = true ∧ (s.run? 2).map (·.regions.map (·.1)) = some [0]) ∧
    (∀ op ∈ [1, 3], ((busying 9 op 1 11 none none).busy.find? fun b => b.unit == 11 && b.ends.isNone && (b.opcode == 1 || b.opcode == 3)).isSome = true) ∧
    ((part 0 0).busy.find? fun b => b.unit == 11 && b.ends.isNone && (b.opcode == 1 || b.opcode == 3)) = none ∧
    waiting.credited { runCmd with ring := 3 } = true := by decide +kernel

/-- A LINK_SEND's set at a ring head, toward a member without credit. -/
def unpaid : State :=
  let b := BitVec.ofNat 512 (opBundle 7 1 (2 ^ 12))
  let m := { runCmd with list := listOf [(3, tensor 0 0)] }
  (ready.setF (pgLink 0 0) Fld.LINK_PEER_VALID 1).modCtx 0 fun x =>
    { x with sets := [(15, (1, [{ image with bundles := [b], caps := List.replicate 64 strict }]))], heads := [(0, ⟨m.raw, some m, 3⟩)],
             routers := [(0, BitVec.ofNat 512 (leNat router))] }

theorem witness_credit_wait : ((unpaid.ctx 0).heads.get? 0).bind (·.cmd) = some { runCmd with list := listOf [(3, tensor 0 0)] } ∧
    isSetOp (cmdOp runCmd.raw) = true ∧ unpaid.credited { runCmd with list := listOf [(3, tensor 0 0)] } = false := by decide +kernel

theorem witness_stop_bath :
    let s := playing 0 1 0 0 []
    ready.releaseCycle 0 .start = none ∧ s.releaseCycle 0 .start = some 100 ∧ s.slotWait 0 .start 5 = s ∧
      ((s.run? 1).bind fun x => x.regions.get? 0).map (·.ended) = some none ∧ (s.run? 1).map (·.started) = some true ∧
      ((issued 0).run? 1).map (·.started) = some false := by decide +kernel

/-- Context 1 in a state of residency, its save area at an address, saved or not. -/
def moved (k base : Nat) (saved : Bool) : State := (second [(0x18, 8, base)]).modCtx 1 fun x => { x with state := k, saved := saved }

theorem witness_residency :
    (ready.portsIdle = true ∧ (ready.ctx 0).state ≠ 4 ∧ (ready.ctx 0).state ≠ 3 ∧ (ready.ctx 0).state ≠ 5 ∧ State.reset.relocating = false) ∧
    (∀ k ∈ [3, 4], ((moved k 0 false).ctx 1).state = k ∧ (moved k 0 false).portsIdle = true ∧ ((moved k 0 false).ctx 1).saved = false ∧
      ((moved k 0 true).ctx 1).saved = true) ∧
    ((moved 4 0 true).writeImage 1).isSome = true ∧ (moved 4 0x1000000000 true).writeImage 1 = none ∧
    ((moved 5 0 false).ctx 1).state = 5 ∧ ((moved 5 0 false).ctx 1).share = some (3, 2) ∧ 0 ∈ (moved 5 0 false).live ∧
    ((ready.modCtx 0 fun x => { x with state := 5 }).ctx 0).state = 5 ∧ { ready with relocating := true }.relocating = true := by
  and_intros <;> decide +kernel

/-- The failure of a load, if it fails. -/
def loadFails (s : State) : Option Nat := match s.loadImage 1 with | .ok _ => none | .error c => some c

theorem crc64_zeros (n : Nat) : crc64 (zeros n) = 0 := by
  have h : ∀ l : Bytes, (∀ b ∈ l, b = 0) → crc64From 0 l = 0 := by
    intro l
    induction l with
    | nil => intro _; rfl
    | cons b l ih =>
      intro hl
      obtain rfl := hl b (.head _)
      have e : crc64Shift 8 (Nat.xor 0 ((0 : Byte).toNat * 2 ^ 56)) = 0 := by decide +kernel
      have step : crc64From 0 ((0 : Byte) :: l) = crc64From (crc64Shift 8 (Nat.xor 0 ((0 : Byte).toNat * 2 ^ 56))) l := List.foldl_cons ..
      rw [step, e]
      exact ih fun c hc => hl c (.tail _ hc)
  exact h _ fun b hb => List.eq_of_mem_replicate hb

/-- A save area of zeros behind a CRC word: the load comes to whether that word is 0. -/
theorem load_of_zeros {s : State} {n : Bytes} (h0 : s.readCtx (s.ctx 1).windows s.leader (recStateBase (s.ctx 1).record + 0) 8 = some n)
    (h1 : s.readCtx (s.ctx 1).windows s.leader (recStateBase (s.ctx 1).record + 0x40) 512 = some (zeros 512)) (hr : (s.ctx 1).routers = [])
    (hs : s.slots = []) : loadFails s = if leNat n = 0 then none else some stContextFault := by
  have hb : ((List.range 16).filterMap fun k =>
      let t := ((zeros 512).drop (64 * (k / 2) + 24 * (k % 2))).take 24
      if field t 0 1 = 0 ∧ field t 4 4 = 0 then none else some (k, t)) = [] := by decide +kernel
  simp only [loadFails, State.loadImage, h0, h1, hr, hs, hb, List.filter_nil, List.mapM_nil, List.flatten_nil, List.append_nil, crc64_zeros, pure]
  by_cases e : leNat n = 0
  · simp [e]
  · simp [e, Ne.symm e]

theorem witness_load_image :
    loadFails (moved 3 0 true) = none ∧ loadFails (moved 3 0x1000000000 true) = some stBoundsFault ∧
    loadFails (withBytes (moved 3 0 true) [1]) = some stContextFault := by
  refine ⟨(load_of_zeros (n := zeros 8) ?_ ?_ rfl rfl).trans (by decide), by decide +kernel,
    (load_of_zeros (n := leBytes 8 1) ?_ ?_ rfl rfl).trans (by decide)⟩ <;> decide +kernel

theorem witness_teardown_form : ((second []).modCtx 1 fun x => { x with state := 5 }).WF :=
  wf_of (by decide +kernel)

theorem witness_budgets :
    0 ∈ ready.live ∧ 1 ∉ ready.live ∧ ready.pageAnswers pgSched = true ∧ State.reset.pageAnswers pgSched = false ∧
      recPriority (ready.ctx 0).record = 0 ∧
      (((second [(3, 1, 1), (0x10, 4, 100), (0x14, 4, 1)]).ctx 1).state ≠ 0 ∧ recPriority ((second [(3, 1, 1), (0x10, 4, 100), (0x14, 4, 1)]).ctx 1).record = 1) := by
  decide +kernel

/-! ### Operands that do not fit -/

/-- A command whose operand does not fit, which ends on it. -/
def unfit (i : Instr) : Bool := !wellFormed i && match exec i ready with | .fault .malformed => true | _ => false

/-- A region's self-test that found nothing, and training results of four lanes. -/
def cleanTest : RegionTest := ⟨0, false, 0, [], [], [], 100⟩
def fourLanes : LinkTrainResult := ⟨15, true, false, [0, 0, 0, 0], 0⟩

theorem test_empty_packet_does_not_fit : unfit (.armPacket 0 0 []) = true ∧ unfit (.space 0 0 []) = true ∧ unfit (.landing 0 0 []) = true ∧ unfit (.probe 0 0 [] 0) := by decide +kernel
theorem test_long_packet_does_not_fit : unfit (.relay 0 0 (zeros 4161)) = true := by decide +kernel
theorem test_long_frame_does_not_fit : unfit (.frameReceive 0 0 ⟨0, zeros 15361, 0, 0, false⟩) = true := by decide +kernel
theorem test_long_flit_does_not_fit : unfit (.edgeFlitReceive 0 0 0 (zeros 257)) = true := by decide +kernel
theorem test_broken_tile_does_not_fit : unfit (.expertOutputTile 0 0 [] ⟨false, []⟩) = true ∧ unfit (.extScoreBlock 0 0 (zeros 65) ⟨false, []⟩) := by decide +kernel
theorem test_three_lanes_do_not_fit : unfit (.linkTrainStep 0 0 { fourLanes with eq := [0, 0, 0] }) = true := by decide +kernel
theorem test_nine_tests_do_not_fit : unfit (.bringupStep ⟨0, List.replicate 9 cleanTest, 0, false⟩) = true := by decide +kernel
theorem test_long_boundary_does_not_fit : unfit (.wsExtest 0 (zeros 1025)) = true ∧ unfit (.wsIntest 0 (zeros 1025)) = true ∧ unfit (.scan 0 (zeros 1025)) := by decide +kernel
theorem test_column_past_array_does_not_fit : unfit (.score 1 0 (some ⟨258, false⟩)) = true ∧ unfit (.stageLoad 1 0 (some ⟨300, true⟩)) = true := by decide +kernel

/-! ### Statements about every command -/

theorem witness_step_form : ready.WF ∧ ∃ t, step ready = .next t := ⟨ready_wf, _, rfl⟩
theorem witness_empty_queue : ready.pending = [] ∧ ∀ r, (ready.region r).resetAtBoundary = false := by
  refine ⟨rfl, fun r => ?_⟩
  rcases r with _ | r <;> rfl
theorem witness_next_state : ∃ t, exec (.nop 0 0) ready = .next t := ⟨_, rfl⟩
theorem witness_numbered : ∃ cmd s1, ready.number 0 0 (entry [(0, 1, 0)]) = (cmd, s1) := ⟨_, _, rfl⟩
theorem witness_fits_or_not : wellFormed (.nop 0 0) = true ∧ wellFormed (.space 0 0 []) = false := by decide

/-! ### Calls -/

/-- A call of a command, in a phase, with arms received. -/
def call (phase : Nat) (arms : List (Nat × Nat × Bool × Nat × Bytes)) : Call :=
  { newCall (some runCmd) none 1 0 1 3 100 with phase := phase, arms := arms }

/-- An arm packet of tree 1 from member 1 about the current call of group 0, and the other packets with the KIND given. -/
def pktOf (kind : Nat) (bit9 : Nat) : Bytes := fit 64 (leBytes 8 (kind + 2 ^ 8 + bit9 * 2 ^ 9 + 2 ^ 16))

theorem witness_call_packets :
    (∀ k ∈ [0x10, 0x11, 0x12, 0x13, 0x14, 0x15], packetFits (pktOf k 0) = true ∧ pkKind (pktOf k 0) = k ∧
      ready.callPacket (pktOf k 0) = false) ∧
    (∀ k ∈ [0x10, 0x11, 0x12, 0x13, 0x14, 0x15], ∀ ph ∈ [0, 1, 2],
      (ready.takeInlet 0 0 (pktOf k 0)) = ready ∧ (withGroup ready 2 [call ph []]).callPacket (pktOf k 0) = true ∧
      ((withGroup ready 2 [call ph []]).group (pkGroup (pktOf k 0))).state = 1) ∧
    (withGroup ready 2 []).callPacket (pktOf 0x10 0) = true ∧ ((withGroup ready 2 []).group 0).calls = [] ∧
    ((call 1 []).verdicts.get? 1 = none ∧ (call 1 []).cmd = some runCmd ∧ bitAt (pkWord (pktOf 0x11 1)) 9 = true ∧
      bitAt (pkWord (pktOf 0x11 0)) 9 = false ∧ ((withGroup ready 2 [call 1 []]).group 0).reform = false) ∧
    (let s : State := { ready with groups := [(0, { Group.undefined with
        defined := true, state := 2, members := [0, 1], live := [0, 1], calls := [{ call 3 [] with aborted := some 0 }] })] }
     s.callPacket (pktOf 0x11 1) = true ∧ (s.takeInlet 0 0 (pktOf 0x11 1)).tcNow = 0 ∧ (s.group 0).reform = false) ∧
    (pkDir (pktOf 0x12 1) ≠ 0 ∧ pkDir (pktOf 0x12 0) = 0) ∧
    ((withGroup ready 2 []).group 0).fails.contains (1, 0) = false ∧
    (let s : State := { ready with groups := [(0, { Group.undefined with defined := true, state := 2, fails := [(1, 0)] })] }
     s.callPacket (pktOf 0x14 0) = true ∧ (s.group 0).fails.contains (1, 0) = true ∧ (s.group 0).fails.contains (1, 5) = false ∧
       (s.group 0).state ≠ 1) := by decide +kernel

theorem witness_arming :
    (let x := (withGroup ready 2 [call 1 []]).group 0
     armed x (call 1 []) 1 ready.self = false ∧ armed x (call 1 []) 0 ready.self = true ∧ (call 1 []).verdicts.get? 0 = none ∧
       parentOf x.live 0 ready.self = some 1) ∧
    (ready.group 0).calls = [] ∧
    (let s := withGroup ready 2 [call 0 []]
     (call 0 []).phase = 0 ∧ (s.group 0).reform = false ∧ (s.group 0).state = 1 ∧ ((call 0 []).run.bind s.run?).isNone = true ∧
       (call 0 []).run.isNone = true ∧ 1 < (s.group 0).live.length) ∧
    ((withGroup ready 1 [call 0 []]).group 0).live.length ≤ 1 ∧ (call 1 []).phase ≠ 0 ∧
    (let s := withGroup { ready with runs := (playing 0 1 0 0 []).runs } 1 [setCall 0]
     (setCall 0).run ≠ none ∧ ((setCall 0).run.bind s.run?).map (fun y => (y.confluers 0 1).all (bitAt (setCall 0).destMask)) = some true) ∧
    (((List.range 2).any fun t => (childrenOf (ready.group 0).live t ready.self).any fun c => ready.waitsOn 0 t c) = false) ∧
    (let s := withGroup ready 2 [call 1 []]
     ((List.range 2).any fun t => s.waitsOn 0 t 1) = true ∧ (∀ k ∈ (s.group 0).calls.head?, k.heard.get? 1 ≠ some s.tcNow) ∧ (s.group 0).state = 1) ∧
    ((List.range 2).any fun t => ready.waitsOn 0 t 1) = false := by decide +kernel

/-! ### Frames and flits with a good CRC -/

theorem crc32cShift_lt (n : Nat) : ∀ c, c < 2 ^ 32 → crc32cShift n c < 2 ^ 32 := by
  induction n with
  | zero => intro c h; exact h
  | succ n ih =>
    intro c h
    refine ih _ ?_
    split
    · exact Nat.xor_lt_two_pow (by omega) (by decide)
    · omega

theorem crc32c_lt (bs : Bytes) : crc32c bs < 2 ^ 32 := by
  have h : ∀ (l : Bytes) (c : Nat), c < 2 ^ 32 → l.foldl (fun c b => crc32cShift 8 (Nat.xor c b.toNat)) c < 2 ^ 32 := by
    intro l
    induction l with
    | nil => intro c h; exact h
    | cons b l ih =>
      intro c h
      exact ih _ (crc32cShift_lt 8 _ (Nat.xor_lt_two_pow h (by omega)))
  exact Nat.xor_lt_two_pow (h bs _ (by decide)) (by decide)

/-- A frame without data whose control bits 479 to 452 are u and whose CRC field is k. -/
def frameOf (u k : Nat) : FrameIn := ⟨BitVec.ofNat 480 (u * 2 ^ 452 + k * 2 ^ 420), [], 0, 0, false⟩

theorem frameOf_control {u k : Nat} (hu : u < 2 ^ 28) (hk : k < 2 ^ 32) :
    (frameOf u k).control.toNat = u * 2 ^ 452 + k * 2 ^ 420 := by
  simp only [frameOf, BitVec.toNat_ofNat]
  omega

/-- For any upper control bits there is a frame whose CRC is good, and one whose CRC is bad. -/
theorem frames_exist (u : Nat) (hu : u < 2 ^ 28) :
    (∃ k < 2 ^ 32, frameCrc (frameOf u k) = bits (frameOf u k).control.toNat 451 420) ∧
    ∃ k < 2 ^ 32, frameCrc (frameOf u k) ≠ bits (frameOf u k).control.toNat 451 420 := by
  obtain ⟨v, hv, e⟩ : ∃ v < 2 ^ 32, ∀ k < 2 ^ 32, frameCrc (frameOf u k) = v := by
    refine ⟨crc32c (leBytes 56 (u * 2 ^ 420) ++ fit 15360 []), crc32c_lt _, fun k hk => ?_⟩
    have h1 : bits (u * 2 ^ 452 + k * 2 ^ 420) 479 452 = u := by unfold bits; omega
    have h2 : (u * 2 ^ 452 + k * 2 ^ 420) % 2 ^ 420 = 0 := by omega
    have h3 : (frameOf u k).data = [] := rfl
    simp only [frameCrc, frameOf_control hu hk, h1, h2, h3, Nat.add_zero]
  have h3 : ∀ k < 2 ^ 32, bits (frameOf u k).control.toNat 451 420 = k := by
    intro k hk
    rw [frameOf_control hu hk]
    unfold bits
    omega
  refine ⟨⟨v, hv, (e v hv).trans (h3 v hv).symm⟩, (v + 1) % 2 ^ 32, by omega, ?_⟩
  rw [e _ (by omega), h3 _ (by omega)]
  omega

/-- A flit of given low control bits and CRC field, without data. -/
theorem flits_exist (v : Nat) (hv : v < 2 ^ 32) :
    (∃ ctl : W64, ctl.toNat % 2 ^ 32 = v ∧ crc32c (leBytes 4 (ctl.toNat % 2 ^ 32) ++ fit 256 []) = ftCrc ctl.toNat) ∧
    ∃ ctl : W64, ctl.toNat % 2 ^ 32 = v ∧ crc32c (leBytes 4 (ctl.toNat % 2 ^ 32) ++ fit 256 []) ≠ ftCrc ctl.toNat := by
  have h1 : ∀ k < 2 ^ 32, (BitVec.ofNat 64 (v + k * 2 ^ 32)).toNat = v + k * 2 ^ 32 := fun k hk => by
    rw [BitVec.toNat_ofNat]; omega
  have h2 : ∀ k < 2 ^ 32, (v + k * 2 ^ 32) % 2 ^ 32 = v ∧ ftCrc (v + k * 2 ^ 32) = k := fun k hk => by
    unfold ftCrc bits; omega
  generalize hc : crc32c (leBytes 4 v ++ fit 256 []) = c
  have hl : c < 2 ^ 32 := hc ▸ crc32c_lt _
  refine ⟨⟨BitVec.ofNat 64 (v + c * 2 ^ 32), ?_⟩, BitVec.ofNat 64 (v + (c + 1) % 2 ^ 32 * 2 ^ 32), ?_⟩
  · rw [h1 c hl, (h2 c hl).1, (h2 c hl).2]
    exact ⟨rfl, hc⟩
  · rw [h1 _ (Nat.mod_lt _ (by decide)), (h2 _ (Nat.mod_lt _ (by decide))).1, (h2 _ (Nat.mod_lt _ (by decide))).2, hc]
    exact ⟨rfl, by omega⟩

/-! ### Ports and inlets -/

/-- A ready engine whose port 0 of region 0 is in a state, with a transmitter and receiver changed. -/
def linked (st : Nat) (f : Link → Link) : State := (ready.setF (pgLink 0 0) Fld.LINK_STATE_STATE st).modLink 0 0 f

theorem witness_frame_receive :
    (ready.linkState 0 0 = 0 ∧ ready.trained 0 0 = false) ∧ ((linked 2 id).linkState 0 0 = 2 ∧ (linked 2 id).trained 0 0 = true ∧
      ((linked 2 id).link 0 0).expect = 0) ∧
    (∃ f, frameFits f.data = true ∧ frameCrc f ≠ bits f.control.toNat 451 420) ∧
    (∃ f, frameFits f.data = true ∧ frameCrc f = bits f.control.toNat 451 420 ∧ bits f.control.toNat 454 453 ≠ 0) ∧
    (∀ passed : Bool, ∃ f, frameFits f.data = true ∧ frameCrc f = bits f.control.toNat 451 420 ∧ bits f.control.toNat 454 453 = 0 ∧
      bits f.control.toNat 479 468 ≠ ((linked 2 id).link 0 0).expect ∧
      seqPassed (bits f.control.toNat 479 468) ((linked 2 id).link 0 0).expect = passed) ∧
    ∃ f, frameFits f.data = true ∧ frameCrc f = bits f.control.toNat 451 420 ∧ bits f.control.toNat 454 453 = 0 ∧
      bits f.control.toNat 479 468 = ((linked 2 id).link 0 0).expect := by
  have e : ((linked 2 id).link 0 0).expect = 0 := by decide +kernel
  have b : ∀ u < 2 ^ 28, ∀ k < 2 ^ 32, bits (frameOf u k).control.toNat 454 453 = u / 2 % 4 ∧
      bits (frameOf u k).control.toNat 479 468 = u / 2 ^ 16 := fun u hu k hk => by
    rw [frameOf_control hu hk]
    unfold bits
    omega
  obtain ⟨k0, l0, h0⟩ := (frames_exist 0 (by decide)).1
  obtain ⟨k1, l1, h1⟩ := (frames_exist 0 (by decide)).2
  obtain ⟨k2, l2, h2⟩ := (frames_exist 2 (by decide)).1
  refine ⟨by decide +kernel, ⟨by decide +kernel, by decide +kernel, e⟩, ⟨_, rfl, h1⟩, ⟨_, rfl, h2, ?_⟩, ?_, ⟨_, rfl, h0, ?_, ?_⟩⟩
  · rw [(b 2 (by decide) k2 l2).1]; decide
  · intro passed
    obtain ⟨k, l, h⟩ := (frames_exist (if passed then 4095 * 2 ^ 16 else 2 ^ 16) (by cases passed <;> decide)).1
    refine ⟨_, rfl, h, (b _ (by cases passed <;> decide) k l).1.trans (by cases passed <;> decide), ?_⟩
    rw [(b _ (by cases passed <;> decide) k l).2, e]
    cases passed <;> decide
  · exact (b 0 (by decide) k0 l0).1
  · rw [e]; exact (b 0 (by decide) k0 l0).2

/-- A ready engine with one packet of a class in inlet 0 of region 0. -/
def arrived (s : State) (cls : Nat) : State := s.modInlet 0 0 fun n => { n with bank0 := { n.bank0 with packets := [(0, ⟨cls, 1, zeros 64⟩)] } }

/-- Context 1 with a landing buffer, toward the peer of port 0. -/
def peered : State :=
  let s := ((second [(1, 1, 1), (12, 4, 4096)]).setF (pgLink 0 0) Fld.LINK_PEER_VALID 1).setF (pgLink 0 0) Fld.LINK_PEER_MEMBER 7
  { s with membership := { s.membership with gateways := [(7, (0, 0))] } }

theorem witness_inlet_drain :
    (ready.inlet 0 0).drainNext = none ∧
    (∀ c ∈ [0, 1, 2, 3], ((arrived ready c).inlet 0 0).drainNext = some (0, ⟨c, 1, zeros 64⟩) ∧ (arrived ready c).hasRing 0 0 1 = false) ∧
    ((arrived peered 1).inlet 0 0).drainNext = some (0, ⟨1, 1, zeros 64⟩) ∧ (arrived peered 1).hasRing 0 0 1 = true := by decide +kernel

theorem witness_inlet_registers :
    State.reset.pageAnswers (pgInlet 0 0) = false ∧ ready.pageAnswers (pgInlet 0 0) = true ∧ (ready.inlet 0 0).flush = none ∧
    (ready.inlet 0 0).part = 0 ∧ ((ready.modInlet 0 0 fun n => { n with part := 64 }).inlet 0 0).part ≠ 0 ∧
    bits (0x11F : W64).toNat 3 0 ≠ 0 ∧ bits (0 : W64).toNat 3 0 = 0 ∧ (bitAt (1 : W64).toNat 0 = true ∧ ready.linkState 0 0 ≠ 6 ∧
      (linked 6 id).linkState 0 0 = 6 ∧ (linked 6 id).pageAnswers (pgInlet 0 0) = true) ∧
    (ready.getF (pgInlet 0 0) Fld.INLET_CTL_MGMT_OWNER = 0 ∧ (ready.inlet 0 0).mgmt = [] ∧ flag false = 0) ∧
    (let s := ready.modInlet 0 0 fun n => { n with mgmt := [zeros 4, zeros 32] }
     (s.inlet 0 0).mgmt = [zeros 4, zeros 32] ∧ (zeros 4).length ≤ 4 * ((s.inlet 0 0).mgmtWord + 1)) ∧
    (let s := (linked 6 fun l => l).setF (pgInlet 0 0) Fld.INLET_CTL_MGMT_OWNER 1
     let t := s.modInlet 0 0 fun n => { n with mgmt := [zeros 32] }
     t.getF (pgInlet 0 0) Fld.INLET_CTL_MGMT_OWNER = flag true ∧ (t.inlet 0 0).mgmt = [zeros 32] ∧
       ¬(zeros 32).length ≤ 4 * ((t.inlet 0 0).mgmtWord + 1)) := by decide +kernel

/-- A LANDING of two contexts from member 7 and a CREDIT_RETURN to context 15, of a membership epoch. -/
def landingPkt (epoch : Nat) : Bytes :=
  build 64 [(0, 1, 0x35), (1, 1, 1), (2, 2, 2), (4, 2, 7), (8, 4, epoch), (32, 4, 1), (36, 4, 4096), (40, 4, 15), (44, 4, 64)]
def creditPkt (epoch : Nat) : Bytes := build 32 [(0, 1, 0x36), (4, 2, 7), (6, 1, 15), (8, 4, epoch), (12, 4, 0xFFFFFFFF)]

theorem witness_landing_credit :
    (∀ e ∈ [0, 1], packetFits (landingPkt e) = true ∧ packetFits (creditPkt e) = true ∧ field (landingPkt e) 0 1 = 0x35 ∧
      field (landingPkt e) 2 2 = 2 ∧ mgmtOk (landingPkt e) (32 + 32 * ceilDiv (8 * field (landingPkt e) 2 2) 32) [(7, 1), (12, 20)] = true ∧
      field (creditPkt e) 0 1 = 0x36 ∧ mgmtOk (creditPkt e) 32 [(2, 2), (16, 16)] = true ∧
      (field (landingPkt e) 8 4 = ready.membership.epoch % 2 ^ 32 ↔ e = 0) ∧ (field (creditPkt e) 8 4 = ready.membership.epoch % 2 ^ 32 ↔ e = 0)) ∧
    (field (landingPkt 0) (32 + 8 * 1) 4 % 16 ≠ field (landingPkt 0) (32 + 8 * 0) 4 % 16) := by decide +kernel

/-! ### Link control -/

/-- A link control packet of a KIND with the fields given. -/
def control (kind : Nat) (fs : List (Nat × Nat × Nat)) : Bytes := build 32 ((0, 1, kind) :: fs)

theorem witness_link_control_layout : ∀ k ∈ [(0x20, [(14, 2), (24, 8)]), (0x21, [(2, 2), (20, 12)]), (0x22, [(2, 2), (11, 21)]),
    (0x23, [(2, 2), (11, 21)]), (0x24, [(2, 2), (5, 3), (28, 4)])],
    packetFits (control k.1 []) = true ∧ field (control k.1 []) 0 1 = k.1 ∧ field (control 0x2F []) 0 1 ≠ k.1 ∧
      layoutOk (control k.1 []) k.2 = true ∧ layoutOk (control k.1 [(31, 1, 1)]) k.2 = false := by decide +kernel

theorem witness_ident : (bits (field (control 0x21 [(4, 2, 1)]) 4 2) 9 0 ≠ ready.self ∧ bits (field (control 0x21 []) 4 2) 9 0 = ready.self) ∧
    (let s := ready.setF pgMembership Fld.MEMB_UID_UID 5
     s.self = 0 ∧ s.getF pgMembership Fld.MEMB_UID_UID = 5 ∧ field (control 0x21 [(8, 8, 5)]) 8 8 = 5 ∧
       field (control 0x21 [(8, 8, 6)]) 8 8 = 6 ∧ field (control 0x21 [(8, 8, 4)]) 8 8 = 4 ∧
       ∀ u ∈ [4, 5, 6], layoutOk (control 0x21 [(8, 8, u)]) [(2, 2), (20, 12)] = true) := by decide +kernel

theorem witness_width :
    (seqPassed 4095 (ready.link 0 0).expect = true ∧ seqPassed 32 (ready.link 0 0).expect = false ∧
      field (control 0x22 [(6, 2, 4095)]) 6 2 % 4096 = 4095 ∧ field (control 0x22 [(6, 2, 32)]) 6 2 % 4096 = 32) ∧
    (ready.link 0 0).width = none ∧
    ((linked 2 fun l => { l with width := some ⟨15, 32, true, false⟩ }).link 0 0).width = some ⟨15, 32, true, false⟩ ∧
    (ready.self * 32 + 0 * 4 + 0 < bits (field (control 0x22 [(8, 2, 1)]) 8 2) 9 0 * 32 + bits 0 2 0 * 4 + bits 0 4 3) ∧
    ¬(ready.self * 32 + 0 * 4 + 0 < bits (field (control 0x22 []) 8 2) 9 0 * 32 + bits 0 2 0 * 4 + bits 0 4 3) ∧
    field (control 0x23 []) 5 1 = (ready.link 0 0).widthSeq ∧ field (control 0x23 [(5, 1, 255)]) 5 1 ≠ (ready.link 0 0).widthSeq := by decide +kernel

theorem witness_probe :
    bitAt (field (control 0x24 []) 4 1) 0 = false ∧ bitAt (field (control 0x24 [(4, 1, 1)]) 4 1) 0 = true ∧ (ready.link 0 0).step ≠ 5 ∧
      (let l := (linked 1 fun l => { l with step := 5 }).link 0 0; l.step = 5 ∧ l.probes < 8) := by decide +kernel

/-- An envelope of class 3 around a packet, for a member, after some hops. -/
def envelope (dest hops : Nat) : Bytes := relayEnvelope 3 dest 7 hops (control 0x20 [])

theorem witness_relay :
    let bad (k : Bytes) := k.length ≤ 64 ∨ bits (field k 0 8) 63 36 ≠ 0 ∨ zeroAt k 8 56 = false
    bad (control 0x2F []) ∧ field (control 0x2F []) 0 1 = 0x2F ∧ field (envelope 0 1) 0 1 = 0x2F ∧ packetFits (envelope 0 1) = true ∧
      (¬bad (envelope 0 1) ∧ bits (field (envelope 0 1) 0 8) 19 10 = ready.self) ∧
      (¬bad (envelope 7 63) ∧ bits (field (envelope 7 63) 0 8) 19 10 ≠ ready.self ∧ bits (field (envelope 7 63) 0 8) 35 30 = 63) ∧
      (¬bad (envelope 7 62) ∧ bits (field (envelope 7 62) 0 8) 19 10 = 7 ∧ bits (field (envelope 7 62) 0 8) 35 30 ≠ 63 ∧
        peered.gatewayTo 7 = some (0, 0) ∧ peered.self = 0) := by decide +kernel

/-- Port 0 trained with four lanes. -/
def wide : State := (linked 2 id).setF (pgLink 0 0) Fld.LINK_STATE_LANES 15

theorem witness_lanes :
    (wide.trained 0 0 = true ∧ (wide.link 0 0).width = none ∧ ready.trained 0 0 = false ∧ ready.linkState 0 0 ≠ 5) ∧
    ((wide.modLink 0 0 fun l => { l with width := some ⟨3, 32, true, false⟩ }).link 0 0).width = some ⟨3, 32, true, false⟩ ∧
    (let s := wide.modLink 0 0 fun l => { l with width := some ⟨3, 32, true, true⟩ }
     (s.link 0 0).width = some ⟨3, 32, true, true⟩ ∧ s.linkState 0 0 ≠ 5) ∧
    ((∀ k ∈ (wide.link 0 0).queue, 3 ≤ k.cls) ∧ wide.getF (pgLink 0 0) Fld.CAL_STATE_STEALING ≠ 1 ∧
      (wide.setF (pgLink 0 0) Fld.CAL_STATE_STEALING 1).getF (pgLink 0 0) Fld.CAL_STATE_STEALING = 1) ∧
    (∀ lane ∈ [0, 3], bitAt (wide.keptLanes 0 0) lane = true ∧ wide.keptLanes 0 0 ≠ 2 ^ lane) ∧
    (let s := (linked 4 id).setF (pgLink 0 0) Fld.LINK_STATE_LANES 8
     s.trained 0 0 = true ∧ bitAt (s.keptLanes 0 0) 3 = true ∧ s.keptLanes 0 0 = 2 ^ 3 ∧ bitAt (s.keptLanes 0 0) 0 = false) ∧
    (let s := wide.setF (pgLink 0 0) Fld.LINK_CFG_MARGIN_MIN 5
     s.getF (pgLink 0 0) Fld.LANE_EQ_MARGIN < s.getF (pgLink 0 0) Fld.LINK_CFG_MARGIN_MIN) := by decide +kernel

theorem witness_lane_retrain_done :
    (let s := wide.modLink 0 0 fun l => { l with retraining := [3] }
     3 ∈ (s.link 0 0).retraining ∧ 0 ∉ (s.link 0 0).retraining ∧ s.trained 0 0 = true ∧ (s.link 0 0).failures.getD 3 0 = 0) ∧
    (let s := linked 1 fun l => { l with retraining := [3], failures := [(3, 1)] }
     3 ∈ (s.link 0 0).retraining ∧ s.trained 0 0 = false ∧ s.linkState 0 0 ≠ 5 ∧ (s.link 0 0).failures.getD 3 0 ≠ 0 ∧ s.keptLanes 0 0 = 0 ∧
       (s.link 0 0).retraining.length = 1) := by decide +kernel

/-- Port 0 in a step of training. -/
def trainingAt (step : Nat) (full : Bool) : State := linked 1 fun l => { l with step := step, full := full }

theorem witness_link_train :
    ready.linkState 0 0 ≠ 1 ∧ lanesFit fourLanes = true ∧ fourLanes.lanes ≠ 0 ∧ fourLanes.boreno = true ∧
      { fourLanes with lanes := 0 }.lanes = 0 ∧ { fourLanes with boreno := false }.boreno = false ∧
      (∀ n ∈ [1, 2, 3, 4, 5, 6], ∀ f ∈ [true, false], (trainingAt n f).linkState 0 0 = 1 ∧ ((trainingAt n f).link 0 0).step = n) ∧
      ({ fourLanes with savedBad := true }.savedBad = true ∧ ((trainingAt 3 false).link 0 0).full = false ∧
        ((trainingAt 6 false).link 0 0).full = false) := by decide +kernel

/-! ### Edges, memory ports, tiles and basins -/

/-- Edge 0 of region 0 in a state. -/
def edged (st : Nat) (f : Edge → Edge) : State := (ready.setF (pgEdge 0 0) Fld.EDGE_STATE_STATE st).modEdge 0 0 f

theorem witness_edge_flit :
    (ready.edgeUp 0 0 = false ∧ (edged 2 id).edgeUp 0 0 = true ∧ ((edged 2 id).edge 0 0).expect = 0) ∧
    (∃ ctl : W64, flitFits [] = true ∧ crc32c (leBytes 4 (ctl.toNat % 2 ^ 32) ++ fit 256 []) ≠ ftCrc ctl.toNat) ∧
    ∀ v ∈ [0, 1 + 2 ^ 20, 1, 1 + 16, 1 + 8], ∃ ctl : W64, crc32c (leBytes 4 (ctl.toNat % 2 ^ 32) ++ fit 256 []) = ftCrc ctl.toNat ∧
      (bitAt ctl.toNat 0 = false ↔ v = 0) ∧ (ftSeq ctl.toNat ≠ 0 ↔ v = 1 + 2 ^ 20) ∧ (ftDest ctl.toNat ≠ 0 ↔ v = 1 + 16) ∧
      (bitAt ctl.toNat 3 = true ↔ v = 1 + 8) := by
  refine ⟨by decide +kernel, ?_, ?_⟩
  · obtain ⟨ctl, -, h⟩ := (flits_exist 0 (by decide)).2
    exact ⟨ctl, rfl, h⟩
  · intro v hv
    have hl : v < 2 ^ 32 := by
      simp only [List.mem_cons, List.not_mem_nil, or_false] at hv
      omega
    obtain ⟨ctl, e, h⟩ := (flits_exist v hl).1
    refine ⟨ctl, h, ?_⟩
    simp only [bitAt, ftSeq, ftDest, bits, beq_iff_eq, beq_eq_false_iff_ne]
    simp only [List.mem_cons, List.not_mem_nil, or_false] at hv
    obtain rfl | rfl | rfl | rfl | rfl := hv <;> omega

theorem witness_edges :
    ((edged 2 id).edgeUp 0 0 = true ∧ ready.edgeUp 0 0 = false) ∧
    (let s := (edged 2 fun d => { d with resends := [0] }).setF (pgEdge 0 0) Fld.EDGE_CFG_RETRY_LIMIT 0
     s.edgeUp 0 0 = true ∧ s.getF (pgEdge 0 0) Fld.EDGE_CFG_RETRY_LIMIT < ((s.edge 0 0).resends.filter fun t => decide (s.time < t + 1000000)).length) ∧
    ((edged 6 fun d => { d with retraining := true }).edge 0 0).retraining = true ∧ (ready.edge 0 0).retraining = false ∧
    (∀ n ∈ [1, 4, 5], (edged 1 fun d => { d with step := n }).getF (pgEdge 0 0) Fld.EDGE_STATE_STATE = 1 ∧
      ((edged 1 fun d => { d with step := n }).edge 0 0).step = n) ∧ ready.getF (pgEdge 0 0) Fld.EDGE_STATE_STATE ≠ 1 := by decide +kernel

/-- A memory port of region 0 with one request. -/
def asked (write sent : Bool) (old : List Nat) : State :=
  ready.modMemPort 0 0 fun p => { p with txs := [⟨0, write, 0, 64, List.range 64, sent, false, none⟩], errors := old }

theorem asked_wf (write sent : Bool) : (asked write sent []).WF ∧ (asked write sent (List.replicate 14 0)).WF := by
  cases write <;> cases sent <;> constructor <;> exact wf_of (by decide +kernel)

/-- A request for a bank of context 0, which holds the bank. -/
def askedBank : State :=
  (ready.modMemPort 0 0 fun p => { p with txs := [⟨0, false, 0, 64, List.range 64, true, false, some (0, 3)⟩] }).modCtx 0 fun x =>
    { x with banks := [(3, ⟨[], none, false, 64, false⟩)] }

theorem witness_memory_answers :
    (ready.WF ∧ 0 ∈ ready.live ∧ 1 ∉ ready.live ∧ (ready.memPort 0 0).outstanding false 0 = none ∧ (ready.memPort 0 0).outstanding true 0 = none) ∧
    (∀ w ∈ [true, false], ∃ x, ((asked w true []).memPort 0 0).outstanding w 0 = some x ∧ x.keep.head? = some 0 ∧ 0 + 63 < 64 ∧ 63 < x.keep.length) ∧
    chkBad 0 0 = false ∧ chkBad 0 1 = true ∧
    (((askedBank.memPort 0 0).outstanding false 0).map (·.bank) = some (some (0, 3)) ∧ ((askedBank.ctx 0).banks.get? 3).isSome = true) ∧
    ((((asked true true (List.replicate 14 0)).memPort 0 0).errors.filter fun t => decide (ready.time < t + 1000000)) ++ [ready.time]).length < 16 ∧
    (∀ x ∈ (ready.memPort 0 0).txs, x.write = true → x.sent = true) ∧
    ((((asked true false []).memPort 0 0).txs.find? fun x => x.write == true && !x.sent).isSome = true) := by
  refine ⟨⟨ready_wf, by decide +kernel⟩, ?_, by decide +kernel⟩
  intro w _
  cases w
  · exact ⟨⟨0, false, 0, 64, List.range 64, true, false, none⟩, by decide +kernel⟩
  · exact ⟨⟨0, true, 0, 64, List.range 64, true, false, none⟩, by decide +kernel⟩

/-- The tag of an output tile of row 0, one row, of the first descriptor of the set numbered 1. -/
def tileTag : W64 := BitVec.ofNat 64 (2048 * 2 ^ 32)

/-- A set of region 0 whose hand-over of one row waits for its output. -/
def tiled (list : Bytes) : State :=
  playingPart { part (opBundle 2 8 0) 0 with works := [(2048, ⟨2, 0, 1, 90, 0, 0, []⟩)], handOvers := [(2, handOver)] } list

theorem witness_output_tile :
    (tiled []).WF ∧ ((((tiled []).run? 1).bind fun x => x.regions.get? 0).bind ((tiled []).tileDeadline 0)).map (fun c => decide (((tiled []).region 0).tc ≤ c)) = some true ∧
    tileFits (zeros 64) = true ∧ 0 ∈ (tiled []).live ∧ 2 ≤ (2 : Nat) % 16 ∧ tileTag.toNat % 16 = 0 ∧
    (let list := listOf [(6 + 32 * 2 ^ 24, tensor shareAt 64)]
     let s := tiled list
     ((s.runs.find? fun x => x.started && x.cmd.seq.toNat % 2 ^ 21 == 2048 / 2 ^ 11 && (x.regions.get? 0).isSome).map (·.cmd.seq)) = some 1 ∧
       ((s.run? 1).bind fun x => x.regions.get? 0).bind (fun g => g.works.get? 2048) = some ⟨2, 0, 1, 90, 0, 0, []⟩ ∧
       ((s.run? 1).bind fun x => x.regions.get? 0).bind (fun g => g.handOvers.get? 2) = some handOver ∧
       (s.run? 1).map (fun x => (combineElem x.cmd.list 0, decide (landRoom x.cmd.list 0 ≤ 64 ∧
         landRoom x.cmd.list 0 ≤ dsSpan (descAt x.cmd.list ((combineEntry x.cmd.list 0).getD 0))))) = some (0, true)) ∧
    (ready.runs.find? fun x => x.started && x.cmd.seq.toNat % 2 ^ 21 == 2048 / 2 ^ 11 && (x.regions.get? 0).isSome) = none :=
  ⟨playing_wf _, by decide +kernel⟩

theorem tileFits_zeros (n : Nat) : tileFits (zeros (64 * (n + 1))) = true := by
  have h : (zeros (64 * (n + 1))).length = 64 * (n + 1) := List.length_replicate ..
  have e : zeros (64 * (n + 1)) ≠ [] := fun e => by rw [e] at h; simp at h
  simp [tileFits, h, e]

/-- A set of region 0 that waits for its first external block until cycle 300, which is released in a cycle. -/
def extWaiting (release : Nat) : RegionRun :=
  { part (opBundle 1 4 0) 0 with
    busy := [⟨0, 0, 4, 100, none, [], none, [], some 300, false⟩], todo := [], ext := ⟨0, release, 0⟩ }

/-- The set, the blocks committed, the tag expected, the deadline and the commit of a block that comes now. -/
def extSees (release tc : Nat) : Option (W32 × Nat × Nat × Option Nat × Nat) :=
  let s := (playingPart (extWaiting release) []).modRegion 0 fun g => { g with tc := tc }
  (s.extOp 0).map fun e =>
    let o := (RegionRun.asOp e.1 0 e.2.1 e.2.2).o
    (e.1.cmd.seq, e.2.1.ext.blocks, extTag 0 0 o.router + o.shape, e.2.2.due, max (max e.2.2.issue (s.region 0).tc) e.2.1.ext.release)

theorem witness_ext_block :
    ready.extOp 0 = none ∧ extSees 300 0 = some (1, 0, 1, some 300, 300) ∧ extSees 301 0 = some (1, 0, 1, some 300, 301) ∧
    extSees 0 301 = some (1, 0, 1, some 300, 301) ∧ ((playingPart (extWaiting 300) []).run? 1).isSome = true ∧
    tileFits (zeros (64 * (2047 + 1))) = true ∧ 64 * (2047 + 1) = 1024 * shapeRows 0 :=
  ⟨by decide +kernel, by decide +kernel, by decide +kernel, by decide +kernel, by decide +kernel, tileFits_zeros 2047, by decide⟩

theorem witness_work_and_reads :
    (ready.region 0).workQueue = [] ∧ (ready.region 0).heldFrom = none ∧
    ((ready.modRegion 0 fun g => { g with workQueue := [1, 2] }).region 0).workQueue = [1, 2] ∧
    (let s := ready.modCtx 0 fun x => { x with record := putField x.record 0x30 4 2, basins := [(mkHandle 0 0 0 1, ⟨1, false⟩)] }
     s.handleOwner 0 (mkHandle 0 0 0 1) = some 0 ∧ 64 * 2 + 64 * (0 + 1) ≤ basinSize (hSize (mkHandle 0 0 0 1)) ∧
       (s.basinRead (s.ctx 0).windows 0 (mkHandle 0 0 0 1) (64 * 2) 64).isSome = true) ∧
    ready.handleOwner 0 (mkHandle 0 0 0 1) = none ∧ basinSize (hSize (mkHandle 0 0 0 1)) < 64 * 3 + 64 * 2 := by decide +kernel

/-! ### Membership -/

/-- The payload of a proposal of members 0 and 7, and its CRC. -/
def members : Bytes := leBytes 128 (1 + 2 ^ 7)
def proposal (coordinator : Nat) (parts : Tab Bytes) : Proposal := ⟨coordinator, 5, 3, 1, crc64 members, parts⟩

/-- A ready engine, member 0, that follows a proposal in a phase. -/
def agreeing (p : Option Proposal) (phase : Nat) : State := { ready with membership := { ready.membership with proposal := p, phase := phase } }

/-- A PROPOSE of fragment 0 of so many, from a coordinator. -/
def proposePkt (coordinator frags : Nat) : Bytes :=
  build 32 [(0, 1, 0x31), (1, 1, 4), (4, 2, frags), (6, 2, coordinator), (8, 4, 5), (12, 4, 3), (16, 8, crc64 members)] ++ members

/-- A management packet of a KIND about the proposal above. -/
def aboutPkt (kind coordinator : Nat) : Bytes :=
  build 32 [(0, 1, kind), (6, 2, coordinator), (8, 4, 5), (12, 4, 4), (16, 8, crc64 members)]

/-- An ANNOUNCE of member 7 without neighbours. -/
def announcePkt (seq : Nat) : Bytes := build 32 [(0, 1, 0x30), (4, 2, 7), (8, 8, 77), (20, 4, seq)]

theorem witness_membership_layout :
    (announceOk (announcePkt 1) = true ∧ proposeOk (proposePkt 0 1) = true ∧ proposeOk (proposePkt 0 2) = true ∧
      mgmtOk (aboutPkt 0x32 0) 32 [(2, 2), (24, 8)] = true ∧ mgmtOk (aboutPkt 0x33 0) 32 [(2, 2), (26, 6)] = true) ∧
    (announceOk (announcePkt 1 ++ [0]) = false ∧ proposeOk (aboutPkt 0x31 0) = false ∧ mgmtOk (aboutPkt 0x32 0 ++ [0]) 32 [(2, 2), (24, 8)] = false ∧
      mgmtOk (aboutPkt 0x33 0 ++ [0]) 32 [(2, 2), (26, 6)] = false ∧ mgmtOk (aboutPkt 0x34 0 ++ [0]) 32 [(2, 4), (24, 8)] = false) ∧
    mgmtOk (build 32 [(0, 1, 0x34)]) 32 [(2, 4), (24, 8)] = true ∧ field (proposePkt 0 1) 0 1 = 0x31 ∧
    (∀ k ∈ [0x32, 0x33, 0x34], field (aboutPkt k 0) 0 1 = k ∧ packetFits (aboutPkt k 0) = true ∧ packetFits (aboutPkt k 0 ++ [0]) = true) := by
  decide +kernel

theorem witness_announce :
    ready.getF pgMembership Fld.MEMB_STATE_DUP_ID ≠ 1 ∧ field (announcePkt 1) 4 2 % 1024 ≠ ready.self ∧ ready.membership.seen.get? 7 = none ∧
    (let s : State := { ready with membership := { ready.membership with seen := [(7, (78, 0, 1, []))] } }
     s.membership.seen.get? 7 = some (78, 0, 1, []) ∧ 78 ≠ field (announcePkt 1) 8 8) ∧
    (let s : State := { ready with membership := { ready.membership with seen := [(7, (77, 0, 1, []))] } }
     s.membership.seen.get? 7 = some (77, 0, 1, []) ∧ 77 = field (announcePkt 1) 8 8 ∧ 1 = field (announcePkt 1) 20 4) := by decide +kernel

theorem witness_propose :
    ((ready.setF pgMembership Fld.MEMB_STATE_DUP_ID 1).getF pgMembership Fld.MEMB_STATE_DUP_ID = 1 ∧
      ready.getF pgMembership Fld.MEMB_STATE_DUP_ID ≠ 1 ∧ field (proposePkt 0 1) 0 1 = 0x31 ∧ proposeOk (proposePkt 0 1) = true) ∧
    ((agreeing (some (proposal 0 [])) 0).membership.proposal = some (proposal 0 []) ∧ (0 : Nat) < field (proposePkt 9 1) 6 2 % 1024) ∧
    (ready.membership.proposal = none ∧ field (proposePkt 0 2) 4 2 ≠ 1 ∧ field (proposePkt 0 1) 4 2 = 1 ∧
      crc64 ((proposePkt 0 1).drop 32) = field (proposePkt 0 1) 16 8 ∧ bitAt (leNat ((proposePkt 0 1).drop 32)) ready.self = true ∧ ready.self < 1024) ∧
    (let x := { proposal 0 [] with frags := 2 }
     x.coordinator = field (proposePkt 0 2) 6 2 % 1024 ∧ x.seq = field (proposePkt 0 2) 8 4 ∧ x.crc = field (proposePkt 0 2) 16 8 ∧
       { x with parts := x.parts.set (field (proposePkt 0 2) 2 2) ((proposePkt 0 2).drop 32) }.whole = false) := by decide +kernel

theorem witness_replies :
    (agreeing (some (proposal 0 [])) 1).ofProposal (aboutPkt 0x32 0) = true ∧ field (aboutPkt 0x32 0) 6 2 % 1024 = ready.self ∧
    ready.ofProposal (aboutPkt 0x32 0) = false ∧
    (∃ pkt : Bytes, packetFits pkt = true ∧ field pkt 0 1 = 0x34 ∧ mgmtOk pkt 32 [(2, 4), (24, 8)] = true ∧
      (agreeing (some { proposal 0 [] with seq := 5 }) 2).ofProposal pkt = true) := by
  refine ⟨by decide +kernel, by decide +kernel, by decide +kernel, aboutPkt 0x34 0, by decide +kernel⟩

theorem witness_boundary :
    (let s : State := { ready with membership := { ready.membership with requested := true } }
     s.membership.phase = 0 ∧ s.coordinator = s.self ∧ s.getF pgMembership Fld.MEMB_STATE_DUP_ID = 0 ∧ s.membership.requested = true) ∧
    (agreeing none 1).membership.phase ≠ 0 ∧
    (let s := agreeing (some (proposal 7 [(0, members)])) 1
     s.flying = 0 ∧ (7 : Nat) ≠ s.self ∧ s.membership.accepts.get? 0 = none ∧ (0 ∈ (proposal 7 [(0, members)]).members)) ∧
    (let s := { agreeing (some (proposal 0 [(0, members)])) 1 with groups := (withGroup ready 2 [call 1 []]).groups }
     s.flying ≠ 0 ∧ (proposal 0 [(0, members)]).coordinator = s.self ∧ (proposal 0 [(0, members)]).whole = true ∧
       7 ∈ (proposal 0 [(0, members)]).members ∧ (7 : Nat) ≠ s.self ∧ s.membership.accepts.get? 7 = none) ∧
    (let s := { agreeing (some (proposal 7 [(0, members)])) 1 with groups := (withGroup ready 2 [call 1 []]).groups }
     s.flying ≠ 0 ∧ (7 : Nat) ≠ s.self) ∧
    (∀ k ∈ (proposal 0 [(0, members)]).members, (Tab.get? [(0, 3), (7, 2)] k).isSome = true) := by decide +kernel

/-! ### Interrupts and registers -/

/-- Source n pending and enabled, its targets a mask; targets 2 and 15 enabled, 2 masked; LAST_TARGET 15. -/
def interrupting (n holdoff active : Nat) : State :=
  let g := pgIntr + 8 * (n / 32)
  ((((((((ready.pend n).setF (srcPage n) Fld.SRC_CFG_ENABLE 1).setF (srcPage n) Fld.SRC_CFG_TARGETS 0xFFFF).setF (srcPage n) Fld.SRC_CFG_LAST_TARGET 15).setF
    (pgIntr + 8 * 2) Fld.TGT_CTL_ENABLE 1).setF (pgIntr + 8 * 2) Fld.TGT_CTL_MASK 1).setF (pgIntr + 8 * 15) Fld.TGT_CTL_ENABLE 1).setF
    g Fld.HOLDOFF holdoff).setF g Fld.HOLDOFF_ACTIVE active

theorem witness_interrupts :
    (let s := interrupting 0x50 0 0
     s.deliverable 0x50 = true ∧ s.getF (pgIntr + 8 * (0x50 / 32)) Fld.HOLDOFF_ACTIVE = 0 ∧ s.getF (pgIntr + 8 * (0x50 / 32)) Fld.HOLDOFF = 0 ∧
       s.nextTarget 0x50 = some 2) ∧
    (let s := interrupting 0x50 5 0
     s.deliverable 0x50 = true ∧ s.getF (pgIntr + 8 * (0x50 / 32)) Fld.HOLDOFF_ACTIVE = 0 ∧ s.getF (pgIntr + 8 * (0x50 / 32)) Fld.HOLDOFF ≠ 0) ∧
    (ready.deliverable 0x50 = false ∧ (interrupting 0x50 5 1).getF (pgIntr + 8 * 2) Fld.HOLDOFF_ACTIVE = 1 ∧ ready.getF pgIntr Fld.HOLDOFF_ACTIVE = 0) ∧
    ready.pageAnswers pgIntr = true ∧ State.reset.pageAnswers pgIntr = false ∧
    (∀ n ∈ List.range 256, ready.isDelivered n = false) ∧
    (let s := (interrupting 0x50 0 0).deliver 0x50
     s.isDelivered 0x50 = true ∧ s.getF (srcPage 0x50) Fld.SRC_CFG_LAST_TARGET = 2 ∧ (∀ k ∈ List.range 0x50, s.isDelivered k = false) ∧
       s.tgtEnabled 2 = true ∧ s.irq 2 = false) := by decide +kernel

/-- A request for a register by its offset from CP_BASE, its parity good or bad. -/
def request (write : Bool) (a : Nat) (good : Bool) : CpRequest :=
  let q : CpRequest := ⟨BitVec.ofNat 40 (ready.strap.toNat * 2 ^ 28 + a), 0xFF, 5, 3, false⟩
  { q with par := requestParity write q == good }

theorem witness_page_registers :
    (ready.pageAnswers pgSched = true ∧ (∀ off ∈ [0x28, 0x08, 0x38], ready.takesWrite (pgSched + off) = true) ∧
      State.reset.pageAnswers pgSched = false ∧ pgSched % 0x1000 = 0 ∧ pgSched / 0x1000 < 2 ^ 16) ∧
    State.reset.functional 0 = true ∧ ready.functional 0 = true ∧ (ready.modWrapper 0 fun x => { x with wir := 1 }).functional 0 = false ∧
    (∀ w ∈ [true, false], requestParity w (request w (pgSched + 0x200) true) = (request w (pgSched + 0x200) true).par ∧
      requestParity w (request w (pgSched + 0x200) false) ≠ (request w (pgSched + 0x200) false).par ∧
      ready.changeLeader.target 0 (request w (pgSched + 0x200) true) = some (pgSched + 0x200) ∧
      ready.changeLeader.target 0 (request w (pgSched + 0x204) true) = none) := by decide +kernel

theorem witness_fields :
    let fs := [(⟨3, 0, .rw, 0⟩ : FieldSpec), ⟨7, 4, .w1c, 0⟩, ⟨63, 8, .rc, 0⟩]
    fs.Pairwise (fun f g => f.hi < g.lo ∨ g.hi < f.lo) ∧ (∀ f ∈ fs, f.lo ≤ f.hi) ∧ (regSpec (pgSched + 0x200)).isSome = true := by decide +kernel

/-! ### Bring-up, resets and faults -/

/-- The engine in a bring-up state, one region present and taking part. -/
def rising (st : Nat) : State := ready.setF pgBringup Fld.BRINGUP_STATE_STATE st

/-- Region 0 in a state of health beside a live region 1, both placed. -/
def beside (health : Nat) (clocks : Bool) : State :=
  { ready with regions := [(0, { region with health := health, clocks := clocks }), (1, region)] }

theorem witness_bringup :
    (State.reset.pageAnswers pgBringup = false ∧ (rising 2).pageAnswers pgBringup = true ∧ (rising 2).bringState = 2 ∧ ready.bringState ≠ 2) ∧
    (ready.led = true ∧ State.reset.live = [] ∧ (let s := beside 3 true
      s.leader = 0 ∧ s.led = false ∧ s.ready = true ∧ s.live = [1])) ∧
    testsFit ⟨1, [cleanTest], 1, false⟩ = true ∧
    (∀ st ∈ [1, 3, 4, 5, 6, 7, 8, 9], (rising st).bringState = st) ∧ (rising 10).bringState ∉ [1, 3, 4, 5, 6, 7, 8, 9] ∧
    (((List.range 8).filter fun r => bitAt (1 : Byte).toNat r && (rising 1).getF (pgTest r) Fld.WRAPPER_STATE_FUNCTIONAL == 1) = [0]) ∧
    (((List.range 8).filter fun r => bitAt (0 : Byte).toNat r && (rising 1).getF (pgTest r) Fld.WRAPPER_STATE_FUNCTIONAL == 1) = []) ∧
    ¬((rising 6).takingPart.any (rising 6).training = true) ∧
    (let s := ({ rising 6 with regions := [(0, { region with health := 2 })] }).setF (pgLink 0 0) Fld.LINK_STATE_STATE 1
     s.takingPart.any s.training = true) := by decide +kernel

theorem witness_region_reset :
    (ready.region 0).health = 1 ∧ (ready.region 1).health = 0 ∧ ¬(1 < ready.placedRegions.length) ∧
    (∃ s : State, (∀ h ∈ [1, 3], (s.modRegion 0 fun g => { g with health := h }).placedRegions.length = 2 ∧
      1 ∈ (s.modRegion 0 fun g => { g with health := h }).live ∧ ((s.modRegion 0 fun g => { g with health := h }).region 0).health = h) ∧
      s.pageAnswers pgBringup = true ∧ 10 ≤ s.bringState ∧
      (let t := s.modRegion 0 fun g => { g with health := 2 }
       (t.region 0).health = 2 ∧ 10 ≤ t.bringState ∧ t.training 0 = false ∧ 1 ∈ t.live)) ∧
    (1 : Byte).toNat = 2 ^ 0 ∧ 1 ∉ ready.live ∧ regionPageKind 0 ≠ 0 := by
  refine ⟨by decide +kernel, by decide +kernel, by decide +kernel, ⟨{ beside 1 true with bringUp := { ready.bringUp with topology := build 1088 [(0x12, 1, 3)] } }, ?_⟩,
    by decide +kernel, by decide +kernel, by decide⟩
  decide +kernel

theorem witness_cells :
    (ready.WF ∧ 0 ∈ ready.live ∧ (ready.cluster 0 0).state = 0 ∧ 3 ∉ (ready.cluster 0 0).resetting ∧ 3 ∉ (ready.cluster 0 0).fencedCells ∧
      (ready.cluster 0 0).lastFault.get? 3 = none ∧ ((ready.cluster 0 0).replace [3]).isSome = true ∧ 5 ∉ (ready.cluster 0 0).blocks) ∧
    (let s := ready.modCluster 0 0 fun u => { u with resetting := [3], lastFault := [(4, 0)], blocks := [5] }
     3 ∈ (s.cluster 0 0).resetting ∧ (s.cluster 0 0).lastFault.get? 4 = some 0 ∧ s.time < 0 + 1000000000 ∧ 5 ∈ (s.cluster 0 0).blocks) ∧
    ((ready.modCluster 0 0 fun u => { u with state := 1 }).cluster 0 0).state = 1 ∧
    ((ready.modCluster 0 0 fun u => { u with state := 2 }).cluster 0 0).state = 2 ∧
    (∃ l : List Nat, let s := ready.modCluster 0 0 fun u => { u with fencedCells := l }
      (s.cluster 0 0).replace [2] = none ∧ 2 ∉ (s.cluster 0 0).fencedCells) := by
  refine ⟨⟨ready_wf, by decide +kernel⟩, by decide +kernel, by decide +kernel, by decide +kernel, [32, 33], by decide +kernel⟩

/-! ### Power and the wrapper -/

/-- A ready engine whose power state is changed. -/
def powered (f : Power → Power) : State := { ready with power := f ready.power }

theorem witness_power :
    (ready.power.held = false ∧ 2 ≤ ready.bringState ∧ State.reset.bringState < 2) ∧
    (let s := powered fun p => { p with supply := 2 }
     (s.causeSupply = true ∨ s.causeThermal = true) ∧ s.power.safelight = false ∧ s.power.switch = none) ∧
    (let s := powered fun p => { p with strobeLost := true }
     (s.causeSupply = true ∨ s.causeThermal = true) ∧ s.power.switch = none) ∧
    (let e := powered fun p => { p with therm := 250 }
     ready.getF pgPower Fld.THERM_CFG_TRIP ≤ e.thermNow) ∧
    (let e := powered fun p => { p with therm := 60 }
     e.thermNow < ready.getF pgPower Fld.THERM_CFG_TRIP) ∧
    ((powered fun p => { p with held := true }).power.held = true ∧
      (powered fun p => { p with held := true, therm := 10 }).thermNow + 10 < ready.getF pgPower Fld.THERM_CFG_TRIP) ∧
    (powered fun p => { p with switch := some (3072, true) }).power.switch = some (3072, true) ∧ ready.power.switch = none ∧
    (powered fun p => { p with holdRunning := true }).power.holdRunning = true ∧ ready.power.holdRunning = false ∧
    (ready.region 0).health ≠ 0 ∧ (ready.region 1).health = 0 := by decide +kernel

theorem witness_wrapper :
    (ready.testable = false ∧ State.reset.testable = true ∧ ready.bringState ≠ 0 ∧ State.reset.bringState = 0 ∧ (zeros 1024).length ≤ 1024) ∧
    ready.pageAnswers (pgView 0) = true ∧ State.reset.pageAnswers (pgView 0) = false ∧ bits (0x10000 : W64).toNat 17 16 = 1 ∧ bits (0 : W64).toNat 17 16 ≠ 1 ∧
    bitAt (ready.vfChan 0 0) 16 = false ∧ ready.vfArmed 0 = false ∧
    (let s := (ready.setF (pgView 0) Fld.VF_CHAN_ENABLE 1).setF (pgView 0) Fld.VF_TRIG_ARMED 1
     bitAt (s.vfChan 0 0) 16 = true ∧ s.vfArmed 0 = true) ∧
    (let s := ready.setF (pgView 0) Fld.VF_CHAN_ENABLE 1
     bitAt (s.vfChan 0 0) 16 = true ∧ s.vfArmed 0 = false ∧ (s.vfChannel 0 0).queue.length < 256) ∧
    (let s := (ready.setF (pgView 0) Fld.VF_CHAN_ENABLE 1).modVf 0 0 fun ch => { ch with queue := List.replicate 256 0 }
     bitAt (s.vfChan 0 0) 16 = true ∧ s.vfArmed 0 = false ∧ 256 ≤ (s.vfChannel 0 0).queue.length) := by decide +kernel

/-- A trigger of MODE 1 on a plate's start, with channel 0 enabled on the low bits of the cycle counter. -/
def triggered : State :=
  ((((ready.setF (pgView 0) Fld.VF_TRIG_EVENT 1).setF (pgView 0) Fld.VF_TRIG_MODE 1).setF (pgView 0) Fld.VF_TRIG_ARMED 1).setF
    (pgView 0) Fld.VF_CHAN_ENABLE 1).setF (pgView 0) Fld.VF_CHAN_SOURCE 0xA000

/-- While armed nothing is pushed; the tc that fires pushes one marked sample and later ones are not marked (R472). -/
theorem test_trigger :
    (triggered.vfSample 0).vfChannel 0 0 = ⟨[], 0, 1, false, false, 0⟩ ∧
    (((triggered.vfEvent 0 1).vfSample 0).vfChannel 0 0).queue.map (fun x => bits x.toNat 30 28) = [5] ∧
    ((triggered.vfEvent 0 1).vfEvent 0 2).getF (pgView 0) Fld.VF_TRIG_ARMED = 0 ∧
    (((((triggered.vfEvent 0 1).vfSample 0).pass 1).vfSample 0).vfChannel 0 0).queue.map (fun x => bits x.toNat 30 28) = [5, 1] ∧
    (((triggered.vfEvent 0 1).vfDrain 0).region 0).view.trigOut = true := by decide +kernel

/-- A counter whose code a write of EVT_SEL changes counts the new code from the next tc (R436). -/
theorem test_evtSel_takes_effect_next :
    (let s := ready.writeEvtSel (pgRegion 0) 0x42
     ((s.count (pgRegion 0) 0x42 1).getF (pgRegion 0) Fld.EVT_CNT_COUNT = 0 ∧
      ((s.pass 1).count (pgRegion 0) 0x42 1).getF (pgRegion 0) Fld.EVT_CNT_COUNT = 1)) := by decide +kernel

/-! ### Results of the manual's worked examples -/

/-- Router Sedge-B of the balance chapter's example: E 8, K 2, BAL_PERIOD 2, γ 2⁻¹⁰, BAL_CLAMP 0.125; the second window ends. -/
def sedge : BitVec 512 :=
  BitVec.ofNat 512 (leNat (build 64 [(0, 2, 32), (2, 2, 8), (4, 1, 2), (0x18, 4, 0x3E000000), (0x1C, 3, 0x4000), (0x20, 2, 2)]))
def balanced : State :=
  (ready.modCtx 0 fun x => { x with
    burn := [(5, [0x3D800000, 0, 0xBD000000, 0, 0x3E000000, 0xBD800000, 0x3B000000, 0])],
    load := [(5, [400, 310, 250, 250, 200, 180, 260, 150])], window := [(5, 2)] }).updateBurn 0 5 sedge

/-- The column "burn after" of the example, LOAD and WINDOW back at 0 (R194). -/
theorem test_burn_window :
    (balanced.ctx 0).burn = [(5, [0x3D7C0000, 0xBA800000, 0xBD000000, 0, 0x3E000000, 0xBD7C0000, 0x3A800000, 0x3A800000])] ∧
      (balanced.ctx 0).load = [] ∧ (balanced.ctx 0).window = [] := by decide +kernel
/-- LAST_UPDATE and LAST_SPREAD of the same example: RAISED 3, LOWERED 3, CLAMPED 1; 400 and 150 (R201). -/
theorem test_burn_registers :
    balanced.reg (pgBalance + 0x88) = 5 * 2 ^ 33 + 3 * 2 ^ 22 + 3 * 2 ^ 11 + 1 ∧ balanced.reg (pgBalance + 0x90) = 400 * 2 ^ 32 + 150 := by
  decide +kernel

/-- Router Fen-G of the selection chapter's example. -/
def fen : BitVec 512 :=
  BitVec.ofNat 512 (leNat (build 64 [(2, 2, 64), (4, 1, 4), (8, 1, 8), (9, 1, 2), (10, 1, 2), (11, 1, 1), (0x10, 4, 0x40200000)]))

/-- Groups 0 to 2 tie at 1.0 and the lower two are kept: GROUP_MASK 3 (R97, R100, R101). -/
theorem test_group_mask :
    groupMask fen ((List.range 64).map fun e => (e, ((Tab.get? [(3, ofF32 0x3F200000), (5, ofF32 0x3EC00000), (9, ofF32 0x3F400000), (12, ofF32 0x3E800000),
      (14, ofF32 0x3E800000), (17, ofF32 0x3F100000), (22, ofF32 0x3EE00000), (28, ofF32 0x3F600000), (30, ofF32 0x3D800000)] e).getD Fp.negInf))) = 3 := by
  decide +kernel
/-- The weights 0.7143, 1.0714, 0.5357 and 0.1786, and 0.9091, 1.3636, 0.2273 without expert 5, each rounded to FP32 (R104). -/
theorem test_norm_weights :
    ((normWeights fen ([0x3F000000, 0x3F400000, 0x3EC00000, 0x3E000000].map ofF32)).1.map toF32) = [0x3F36DB6E, 0x3F892493, 0x3F092493, 0x3E36DB6E] ∧
      ((normWeights fen ([0x3F000000, 0x3F400000, 0x3E000000].map ofF32)).1.map toF32) = [0x3F68BA2F, 0x3FAE8BA3, 0x3E68BA2F] := by decide +kernel

/-- The BF16 roundings of the combine chapter's example, one of them a tie to even (R156). -/
theorem test_bf16_rounding :
    [0x3F283000, 0x3F624000, 0xBE2C8000, 0x3DF00000].map (fun w => toBfWord (ofF32 w)) = [0x3F28, 0x3F62, 0xBE2C, 0x3DF0] := by decide +kernel

/-- The trees of group 7 after it lost member 27, in the worked example of a confluence call (R209, R210). -/
theorem test_group_trees :
    [3, 9, 14, 20, 31].map (fun m => (parentOf [3, 9, 14, 20, 31] 0 m, parentOf [3, 9, 14, 20, 31] 1 m)) =
      [(some 9, some 14), (some 20, some 3), (some 9, none), (none, some 14), (some 20, some 3)] := by decide +kernel

/-- The handles of the hand-over example: list of expert 0 and row of position 0, in region 1 (R278). -/
theorem test_handles : mkHandle 0 0 1 0 = 0x22000000 ∧ mkHandle 2 0 1 5 = 0x62000005 := by decide

/-- The switch cycle of the supply transfer example (R418). -/
theorem test_switch_cycle : switchCycle 5000200 = 5003264 := by decide

/-- The latent of the descriptor chapter's example: 48 channels, 160 × 90 positions, 13 frames, BF16, LAYOUT 1. -/
def latent : Bytes :=
  build 128 [(0, 8, 0x400000000000), (8, 8, 0x211), (0x30, 4, 48), (0x34, 4, 160), (0x38, 4, 90), (0x3C, 4, 13),
    (0x48, 8, 11980800), (0x50, 8, 64), (0x58, 8, 10240), (0x60, 8, 921600)]

/-- Its footprint, its alignment and its aliasing check (R265, R266, R267). -/
theorem test_latent :
    footRanges latent (dsBase latent) false = [(0x400000000000, 23961600)] ∧ alignOk latent false = true ∧ aliasOk latent (dsBase latent) false = true := by
  decide +kernel

/-- Source 0x03 with TARGETS 2, 5 and 9, all enabled, 5 masked: from LAST_TARGET 15 it goes to 2, then 5, then 9 (R355). -/
theorem test_interrupt_targets :
    let s := [2, 5, 9].foldl (fun (s : State) t => s.setF (pgIntr + 8 * t) Fld.TGT_CTL_ENABLE 1) ready
    let s := (s.setF (pgIntr + 8 * 5) Fld.TGT_CTL_MASK 1).setF (srcPage 3) Fld.SRC_CFG_TARGETS 0x224
    [15, 2, 5, 9].map (fun l => (s.setF (srcPage 3) Fld.SRC_CFG_LAST_TARGET l).nextTarget 3) = [some 2, some 5, some 9, some 2] := by decide +kernel

/-- The router of the scoring fragment: H 4,096 in BF16, E 256, K 8. -/
def fragment : Bytes := build 64 [(0, 2, 4096), (2, 2, 256), (4, 1, 8)]

/-- Durations of the scoring fragment for 8 tiles: SCORE 32,792, SCORE_STORE 520, SELECT 132 (R52, R53). -/
theorem test_durations :
    let lasts (s : State) (n : Nat) := ((offered (withRouter s fragment) 1 0).map fun x => (x.o.op, s.opTime x n))
    lasts (playing 1 2 0 8 []) 8 = some (2, 32792) ∧ lasts (playing 1 3 0 8 []) 8 = some (3, 520) ∧
      lasts (playing 2 4 0 8 []) 8 = some (4, 132) := by decide +kernel

end Sys2Proof.Tests
end

section
/-! SUPPORT. The scope of the model: what reset leaves, the form that every step keeps, what no command changes, the frames of the rows,
where a command can stop, and the access codes of a page's registers. -/

namespace Sys2Proof.Machine

/-! ### The state after reset -/

@[simp] theorem State.reset_reg (a : Nat) : State.reset.reg a = resetWord a % 2 ^ 64 := BitVec.toNat_ofNat ..

theorem State.reset_bringState : State.reset.bringState = 0 := by decide +kernel

theorem State.reset_live : State.reset.live = [] := by decide

theorem resetWord_evtSel {a : Nat} (h : a % 0x1000 = 0x38) : resetWord a = evtSelReset (pageKind a) := if_pos h

/-- Settles O3: every table is empty, so each accessor reads its default. -/
theorem resetLeavesSpecValues : Obligations.ResetLeavesSpecValues :=
  ⟨State.reset_bringState, rfl, rfl, fun _ => rfl, fun _ => rfl, State.reset_live, rfl, rfl, rfl, State.reset_reg,
    fun _ => resetWord_evtSel, fun _ => rfl⟩

/-- Settles O4: every table and every memory is empty. -/
theorem resetHasCanonicalForm : Obligations.ResetHasCanonicalForm :=
  ⟨.nil, .nil, .nil, .nil, .nil, .nil, .nil, Memory.wf_nil, nofun⟩

/-! ### What every step keeps -/

/-- Settles O5: a step composes operations each of which keeps the canonical form. -/
theorem stepKeepsCanonicalForm : Obligations.StepKeepsCanonicalForm := fun s t hs h =>
  have hm : Moves _ s t := step_moves (Nat.or_self _) (.refl _ s) t h
  hm.2 hs

/-- Settles O6: no operation of any row has the stepping, the strap or the queue among the parts that it may change. -/
theorem noCommandChangesSteppingOrStrap : Obligations.NoCommandChangesSteppingOrStrap := fun i s t h =>
  have hm : Moves _ s t := exec_moves (Nat.or_self _) (.refl _ s) i t h
  ⟨hm.1 .stepping rfl, hm.1 .strap rfl, hm.1 .pending rfl⟩

/-! ### Where a command stops -/

/-- A meaning answers as a check of its operands says: a next state where they fit, the fault malformed where they do not. -/
def AnswersIfFits (fits : Bool) (o : Host.Outcome State Fault Refusal) : Prop :=
  (fits = true → ∃ t, o = .next t) ∧ (fits = false → o = .fault .malformed)

theorem AnswersIfFits.next {t : State} : AnswersIfFits true (.next t) := ⟨fun _ => ⟨t, rfl⟩, nofun⟩

theorem AnswersIfFits.ite {p : Prop} [Decidable p] {a b : Host.Outcome State Fault Refusal} (ha : AnswersIfFits true a)
    (hb : AnswersIfFits true b) : AnswersIfFits true (if p then a else b) := by split <;> assumption

theorem AnswersIfFits.check {p : Prop} [Decidable p] {t : State} :
    AnswersIfFits (decide p) (if p then .next t else .fault .malformed) := by
  by_cases h : p
  · simpa only [h, decide_true, if_true] using AnswersIfFits.next
  · exact ⟨fun e => absurd (of_decide_eq_true e) h, fun _ => if_neg h⟩

theorem AnswersIfFits.checkBool {fits : Bool} {t : State} : AnswersIfFits fits (if fits then .next t else .fault .malformed) := by
  simpa only [Bool.decide_eq_true] using AnswersIfFits.check (p := fits = true)

theorem execErRead_answers (r : RegionId) (h : W32) (off : BitVec 12) (n id : BitVec 6) (s : State) :
    AnswersIfFits true (execErRead r h off n id s) := by
  simp only [execErRead]
  split <;> exact .next

theorem execShareApply_answers (c : CtxId) (s : State) : AnswersIfFits true (execShareApply c s) := by
  simp only [execShareApply]
  split
  · exact .next
  · exact .ite .next .next

/-- exec stops on an operand that does not fit and nowhere else: the rows that have an operand to check check it first, and every path
of the others answers a next state. -/
theorem exec_answersIfFits (i : Instr) (s : State) : AnswersIfFits (wellFormed i) (exec i s) := by
  cases i with
  | armPacket | verdictPacket | dataPacket | confluenceCredit | failPacket | keepalivePacket | space | ident | width | widthAck
  | relay | announce | propose | accept | holding | commit | landing | creditReturn | probe | frameReceive | edgeFlitReceive
  | expertOutputTile | extScoreBlock | linkTrainStep | bringupStep | stageLoad | score => exact .checkBool
  | wsExtest | wsIntest | scan => exact .check
  | erRead => exact execErRead_answers ..
  | shareApply => exact execShareApply_answers ..
  | interruptDeliver => exact .ite (.ite .next .next) .next
  | holdoffExpiry | vfForcedPush => exact .ite .next .next
  | _ => exact .next

/-- Settles O7: every meaning answers as the check of its operands says. -/
theorem endsOnlyOnOperandsThatDoNotFit : Obligations.EndsOnlyOnOperandsThatDoNotFit := exec_answersIfFits

/-! ### The frames of the rows -/

/-- The engine with region 0 alone, whose pages answer. -/
def clockedRegion : State := { State.reset with regions := [(0, { Region.reset with clocks := true })] }

/-- A write of VF_TRIG notes its register, since the trigger before the write stays in force through its tc (R473). -/
theorem State.writeVfTrig_sameTc (s : State) (r w : Nat) :
    (s.writeVfTrig r w).sameTc = (s.note (pgView r + 0xA0) 0).sameTc := by
  have hw (u : State) (a : Nat) : (u.writePlain a w).sameTc = u.sameTc :=
    (State.writePlain_moves (Nat.or_self _) (.refl _ u) a w).1 .sameTc rfl
  rw [State.writeVfTrig, State.setF_sameTc, hw]

theorem exec_vfTrigWrite_of_pageAnswers {s : State} {r : RegionId} (h : s.pageAnswers (pgView r.val) = true) (w : W64) :
    exec (.vfTrigWrite r w) s = .next (s.writeVfTrig r.val w.toNat) := by
  change execVfTrigWrite r w s = _
  rw [execVfTrigWrite, State.whereAnswers, if_pos h]

/-- Refutes O28: VF_TRIG_WRITE notes its register in `sameTc`, a part that `touches` does not list for it. With region 0 clocked and
nothing yet noted in the tc, a write of 0 leaves one entry. -/
theorem not_everyCommandLeavesTheRestUnchanged : ¬ Obligations.EveryCommandLeavesTheRestUnchanged := by
  intro h
  have hexec : exec (.vfTrigWrite 0 0) clockedRegion = .next (clockedRegion.writeVfTrig 0 0) :=
    exec_vfTrigWrite_of_pageAnswers (by decide +kernel) 0
  have hsame : (clockedRegion.writeVfTrig 0 0).sameTc = [] := h _ _ _ hexec .sameTc (by decide)
  rw [State.writeVfTrig_sameTc] at hsame
  exact nomatch hsame

/-! ### The access codes of a page's registers -/

theorem exec_evtSelWrite_of_open {s : State} {page : BitVec 16} (ha : s.pageAnswers (pageBase (page.toNat * 0x1000 + 0x38)) = true)
    (ht : s.takesWrite (page.toNat * 0x1000 + 0x38) = true) (w : W64) :
    exec (.evtSelWrite page w) s = .next (s.writeEvtSel (page.toNat * 0x1000) w.toNat) := by
  change execEvtSelWrite page w s = _
  rw [execEvtSelWrite, State.whereTaken, State.whereAnswers, if_pos ha, if_pos ht]

/-- A register file whose keys do not rise: the entry of counter 1 of region 0's page stands behind that of counter 2, where no read
reaches it. -/
def hiddenCounter : State := { clockedRegion with regs := [(0x50, 0), (0x48, 1)] }

/-- EVT_SEL of a REGION page as at reset, but with counter 2 counting code 0. -/
def otherCode : W64 := 0x4342040341000201

/-- Refutes O57 at its EVT_SEL clause, which asks no canonical form of the state: a write that changes the code of counter 2 alone drops
that counter's entry, and with it what hid the entry of counter 1, which read 0 before and reads 1 after. -/
theorem not_pageRegistersFollowTheirAccessCodes : ¬ Obligations.PageRegistersFollowTheirAccessCodes := by
  intro h
  obtain ⟨-, -, -, hpages, -⟩ := h
  obtain ⟨-, -, -, -, -, hevtSel⟩ := hpages hiddenCounter 0 otherCode
  obtain ⟨t, ht, -, -, hcounts⟩ := hevtSel (by decide +kernel)
  have hexec : exec (.evtSelWrite 0 otherCode) hiddenCounter = .next (hiddenCounter.writeEvtSel 0 otherCode.toNat) :=
    exec_evtSelWrite_of_open (by decide +kernel) (by decide +kernel) otherCode
  obtain rfl : hiddenCounter.writeEvtSel 0 otherCode.toNat = t := by simpa only [hexec, Host.Outcome.next.injEq] using ht
  have hcode : bits (hiddenCounter.reg 0x38) 15 8 = bits otherCode.toNat 15 8 := by decide +kernel
  have hbefore : hiddenCounter.getF 8 Fld.EVT_CNT_COUNT = 0 := by decide +kernel
  have hafter : (hiddenCounter.writeEvtSel 0 otherCode.toNat).getF 8 Fld.EVT_CNT_COUNT = 1 := by decide +kernel
  have hkept := (hcounts 1 (by decide)).trans (if_pos hcode)
  exact absurd (hafter.symm.trans (hkept.trans hbefore)) (by decide)

end Sys2Proof.Machine
end

section
/-! SUPPORT. The sequence slots and the parameters of a context: what the leader's taking of a control command answers, what CONTEXT_PARAM
replaces, and what the waiting changes of a step do at its boundary. -/

namespace Sys2Proof.Machine.Reprint

/-! ### Frames -/

theorem mem_partAll (p : Part) : p ∈ Part.all := by cases p <;> decide

/-- A frame is checked part by part: every part outside the list has its bit of the set clear. -/
theorem frame_of_moves {w : Nat} {s t : State} {l : List Part} (h : Moves w s t)
    (hl : ∀ p ∈ Part.all, p ∉ l → w.testBit p.ctorIdx = false) : Frame l s t :=
  fun p hp => h.1 p (hl p (mem_partAll p) hp)

theorem frame_modCtx (s : State) (c : Nat) (f : Ctx → Ctx) : Frame [.ctxs] s (s.modCtx c f) :=
  frame_of_moves (State.modCtx_moves (Nat.or_self _) (.refl _ s) c f) (by decide)

theorem ctx_modCtx_of_ne (s : State) {c d : Nat} (f : Ctx → Ctx) (h : d ≠ c) : (s.modCtx c f).ctx d = s.ctx d :=
  (State.ctx_modCtx ..).trans (if_neg h)

/-! ### A control command that the leader takes -/

/-- A control row answers for a command that is taken with the verdict of its meaning, whether the command waited latched or is validated
now. -/
theorem controlRow_of_takes {s s1 : State} {c : CtxId} {q : RingId} {op : Nat} {own : State → Command → Bool} {cmd : Command}
    (ht : Takes s c q op own cmd s1) (f : State → Command → Verdict) :
    s.controlRow c.val q.val op own f = (s1.conclude cmd (f s1 cmd)).settleIdle := by
  obtain ⟨h, hhead, hop, hstate, hcpl, hserial, hown, hsource⟩ := ht
  obtain ⟨hlatched, rfl⟩ | ⟨hfresh, hcan, hpre, hnumber⟩ := hsource
  · simp [State.controlRow, hhead, hop, hlatched, hstate, hcpl, hserial, hown]
  · cases hv : f s1 cmd <;>
      simp [State.controlRow, hhead, hop, hfresh, hcan, hpre, hnumber, hv, hstate, hcpl, hserial, hown, State.conclude]

section Taken

variable {s s1 e : State} {c : CtxId} {q : RingId} {op code index region : Nat} {own : State → Command → Bool} {cmd : Command}
  {f : State → Command → Verdict} {result : Bytes}

theorem succeeds_of_done (ht : Takes s c q op own cmd s1) (hv : f s1 cmd = .done e result) :
    Succeeds cmd e result (s.controlRow c.val q.val op own f) := by
  rw [controlRow_of_takes ht, hv]
  rfl

theorem fails_of_fail (ht : Takes s c q op own cmd s1) (hv : f s1 cmd = .fail code index region) :
    Fails cmd s1 code index region (s.controlRow c.val q.val op own f) := by
  rw [controlRow_of_takes ht, hv]
  rfl

end Taken

/-! ### CONTEXT_PARAM -/

section ContextParam

variable {s : State} {cmd : Command}

theorem exec_contextParam (c : CtxId) (q : RingId) (s : State) :
    exec (.contextParam c q) s = .next (s.controlRow c.val q.val 0x13 always State.contextParam) := rfl

/-- A schedule that is read is judged by its values alone (R171). -/
theorem contextParam_of_schedule {bs : Bytes} (hkind : cmdField cmd.raw 24 1 = 0) (hindex : cmdField cmd.raw 25 1 ≤ 7)
    (hread : s.readStruct cmd (cmdAddr cmd.raw) 256 = some bs) :
    s.contextParam cmd =
      if (words bs 4 64).all fp32NonNegative then
        .done (s.modCtx cmd.ctx.val fun x =>
          { x with schedules := x.schedules.set (cmdField cmd.raw 25 1) ((words bs 4 64).map (BitVec.ofNat 32 ·)) }) []
      else .fail stRouterInvalid 0 0 := by
  simp only [State.contextParam, hkind, if_neg (Nat.not_lt.2 hindex), hread]

theorem contextParam_of_seed (hkind : cmdField cmd.raw 24 1 = 1) :
    s.contextParam cmd = .done (s.modCtx cmd.ctx.val fun x => { x with seed := BitVec.ofNat 64 (cmdAddr cmd.raw) }) [] := by
  simp only [State.contextParam, hkind]

theorem contextParam_of_otherKind (hkind : 2 ≤ cmdField cmd.raw 24 1) : s.contextParam cmd = .fail stCommandInvalid 0 0 := by
  obtain ⟨n, hn⟩ := Nat.exists_eq_add_of_le' hkind
  simp only [State.contextParam, hn]

end ContextParam

/-- Settles O19: the verdict of the meaning, by KIND and by the values that are read. -/
theorem contextParamReplacesScheduleOrSeed : Obligations.ContextParamReplacesScheduleOrSeed := by
  intro s c q cmd s1 ht
  refine ⟨fun bs hkind hindex hread => ?_, fun hkind => ?_, fun hkind => ?_⟩
  · have hverdict := contextParam_of_schedule hkind hindex hread
    refine ⟨fun hgood => ?_, fun ⟨v, hv, hbad⟩ => ?_⟩
    · refine ⟨_, exec_contextParam c q s, _, succeeds_of_done ht (hverdict.trans (if_pos (List.all_eq_true.2 hgood))),
        ?_, fun j hj => ?_, ?_, fun d => ctx_modCtx_of_ne _ _, frame_modCtx _ _ _⟩
      · simp
      · simp [Tab.get?_set_ne _ _ hj]
      · simp
    · have hnot : ¬(words bs 4 64).all fp32NonNegative = true := fun hall => by simp [List.all_eq_true.1 hall v hv] at hbad
      exact ⟨_, exec_contextParam c q s, fails_of_fail ht (hverdict.trans (if_neg hnot))⟩
  · exact ⟨_, exec_contextParam c q s, fails_of_fail ht (contextParam_of_otherKind hkind)⟩
  · exact ⟨_, exec_contextParam c q s, _, succeeds_of_done ht (contextParam_of_seed hkind),
      (State.ctx_modCtx ..).trans (if_pos rfl), fun d => ctx_modCtx_of_ne _ _, frame_modCtx _ _ _⟩

/-! ### The changes of a step -/

theorem slot_setSlot (s : State) (i j : Nat) (x : SeqSlot) : (s.setSlot i x).slot j = if j = i then x else s.slot j :=
  Tab.getD_set ..

theorem get?_basins_freeBasin {y : Ctx} (hy : y.basins.sorted) (a h : Nat) :
    (freeBasin y a).basins.get? h = if h = a then none else y.basins.get? h := by
  rw [freeBasin, Tab.get?_erase hy]
  simp only [beq_iff_eq]

theorem sorted_basins_freeBasin {y : Ctx} (hy : y.basins.sorted) (a : Nat) : (freeBasin y a).basins.sorted :=
  Tab.sorted_erase hy (· == a)

/-- The basins of a context once some have been freed. -/
theorem get?_basins_foldl_freeBasin {y : Ctx} (hy : y.basins.sorted) (l : List Nat) (h : Nat) :
    (l.foldl freeBasin y).basins.get? h = if h ∈ l then none else y.basins.get? h := by
  induction l generalizing y with
  | nil => simp
  | cons a l ih =>
    rw [List.foldl_cons, ih (sorted_basins_freeBasin hy a), get?_basins_freeBasin hy]
    by_cases ha : h = a <;> simp [ha]

section Change

variable (s : State) (m : Command)

theorem slot_leaveNow (j : Nat) : (s.leaveNow m).slot j = if j = seqSlotOf m.raw then SeqSlot.free else s.slot j :=
  slot_setSlot ..

theorem ctx_endDone (result : Bytes) (d : Nat) : (s.endDone m result).ctx d = s.ctx d := rfl

theorem basins_leaveNow : ((s.leaveNow m).ctx m.ctx.val).basins =
    (((s.slot (seqSlotOf m.raw)).planes.flatMap (·.2) ++ (s.slot (seqSlotOf m.raw)).tables).foldl freeBasin
      (s.ctx m.ctx.val)).basins := by
  simp [State.leaveNow, ctx_endDone]

/-- An ending is noted with the leader's cycle, which a leave does not move. -/
theorem ended_leaveNow : (s.leaveNow m).ended = (s.endDone m []).ended := rfl

theorem slot_updateNow (hstate : (s.slot (seqSlotOf m.raw)).state ≠ 0) (hctx : (s.slot (seqSlotOf m.raw)).ctx = m.ctx) (j : Nat) :
    (s.updateNow m).slot j =
      if j = seqSlotOf m.raw then
        { s.slot (seqSlotOf m.raw) with
          maxAge := cmdField m.raw 26 1, schedule := cmdField m.raw 27 1, layerSkip := BitVec.ofNat 128 (cmdField m.raw 40 16) }
      else s.slot j := by
  have hheld : ((s.slot (seqSlotOf m.raw)).state != 0 && (s.slot (seqSlotOf m.raw)).ctx == m.ctx) = true := by simp [hstate, hctx]
  simp only [State.updateNow, if_pos hheld]
  exact slot_setSlot ..

/-- An update ends its command whether it is applied or discarded. -/
theorem ended_updateNow : (s.updateNow m).ended = (s.endDone m []).ended := by
  simp only [State.updateNow]
  split <;> rfl

end Change

/-! ### STEP_BOUNDARY -/

theorem exec_stepBoundary (c : CtxId) (step : BitVec 16) (s : State) :
    exec (.stepBoundary c step) s = .next (if s.boundaryReady c.val step.toNat then s.boundary c.val step.toNat else s) := rfl

/-- The parts of the state that leaves, updates and joins change; the running sets are not among them (R303). -/
theorem frame_boundary (s : State) (c step : Nat) :
    Frame [.regs, .sameTc, .ctxs, .slots, .ended, .store, .poison, .fabric, .view] s (s.boundary c step) :=
  frame_of_moves (State.boundary_moves (Nat.or_self _) (.refl _ s) c step) (by decide)

/-- Settles O21: the boundary is the fold of the three kinds of change, and a leave and an update do to their slot what R174 and R339
say. -/
theorem stepBoundaryAppliesLeavesUpdatesJoins : Obligations.StepBoundaryAppliesLeavesUpdatesJoins := by
  refine ⟨fun s c step => ⟨fun hready => ?_, fun hready => ?_⟩, fun s m => ?_, fun s m hstate hctx => ?_⟩
  · exact ⟨s.boundary c.val step.toNat, (exec_stepBoundary c step s).trans (by rw [if_pos hready]), rfl, frame_boundary _ _ _⟩
  · rw [exec_stepBoundary, hready]
    rfl
  · refine ⟨(slot_leaveNow ..).trans (if_pos rfl), fun j hj => (slot_leaveNow ..).trans (if_neg hj), fun h hh hsorted => ?_,
      ended_leaveNow s m⟩
    rw [basins_leaveNow, get?_basins_foldl_freeBasin hsorted, if_pos hh]
  · exact ⟨(slot_updateNow s m hstate hctx _).trans (if_pos rfl),
      fun j hj => (slot_updateNow s m hstate hctx j).trans (if_neg hj), ended_updateNow s m⟩

end Sys2Proof.Machine.Reprint
end

section
/-! SUPPORT. The commands of the balance loop: the bytes that a write over translated pieces leaves, the verdicts of BURN_READ and
BURN_WRITE, and the router's state that a BURN_WRITE leaves. -/

namespace Sys2Proof.Machine.Balance

open Reprint

/-! ### The bytes that a write over pieces leaves -/

/-- Byte a of the region store, or of the fabric, lies in none of the pieces. -/
def Outside (ps : List Piece) (store : Bool) (a : Nat) : Prop :=
  ∀ p ∈ ps, p.store = store → a < p.addr ∨ p.addr + p.len ≤ a

theorem Outside.tail {p : Piece} {ps : List Piece} {store : Bool} {a : Nat} (h : Outside (p :: ps) store a) : Outside ps store a :=
  fun p' hp' => h p' (List.mem_cons_of_mem p hp')

/-- A byte outside a piece is outside what a write puts there, which is no longer than the piece. -/
theorem Outside.head {p : Piece} {ps : List Piece} {a : Nat} (h : Outside (p :: ps) p.store a) (bs : Bytes) :
    a < p.addr ∨ p.addr + (bs.take p.len).length ≤ a := by
  have hp := h p List.mem_cons_self rfl
  have hlen : (bs.take p.len).length ≤ p.len := List.length_take_le ..
  omega

section Pieces

variable {s : State} {a : Nat} {bs : Bytes}

theorem wf_storeWrite (hs : s.WF) (r a : Nat) (bs : Bytes) : (s.storeWrite r a bs).WF :=
  (State.storeWrite_moves (Nat.or_self _) (.refl _ s) r a bs).2 hs

theorem wf_fabricWrite (hs : s.WF) (a : Nat) (bs : Bytes) : (s.fabricWrite a bs).WF :=
  (State.fabricWrite_moves (Nat.or_self _) (.refl _ s) a bs).2 hs

theorem store_storeWrite (k b r : Nat) :
    ((s.storeWrite k b bs).region r).store = if r = k then (s.region k).store.write b bs else (s.region r).store := by
  rw [State.storeWrite, State.region_modRegion, apply_ite Region.store]

theorem storeByte_storeWrite_of_outside (hs : s.WF) {k b r : Nat} (h : r = k → a < b ∨ b + bs.length ≤ a) :
    ((s.storeWrite k b bs).region r).store.byte a = (s.region r).store.byte a := by
  rw [store_storeWrite]
  split
  case isTrue hr => rw [Memory.byte_write_of_outside (hs.region k) (h hr), hr]
  case isFalse => rfl

theorem fabricByte_writePieces_of_outside (hs : s.WF) (k : Nat) {ps : List Piece} (h : Outside ps false a) :
    (s.writePieces k ps bs).fabric.byte a = s.fabric.byte a := by
  induction ps generalizing s bs with
  | nil => rfl
  | cons p ps ih =>
    cases hp : p.store with
    | true => simp only [State.writePieces, hp, if_true, ih (wf_storeWrite hs ..) h.tail, State.storeWrite_fabric]
    | false =>
      simp only [State.writePieces, hp, Bool.false_eq_true, if_false, ih (wf_fabricWrite hs ..) h.tail, State.fabricWrite_fabric]
      exact Memory.byte_write_of_outside hs.fabric (Outside.head (hp ▸ h) bs)

theorem storeByte_writePieces_of_outside (hs : s.WF) {k r : Nat} {ps : List Piece} (h : r = k → Outside ps true a) :
    ((s.writePieces k ps bs).region r).store.byte a = (s.region r).store.byte a := by
  induction ps generalizing s bs with
  | nil => rfl
  | cons p ps ih =>
    have htail : r = k → Outside ps true a := fun hr => (h hr).tail
    cases hp : p.store with
    | true =>
      simp only [State.writePieces, hp, if_true, ih (wf_storeWrite hs ..) htail]
      exact storeByte_storeWrite_of_outside hs fun hr => Outside.head (hp ▸ h hr) bs
    | false =>
      simp only [State.writePieces, hp, Bool.false_eq_true, if_false, ih (wf_fabricWrite hs ..) htail, State.region_fabricWrite]

theorem frame_writeCtx {e : State} {w : Tab (BitVec 128)} {r : Nat} (h : s.writeCtx w r a bs = some e) :
    Frame [.store, .poison, .fabric] s e :=
  frame_of_moves (State.writeCtx_moves (Nat.or_self _) (.refl _ s) w r a bs e h) (by decide)

theorem writeCtx_of_translate {w : Tab (BitVec 128)} {r : Nat} {ps : List Piece} (h : translate w true a bs.length = some ps) :
    s.writeCtx w r a bs = some (s.writePieces r ps bs) := by
  rw [State.writeCtx, h, Option.map_some]

end Pieces

/-! ### The balance image -/

theorem length_leBytes (n v : Nat) : (leBytes n v).length = n := by
  induction n generalizing v with
  | zero => rfl
  | succ n ih => rw [leBytes, List.length_cons, ih]

/-- The image is as long as R197 says. -/
theorem length_balanceImage (x : Ctx) (ρ : Nat) (rt : BitVec 512) : (balanceImage x ρ rt).length = 64 + 8 * rtE rt := by
  simp only [balanceImage, Ctx.burnOf, Ctx.loadOf, zeros, List.length_append, List.length_flatMap, List.length_replicate, length_leBytes,
    List.map_const', List.sum_replicate_nat, List.length_map, List.length_range, List.length_cons, List.length_nil]
  omega

/-! ### A balance command that the leader takes -/

section Taken

variable {s s1 : State} {c : CtxId} {q : RingId} {op : Nat} {own : State → Command → Bool} {cmd : Command}

/-- Validation gives a number and keeps the canonical form. -/
theorem wf_of_takes (hs : s.WF) (ht : Takes s c q op own cmd s1) : s1.WF := by
  obtain ⟨h, -, -, -, -, -, -, hsource⟩ := ht
  obtain ⟨-, rfl⟩ | ⟨-, -, -, hnumber⟩ := hsource
  · exact hs
  · have hm := State.number_moves (Nat.or_self _) (.refl _ s) c.val q.val h.raw
    rw [hnumber] at hm
    exact hm.2 hs

theorem earlierNames_of_takes (ht : Takes s c q op balanceOwn cmd s1) : s1.earlierNames cmd (cmdField cmd.raw 24 1) = false := by
  obtain ⟨-, -, -, -, -, -, hown, -⟩ := ht
  simpa only [balanceOwn, Bool.not_eq_true'] using hown

end Taken

section Verdicts

variable {s e : State} {cmd : Command} {rt : BitVec 512}

theorem exec_burnRead (c : CtxId) (q : RingId) (s : State) :
    exec (.burnRead c q) s = .next (s.controlRow c.val q.val 0x17 balanceOwn State.burnRead) := rfl

theorem exec_burnWrite (c : CtxId) (q : RingId) (s : State) :
    exec (.burnWrite c q) s = .next (s.controlRow c.val q.val 0x18 balanceOwn State.burnWrite) := rfl

theorem burnRead_of_written (hrouter : (s.ctx cmd.ctx.val).routers.get? (cmdField cmd.raw 24 1) = some rt)
    (hwrite : s.writeCtx cmd.windows s.leader (cmdAddr cmd.raw) (balanceImage (s.ctx cmd.ctx.val) (cmdField cmd.raw 24 1) rt) = some e) :
    s.burnRead cmd = .done e [] := by
  simp only [State.burnRead, hrouter, hwrite]

/-- The context once the balance state of router ρ with E experts is that of an image (R198). -/
def restored (ρ E : Nat) (bs : Bytes) (x : Ctx) : Ctx :=
  { x with
    burn := x.burn.set ρ ((words (bs.drop 0x40) 4 E).map (BitVec.ofNat 32 ·)),
    load := x.load.set ρ (words (bs.drop (0x40 + 4 * E)) 4 E),
    window := x.window.set ρ (field bs 0xA 2),
    dirtyBurn := if x.dirtyBurn.contains ρ then x.dirtyBurn else x.dirtyBurn ++ [ρ] }

theorem burnWrite_of_balanceOk {bs : Bytes} (hrouter : (s.ctx cmd.ctx.val).routers.get? (cmdField cmd.raw 24 1) = some rt)
    (hread : s.readStruct cmd (cmdAddr cmd.raw) (64 + 8 * rtE rt) = some bs) (hok : balanceOk bs (cmdField cmd.raw 24 1) rt = true) :
    s.burnWrite cmd = .done (s.modCtx cmd.ctx.val (restored (cmdField cmd.raw 24 1) (rtE rt) bs)) [] := by
  simp only [State.burnWrite, hrouter, hread, hok, if_true]
  rfl

/-- Only the named router's burn values, LOAD and WINDOW change. -/
theorem restored_of_ne {ρ j : Nat} (E : Nat) (bs : Bytes) (x : Ctx) (h : j ≠ ρ) :
    (restored ρ E bs x).burn.get? j = x.burn.get? j ∧ (restored ρ E bs x).load.get? j = x.load.get? j ∧
      (restored ρ E bs x).window.get? j = x.window.get? j :=
  ⟨Tab.get?_set_ne _ _ h, Tab.get?_set_ne _ _ h, Tab.get?_set_ne _ _ h⟩

end Verdicts

/-! ### BURN_READ and BURN_WRITE -/

theorem ctx_modCtx_self (s : State) (k : Nat) (f : Ctx → Ctx) : (s.modCtx k f).ctx k = f (s.ctx k) :=
  (State.ctx_modCtx ..).trans (if_pos rfl)

/-- Settles O22: a read writes the image over the pieces that its 64 + 8E bytes translate to, a write replaces the router's entries of
three tables of its context. -/
theorem burnReadAndWrite : Obligations.BurnReadAndWrite := by
  refine ⟨fun s c q cmd s1 e rt hs ht => ?_, fun s c q cmd s1 rt bs ht => ?_⟩
  · intro ρ hrouter hwrite
    refine ⟨earlierNames_of_takes ht, ⟨_, exec_burnRead c q s, succeeds_of_done ht (burnRead_of_written hrouter hwrite)⟩,
      frame_writeCtx hwrite, fun ps hps => ?_⟩
    have hwf : s1.WF := wf_of_takes hs ht
    rw [← length_balanceImage (s1.ctx cmd.ctx.val) ρ] at hps
    obtain rfl : s1.writePieces s1.leader ps _ = e := Option.some.inj ((writeCtx_of_translate hps).symm.trans hwrite)
    exact ⟨fun a ha => fabricByte_writePieces_of_outside hwf _ ha,
      fun r a ha => storeByte_writePieces_of_outside hwf fun hr p hp hstore => ha p hp hstore hr⟩
  · intro ρ k hrouter hread hok
    refine ⟨_, exec_burnWrite c q s, _, succeeds_of_done ht (burnWrite_of_balanceOk hrouter hread hok), ?_⟩
    rw [ctx_modCtx_self]
    exact ⟨Tab.get?_set_self .., Tab.get?_set_self .., Tab.get?_set_self .., fun j => restored_of_ne _ bs _, rfl,
      fun d => ctx_modCtx_of_ne _ _, frame_modCtx _ _ _⟩

end Sys2Proof.Machine.Balance
end

section
/-! SUPPORT. The group commands: the group that a good record forms, the slot that a delete empties, and the verdicts of GROUP_DEFINE and
GROUP_DELETE. -/

namespace Sys2Proof.Machine.Confluence

open Reprint

/-- A control command that has its effect at once changes only what its meaning may change. -/
theorem frame_of_done {w : Nat} {s e : State} {v : Verdict} {result : Bytes} {l : List Part} (h : Moves.verdict w s v)
    (hv : v = .done e result) (hl : ∀ p ∈ Part.all, p ∉ l → w.testBit p.ctorIdx = false) : Frame l s e := by
  subst hv
  exact frame_of_moves h hl

/-! ### The group that is formed and the slot that is emptied -/

/-- The group as its record gives it, before it is formed (R203). -/
def recordGroup (b : Bytes) : Group :=
  { Group.undefined with defined := true, members := grMembers b, tag := BitVec.ofNat 64 (field b 0 8),
                         srSeed := BitVec.ofNat 64 (field b 0x10 8) }

/-- A new group excludes nobody, so it forms with every member that is in the epoch (R204). -/
theorem formGroup_recordGroup (s : State) (b : Bytes) :
    s.formGroup (recordGroup b) =
      { recordGroup b with
        live := (grMembers b).filter s.membership.members.contains, epoch := s.membership.epoch, callSeq := 0, state := 1 } := by
  have hlive : (fun m => s.membership.members.contains m && !(recordGroup b).excluded.contains m) = s.membership.members.contains :=
    funext fun _ => Bool.and_true _
  simp only [State.formGroup, hlive]
  rfl

/-- Slot k once slot g has been emptied. -/
theorem group_erase {s : State} (hs : s.groups.sorted) (g k : Nat) :
    State.group { s with groups := s.groups.erase (· == g) } k = if k = g then Group.undefined else s.group k := by
  simp only [State.group, Tab.getD, Tab.get?_erase hs, beq_iff_eq]
  split <;> rfl

/-! ### The verdicts -/

section Verdicts

variable {s : State} {cmd : Command}

theorem exec_groupDefine (c : CtxId) (q : RingId) (s : State) :
    exec (.groupDefine c q) s = .next (s.controlRow c.val q.val 0x07 always State.groupDefine) := rfl

theorem exec_groupDelete (c : CtxId) (q : RingId) (s : State) :
    exec (.groupDelete c q) s = .next (s.controlRow c.val q.val 0x08 always State.groupDelete) := rfl

theorem groupDefine_of_recordOk {h b : Bytes} (hhead : s.readStruct cmd (cmdAddr cmd.raw) 64 = some h) (hpos : 1 ≤ grN h)
    (hmax : grN h ≤ 1024) (hread : s.readStruct cmd (cmdAddr cmd.raw) (64 + up64 (2 * grN h)) = some b)
    (hok : groupRecordOk b s.self = true) (hfree : s.groupBusy (grSlot b) = false) :
    s.groupDefine cmd = .done (s.modGroup (grSlot b) fun _ => s.formGroup (recordGroup b)) [] := by
  have hcount : ¬(grN h = 0 ∨ 1024 < grN h) := by omega
  simp [State.groupDefine, recordGroup, hhead, hcount, hread, hok, hfree]

theorem groupDelete_of_defined (hslot : cmdField cmd.raw 24 1 ≤ 63) (hdefined : (s.group (cmdField cmd.raw 24 1)).defined = true)
    (hfree : s.groupBusy (cmdField cmd.raw 24 1) = false) :
    s.groupDelete cmd = .done { s with groups := s.groups.erase (· == cmdField cmd.raw 24 1) } [] := by
  simp [State.groupDelete, Nat.not_lt.2 hslot, hdefined, hfree]

end Verdicts

/-! ### GROUP_DEFINE and GROUP_DELETE -/

/-- Settles O16: a define sets its slot to the group formed from the record, a delete leaves its slot out of the table. -/
theorem groupDefineAndDelete : Obligations.GroupDefineAndDelete := by
  refine ⟨fun s c q cmd s1 h b ht hhead hpos hmax hread hok hfree => ?_, fun s c q cmd s1 ht hsorted => ?_⟩
  · have hverdict := groupDefine_of_recordOk hhead hpos hmax hread hok hfree
    have hmoves := State.groupDefine_moves (Nat.or_self _) (.refl _ s1) cmd
    rw [formGroup_recordGroup] at hverdict
    refine ⟨_, exec_groupDefine c q s, _, succeeds_of_done ht hverdict, ?_⟩
    rw [State.group_modGroup, if_pos rfl]
    exact ⟨rfl, rfl, rfl, rfl, rfl, rfl, rfl, rfl, fun g hg => (State.group_modGroup ..).trans (if_neg hg),
      frame_of_done hmoves hverdict (by decide)⟩
  · intro g hslot hdefined hfree
    have hverdict := groupDelete_of_defined hslot hdefined hfree
    have hmoves := State.groupDelete_moves (Nat.or_self _) (.refl _ s1) cmd
    exact ⟨_, exec_groupDelete c q s, _, succeeds_of_done ht hverdict, (group_erase hsorted g g).trans (if_pos rfl),
      fun k hk => (group_erase hsorted g k).trans (if_neg hk), frame_of_done hmoves hverdict (by decide)⟩

end Sys2Proof.Machine.Confluence
end

section
/-! SUPPORT. The ring registers that software writes: what a field of a register reads after a field of the same register was written,
what a fault that a page of the engine group contains leaves unchanged, and the writes of DOORBELL, CMD_RING_WRITE, CPL_PTR_TAIL and
CONTACT_TAIL. -/

namespace Sys2Proof.Machine.Rings

open Reprint

/-! ### Fields of one register -/

/-- A field reads only the bits up to its highest. -/
theorem bits_mod_two_pow {hi k : Nat} (h : hi < k) (w lo : Nat) : bits (w % 2 ^ k) hi lo = bits w hi lo := by
  refine Nat.eq_of_testBit_eq fun i => ?_
  simp only [bits, Nat.testBit_mod_two_pow, Nat.testBit_div_two_pow]
  by_cases hi' : i < hi + 1 - lo
  · simp [hi', show i + lo < k by omega]
  · simp [hi']

/-- A word is the bits below a field, the field and the bits above it; a write of the field replaces the middle part. -/
theorem putBits_eq (w hi lo v : Nat) :
    putBits w hi lo v = 2 ^ lo * (w / 2 ^ lo / 2 ^ (hi + 1 - lo) * 2 ^ (hi + 1 - lo) + v % 2 ^ (hi + 1 - lo)) + w % 2 ^ lo := by
  have hupper : w / 2 ^ lo = w / 2 ^ lo / 2 ^ (hi + 1 - lo) * 2 ^ (hi + 1 - lo) + bits w hi lo := (Nat.div_add_mod' ..).symm
  have hword : w = 2 ^ lo * (w / 2 ^ lo / 2 ^ (hi + 1 - lo) * 2 ^ (hi + 1 - lo)) + bits w hi lo * 2 ^ lo + w % 2 ^ lo :=
    calc w = 2 ^ lo * (w / 2 ^ lo) + w % 2 ^ lo := (Nat.div_add_mod ..).symm
      _ = _ := by rw [Nat.mul_comm (bits w hi lo), ← Nat.mul_add, ← hupper]
  rw [putBits, Nat.mul_add, Nat.mul_comm (2 ^ lo) (v % _)]
  generalize 2 ^ lo * (w / 2 ^ lo / 2 ^ (hi + 1 - lo) * 2 ^ (hi + 1 - lo)) = above at hword ⊢
  generalize bits w hi lo * 2 ^ lo = old at hword ⊢
  generalize w % 2 ^ lo = below at hword ⊢
  omega

theorem bits_putBits_self (w hi lo v : Nat) : bits (putBits w hi lo v) hi lo = v % 2 ^ (hi + 1 - lo) := by
  have hlow : w % 2 ^ lo < 2 ^ lo := Nat.mod_lt _ (Nat.two_pow_pos lo)
  rw [putBits_eq, bits, Nat.mul_add_div (Nat.two_pow_pos lo), Nat.div_eq_of_lt hlow, Nat.add_zero, Nat.mul_add_mod', Nat.mod_mod]

/-- A write of a field leaves the fields below it. -/
theorem bits_putBits_below {hi' lo : Nat} (h : hi' < lo) (w hi lo' v : Nat) : bits (putBits w hi lo v) hi' lo' = bits w hi' lo' := by
  rw [← bits_mod_two_pow h, putBits_eq, Nat.mul_add_mod, Nat.mod_mod, bits_mod_two_pow h]

section Writes

variable {s : State}

theorem getF_setF_self {f : Fld} (h : f.hi < 64) (pg v : Nat) : (s.setF pg f v).getF pg f = v % 2 ^ (f.hi + 1 - f.lo) := by
  rw [State.getF, State.setF, State.reg_setReg_self, bits_mod_two_pow h, bits_putBits_self]

theorem getF_setF_below (f g : Fld) (hoff : g.off = f.off) (hlt : g.hi < f.lo) (h : f.lo ≤ 64) (pg v : Nat) :
    (s.setF pg f v).getF pg g = s.getF pg g := by
  rw [State.getF, State.setF, hoff, State.reg_setReg_self, bits_mod_two_pow (Nat.lt_of_lt_of_le hlt h), bits_putBits_below hlt, State.getF, hoff]

theorem regsKept_setReg (a w : Nat) : RegsKept s (s.setReg a w) (· = a) := fun _ => State.reg_setReg_ne s w

theorem regsKept_setF (pg : Nat) (f : Fld) (v : Nat) : RegsKept s (s.setF pg f v) (· = pg + f.off) := regsKept_setReg _ _

theorem frame_setReg (a w : Nat) : Frame [.regs] s (s.setReg a w) :=
  frame_of_moves (State.setReg_moves (Nat.or_self _) (.refl _ s) a w) (by decide)

theorem frame_setF (pg : Nat) (f : Fld) (v : Nat) : Frame [.regs] s (s.setF pg f v) := frame_setReg _ _

/-- A write of a field that is ignored under a condition reaches no other register and no other part. -/
theorem setF_unless (p : Prop) [Decidable p] {f : Fld} (hf : f.hi < 64) (pg : Nat) {v : Nat} (hv : v < 2 ^ (f.hi + 1 - f.lo)) :
    (if p then s else s.setF pg f v).getF pg f = (if p then s.getF pg f else v) ∧
      RegsKept s (if p then s else s.setF pg f v) (· = pg + f.off) ∧ Frame [.regs] s (if p then s else s.setF pg f v) := by
  split
  · exact ⟨rfl, fun _ _ => rfl, fun q _ => s.same_refl q⟩
  · exact ⟨(getF_setF_self hf pg v).trans (Nat.mod_eq_of_lt hv), regsKept_setF pg f v, frame_setF pg f v⟩

end Writes

/-! ### What a contained fault leaves of the registers -/

section Contained

variable {s : State} {b : Nat}

theorem reg_bumpF_of_ne {pg : Nat} {f : Fld} (n : Nat) (h : b ≠ pg + f.off) : (s.bumpF pg f n).reg b = s.reg b := by
  unfold State.bumpF
  split
  · rfl
  · rw [State.reg_setF_ne _ _ _ h, State.reg_note]

/-- A fold of operations each of which keeps a register keeps it. -/
theorem reg_foldl {α : Type} {f : State → α → State} {l : List α} (h : ∀ t, ∀ x ∈ l, (f t x).reg b = t.reg b) (s : State) :
    (l.foldl f s).reg b = s.reg b := by
  induction l generalizing s with
  | nil => rfl
  | cons x l ih =>
    calc (l.foldl f (f s x)).reg b = (f s x).reg b := ih (fun t y hy => h t y (List.mem_cons_of_mem x hy)) _
      _ = s.reg b := h s x List.mem_cons_self

/-- The counters of a page of the engine group are all that its events change. -/
theorem reg_count_of_engineGroup {page : Nat} (hpage : 0x8000000 ≤ page) (hb : ∀ i < 8, b ≠ page + 8 * i + Fld.EVT_CNT_COUNT.off)
    (code n : Nat) : (s.count page code n).reg b = s.reg b := by
  have hregion : ¬page < 0x8000000 := Nat.not_lt.2 hpage
  simp only [State.count, hregion, decide_false, Bool.false_and, Bool.false_eq_true, if_false]
  split
  · rfl
  · refine reg_foldl (fun t i hi => ?_) s
    split
    · exact reg_bumpF_of_ne n (hb i (List.mem_range.1 hi))
    · rfl

theorem reg_pend_of_ne {src : Nat} (h : b ≠ pgIntr + 8 * (src / 64) + Fld.PENDING.off) : (s.pend src).reg b = s.reg b := by
  simp only [State.pend]
  split
  · rfl
  · split
    · rfl
    · rw [State.reg_setF_ne _ _ _ h, State.reg_note]

theorem reg_ite (p : Prop) [Decidable p] (s t : State) (b : Nat) : (if p then s else t).reg b = if p then s.reg b else t.reg b :=
  apply_ite (State.reg · b) ..

/-- A fault is recorded in ERR_STATUS, ERR_FIRST and the word of its source. -/
theorem reg_record_of_ne {page : Nat} (hstatus : b ≠ page + Fld.ERR_STATUS_STATUS.off) (hfirst : b ≠ page + 0x30)
    (hsource : b ≠ pgIntr + 8 * (pageSource page / 64) + Fld.PENDING.off) (i : Nat) (forced : Bool) :
    (s.record page i forced).reg b = s.reg b := by
  simp only [State.record, reg_ite, reg_pend_of_ne hsource, State.reg_setReg_ne _ _ hfirst, State.reg_setF_ne _ _ _ hstatus,
    State.reg_note, ite_self]

/-- A fault that a RING page contains leaves every register of the page from 0x80 on, where the ring registers lie. -/
theorem reg_contain_ring {c off : Nat} (hlow : 0x80 ≤ off) (hhigh : off < 0x1000) (i : Nat) :
    (s.contain (pgRing c) i).reg (pgRing c + off) = s.reg (pgRing c + off) := by
  have hpage : 0x8010000 ≤ pgRing c := by simp only [pgRing, enginePage]; omega
  have hparent : parentPage (pgRing c) = some pgEngine := by
    rw [parentPage, if_neg (by simp only [pgEngine, enginePage]; omega), if_pos (by omega)]
  have hsource : pageSource (pgRing c) = 0x50 := if_neg (by omega)
  simp only [State.contain, hparent]
  rw [reg_count_of_engineGroup (by decide), reg_record_of_ne]
  · simp only [Fld.ERR_STATUS_STATUS]; omega
  · omega
  · rw [hsource]; simp only [pgIntr, enginePage, Fld.PENDING]; omega
  · intro j hj; simp only [pgEngine, enginePage, Fld.EVT_CNT_COUNT]; omega

theorem ringTail_contain (c : CtxId) (q : RingId) (i : Nat) :
    (s.contain (pgRing c.val) i).ringTail c.val q.val = s.ringTail c.val q.val := by
  have haddr : ringPage c.val q.val + Fld.CMD_PTR_TAIL.off = pgRing c.val + (0x10 * q.val + 0x88) := by
    simp only [ringPage, Fld.CMD_PTR_TAIL, Nat.add_assoc]
  have hq := q.isLt
  rw [State.ringTail, State.getF, haddr, reg_contain_ring (by omega) (by omega), State.ringTail, State.getF, haddr]

end Contained

/-! ### The ring register that CMD_RING_WRITE stores -/

section RingWord

variable {s : State} {a w : Nat}

theorem ringWord_lt (h : w < 2 ^ 64) : ringWord w < 2 ^ 64 := by
  simp only [ringWord, bits]
  omega

theorem reg_writeRing_of_disabled (hw : w < 2 ^ 64) (h : bitAt (s.reg a) 5 = false) : (s.writeRing a w).reg a = ringWord w := by
  rw [State.writeRing, if_neg (ne_true_of_eq_false h), State.reg_setReg_self, Nat.mod_eq_of_lt (ringWord_lt hw)]

theorem reg_writeRing_of_enabled (h : bitAt (s.reg a) 5 = true) :
    (s.writeRing a w).reg a = s.reg a - bits (s.reg a) 5 5 * 32 + bits w 5 5 * 32 := by
  have hlt := s.reg_lt a
  rw [State.writeRing, if_pos h, State.reg_setReg_self]
  simp only [putBits, bits]
  omega

theorem regsKept_writeRing (s : State) (a w : Nat) : RegsKept s (s.writeRing a w) (· = a) := by
  unfold State.writeRing
  split <;> exact regsKept_setReg _ _

theorem frame_writeRing (s : State) (a w : Nat) : Frame [.regs] s (s.writeRing a w) := by
  unfold State.writeRing
  split <;> exact frame_setReg _ _

end RingWord

/-! ### DOORBELL, CMD_RING_WRITE, CPL_PTR_TAIL and CONTACT_TAIL -/

section Rows

variable {s : State}

theorem whereAnswers_of_pageAnswers {pg : Nat} (h : s.pageAnswers pg = true) (f : State → State) : s.whereAnswers pg f = f s := if_pos h

theorem exec_doorbell {c : CtxId} (h : s.pageAnswers (pgRing c.val) = true) (q : RingId) (tail : W32) :
    exec (.doorbell c q tail) s = .next (s.doorbell c.val q.val tail.toNat) := by
  change execDoorbell c q tail s = _
  rw [execDoorbell, whereAnswers_of_pageAnswers h]

theorem exec_cmdRingWrite {c : CtxId} (h : s.pageAnswers (pgRing c.val) = true) (q : RingId) (w : W64) :
    exec (.cmdRingWrite c q w) s = .next (s.writeCmdRing c.val q.val w.toNat) := by
  change execCmdRingWrite c q w s = _
  rw [execCmdRingWrite, whereAnswers_of_pageAnswers h]

theorem exec_cplPtrTail {c : CtxId} (h : s.pageAnswers (pgRing c.val) = true) (tail : W32) :
    exec (.cplPtrTail c tail) s = .next (s.writeCplTail c.val tail.toNat) := by
  change execCplPtrTail c tail s = _
  rw [execCplPtrTail, whereAnswers_of_pageAnswers h]

theorem exec_contactTail (h : s.pageAnswers pgProof = true) (c : CtxId) (tail : W32) :
    exec (.contactTail c tail) s = .next (s.writeContactTail c.val tail.toNat) := by
  change execContactTail c tail s = _
  rw [execContactTail, whereAnswers_of_pageAnswers h]

theorem doorbell_of_fits {c q tail : Nat} (hstate : (s.ctx c).state ≠ 5) (hfits : sub32 tail (s.ringHead c q) ≤ s.ringSize c q) :
    s.doorbell c q tail = ((s.setF (ringPage c q) Fld.CMD_PTR_TAIL tail).fetch c q).settleIdle := by
  rw [State.doorbell, if_neg hstate, if_neg (Nat.not_lt.2 hfits)]

theorem doorbell_of_beyond {c q tail : Nat} (hstate : (s.ctx c).state ≠ 5) (hbeyond : s.ringSize c q < sub32 tail (s.ringHead c q)) :
    s.doorbell c q tail = s.contain (pgRing c) 0 := by
  rw [State.doorbell, if_neg hstate, if_pos hbeyond]

theorem ringTail_setF_tail (s : State) (c q : Nat) (tail : W32) :
    (s.setF (ringPage c q) Fld.CMD_PTR_TAIL tail.toNat).ringTail c q = tail.toNat :=
  (getF_setF_self (by decide) _ _).trans (Nat.mod_eq_of_lt tail.isLt)

/-- HEAD lies below TAIL in CMD_PTR, so a write of TAIL leaves it. -/
theorem ringHead_setF_tail (s : State) (c q v : Nat) :
    (s.setF (ringPage c q) Fld.CMD_PTR_TAIL v).ringHead c q = s.ringHead c q :=
  getF_setF_below Fld.CMD_PTR_TAIL Fld.CMD_PTR_HEAD rfl (by decide) (by decide) _ _

/-- HEAD lies below TAIL in CPL_PTR, so a write of TAIL leaves it. -/
theorem cplHead_writeCplTail (s : State) (c tail : Nat) :
    (s.writeCplTail c tail).getF (pgRing c) Fld.CPL_PTR_HEAD = s.getF (pgRing c) Fld.CPL_PTR_HEAD := by
  unfold State.writeCplTail
  split
  · rfl
  · exact getF_setF_below Fld.CPL_PTR_TAIL Fld.CPL_PTR_HEAD rfl (by decide) (by decide) _ _

end Rows

/-- Settles O24: each row stores one field of one register, or ignores the write; a doorbell beyond the ring is a fault that the RING page
contains, which reaches no ring register. -/
theorem ringRegistersTakeTheirWrites : Obligations.RingRegistersTakeTheirWrites := by
  refine ⟨fun s c q tail hpage hstate => ⟨fun hfits => ?_, fun hbeyond => ?_⟩, fun s c q w hpage => ?_, fun s c tail hpage => ?_,
    fun s c tail hpage => ?_⟩
  · exact ⟨_, exec_doorbell hpage q tail, _, doorbell_of_fits hstate hfits, ringTail_setF_tail .., ringHead_setF_tail ..,
      regsKept_setF _ _ _, frame_setF _ _ _⟩
  · exact ⟨_, (exec_doorbell hpage q tail).trans (congrArg _ (doorbell_of_beyond hstate hbeyond)), rfl, ringTail_contain c q 0⟩
  · exact ⟨_, exec_cmdRingWrite hpage q w, _, rfl, reg_writeRing_of_disabled w.isLt, reg_writeRing_of_enabled,
      regsKept_writeRing _ _ _, frame_writeRing _ _ _⟩
  · obtain ⟨htail, hregs, hframe⟩ := setF_unless (s := s) (f := Fld.CPL_PTR_TAIL)
      (s.cplSize c.val < sub32 (s.getF (pgRing c.val) Fld.CPL_PTR_HEAD) tail.toNat) (by decide) (pgRing c.val) tail.isLt
    exact ⟨_, exec_cplPtrTail hpage tail, htail, cplHead_writeCplTail .., hregs, hframe⟩
  · exact ⟨_, exec_contactTail hpage c tail, setF_unless _ (by decide) _ tail.isLt⟩

end Sys2Proof.Machine.Rings
end
